-- ==== Sys2Proof/Word.lean ====
section
/-! DEFINITION. Word.lean: the plain data types of the QF256 (R4 to R9): bytes, words, ring time,
and the association list `Tab` that holds everything the chip numbers (axes, ports, registers). -/

namespace Sys2Proof

/-- One byte. -/
abbrev Byte := BitVec 8
/-- A loop-engine data word, Q0.15 (R7). -/
abbrev W16 := BitVec 16
/-- A signal-processor data word, Q0.23 (R7). -/
abbrev W24 := BitVec 24
/-- A register (R9). -/
abbrev W32 := BitVec 32
/-- A loop-engine accumulator, Q9.30 (R7). -/
abbrev A40 := BitVec 40
/-- A signal-processor accumulator, Q9.46 (R7). -/
abbrev A56 := BitVec 56
/-- Ring time: a 64-bit unsigned count of 0.25 ns that wraps (R5). -/
abbrev Rt := BitVec 64

/-- Things kept by number (axis, port, channel, register offset), in strictly rising key order;
an absent key stands for the default that the reader names. -/
abbrev Tab (α : Type) := List (Nat × α)

end Sys2Proof
end

