-- ==== Sys2Proof/Config.lean ====
section
/-! DEFINITION. Config.lean: the values the manual leaves open, as constants without a body.
Nothing in Lean can evaluate them, so a statement that mentions one holds for every value. -/

namespace Sys2Proof.Config

/-- A fresh open bit pattern of width `w`; the step reads and advances a counter of State
(log entry 3). -/
opaque freeBits (w : Nat) (k : Nat) : BitVec w

/-- A fresh open integer (log entry 3). -/
opaque freeInt (k : Nat) : Int

/-- A fresh open choice (log entry 3). -/
opaque freeBool (k : Nat) : Bool

/-- HMAC-SHA-256 of a message under an image key, first 16 bytes (R567): the tag function, kept
opaque (log entry 6). -/
opaque hmacTag (key : List Byte) (msg : List Byte) : List Byte

end Sys2Proof.Config

namespace Sys2Proof.Config

/-- The filter of a domain's offset from master (R197, R208): the manual names a filtered offset and
states no filter (log entry 7). Arguments: previous filtered value, new measured offset. -/
opaque ptpFilter (prev meas : Int) : Int

/-- The rate a domain servo sets on a Sync (R208), units of 2^−44 (log entry 7). -/
opaque domServo (rate offset : Int) : Int

/-- The rate the ring-time servo asks for (R196, R201), before the clamp of R192 (log entry 7). -/
opaque rtServo (rate error : Int) : Int

end Sys2Proof.Config

namespace Sys2Proof.Config

/-- The error that the manual allows a formed angle, in its LSB: at most 1 either way (R248, R383);
the model clamps it (log entry 9). -/
opaque angleErr (y x : Int) : Int

/-- The error that the manual allows a sine or cosine of an angle, in its LSB (R269, R383; log
entry 9). -/
opaque trigErr (a : Int) : Int × Int

/-- The speed formed from a number of edges that no time separates (R237): the manual states no result (log entry 9). -/
opaque quotZero (num : Int) : Int

/-- neighborPropDelayThresh of the 802.1AS option, rt: the manual leaves the asCapable rules to the standard (R204). -/
opaque gptpDelayThresh : Nat
/-- allowedLostResponses of the 802.1AS option (R204). -/
opaque gptpLostMax : Nat

end Sys2Proof.Config
end

