-- ==== Sys2Proof/Machine/Ops.lean ====
section
/-! DEFINITION. Machine/Ops.lean: the named operations over numbered things and over byte memories,
and the plain arithmetic that every family shares (saturation, rounding, ring-time order). -/

namespace Sys2Proof

/-! ### Numbered things -/

/-- The entry of key `k`, if there is one. -/
def Tab.look? {α : Type} : Tab α → Nat → Option α
  | [], _ => none
  | (i, v) :: t, k => if i = k then some v else Tab.look? t k

/-- The entry of key `k`, or `d` where there is none. -/
def Tab.look {α : Type} (t : Tab α) (k : Nat) (d : α) : α := (t.look? k).getD d

/-- Write key `k`, keeping keys strictly rising. -/
def Tab.put {α : Type} : Tab α → Nat → α → Tab α
  | [], k, v => [(k, v)]
  | (i, w) :: t, k, v =>
    if k < i then (k, v) :: (i, w) :: t
    else if k = i then (k, v) :: t
    else (i, w) :: Tab.put t k v

/-- Remove key `k`. -/
def Tab.del {α : Type} (t : Tab α) (k : Nat) : Tab α := t.filter fun e => e.1 != k

/-- Apply `f` to the entry of `k`, an absent entry counting as `d`. -/
def Tab.upd {α : Type} (t : Tab α) (k : Nat) (d : α) (f : α → α) : Tab α := t.put k (f (t.look k d))

/-- Apply `f` to every entry present. -/
def Tab.each {α : Type} (t : Tab α) (f : Nat → α → α) : Tab α := t.map fun e => (e.1, f e.1 e.2)

/-- The keys present. -/
def Tab.keys {α : Type} (t : Tab α) : List Nat := t.map (·.1)

/-- Keys strictly rising: the one canonical form. -/
def Tab.wf {α : Type} : Tab α → Bool
  | [] => true
  | [_] => true
  | a :: b :: t => decide (a.1 < b.1) && Tab.wf (b :: t)

/-! ### Byte memories (`Host.Cell` lists) -/

/-- The byte at `a`; an unlisted address reads as `d`. -/
def memByte (d : Byte) : List Host.Cell → Nat → Byte
  | [], _ => d
  | (i, v) :: t, a => if i = a then v else memByte d t a

/-- Write one byte, keeping the canonical form: strictly rising addresses, and no entry equal to
what an unlisted address reads as. -/
def memSetByte (d : Byte) : List Host.Cell → Nat → Byte → List Host.Cell
  | [], a, b => if b = d then [] else [(a, b)]
  | (i, v) :: t, a, b =>
    if a < i then (if b = d then (i, v) :: t else (a, b) :: (i, v) :: t)
    else if a = i then (if b = d then t else (a, b) :: t)
    else (i, v) :: memSetByte d t a b

/-- The canonical form of a byte memory whose unlisted addresses read `d`. -/
def Memory.wf (d : Byte) : List Host.Cell → Bool
  | [] => true
  | [e] => e.2 != d
  | e :: f :: t => e.2 != d && decide (e.1 < f.1) && Memory.wf d (f :: t)

/-- Write consecutive bytes. -/
def memSetBytes (d : Byte) (m : List Host.Cell) (a : Nat) : List Byte → List Host.Cell
  | [] => m
  | b :: bs => memSetBytes d (memSetByte d m a b) (a + 1) bs

/-- `n` consecutive bytes. -/
def memBytes (d : Byte) (m : List Host.Cell) (a : Nat) : Nat → List Byte
  | 0 => []
  | n + 1 => memByte d m a :: memBytes d m (a + 1) n

/-- A little-endian 32-bit word (R8). -/
def memWord (d : Byte) (m : List Host.Cell) (a : Nat) : W32 :=
  memByte d m (a + 3) ++ memByte d m (a + 2) ++ memByte d m (a + 1) ++ memByte d m a

/-- The little-endian bytes of a word (R8). -/
def leBytes (w : W32) : List Byte :=
  [w.extractLsb' 0 8, w.extractLsb' 8 8, w.extractLsb' 16 8, w.extractLsb' 24 8]

/-- The big-endian bytes of a word (R8). -/
def beBytes (w : W32) : List Byte := (leBytes w).reverse

/-- Write a little-endian 32-bit word. -/
def memSetWord (d : Byte) (m : List Host.Cell) (a : Nat) (w : W32) : List Host.Cell :=
  memSetBytes d m a (leBytes w)

/-- A number from big-endian bytes (R8). -/
def beNat (bs : List Byte) : Nat := bs.foldl (fun n b => n * 256 + b.toNat) 0

/-! ### Plain arithmetic -/

/-- Clamp to `[lo, hi]`. -/
def clampI (lo hi x : Int) : Int := if x < lo then lo else if hi < x then hi else x

/-- The smallest value of a signed width. -/
def sMin (w : Nat) : Int := -(2 ^ (w - 1) : Nat)
/-- The largest value of a signed width. -/
def sMax (w : Nat) : Int := (2 ^ (w - 1) : Nat) - 1

/-- Saturate to a signed width. -/
def satS (w : Nat) (x : Int) : Int := clampI (sMin w) (sMax w) x

/-- Does `x` fall outside a signed width? -/
def outS (w : Nat) (x : Int) : Bool := decide (x < sMin w) || decide (sMax w < x)

/-- The signed value of the low `w` bits (wrap). -/
def wrapS (w : Nat) (x : Int) : Int := (BitVec.ofInt w x).toInt

/-- Round half up after dropping `n` bits: floor((x + 2^(n-1)) / 2^n), and `x` for n = 0. -/
def roundShift (n : Nat) (x : Int) : Int :=
  if n = 0 then x else (x + (2 ^ (n - 1) : Nat)) / ((2 ^ n : Nat) : Int)

/-- Magnitude as a natural number. -/
def mag (x : Int) : Nat := x.natAbs

/-- Sign of an integer as −1, 0, +1. -/
def sgn (x : Int) : Int := if x < 0 then -1 else if x = 0 then 0 else 1

/-- Integer square root by binary search on `fuel` bits: largest r with r·r ≤ n. -/
def isqrtAux (n : Nat) : Nat → Nat → Nat
  | 0, r => r
  | k + 1, r =>
    let t := r + 2 ^ k
    if t * t ≤ n then isqrtAux n k t else isqrtAux n k r

/-- Integer square root of a number below 2^128. -/
def isqrt (n : Nat) : Nat := isqrtAux n 64 0

/-- Bit `i` of a natural number. -/
def natBit (n i : Nat) : Bool := n.testBit i

/-- The field `[hi:lo]` of a register, as a number (R4). -/
def fld (w : W32) (hi lo : Nat) : Nat := (w.toNat >>> lo) % 2 ^ (hi + 1 - lo)

/-- One bit of a register. -/
def bit (w : W32) (i : Nat) : Bool := w.getLsbD i

/-- A bit as a number. -/
def b2n (b : Bool) : Nat := if b then 1 else 0

/-- A register word from a number (truncating). -/
def w32 (n : Nat) : W32 := BitVec.ofNat 32 n

/-- A register word from an integer (two's complement, truncating). -/
def w32i (n : Int) : W32 := BitVec.ofInt 32 n

/-- Saturating increment of a counter of width `w`. -/
def incSat (w n : Nat) : Nat := if n + 1 < 2 ^ w then n + 1 else n

/-- Wrapping increment of a counter of width `w`. -/
def incWrap (w n : Nat) : Nat := (n + 1) % 2 ^ w

/-- The signed difference of two ring times (they wrap, R5). -/
def rtDiff (a b : Rt) : Int := (a - b).toInt

/-- `a` is at or after `b` in ring time, seen within half the wrap. -/
def rtGe (a b : Rt) : Bool := decide (0 ≤ rtDiff a b)

/-- Ring time plus a signed count of rt. -/
def rtAdd (a : Rt) (d : Int) : Rt := a + BitVec.ofInt 64 d

/-- The high word of ring time. -/
def hi32 (r : Rt) : W32 := r.extractLsb' 32 32
/-- The low word of ring time. -/
def lo32 (r : Rt) : W32 := r.extractLsb' 0 32

/-- Count the members of a list that satisfy a test. -/
def countP' {α : Type} (p : α → Bool) (l : List α) : Nat := (l.filter p).length

/-- Insert a number into a strictly rising list. -/
def insertNat (n : Nat) : List Nat → List Nat
  | [] => [n]
  | m :: t => if n < m then n :: m :: t else if n = m then m :: t else m :: insertNat n t

/-- `[0, …, n−1]` mapped. -/
def forN {α : Type} (n : Nat) (f : Nat → α) : List α := (List.range n).map f

end Sys2Proof
end

