-- ==== Sys2Proof/Machine/Parts/Engine.lean ====
section
/-! DEFINITION. Machine/Parts/Engine.lean: the loop engines, the comparator's copies and the axis states
(R330 to R371). -/

namespace Sys2Proof.Machine

/-- Formats of axis-store words (R342). -/
inductive Fmt where
  | f16 | f24 | i32 | a40
  deriving DecidableEq, Repr

/-- An entry of a write buffer (R337): offset in the axis's area, value and format. -/
structure WEnt where
  off : Nat
  val : W32
  fmt : Fmt
  deriving DecidableEq, Repr

/-- How a LAW task ended (R360). -/
inductive LawEnd where
  | fin
  | flt (code : Nat)
  deriving DecidableEq, Repr

/-- What a copy of a paired task hands the comparator (R360). -/
structure PairCopy where
  engine : Nat
  writes : List WEnt
  sticky : Nat
  ending : LawEnd
  deriving DecidableEq, Repr

/-- A loop engine (R330). -/
structure Engine where
  iso    : Bool := false
  run    : Bool := false
  axis   : Nat := 0
  paired : Bool := false
  /-- d0 to d15 and a0 to a3. -/
  d      : List W16 := List.replicate 16 0
  a      : List A40 := List.replicate 4 0
  n : Bool := false
  z : Bool := false
  v : Bool := false
  s : Bool := false
  hs : Bool := false
  dz : Bool := false
  /-- Return stack, top first. -/
  stack  : List Nat := []
  /-- Address of the instruction about to execute, 0 to 2,047. -/
  pc     : Nat := 0
  /-- Scratch words 512 to 1,023 written by the running task (R339). -/
  scratch : Tab W16 := []
  /-- Write buffer in program order (R337). -/
  buf    : List WEnt := []
  /-- Beats of the running task. -/
  beats  : Nat := 0
  tasks  : W32 := 0
  total  : W32 := 0
  mism   : W32 := 0
  eccProg : Nat := 0
  eccData : Nat := 0
  deriving DecidableEq, Repr

/-- Axis states, codes of R369. -/
inductive AxState where
  | off | opened | align | catching | start | run | degraded | halt | fault
  deriving DecidableEq, Repr

/-- ENGINE_AX_STAT.STATE. -/
def AxState.code : AxState → Nat
  | .off => 0 | .opened => 1 | .align => 2 | .catching => 3 | .start => 4 | .run => 5 | .degraded => 6
  | .halt => 7 | .fault => 8

/-- Axis commands of R354, and the ALIGN of R286. -/
inductive AxCmd where
  | openCmd | run | off | clearFault
  deriving DecidableEq, Repr

/-- Command code. -/
def AxCmd.code : AxCmd → Nat
  | .openCmd => 1 | .run => 2 | .off => 3 | .clearFault => 4

/-- An axis's state (R354 to R369). -/
structure AxisState where
  state : AxState := .off
  cause : Nat := 0
  pcode : Nat := 0
  pend  : Option AxCmd := none
  /-- Consecutive active guard cycles (R347). -/
  guardRun : Nat := 0
  /-- The last computed cycle had a following error (R349). -/
  ferr  : Bool := false
  /-- LAW_FLAGS of the last computed cycle. -/
  flags : Nat := 0
  /-- Consecutive cycles without an accepted sense record (R166). -/
  miss  : Nat := 0
  /-- Consecutive incomplete pairs (R361). -/
  plate : Nat := 0
  /-- Beats of the last LAW copy (R368). -/
  beats : Nat := 0
  /-- Axis state has been in AX_FAULT since the boundary with the causes of the cycle (R364). -/
  causesNow : List Nat := []
  /-- A reset edge of the group takes the axis from AX_HALT to AX_OPEN at the next boundary (R496). -/
  openDue : Bool := false
  deriving DecidableEq, Repr

/-- The ENGINE and GUARD blocks. -/
structure EngineState where
  eng   : Tab Engine := []
  axis  : Tab AxisState := []
  cfgImg : Bool := true
  /-- ENGINE_CMD_STAT. -/
  cmdStat : W32 := 0
  cfgRef : BitVec 256 := 0
  refInfo : W32 := 0
  misms : W32 := 0
  plates : W32 := 0
  satCnt : W32 := 0
  guardCnt : W32 := 0
  feCnt : W32 := 0
  lawFlt : W32 := 0
  /-- Copies handed to the comparator, by axis (R360). -/
  copies : Tab (List PairCopy) := []
  deriving DecidableEq, Repr

end Sys2Proof.Machine
end

