-- ==== Sys2Proof/Machine/Parts/Disp.lean ====
section
/-! DEFINITION. Machine/Parts/Disp.lean: tasks, chains, ready lists, flows, the slack meter and the stitch
trace (R409 to R431). -/

namespace Sys2Proof.Machine

/-- Task types, codes of R409. -/
inductive Task where
  | feedback | filter | observe | commuteIn | law | commuteOut | pack | profile | measure
  deriving DecidableEq, Repr

/-- Code of R409. -/
def Task.code : Task → Nat
  | .feedback => 1 | .filter => 2 | .observe => 3 | .commuteIn => 4 | .law => 5 | .commuteOut => 6 | .pack => 7
  | .profile => 8 | .measure => 9

/-- Unit classes, codes of R426. -/
inductive Cls where
  | eng | sp | cu | pu | dec | cuff | rel
  deriving DecidableEq, Repr

/-- CLASS of R426. -/
def Cls.code : Cls → Nat
  | .eng => 1 | .sp => 2 | .cu => 3 | .pu => 4 | .dec => 5 | .cuff => 6 | .rel => 7

/-- How a task ended (R420, R421). -/
inductive Ending where
  | released | empty | cancelled (reason : Nat)
  deriving DecidableEq, Repr

/-- A task of a chain: waiting for its predecessor, posted, placed, or ended. -/
inductive TaskSt where
  | waiting | ready | running | ended (e : Ending)
  deriving DecidableEq, Repr

/-- A task of a chain. -/
structure ChainTask where
  task  : Task
  /-- Second copy of a paired LAW. -/
  copyB : Bool := false
  st    : TaskSt := .waiting
  deriving DecidableEq, Repr

/-- The chain of an axis in a cycle (R410), with what DISPATCH_AX_CHAIN shows of it. -/
structure Chain where
  tasks  : List ChainTask := []
  slot   : Nat := 0
  flow   : Nat := 0
  prio   : Nat := 0
  paired : Bool := false
  /-- Chain END code of R431. -/
  endc   : Nat := 3
  reason : Nat := 0
  /-- Group of the first placed copy of a paired LAW (R413). -/
  group  : Option Nat := none
  /-- Set when the sense record of the cycle has been accepted. -/
  fed    : Bool := false
  deriving DecidableEq, Repr

/-- An entry of a ready list (R413): `key` is the axis, or the Visor record of a MEASURE. -/
structure Ready where
  task  : Task
  key   : Nat
  copyB : Bool := false
  prio  : Nat
  cycle : W32
  deriving DecidableEq, Repr

/-- A task on a unit. -/
structure Running where
  r     : Ready
  cls   : Cls
  unit  : Nat
  deriving DecidableEq, Repr

/-- A drive record placed in a release entry (R151, R283). -/
inductive Drive where
  | marker
  | errMarker
  | inhibit (brkEn : Bool) (dbrk : Nat)
  | duties (brkEn : Bool) (da db dc dbrk : Nat)
  deriving DecidableEq, Repr

/-- RTYPE of a drive record (R151). -/
def Drive.rtype : Drive → Nat
  | .marker => 0x30 | .errMarker => 0x3F | .inhibit _ _ => 0x32 | .duties _ _ _ _ _ => 0x31

/-- An ordered flow of a cycle (R415, R423). -/
structure Flow where
  entries : Tab Drive := []
  slots   : Nat := 0
  ptr     : Nat := 0
  /-- Latest completion of a PACK whose record was released. -/
  tLast   : Option Rt := none
  /-- PACK completions by slot, until released. -/
  done    : Tab Rt := []
  closed  : Bool := false
  late    : Bool := false
  slack   : W32 := 0xFFFF_FFFF
  slackMin : W32 := 0xFFFF_FFFF
  /-- Minimum of the running epoch. -/
  slackCur : W32 := 0xFFFF_FFFF
  slackEmin : W32 := 0xFFFF_FFFF
  lates   : W32 := 0
  deriving DecidableEq, Repr

/-- Tasks of one counter update (R422). -/
structure Tally where
  disp  : Nat := 0
  rel   : Nat := 0
  empty : Nat := 0
  canc  : Nat := 0
  deriving DecidableEq, Repr

/-- A stitch-trace record (R426). -/
structure TraceRec where
  w0 : W32
  w1 : W32
  w2 : W32
  w3 : W32
  deriving DecidableEq, Repr

/-- The DISPATCH block. -/
structure DispState where
  iso    : Bool := false
  chain  : Tab Chain := []
  /-- Chains of the last cycle, for DISPATCH_AX_CHAIN. -/
  last   : Tab Chain := []
  eng    : List Ready := []
  sp     : List Ready := []
  cu     : List Ready := []
  /-- Ready sets of the profile units. -/
  pu     : Tab (List Ready) := []
  running : List Running := []
  flow   : Tab Flow := []
  disp   : BitVec 64 := 0
  rel    : BitVec 64 := 0
  empty  : BitVec 64 := 0
  canc   : BitVec 64 := 0
  /-- Open tallies by the cycle of their update (R422). -/
  tally  : Tab Tally := []
  profLate : W32 := 0
  measDrop : W32 := 0
  /-- Largest ready depths of this cycle and of the last: loop engines, processors, commutation, profile. -/
  depth  : Nat × Nat × Nat × Nat := (0, 0, 0, 0)
  depthLast : Nat × Nat × Nat × Nat := (0, 0, 0, 0)
  /-- The interval of R419 is open. -/
  measWin : Bool := false
  /-- Visor records with a pending MEASURE, oldest first. -/
  meas   : List Nat := []
  slackThr : W32 := 0
  trCtl  : W32 := 0
  trCyc  : W32 := 0
  trRun  : Bool := false
  trFull : Bool := false
  trOvw  : Nat := 0
  trace  : List TraceRec := []
  /-- Words of the oldest record already read (R427). -/
  trWord : Nat := 0
  deriving DecidableEq, Repr

end Sys2Proof.Machine
end

