-- ==== Sys2Proof/Machine/Parts/Err.lean ====
section
/-! DEFINITION. Machine/Parts/Err.lean: the error manager's state (R28 to R42). -/

namespace Sys2Proof.Machine

/-- What held the faulty word or item (R32, R666). -/
inductive FaultSite where
  /-- A datapath or control word of the block itself. -/
  | plain
  /-- A word of a program store (R30). -/
  | programStore
  /-- A word of the axis's configuration area at a byte offset (R32). -/
  | axisConfig (axis off : Nat)
  /-- A word of the axis's per-cycle area at a byte offset; `read` when a task was reading it,
  `held` when the layout export marks it as held from cycle to cycle (R32). -/
  | axisCycle (axis off : Nat) (read held : Bool)
  /-- The axis's task in progress, by task type (R38). -/
  | task (axis type : Nat)
  /-- The sense record, Cuff result or ADC conversion that feeds the axis's FEEDBACK task (R666). -/
  | feed (axis : Nat)
  /-- The copy that a head port receives of a slot's burst, before any record of it is accepted (R100, R132, R666). -/
  | rxCopy (seg pos side : Nat)
  /-- The axis's drive record after release (R666, R164). -/
  | driveRecord (axis : Nat)
  /-- An entry of the event log (R571). -/
  | logEntry (index : Nat)
  /-- A word of a table memory entry (R666). -/
  | tableEntry (index : Nat)
  /-- A Visor record, by area (R541). -/
  | visorRecord (area : Nat)
  /-- A record of the trace memory, the oldest first (R429). -/
  | traceEntry (index : Nat)
  /-- The ready-list or release entry of a task: the axis (the area of a MEASURE) and the task type (R429). -/
  | listEntry (key type : Nat)
  /-- The mailbox record being built for a segment, of a class of R174 (R182). -/
  | mailbox (seg cls : Nat)
  /-- The channel region of an ADC pair (R405). -/
  | chanRegion (pair : Nat)
  /-- An entry of the capture FIFO, and of a channel's latch FIFO, the oldest first (R666). -/
  | capEntry (index : Nat)
  | latchEntry (channel index : Nat)
  /-- The mechanical phase or index basis of an axis (R295), and its observer state (R326). -/
  | axisPhase (axis : Nat)
  | axisObs (axis : Nat)
  deriving DecidableEq, Repr

/-- A word that a scrub finds: region, block, whether it is uncorrectable, its site and index. -/
structure ScrubFind where
  region : Nat
  block  : Nat
  ecc2   : Bool
  site   : FaultSite
  word   : Nat
  deriving DecidableEq, Repr

/-- A region error record as the fault history keeps it (R38, R39). -/
structure ErrRec where
  action : Nat
  cause  : Nat
  region : Nat
  block  : Nat
  detail : Nat
  rt     : Rt
  deriving DecidableEq, Repr

/-- The chip error manager. Blocks are keyed region × 64 + index (R22). -/
structure ErrState where
  /-- Isolated blocks, strictly rising keys (R30, R41). -/
  iso     : List Nat := []
  /-- ITEM_LOST count of each block in the current epoch (R30). -/
  lost    : Tab Nat := []
  /-- HEALTH_ERR_x of each region (R38). -/
  reg     : Tab W32 := []
  /-- Regions that raised EV_ERR_CORRECTED in this epoch (R37). -/
  corrEv  : List Nat := []
  /-- HEALTH_CORR_r, corrections per region (R623). -/
  corr    : Tab Nat := []
  /-- Ring time of the CHIP_SAFE that an ESCALATION reset follows (R36). -/
  safeAt  : Option Rt := none
  /-- The block of the record that ordered it, region × 256 + index. -/
  safeBlk : Nat := 0
  /-- Blocks whose re-test has passed, returning at the next cycle boundary (R626). -/
  back    : List Nat := []
  /-- The ledger write of the triggering record has ended (R36). -/
  ledgerEnded : Bool := false
  /-- That write was lost, the ledger being isolated (R36). -/
  ledgerLost : Bool := false
  /-- The chip error manager has stopped, so its heartbeat stops (R35). -/
  cemStopped  : Bool := false
  deriving DecidableEq, Repr

end Sys2Proof.Machine
end

