-- ==== Sys2Proof/Machine/Parts/Event.lean ====
section
/-! DEFINITION. Machine/Parts/Event.lean: an event and the event unit's state (R561 to R573). -/

namespace Sys2Proof.Machine

/-- A raised event (R561): its number, the three fields of its detail word, and, where its rule
limits its rate, the X that the rule counts by (R665). -/
structure Ev where
  num  : Nat
  kind : Nat := 0
  code : Nat := 0
  obj  : Nat := 0
  lim  : Option Nat := none
  deriving DecidableEq, Repr

/-- An entry of the event log (R561, R565, R573). -/
structure LogEntry where
  num    : Nat
  seq    : BitVec 15
  rt     : Rt
  detail : W32
  deriving DecidableEq, Repr

/-- The event unit (R564 to R566, R572) with the endpoint's MSI-X table and PBA (R574). -/
structure EventUnit where
  log     : List LogEntry := []
  raised  : W32 := 0
  logged  : W32 := 0
  ovf     : W32 := 0
  seq     : BitVec 15 := 0
  pend    : BitVec 256 := 0
  vec     : BitVec 16 := 0
  /-- EVENTS_ROUTE_n; an absent one holds the default of R585 while `routeDef`, and 0 afterwards. -/
  route   : Tab W32 := []
  routeDef : Bool := true
  windows : Tab Rt := []
  /-- MSI-X enable and function mask (R574). -/
  msixEn  : Bool := false
  msixMask : Bool := false
  /-- MSI-X table, 64 double words from HOSTIF 0x800; an absent word holds its reset value. -/
  msix    : Tab W32 := []
  pba     : BitVec 16 := 0
  /-- MSI-X messages this step put on the link, oldest first. -/
  sent    : List Nat := []
  deriving DecidableEq, Repr

end Sys2Proof.Machine
end

