-- ==== Sys2Proof/Machine/Parts/Field.lean ====
section
/-! DEFINITION. Machine/Parts/Field.lean: commutation and field control of an axis (R263 to R298). -/

namespace Sys2Proof.Machine

/-- Steps of the commutation offset search, COMMUTE_AX_STAT.ALNSTEP (R287, R297). -/
inductive AlnStep where
  | idle | check | ramp1 | hold1 | step | hold2 | eval | rampdn
  deriving DecidableEq, Repr

/-- ALNSTEP code. -/
def AlnStep.code : AlnStep → Nat
  | .idle => 0 | .check => 1 | .ramp1 => 2 | .hold1 => 3 | .step => 4 | .hold2 => 5 | .eval => 6 | .rampdn => 7

/-- The offset search of an axis (R286 to R289). -/
structure AlignSt where
  step   : AlnStep := .idle
  reason : Nat := 0
  /-- Ring time the step began. -/
  start  : Rt := 0
  theta  : Int := 0
  th1    : Nat := 0
  th2    : Nat := 0
  idref  : Int := 0
  /-- i_d* when the ramp down began. -/
  idTop  : Int := 0
  /-- FB_POS of the last cycles, newest first (R287). -/
  hist   : List W32 := []
  /-- The ramp down ends a failed search. -/
  failed : Bool := false
  deriving DecidableEq, Repr

/-- Curve sub-state of a curve axis (R291, R297). -/
inductive Curve where
  | none | stopped | running | stopping
  deriving DecidableEq, Repr

/-- COMMUTE_AX_STAT.CURVE. -/
def Curve.code : Curve → Nat
  | .none => 0 | .stopped => 1 | .running => 2 | .stopping => 3

/-- Field-path state of an axis. -/
structure FieldAxis where
  /-- Mechanical phase and the last FB_POS (R270); `started` false where p must be initialised. -/
  p        : Nat := 0
  posPrev  : W32 := 0
  started  : Bool := false
  /-- An index has been latched since the reset or configuration change (R270, R274). -/
  idxSeen  : Bool := false
  /-- p is on the index basis. -/
  idxBasis : Bool := false
  /-- Residual angle while the active angle moves to the index basis (R274). -/
  rebase   : Option Int := none
  prov     : Bool := false
  alnValid : Bool := false
  found    : Nat := 0
  thidx    : Option Nat := none
  /-- An alignment is complete and no index has been latched: the first one gives `thidx` (R275). -/
  thDue    : Bool := false
  /-- CMT_FLAGS of the cycle being computed and of the last computed cycle (R297). -/
  flags    : BitVec 8 := 0
  flagsLast : BitVec 8 := 0
  isumRun  : Nat := 0
  /-- UV of the cycle (R268). -/
  uv       : Bool := false
  align    : AlignSt := {}
  curve    : Curve := .none
  /-- Entry to the curve sub-state, with its timer taken as expired where `curveFree` (R291). -/
  curveAt  : Rt := 0
  curveFree : Bool := true
  curveN   : Int := 0
  /-- The set-point on entry to STOPPING, from which it falls (R290). -/
  curveTop : Int := 0
  /-- The duties of the cycle and the brake fields (R282, R284). -/
  duty     : Nat × Nat × Nat := (0, 0, 0)
  dbrk     : Nat := 0
  /-- (v_α, v_β) of COMMUTE_OUT after the scaling of R279 (R301). -/
  vab      : Int × Int := (0, 0)
  /-- The angle of the cycle used by COMMUTE_OUT. -/
  thetaOut : Nat := 0
  /-- Per-axis summaries of EV_AX_ISUM, EV_AX_OVERCURRENT and EV_AX_NODE_TRIP (R298). -/
  sumIsum  : Nat := 0
  sumOver  : Nat := 0
  sumTrip  : Nat := 0
  deriving DecidableEq, Repr

/-- The COMMUTE block. -/
structure FieldState where
  axis    : Tab FieldAxis := []
  isumCnt : W32 := 0
  ovmCnt  : W32 := 0
  dsatCnt : W32 := 0
  /-- COMMUTE_PASS_u. -/
  pass    : Tab W32 := []
  deriving DecidableEq, Repr

end Sys2Proof.Machine
end

