-- ==== Sys2Proof/Machine/Parts/Cycle.lean ====
section
/-! DEFINITION. Machine/Parts/Cycle.lean: cycles, the mode-change and global-operation sequencer,
host views and the per-cycle images (R58 to R90). -/

namespace Sys2Proof.Machine

/-- The per-cycle words of every axis: axis → byte offset → word (R558). -/
abbrev AxisWords := Tab (Tab W32)

/-- A completed cycle's image (R77, R556). -/
structure CycleImage where
  cycle : W32
  rtS   : Rt
  words : AxisWords
  /-- LINK segment counters (offset keyed per segment × 0x1000) and DISPATCH words of the image. -/
  link  : Tab W32 := []
  disp  : Tab W32 := []
  deriving DecidableEq, Repr

/-- What the sequencer is doing (R72, R80). -/
inductive GopOp where
  | mode | barrier | snapshot | netreset
  deriving DecidableEq, Repr

/-- CHIP_GOP_STAT.STATE (R85). -/
inductive GopState where
  | idle | running | done | failed
  deriving DecidableEq, Repr

/-- A pending mode change (R73, R74). -/
structure ModeChange where
  target    : Nat
  cEff      : W32
  /-- Confirmed node positions, per segment a 48-bit map (R73). -/
  confirmed : Tab (BitVec 48) := []
  cancelled : Bool := false
  /-- The decision taken at the commit point: none before it. -/
  decision  : Option Bool := none
  deriving DecidableEq, Repr

/-- The cycle machinery. -/
structure CycleState where
  /-- S_0 has been placed: cycles count (R58). -/
  running  : Bool := false
  cycle    : W32 := 0
  /-- Ring time of S of the current cycle. -/
  rtS      : Rt := 0
  /-- Schedule mode in force (R84). -/
  mode     : Nat := 0
  change   : Option ModeChange := none
  modeEff  : W32 := 0
  gopOp    : GopOp := .mode
  gopState : GopState := .idle
  gopReason : Nat := 0
  gopMissing : Nat := 0
  gopCyc   : W32 := 0
  /-- Cycle in which the running operation was announced. -/
  gopStart : W32 := 0
  /-- Nodes (segment × 64 + position) that acknowledged or uploaded (R80). -/
  gopAcked : List Nat := []
  /-- Nodes the running operation waits for. -/
  gopNodes : List Nat := []
  /-- Ring time NETRESET began, while it runs. -/
  netreset : Bool := false
  /-- The last eight completed images, newest first (R77). -/
  images   : List CycleImage := []
  /-- The snapshot area: per-cycle words of cycle c_s (R80). -/
  snap     : AxisWords := []
  /-- Node snapshot records, 64 bytes each, by segment × 64 + position (R80). -/
  snapNode : Tab (List Byte) := []
  /-- Epoch passes: done bits of CHIP_EPOCH_STAT and passes still in progress (R69, R70). -/
  scrubDone : Bool := false
  reverDone : Bool := false
  ledgDone  : Bool := false
  scrubRun  : Bool := false
  reverRun  : Bool := false
  ledgRun   : Bool := false
  deriving DecidableEq, Repr

/-- A host port's view context (R78). -/
structure ViewCtx where
  isOpen : Bool := false
  seq    : W32 := 0
  fail   : Bool := false
  deriving DecidableEq, Repr

end Sys2Proof.Machine
end

