-- ==== Sys2Proof/Machine/Parts/ImageRing.lean ====
section
/-! DEFINITION. Machine/Parts/ImageRing.lean: what the configuration image fixes for the cycle, the
ring segments, the roles and the slots (R59 to R61, R91, R122, R141 to R155, R582). -/

namespace Sys2Proof.Machine

/-- A segment's physical layer, LINK_PORT_CFG.PHY (R91, R139). -/
inductive Phy where
  | unused | kr | sfi | g25
  deriving DecidableEq, Repr

/-- LINK_PORT_CFG.PHY code (R139). -/
def Phy.code : Phy → Nat
  | .unused => 0 | .kr => 1 | .sfi => 2 | .g25 => 3

/-- One hatband: the instants of a schedule mode, in rt after S (R61). -/
structure ImgMode where
  present : Bool := false
  tSf  : Nat := 0
  tCw0 : Nat := 0
  tRel : Nat := 0
  tU   : Nat := 0
  deriving DecidableEq, Repr

/-- A node-table entry (R122), with the node's slot facts. -/
structure ImgNode where
  spare     : Bool := false
  part      : W32 := 0
  identity  : BitVec 64 := 0
  revMin    : Nat := 2
  revMax    : Nat := 3
  axes      : Nat := 1
  tRdy      : Nat := 0
  tLoad     : Nat := 0
  /-- Proved delays from An and Bn, rt. -/
  dA        : Nat := 0
  dB        : Nat := 0
  essential : Bool := false
  /-- The node has a brake chopper (R284). -/
  chopper   : Bool := false
  /-- The node carries a safety record (R141, R503), its watchdog and connection identifier. -/
  safety    : Bool := false
  sfWd      : Nat := 4
  connId    : W32 := 0
  /-- O_k(An), O_k(Bn) of each schedule mode, rt after S (R155). -/
  slots     : Tab (Int × Int) := []
  deriving DecidableEq, Repr

/-- A segment of the image. -/
structure ImgSeg where
  phy         : Phy := .unused
  lossCyc     : Nat := 2
  autoReadmit : Bool := false
  nodes       : Tab ImgNode := []
  /-- Axes of the drive map, in release-flow order (R146). -/
  driveMap    : List Nat := []
  /-- LINK_SEG_BRIM_CTL and LINK_SEG_MBX_CTL (R184). -/
  brimCtl     : W32 := 0
  mbxCtl      : W32 := 0
  deriving DecidableEq, Repr

/-- The role configuration, LINK_ROLE_CTL (R134). -/
structure ImgRole where
  capable     : Bool := false
  prio        : Nat := 0
  takeoverCyc : Nat := 0
  deriving DecidableEq, Repr

end Sys2Proof.Machine
end

