-- ==== Sys2Proof/Machine/Parts/Ring.lean ====
section
/-! DEFINITION. Machine/Parts/Ring.lean: ports, segments, nodes and the role state (R91 to R140). -/

namespace Sys2Proof.Machine

/-- Clause 72 training of a KR port (R94). -/
inductive Training where
  | none | running | retryWait
  deriving DecidableEq, Repr

/-- One ring port, its LINK_PORT page (R138, R139). -/
structure Port where
  link    : Bool := false
  lock    : Bool := false
  trained : Bool := false
  modPresent : Bool := false
  modLos  : Bool := false
  training : Training := .none
  ctl     : W32 := 0
  downs   : W32 := 0
  rxfrm   : W32 := 0
  rxcrc   : W32 := 0
  blkerr  : W32 := 0
  txeq    : W32 := 0
  prbserr : W32 := 0
  deriving DecidableEq, Repr

/-- LINK_SEG_NODE.STATE (R136). -/
inductive NodeSt where
  | absent | present | admitted | refused | lost
  deriving DecidableEq, Repr

/-- Code of a node state (R136). -/
def NodeSt.code : NodeSt → Nat
  | .absent => 0 | .present => 1 | .admitted => 2 | .refused => 3 | .lost => 4

/-- What a node sends at IDENT (R121, R123, R173). -/
structure Ident where
  part     : W32
  identity : BitVec 64
  axes     : Nat
  caps     : Nat
  tRdy     : Nat
  tLoad    : Nat
  /-- The capability record is within bounds and its CRC-32C is good. -/
  good     : Bool
  /-- MISSMAX, 2 to 8. -/
  missMax  : Nat := 2
  /-- Firmware revision, bytes 24–27 of IDENT (R173). -/
  firmware : W32 := 0
  deriving DecidableEq, Repr

/-- A filtered delay (R108): rounds accepted, their sum in quarter rt while 16 or fewer, and the
filtered value in units of 2^−16 rt. -/
structure DelayFilt where
  n   : Nat := 0
  sum : Int := 0
  v   : Int := 0
  deriving DecidableEq, Repr

/-- A node position of a segment. -/
structure Node where
  st     : NodeSt := .absent
  rev    : Nat := 0
  caps   : Nat := 0
  ident  : Option Ident := none
  fk     : Int := 0
  dA     : DelayFilt := {}
  dB     : DelayFilt := {}
  /-- Proved values currently exceeded (R110): the event is raised at the rise. -/
  overA  : Bool := false
  overB  : Bool := false
  /-- Heard at An, at Bn in the current cycle; hop count from the port heard in DISCOVER (R124). -/
  heardA : Bool := false
  heardB : Bool := false
  /-- Consecutive cycles not heard at An, at Bn (R102). -/
  silA   : Nat := 0
  silB   : Nat := 0
  /-- Block lock of its A-side and B-side receivers as last reported (R102). -/
  lockA  : Bool := true
  lockB  : Bool := true
  /-- Consecutive cycles unreachable (R104). -/
  unreach : Nat := 0
  /-- Re-admission steps left (R126): 4 waiting, 3 IDENT, 2 CHECK, 1 CONFIRM, 0 none. -/
  readmit : Nat := 0
  /-- The verdict of CHECK still to be sent: reason, 0 to admit, and revision; the revision of a node that passed; SLOTCFG has
  been queued (R121, R173). -/
  tell   : Option (Nat × Nat) := none
  okRev  : Nat := 0
  cfgSent : Bool := false
  /-- READMIT at the next epoch boundary, once it answers again (R126). -/
  answered : Bool := false
  /-- Consecutive cycles with TOFF in the window, and with TOUT set (R52, R212). -/
  tIn    : Nat := 0
  tOut   : Nat := 0
  /-- Recorded in TIME_NODE_DEV (R212). -/
  dev    : Bool := false
  /-- The last node status field accepted (R153). -/
  status : W32 := 0
  deriving DecidableEq, Repr

/-- LINK_SEG_STAT.STATE (R121, R136). -/
inductive SegPhase where
  | down | discover | admission | lock | formed | refused
  deriving DecidableEq, Repr

/-- Code of a segment phase (R136). -/
def SegPhase.code : SegPhase → Nat
  | .down => 0 | .discover => 1 | .admission => 2 | .lock => 3 | .formed => 4 | .refused => 5

/-- One ring of a segment: its copies' return (R101). -/
structure RingDir where
  /-- A copy has returned, or two were missed, since the ring started (log entry 11). -/
  known  : Bool := false
  closed : Bool := false
  miss   : Nat := 0
  ret    : Nat := 0
  /-- Return time of this cycle's sense copy, rt from launch; none while outstanding. -/
  last   : Option Int := none
  /-- The deadline of this cycle's copy has passed without it: a copy that comes later does not count (R101). -/
  late   : Bool := false
  deriving DecidableEq, Repr

/-- A segment (R121, R135). -/
structure Segment where
  phase  : SegPhase := .down
  cnt    : Nat := 0
  /-- Position and cycle (0 waiting, 1 IDENT, 2 CHECK, 3 CONFIRM) of ADMIT. -/
  pos    : Nat := 0
  sub    : Nat := 0
  ctl    : W32 := 0
  a      : RingDir := {}
  b      : RingDir := {}
  /-- D_loop in half rt: the sum of the two return times (R107). -/
  dloop2 : Int := 0
  /-- Position before each break, 0xFE before position 0; rising order of the ring (R102, R136). -/
  breaks : List Nat := []
  /-- The link at An leads to the crown that this chip took over from, and counts as a break before position 0 (R119). -/
  cut    : Bool := false
  split  : Bool := false
  refuse : List (Nat × Nat) := []
  dupmis : W32 := 0
  nodes  : Tab Node := []
  /-- Consecutive cycles with every admitted node in the time window, counted in LOCK (R121). -/
  lockRun : Nat := 0
  /-- The segment was lost with its frame engine or both ports (R33). -/
  dead   : Bool := false
  deriving DecidableEq, Repr

/-- Role state (R111, R134). -/
inductive Role where
  | none | listen | claim | crown | spare | refused | standby
  deriving DecidableEq, Repr

/-- LINK_ROLE.STATE (R111, R134). -/
def Role.code : Role → Nat
  | .none => 0 | .listen => 1 | .claim => 2 | .crown => 3 | .spare => 4 | .refused => 5 | .standby => 6

/-- A role record as received (R113); `crcOk` is the outcome of its CRC-32C. -/
structure RoleRec where
  rev   : Nat := 3
  prio  : Nat := 0
  uid   : BitVec 64 := 0
  chk   : W32 := 0
  tcyc  : Nat := 0
  segs  : Nat := 0
  state : Nat := 0
  seq   : Nat := 0
  cycle : W32 := 0
  crcOk : Bool := true
  deriving DecidableEq, Repr

/-- The chip-wide role machine. -/
structure RoleState where
  role      : Role := .none
  takenOver : Bool := false
  peer      : Option RoleRec := none
  claims    : Nat := 0
  seq       : Nat := 0
  /-- Ring time t_listen started (R112). -/
  listenAt  : Rt := 0
  listening : Bool := false
  /-- Held CROWN or SPARE since the last reset (R116). -/
  heldRole  : Bool := false
  /-- Consecutive cycles without a good crown record on any segment (R118). -/
  noCrown   : Nat := 0
  crownHeard : Bool := false
  readyRaised : Bool := false
  /-- STANDBY notices still to send (R131). -/
  notices   : Nat := 0
  /-- Yields at the next boundary: the role it enters then (R120). -/
  yieldTo   : Option Role := none
  deriving DecidableEq, Repr

/-! ### What the commands of the ring carry -/

/-- The deadline of a sense copy: its ring, and how many positions have reported to DISCOVER (R101, R124). -/
structure ReturnDue where
  ring : Nat
  hop  : Nat
  deriving DecidableEq, Repr

/-- A port that links: whether it has a module, and the transmit coefficients that training reached (R139). -/
structure PortUp where
  port    : Nat
  present : Bool
  txeq    : W32
  deriving DecidableEq, Repr

/-- A port that loses link: what it sees of its module and its lock, and the block errors counted since it linked (R138, R139). -/
structure PortDown where
  port    : Nat
  present : Bool
  los     : Bool
  lock    : Bool
  errs    : Nat
  deriving DecidableEq, Repr

/-- A role record and the port at which it is heard (R113). -/
structure RoleHeard where
  port : Nat
  msg  : RoleRec
  deriving DecidableEq, Repr

/-- A crown's role record, its port, and the schedule mode in the header of its sense frame (R117, R209). -/
structure CrownHeard where
  port : Nat
  msg  : RoleRec
  mode : Nat
  deriving DecidableEq, Repr

/-- The credit that a mailbox record names (R176). -/
structure CreditRef where
  num : Nat
  gen : Nat
  deriving DecidableEq, Repr

/-- The delays d(An) and d(Bn) of a SLOTCFG (R210, R213). -/
structure SlotDelay where
  an : Int
  bn : Int
  deriving DecidableEq, Repr

end Sys2Proof.Machine
end

