-- ==== Sys2Proof/Machine/Parts/Slots.lean ====
section
/-! DEFINITION. Machine/Parts/Slots.lean: slots, arrival bands, babble detection and the management
mailbox of a segment (R141 to R186). -/

namespace Sys2Proof.Machine

/-- A received uplink run (R157): segment, port side (0 An, 1 Bn), the timestamp of its first block,
whether it is a merged run (R143), and its records as bytes. -/
structure UplinkRun where
  seg     : Nat
  side    : Nat
  stamp   : Rt
  merged  : Bool
  records : List (List Byte)
  deriving DecidableEq, Repr

/-- Timing state of a node's slot at one port (R160, R161). -/
structure SlotPort where
  adj     : Int := 0
  /-- Sum and number of ε in the running 16-cycle mean, and the last mean ε̄. -/
  sum     : Int := 0
  n       : Nat := 0
  mean    : Int := 0
  /-- Cycles left whose copies are excluded after a SLOTADJ was sent (R160). -/
  exclude : Nat := 0
  /-- A SLOTADJ of the node left in this cycle (R160). -/
  adjSent : Bool := false
  /-- Runs attributed to the slot at this port in this cycle, merged ones included (R157, R163). -/
  runs    : Nat := 0
  /-- The run of this cycle that lies in the slot so far: its offset from S, and the SRC of its first good record (R157). -/
  first   : Option (Int × Option Nat) := none
  deriving DecidableEq, Repr

/-- A slot's reception in the current cycle (R99, R163). -/
structure SlotRx where
  /-- Good copies in order of arrival: place in the burst (axis index, or 4 for the safety record), port side, bytes. The
  first of a place is the accepted one. -/
  got   : List (Nat × Nat × List Byte) := []
  /-- The copy at An, at Bn is lost to a fault of its port (R666). -/
  lostA : Bool := false
  lostB : Bool := false
  /-- A placeholder of a Finzo 1 node was written, good or bad (R163). -/
  dirty : Bool := false
  /-- The slot's outcome, once fixed: 0 good, 1 empty, 2 error. -/
  outcome : Option Nat := none
  deriving DecidableEq, Repr

/-- The suspect of babble detection, LINK_SEG_SUSPECT (R168 to R170, R184). -/
structure Suspect where
  pos    : Nat := 0
  valid  : Bool := false
  basis  : Nat := 0
  cycles : Nat := 0
  clean  : Nat := 0
  /-- This cycle's indication and the position its source rule names. -/
  ind    : Bool := false
  src    : Option Nat := none
  /-- Returned copies of the current frame failing FCRC, per port side (R168). -/
  badA   : Bool := false
  badB   : Bool := false
  /-- The same of the drive frame. -/
  dbadA  : Bool := false
  dbadB  : Bool := false
  deriving DecidableEq, Repr

/-- A downlink mailbox record waiting in its class of R174 (R172, R173). -/
structure DownRec where
  mtype : Nat
  addr  : Nat
  /-- Length in 8-byte units. -/
  len   : Nat
  tag   : Nat := 0
  body  : List Byte := []
  /-- Transmissions before this one (R177). -/
  tries : Nat := 0
  deriving DecidableEq, Repr

/-- A pool credit (R175). -/
structure Credit where
  out  : Bool := false
  gen  : Nat := 0
  node : Nat := 0
  sent : W32 := 0
  purpose : Nat := 0
  /-- The record whose receipt returned the credit, until its second copy has come (R99, R176). -/
  first : Option (List Byte) := none
  deriving DecidableEq, Repr

/-- An outstanding implied credit: a node that has not acknowledged an ACKREQ record (R177). -/
structure Implied where
  node  : Nat
  mseq  : Nat
  sent  : W32
  tries : Nat
  msg   : DownRec
  deriving DecidableEq, Repr

/-- The slot and mailbox machinery of one segment. -/
structure SlotSeg where
  upSched : BitVec 64 := 0
  upGood  : BitVec 64 := 0
  upEmpty : BitVec 64 := 0
  upErr   : BitVec 64 := 0
  dnSched : BitVec 64 := 0
  dnGood  : BitVec 64 := 0
  dnEmpty : BitVec 64 := 0
  dnErr   : BitVec 64 := 0
  brimIn  : W32 := 0
  brimOut : W32 := 0
  outslot : W32 := 0
  merged  : W32 := 0
  srcmis  : W32 := 0
  reccrc  : W32 := 0
  dlmiss  : W32 := 0
  frmret  : W32 := 0
  /-- Timing per position × 2 + side. -/
  port    : Tab SlotPort := []
  /-- Reception of this cycle per position. -/
  rx      : Tab SlotRx := []
  suspect : Suspect := {}
  /-- Mailbox: credits by number, implied credits, class queues (key = class 1 to 9; a GRANT takes its credit as it leaves),
  counters. -/
  credits : Tab Credit := []
  implied : List Implied := []
  queue   : Tab (List DownRec) := []
  /-- Acknowledged (node, MSEQ), until the second copy of the ACK has come (R99). -/
  acked   : List (Nat × Nat) := []
  mseq    : Nat := 0
  grant   : W32 := 0
  ret     : W32 := 0
  tmo     : W32 := 0
  stale   : Nat := 0
  mbxFail : Nat := 0
  /-- Next admitted node of the DELAY poll round (R174). -/
  poll    : Nat := 0
  deriving DecidableEq, Repr

end Sys2Proof.Machine
end

