-- ==== Sys2Proof/Machine/Parts/Time.lean ====
section
/-! DEFINITION. Machine/Parts/Time.lean: time bases, ring time, PTP instances, captures and the
trigger bus (R187 to R224). -/

namespace Sys2Proof.Machine

/-- A time base: raw counter, offset and rate (R187 to R191). -/
structure TimeBase where
  raw  : BitVec 64 := 0
  ofs  : BitVec 64 := 0
  /-- Rate correction, signed, units of 2^−44. -/
  rho  : Int := 0
  cref : BitVec 64 := 0
  deriving DecidableEq, Repr

/-- Ring-time states (R196). -/
inductive RtState where
  | free | track | slew | holdover | freerun | follow
  deriving DecidableEq, Repr

/-- TIME_STAT.RTSTATE (R196). -/
def RtState.code : RtState → Nat
  | .free => 0 | .track => 1 | .slew => 2 | .holdover => 3 | .freerun => 4 | .follow => 5

/-- The data set an Announce message carries, in the order the best-master comparison takes it
(R204, R208). -/
structure Announce where
  prio1    : Nat := 128
  clkClass : Nat := 248
  accuracy : Nat := 0xFE
  variance : Nat := 0xFFFF
  prio2    : Nat := 128
  gm       : BitVec 64 := 0
  steps    : Nat := 0
  /-- Sender: clock identity and port number. -/
  sender   : BitVec 64 := 0
  senderPort : Nat := 1
  /-- Path trace TLV (R204). -/
  path     : List (BitVec 64) := []
  deriving DecidableEq, Repr

/-- What a received PTP message carries (R203 to R208). Times are in rt of the PTP timescale. -/
structure PtpMsg where
  /-- 0 PLA, 1 PLB. -/
  port    : Nat
  domain  : Nat
  seq     : Nat := 0
  /-- Two-step flag. -/
  twoStep : Bool := false
  /-- originTimestamp, receiveTimestamp or requestReceiptTimestamp, in rt. -/
  ts      : Nat := 0
  /-- correctionField, units of 2^−16 ns, signed. -/
  corr    : Int := 0
  /-- Raw count at the message timestamp point (R205). -/
  stamp   : BitVec 64 := 0
  /-- It answers this chip's own request (sequence and requesting port match outside). -/
  mine    : Bool := true
  /-- Passes the bounds and length checks (R208). -/
  ok      : Bool := true
  /-- Carried by UDP over IPv4 (Annex C), else by IEEE 802.3 (Annex E) (R203). -/
  udp     : Bool := false
  ann     : Announce := {}
  deriving DecidableEq, Repr

/-- A PTP message the chip transmits. -/
structure PtpTx where
  port    : Nat
  domain  : Nat
  /-- messageType: 0 Sync, 1 Delay_Req, 2 Pdelay_Req, 3 Pdelay_Resp, 8 Follow_Up, 9 Delay_Resp,
  0xA Pdelay_Resp_Follow_Up, 0xB Announce. -/
  mtype   : Nat
  seq     : Nat := 0
  ts      : Nat := 0
  corr    : Int := 0
  twoStep : Bool := false
  /-- Annex C transport, and a UDP checksum of 0x0000 on it (R203, R207). -/
  udp     : Bool := false
  zeroSum : Bool := false
  /-- The data set of an Announce, its path trace among it (R204, R208). -/
  ann     : Option Announce := none
  deriving DecidableEq, Repr

/-- IEEE 1588 portState codes (R222). -/
inductive PState where
  | unused | initializing | faulty | disabled | listening | preMaster | master | passive
  | uncalibrated | slave
  deriving DecidableEq, Repr

/-- TIME_DOM_x_STAT.PSTATE. -/
def PState.code : PState → Nat
  | .unused => 0 | .initializing => 1 | .faulty => 2 | .disabled => 3 | .listening => 4
  | .preMaster => 5 | .master => 6 | .passive => 7 | .uncalibrated => 8 | .slave => 9

/-- One PTP domain of the chip. -/
structure PtpDomain where
  /-- Instance running (image configuration loaded). -/
  psA   : PState := .initializing
  psB   : PState := .initializing
  valid : Bool := false
  /-- Filtered offset from master and meanPathDelay, rt. -/
  offset : Int := 0
  mpd    : Int := 0
  /-- neighborRateRatio − 1 in units of 2^−44 (R204). -/
  nrr    : Int := 0
  /-- Consecutive sync intervals with |offset| within VALID_THR (R197). -/
  inWin  : Nat := 0
  parent : Option Announce := none
  parentPort : Nat := 0
  lastSync : Rt := 0
  lastAnn  : Rt := 0
  /-- A two-step Sync waiting for its Follow_Up: (seq, ingress in domain time, correction). -/
  wantFup : Option (Nat × Int × Int) := none
  /-- t1 and t2 of the last Sync (domain time), for the delay measurement. -/
  t1     : Int := 0
  t2     : Int := 0
  /-- Outstanding Delay_Req: (seq, t3). -/
  dreq   : Option (Nat × Int) := none
  /-- By port, outstanding Pdelay_Req: (seq, t1), and its response awaiting a Follow_Up: (t2, t4). -/
  preq   : Tab (Nat × Int) := []
  presp  : Tab (Int × Int) := []
  /-- By port, the previous two-step peer-delay exchange's t3 and t4, for neighborRateRatio. -/
  pPrev  : Tab (Int × Int) := []
  /-- asCapable of PLA and PLB, and Pdelay_Reqs in a row without an answer (R204). -/
  asCap  : BitVec 2 := 0
  lost   : Tab Nat := []
  seqSync : Nat := 0
  seqReq  : Nat := 0
  seqAnn  : Nat := 0
  deriving DecidableEq, Repr

/-- A capture (R217). -/
structure Capture where
  rt     : Rt
  pin    : Nat
  rising : Bool
  deriving DecidableEq, Repr

/-- An alignment slew in progress (R201): Θ at its start, its start, and the limits in force. -/
structure Slew where
  from'  : Int
  start  : Rt
  vmax   : Nat
  acc    : Nat
  deriving DecidableEq, Repr

/-- The TIME region. -/
structure TimeState where
  ring  : TimeBase := {}
  domA  : TimeBase := {}
  domB  : TimeBase := {}
  rtState : RtState := .free
  /-- 0 none, 1 domain A, 2 domain B. -/
  src     : Nat := 0
  aligned : Bool := false
  manual  : Bool := false
  /-- The single step of R193 has been used since POR or SUPPLY. -/
  stepped : Bool := false
  theta   : Int := 0
  theta0  : Int := 0
  slew    : Option Slew := none
  /-- Rates of the last 16 servo updates, newest first (R196). -/
  rates   : List Int := []
  holdAt  : Rt := 0
  /-- Ring time since which PREF has been valid, while it is (R199). -/
  prefAt  : Option Rt := none
  /-- The PREF that this is counted for. -/
  prefFor : Nat := 0
  /-- Ring time of the last servo update (R201). -/
  servoAt : Rt := 0
  /-- Lock (R52): run of good cycles, reports of this cycle. -/
  locked  : Bool := false
  lockRun : Nat := 0
  reported : List Nat := []
  /-- Spare's own lock run and its first RTSYNC (R213, R214). -/
  spareRun : Nat := 0
  /-- d(An) and d(Bn) of the spare's SLOTCFG (R210, R213). -/
  spareCfg : Option (Int × Int) := none
  /-- S_ref − S and S_other − S in rt, as formed in this cycle (R210, R211). -/
  spareRef : Option Int := none
  spareOther : Option Int := none
  rtsyncSeen : Bool := false
  ptpA    : PtpDomain := {}
  ptpB    : PtpDomain := {}
  ptpErrA : Nat := 0
  ptpErrB : Nat := 0
  /-- Registers in force: TIME_RT_CTL, TIME_RT_CTL2, TIME_TRG_CTL; TIME_NODE_DEV. -/
  rtCtl   : W32 := 0
  rtCtl2  : W32 := 0
  trgCtl  : W32 := 0
  nodeDev : W32 := 0
  caps    : List Capture := []
  capOvf  : Nat := 0
  capHi   : W32 := 0
  capSrc  : W32 := 0
  /-- PPS outputs currently high, per pin: the ring time of the rising edge (R217). -/
  pps     : Tab Rt := []
  deriving DecidableEq, Repr

/-- What the image fixes for the time region (R221, R222). -/
structure ImgTime where
  rtCtl  : W32 := 0
  rtCtl2 : W32 := 0
  trgCtl : W32 := 0
  domA   : W32 := 0
  domB   : W32 := 0
  latA   : W32 := 0
  latB   : W32 := 0
  asym   : W32 := 0
  /-- The image rate of ring time in FREE (R196). -/
  rate   : Int := 0
  own    : Announce := {}
  deriving DecidableEq, Repr

end Sys2Proof.Machine
end

