-- ==== Sys2Proof/Machine/Parts/Host.lean ====
section
/-! DEFINITION. Machine/Parts/Host.lean: the host paths' own state and what the chip puts on its pins
(R545 to R575). -/

namespace Sys2Proof.Machine

/-- An access path: PCIe, SPI, or a QMP session of a plant port (R548, R549). -/
inductive Path where
  | pcie | spi | qmp (port session : Nat)
  deriving DecidableEq, Repr

/-- HOSTIF_PORTID (R574). -/
def Path.code : Path → Nat
  | .pcie => 0 | .spi => 1 | .qmp _ _ => 2

/-- Host-port number of an event (R561). -/
def Path.ev : Path → Nat
  | .pcie => 0 | .spi => 1 | .qmp p _ => 2 + p

/-- Key of the path's own copies (R549). -/
def Path.key : Path → Nat
  | .pcie => 0 | .spi => 1 | .qmp p k => 2 + 16 * p + k

/-- A pending guarded value (R553). -/
structure Guarded where
  addr : Nat
  val  : W32
  at'  : Rt
  deriving DecidableEq, Repr

/-- A staged write (R554): value, path and Apply class (true: epoch). -/
structure Staged where
  val   : W32
  path  : Path
  epoch : Bool := false
  /-- Ring time at which it reached HOSTIF (R664). -/
  at'   : Rt := 0
  /-- The high word of a pair staged as one unit (R559). -/
  hi    : Option W32 := none
  deriving DecidableEq, Repr

/-- A posted write of a slow-domain block (R552): offset in BAR0, absent for a WG command that already
acted. -/
structure Posted where
  write : Option (Nat × W32)
  path  : Path
  deriving DecidableEq, Repr

/-- Event-log shadow registers of a path (R565). -/
structure Shadow where
  rthi : W32 := 0
  info : W32 := 0
  detail : W32 := 0
  deriving DecidableEq, Repr

/-- An SPI transaction in progress (R546, R547). -/
inductive SpiTx where
  | idle | write (addr : Nat) | read (addr : Nat) | other
  deriving DecidableEq, Repr

/-- A QMP response (R568): status, and the words it carries. -/
structure QmpResp where
  type   : Nat
  status : Nat
  vals   : List W32 := []
  deriving DecidableEq, Repr

/-- A QMP request as received (R567): `tag` covers the header and the payload. -/
structure QmpMsg where
  /-- 0 PLA, 1 PLB. -/
  port    : Nat
  ver     : Nat
  keyId   : Nat
  session : Nat
  seq     : W32
  payload : List Byte := []
  tag     : List Byte
  deriving DecidableEq, Repr

/-- What a plant-port frame is that is neither PTP nor QMP (R567). -/
inductive PlantFrame where
  | arp | icmp | other
  deriving DecidableEq, Repr

/-- A PCIe configuration request as far as the manual gives it an effect (R545). -/
inductive CfgReq where
  /-- MSI-X enable and function mask. -/
  | msix (enable mask : Bool)
  /-- Entry to, or exit from, D3hot. -/
  | power (d3 : Bool)
  | write (reg : Nat) (w : W32)
  | read (reg : Nat)
  deriving DecidableEq, Repr

/-- A QMP session (R567). -/
structure Session where
  ver   : Nat
  seq   : W32
  last  : QmpResp
  /-- Ring time of the last accepted request. -/
  at'   : Rt
  deriving DecidableEq, Repr

/-- Host interface state. -/
structure HostState where
  guard  : Tab Guarded := []
  gfail  : BitVec 2 := 0
  grsn   : Nat × Nat := (0, 0)
  gcount : Nat := 0
  /-- Staged writes by address: BAR0 offset, or 0x1000_0000 + BAR2 offset. -/
  stage  : Tab Staged := []
  /-- Held low words of pairs (R559), by path key × 2^28 + BAR2 offset. -/
  low    : Tab W32 := []
  posted : Tab Posted := []
  /-- Sticky WDROP of each slow-domain block by page base. -/
  wdrop  : List Nat := []
  shadow : Tab Shadow := []
  /-- Selection registers of each path, by path key × 2^20 + BAR0 offset (R549). -/
  sel    : Tab W32 := []
  view   : Tab ViewCtx := []
  plink  : Bool := false
  pspeed : Nat := 0
  pwidth : Nat := 0
  d3     : Bool := false
  /-- Configuration space double words written. -/
  cfgSpace : Tab W32 := []
  urs    : Nat := 0
  discards : Nat := 0
  spi    : SpiTx := .idle
  spiLate : Bool := false
  spiFrame : Bool := false
  frames : Nat := 0
  lates  : Nat := 0
  /-- QMP sessions, by port × 16 + number. -/
  qmp    : Tab Session := []
  rx     : Nat × Nat := (0, 0)
  auth   : Nat × Nat := (0, 0)
  drop   : Nat × Nat := (0, 0)
  /-- Requests in the present second of each plant port, and its start (R567). -/
  rate   : Tab (Rt × Nat) := []
  deriving DecidableEq, Repr

/-- The frame types of R145. -/
inductive FrameKind where
  | sense | drive | claim
  deriving DecidableEq, Repr

/-- A head-to-node safety record (R152, R501): position, SCNT, torque and brake bits, SF_WD, ECHO, and the connection
identifier, which enters the CRC alone. -/
structure SafetyOut where
  pos    : Nat
  scnt   : W16
  torque : Nat
  brake  : Nat
  wd     : Nat
  echo   : W16
  conn   : W32
  deriving DecidableEq, Repr

/-- A ring frame that the chip launches at one port, field by field; its bytes on the wire are `FrameOut.bytes` (R141 to
R152). -/
structure FrameOut where
  seg    : Nat
  /-- 0 launched at An, 1 at Bn (R145). -/
  ring   : Nat := 0
  kind   : FrameKind
  cycle  : W32
  /-- Mode in force, and CTL[1:0] with CDN (R145, R146). -/
  inForce : Nat := 0
  phase  : Nat := 0
  cdn    : Nat := 0
  /-- Pending mode change: target, c_eff and, at c_eff − 1, COMMIT with the confirmed map or ABORT. -/
  mode   : Option (Nat × W32) := none
  commit : Option (Option (BitVec 48)) := none
  /-- Announced global operation (R80). -/
  gop    : Option Nat := none
  /-- The role record of a sense or claim frame (R113, R171). -/
  role   : Option RoleRec := none
  /-- Placeholders of a sense frame (R144). -/
  holders : Nat := 0
  /-- DST and content of each drive record (R151). -/
  recs   : List (Nat × Drive) := []
  safety : List SafetyOut := []
  /-- Bytes left free at the start of the area for an IDENT record (R173). -/
  gap    : Nat := 0
  mbx    : List DownRec := []
  deriving DecidableEq, Repr

/-- What the last command put on the chip's pins and links. -/
inductive Output where
  | data (path : Path) (w : W32)
  | unsupported
  | spiByte (b : Nat)
  | qmp (port : Nat) (r : QmpResp)
  | arp (port : Nat)
  | icmp (port : Nat)
  | ptp (m : PtpTx)
  | frame (f : FrameOut)
  | pps (pin : Nat) (level : Bool)
  /-- The SSI clock of a channel starts at a time of the pin driver (R251). -/
  | ssiClock (ch : Nat) (t : Rt)
  | share (pin : Nat)
  | actuate (cycle : W32)
  deriving DecidableEq, Repr

/-- The length in double words of a memory read of the PCIe host, and whether every byte of it is enabled (R545). -/
structure PcieRead where
  n  : Nat
  be : Bool
  deriving DecidableEq, Repr

end Sys2Proof.Machine
end

