-- ==== Sys2Proof/Machine/Parts/AxisCfg.lean ====
section
/-! DEFINITION. Machine/Parts/AxisCfg.lean: the named fields of an axis's configuration area. A gain
written with a shift is two fields, the second with the suffix Sh (R264, R560). -/

namespace Sys2Proof.Machine

/-- Field names of the configuration area (R227, R266, R290, R300, R345, R400, R439, R481). -/
inductive Cf where
  -- R227
  | fbcSrc | fbcInterp | fbcMaxstep | fbcReact | fbcBad | fbcCpr | fbcIdxtol
  -- R266
  | cmtSrc | cmtPp | cmtCpr | cmtDir | cmtOffref | cmtThoff | cmtRebtol | cmtKomega | cmtNph
  | cmtIsumThr | cmtIsumN | cmtImax | cmtUdcmin | cmtBrkOn | cmtBrkFull | cmtMod | cmtOvm | cmtMlim
  | cmtTdt | cmtIdz | cmtDtsrc | cmtDmin | cmtPwmn
  | cmtAlnI | cmtAlnRamp | cmtAlnHold | cmtAlnStill | cmtAlnStol | cmtAlnTol
  -- R276, R277
  | kpD | kpDSh | kpQ | kpQSh | kiD | kiDSh | kiQ | kiQSh | kwD | kwDSh | kwQ | kwQSh | ke | keSh
  -- R290
  | crvSrc | crvX0 | crvX1 | crvX2 | crvX3 | crvX4 | crvX5 | crvX6 | crvX7
  | crvN0 | crvN1 | crvN2 | crvN3 | crvN4 | crvN5 | crvN6 | crvN7
  | crvXon | crvXoff | crvTonmin | crvToffmin | crvDec
  -- R300
  | obsKr | obsKrSh | obsKl | obsKlSh | obsKf | obsKtau | obsKtauSh | obsKw | obsKwSh
  | obsKp | obsKpSh | obsKi | obsKiSh | obsWmin | obsEpsmax | obsRlo | obsRhi | obsClock | obsClose
  | obsHold | obsHoldIq | obsInh | obsPrbG | obsPrbImin | obsPrbTol | obsWcatch | obsStI | obsStAln
  | obsStAcc | obsWHandoff | obsStTmo | obsMerge | obsSliptol | obsRetryN | obsRetryWait
  | keChk | keLo | keHi | keReact
  -- R345
  | lawProg | lawMode | lawPaired | kpp | kppSh | kvff | kvffSh | plEsh | kpW | kpWSh | kiW | kiWSh
  | kaff | kaffSh | lawIqmax | lawIdref | knmax | knmaxSh | feMax | feReact | gdReact
  | gdVmax | gdAmax | gdJmax | gdN | dgVmax | dgIq | divS | divP | divPhi
  -- R353
  -- R400: the section count, FLT_SH and five coefficients of each section
  | fltN | fltSh
  | fltB00 | fltB01 | fltB02 | fltA01 | fltA02 | fltB10 | fltB11 | fltB12 | fltA11 | fltA12
  | fltB20 | fltB21 | fltB22 | fltA21 | fltA22 | fltB30 | fltB31 | fltB32 | fltA31 | fltA32
  | dspPrio
  -- R439
  | prUnit | prVmax | prAmax | prJmax | ofsVmax | ofsAmax | ofsJmax | prOrg0 | slimEn | slimNeg | slimPos
  | limNegIn | limPosIn | limPol | hmPol | limReact | mlostReact | grMsrc | grDen | prLeadk
  | hmSw | hmDir | hmVfast | hmVslow | hmMaxdist | hmOfs | hmGo0
  | safeVlim | safeDtol | safeDir | safePosref | safePwin | safeCmd | safeVsp
  deriving DecidableEq, Repr

/-- Field values of an axis; an absent field is 0. -/
abbrev CfgVals := List (Cf × Int)

end Sys2Proof.Machine
end

