-- ==== Sys2Proof/Machine/Parts/Boot.lean ====
section
/-! DEFINITION. Machine/Parts/Boot.lean: boot, resets, low-power states, the flash and the ledger (R576 to
R608). -/

namespace Sys2Proof.Machine

/-- Boot states, codes of R577. -/
inductive BootSt where
  | reset | shell | ledger | image | apply | running | bootfail
  deriving DecidableEq, Repr

/-- BOOT_STAT.STATE. -/
def BootSt.code : BootSt → Nat
  | .reset => 0 | .shell => 1 | .ledger => 2 | .image => 3 | .apply => 4 | .running => 5 | .bootfail => 6

/-- Reset kinds in table order (R596). -/
inductive ResetKind where
  | por | supply | pin | watchdog | host | escalation
  deriving DecidableEq, Repr

/-- BOOT_CAUSE.KIND. -/
def ResetKind.code : ResetKind → Nat
  | .por => 0 | .supply => 1 | .pin => 2 | .watchdog => 3 | .host => 4 | .escalation => 5

/-- Low-power states, codes of BOOT_LP (R598). -/
inductive LpState where
  | run | parked | standby | waking
  deriving DecidableEq, Repr

/-- BOOT_LP.STATE. -/
def LpState.code : LpState → Nat
  | .run => 0 | .parked => 1 | .standby => 2 | .waking => 3

/-- A directory entry of an image (R581). -/
structure ImgSection where
  type  : Nat
  optional : Bool := false
  wake  : Bool := false
  off   : Nat
  len   : Nat
  scrc  : W32 := 0
  /-- The section's CRC-32C holds over the bytes read. -/
  crcOk : Bool := true
  deriving DecidableEq, Repr

/-- An image copy as the boot loader finds it in the flash (R580 to R584). -/
structure ImgHead where
  magic  : W32 := 0x5146494D
  hcrcOk : Bool := true
  fmtMaj : Nat := 1
  fmtMin : Nat := 0
  length : Nat := 64
  gen    : W32 := 0
  inst   : BitVec 64 := 0
  chk    : W32 := 0
  revMin : Nat := 0
  revMax : Nat := 255
  nsec   : Nat := 1
  libRev : BitVec 16 := 0
  secs   : List ImgSection := []
  /-- CRC-32 of R147 over the stream with bytes 24 to 27 taken as 0 (R582). -/
  crc    : W32 := 0
  /-- Byte offset of the first loaded value out of its bound (R584 row 0x8). -/
  badValue : Option Nat := none
  /-- Byte offset of a read failure (R584 row 0x9). -/
  readFail : Option Nat := none
  deriving DecidableEq, Repr

/-- A permitted lining target with its bounds (R581 LINLIST), as signed values. -/
structure LinBound where
  tgt : W32
  lo  : Int
  hi  : Int
  deriving DecidableEq, Repr

/-- A lining entry (R591, R592). -/
structure LinEntry where
  tgt  : W32
  val  : W32
  inst : BitVec 64
  deriving DecidableEq, Repr

/-- A pending boot-class write (R595): a lining entry, or the value of a register by its BAR0 offset. -/
inductive PendWrite where
  | lin (e : LinEntry)
  | reg (addr : Nat) (val : W32)
  deriving DecidableEq, Repr

/-- Lifetime counters of the ledger (R592). -/
structure Lifetime where
  powered  : Nat := 0
  standby  : Nat := 0
  /-- Resets of each kind, by code. -/
  resets   : Tab Nat := []
  hot      : Nat := 0
  /-- Highest Tj, signed, 1/16 °C; absent before the first report. -/
  tjMax    : Option Int := none
  warnings : Nat := 0
  braces   : Nat := 0
  errors   : Nat := 0
  bootsA   : Nat := 0
  bootsB   : Nat := 0
  deriving DecidableEq, Repr

/-- The ledger (R592): its regions as data, and the host area byte by byte. -/
structure Ledger where
  lining  : List LinEntry := []
  pending : List PendWrite := []
  /-- Confirmation record of R482: the check value, count and epoch, absent before the first. -/
  conf    : Option (W32 × Nat × Nat) := none
  life    : Lifetime := {}
  /-- Index drift, 1,024 entries of each channel in the order of their places, and the place of the next one (R243). -/
  drift   : Tab (List (W32 × W32)) := []
  driftAt : Tab Nat := []
  /-- Fault history as bytes of the region, unlisted bytes 0; next index and records written. -/
  fh      : List Host.Cell := []
  fhNext  : Nat := 0
  fhN     : Nat := 0
  /-- Field-return region as bytes; next record index, held, sequence, indices of trigger 7. -/
  fr      : List Host.Cell := []
  frNext  : Nat := 0
  frSeq   : Nat := 0
  frHeld  : List Nat := []
  frKeep  : List Nat := []
  tested  : Bool := false
  host    : List Host.Cell := []
  deriving DecidableEq, Repr

/-- The LEDGER block's registers and state (R606, R607). -/
structure LedgerState where
  led     : Ledger := {}
  ready   : Bool := false
  badDir  : Bool := false
  areaErr : Bool := false
  reason  : Nat := 0
  addr    : Nat := 0
  linTgt  : W32 := 0
  linVal  : W32 := 0
  applied : Nat := 0
  skipped : Nat := 0
  errCor  : Nat := 0
  errUnc  : Nat := 0
  scrub   : Nat := 0
  deriving DecidableEq, Repr

/-- Factory calibration that the shell holds for this part (R587), by timestamped pin, TRG_IO output, SSI clock output and ADC input
(channel × 2 + input). The manual gives neither its layout nor its units: latencies are in 1/256 rt, temperature coefficients in
1/256 rt per °C, ADC offsets in Q15 and gains in UQ1.15 (DESIGN CHOICE, log entry 1). -/
structure ShellCal where
  /-- Input latency at 25 °C and its temperature coefficient (R216). -/
  pin : Tab (Int × Int) := []
  /-- Output latency (R217). -/
  out : Tab Int := []
  /-- Output latency of the SSI clock (R251). -/
  ssi : Tab Int := []
  /-- Offset and gain (R247). -/
  adc : Tab (Int × Int) := []
  deriving DecidableEq, Repr

/-- The boot loader, resets and low-power states. -/
structure BootState where
  st      : BootSt := .reset
  /-- A reset is asserted. -/
  held    : Bool := true
  strap   : Nat := 0
  kind    : ResetKind := .por
  also    : Nat := 0
  detail  : Nat := 0
  /-- Straps as the pins stand (R576): STRAP_BOOT and STRAP_QSPIS. -/
  copyB   : Bool := false
  fallback : Bool := false
  /-- The copy streamed and rejected first. -/
  tried   : Option Bool := none
  rejA    : Nat × Nat := (0, 0)
  rejB    : Nat × Nat := (0, 0)
  failRsn : Nat := 0
  reason  : Nat := 0
  shell2  : Bool := false
  shellBad : Bool := false
  pendFull : Bool := false
  head    : ImgHead := {}
  /-- Raw ring-time count at the release, and BOOT_TIME. -/
  relAt   : BitVec 64 := 0
  time    : W32 := 0
  lp      : LpState := .run
  /-- Low-power command waiting for the boundary (R598), its target. -/
  lpDue   : Option LpState := none
  /-- Ring time PARKED was entered (R515). -/
  parkAt  : Rt := 0
  /-- Cycle of an accepted STANDBY (R599). -/
  standbyAt : Option W32 := none
  shellAddr : Nat := 0
  qspiAddr  : Nat := 0
  page    : Tab W32 := []
  /-- Flash operation running: erase (true) or program, and its address (R586). -/
  qop     : Option (Bool × Nat) := none
  /-- The port that issued it. -/
  qport   : Nat := 0
  /-- Due time of an accepted HOST_RESET (R596). -/
  hostDue : Option Rt := none
  /-- External flash; unlisted bytes read 0xFF. -/
  flash   : List Host.Cell := []
  /-- Shell storage, 8 KiB; unlisted bytes read 0. -/
  shell   : List Host.Cell := []
  uid     : BitVec 64 := 0
  /-- Grade in the shell (R3): 1 QF256-IE, 2 QF256-IL. The manual says of no one part which it is: State.reset holds 1 (DESIGN
  CHOICE, log entry 1). -/
  grade   : Nat := 1
  burnin  : Bool := false
  cal     : ShellCal := {}
  /-- Preferred copy in force (BOOT_PREF). -/
  pref    : Nat := 0
  /-- A maker test mode has been entered: left only through a POR (R630). -/
  maker   : Bool := false
  /-- Flash operations that a reset stopped: erase (true) or program, and the address (R602). -/
  torn    : List (Bool × Nat) := []
  /-- A field-return record was written in LEDGER; its event follows EV_BOOT_DONE (R628). -/
  frDue   : Bool := false
  deriving DecidableEq, Repr

end Sys2Proof.Machine
end

