-- ==== Sys2Proof/Machine/Parts/Cuff.lean ====
section
/-! DEFINITION. Machine/Parts/Cuff.lean: Cuff channels and remote feedback decoders (R225 to R262). -/

namespace Sys2Proof.Machine

/-- A level change of one digital line, accepted by the filter at one sample (R229, R230). -/
structure LineChange where
  /-- 0 A, 1 B, 2 Z. -/
  line  : Nat
  level : Bool
  /-- TDC timestamp of the pin transition. -/
  stamp : Rt
  deriving DecidableEq, Repr

/-- Speed measurement of a channel (R235 to R239). -/
structure SpeedSt where
  dir  : Int := 0
  band : Nat := 0
  k    : Nat := 0
  tRef : Rt := 0
  tLast : Rt := 0
  tR   : Rt := 0
  /-- v of the last S, Q15.16 counts per cycle. -/
  v    : Int := 0
  /-- Cycles without a timed edge, saturating at 256. -/
  idle : Nat := 256
  zero : Bool := false
  vsat : Bool := false
  deriving DecidableEq, Repr

/-- Index drift check (R242, R243). -/
structure DriftSt where
  e      : W32 := 0
  idxref : Bool := false
  dev    : Int := 0
  /-- EV_IDX_MISSING has been raised since the last index. -/
  missing : Bool := false
  deriving DecidableEq, Repr

/-- A latch FIFO entry (R254); `wait` marks one whose source's next conversion is still to come. -/
structure LatchEntry where
  pos  : W32
  rt   : Rt
  susp : Bool
  wait : Bool := false
  deriving DecidableEq, Repr

/-- One Cuff channel (R225 to R261). -/
structure Chan where
  cfg   : W32 := 0
  cfg2  : W32 := 0
  cpr   : W32 := 0
  idxtol : W32 := 0
  win   : W32 := 0
  lin   : W32 := 0
  lin2  : W32 := 0
  /-- Filtered levels. -/
  a : Bool := false
  b : Bool := false
  z : Bool := false
  l : Bool := false
  /-- The running count (coarse count for sin/cos) and the count at the last S (R230). -/
  n   : W32 := 0
  nS  : W32 := 0
  /-- The reported position at the last S, CUFF_COUNT, whether the configuration in force has formed one, and the one that it
  formed at the S before (R238, R239). -/
  pos : W32 := 0
  formed : Bool := false
  posPrev : Option W32 := none
  /-- TYPE has changed at the last S, whose count belongs to the old configuration (R256). -/
  fresh : Bool := false
  /-- Edges stamped at or after the last S, and those of the cycle before it, oldest first: step and time. -/
  edges : List (Int × Rt) := []
  past  : List (Int × Rt) := []
  sp    : SpeedSt := {}
  /-- Last edge before S (R255), once there is one. -/
  lastEdge : Option Rt := none
  edgeS : Bool := false
  drift : DriftSt := {}
  /-- The last index latch, and the last one of an index before S (R255). -/
  idxLatch : W32 := 0
  idxLatchS : W32 := 0
  /-- Sticky flags [7:0] of CUFF_FLAGS, the flags that occurred in the cycle of the last S, and
  those since (R255). -/
  flags : BitVec 8 := 0
  occS  : BitVec 8 := 0
  occ   : BitVec 8 := 0
  idxS  : Bool := false
  idxNew : Bool := false
  suspect : Bool := false
  linef   : Bool := false
  fineoff : Bool := false
  /-- A bad cycle since the last S (R245), and in the cycle of the last S. -/
  bad   : Bool := false
  badS  : Bool := false
  errDbl  : Nat := 0
  errAnom : Nat := 0
  glitch  : W32 := 0
  /-- Last conversion at S, corrected (s, c), the amplitude at S and the lowest of the last cycle. -/
  scS   : Int × Int := (0, 0)
  ampS  : Nat := 0
  ampMin : Nat := 0xFFFF
  ampLow : Nat := 0
  /-- The conversion at S fell outside the window. -/
  winS  : Bool := false
  /-- The last four positions formed at a conversion, with their times, oldest first (R254, R458). -/
  conv  : List (W32 × Rt) := []
  /-- Resolver: turns, and the position (turns and angle) at the last two peaks with their times (R250). -/
  turns : Int := 0
  peaks : List (Int × Rt) := []
  /-- SSI: last raw word once one was read (R251), a transfer in progress with the CUFF_CFG2 it began with, a configuration change
  since the last transfer began, and a read error that no good read has followed (R246). -/
  ssiRaw : Option Nat := none
  ssiBusy : Bool := false
  ssiCfg : W32 := 0
  ssiNew : Bool := false
  ssiErr : Bool := false
  latch : List LatchEntry := []
  latchT : Rt := 0
  latchStat : Bool × Bool := (false, false)
  latchOvf  : Nat := 0
  /-- Epoch statistics: running (max |dev|, index events) and the last completed epoch (R243, R260). -/
  epMax : Nat := 0
  epN   : Nat := 0
  lastMax : Nat := 0
  lastN   : Nat := 0
  deriving DecidableEq, Repr

/-- A remote feedback source of an axis (R238, R244 to R246, R249, R250, R253). -/
structure RemoteFb where
  /-- Reference pair (n_r, t_r) of R238 and the sign of its last difference. -/
  ref  : Option (W32 × Rt) := none
  sign : Int := 0
  v    : Int := 0
  n    : Option W32 := none
  tR   : Rt := 0
  tEdge : Int := 0
  idle : Nat := 256
  dblBase : Option Nat := none
  drift : DriftSt := {}
  idxLatch : W32 := 0
  flags : BitVec 8 := 0
  suspect : Bool := false
  linef   : Bool := false
  fineoff : Bool := false
  /-- Tracked angle of records 0x22 and 0x23: periods or turns, last angle UQ0.16, last step. -/
  turns : Int := 0
  theta : Option Nat := none
  step  : Int := 0
  /-- Cycles missed since the last new pair (R249). -/
  gap   : Nat := 0
  deriving DecidableEq, Repr

/-- Feedback of an axis, whatever its source (R245, R255). -/
structure AxisFb where
  remote : RemoteFb := {}
  /-- FB_POS of the last completed FEEDBACK task and its cycle (R245). -/
  last   : Option (W32 × W32) := none
  badRun : Nat := 0
  deriving DecidableEq, Repr

/-- The Cuff block. -/
structure CuffState where
  chan    : Tab Chan := []
  axis    : Tab AxisFb := []
  cfgref  : BitVec 16 := 0
  /-- CUFF_RFD_ERR of each segment: doubles, other anomalies (R260). -/
  rfdDbl  : Tab Nat := []
  rfdAnom : Tab Nat := []
  deriving DecidableEq, Repr

/-- Where an axis's feedback comes from (R226, R227); FBC_SRC may change it. -/
inductive FbSource where
  | channel (n : Nat)
  /-- Remote records of the axis's node: record type 0x21, 0x22 or 0x23. -/
  | remote (rtype : Nat)
  deriving DecidableEq, Repr

/-- Image values of a Cuff channel. -/
structure ImgChan where
  cfg    : W32 := 0
  cfg2   : W32 := 0
  cpr    : W32 := 0
  idxtol : W32 := 0
  win    : W32 := 0
  lin    : W32 := 0
  lin2   : W32 := 0
  deriving DecidableEq, Repr

end Sys2Proof.Machine
end

