-- ==== Sys2Proof/Machine/Parts/Gs.lean ====
section
/-! DEFINITION. Machine/Parts/Gs.lean: the Gauntlet safety island and its parameters (R474 to R519). -/

namespace Sys2Proof.Machine

/-- Global states, codes of R477. -/
inductive GsGlobal where
  | boot | checkFail | unconfirmed | safe | run | lost | test
  deriving DecidableEq, Repr

/-- GAUNTLET_STAT.STATE. -/
def GsGlobal.code : GsGlobal → Nat
  | .boot => 0 | .checkFail => 1 | .unconfirmed => 2 | .safe => 3 | .run => 4 | .lost => 5 | .test => 6

/-- Parameters of a safe input (R483). -/
structure ImgSin where
  type : Nat := 0
  filt : Nat := 1
  disc : Nat := 1
  deriving DecidableEq, Repr

/-- Parameters of a group (R488); an absent input is none. -/
structure ImgGroup where
  stopIn : Option Nat := none
  stopSs1 : Bool := false
  slsIn : Option Nat := none
  sosIn : Option Nat := none
  sdiIn : Option Nat := none
  rstIn : Option Nat := none
  stoMask : Nat := 0
  auto : Bool := false
  hostReq : Bool := false
  deriving DecidableEq, Repr

/-- Parameters of a SOUT pair (R479, R507): use 0 none, 1 STO, 2 SBC. -/
structure ImgSout where
  use : Nat := 0
  tpp : Nat := 100
  tpw : Nat := 500
  deriving DecidableEq, Repr

/-- Safety fields of an axis (R481). -/
structure ImgSafe where
  group : Option Nat := none
  enSls : Bool := false
  enSos : Bool := false
  enSdi : Bool := false
  enSbc : Bool := false
  vmax  : Int := 0
  ss1T  : Nat := 1000
  ss1Zero : Int := 0
  ss1Tol : Int := 0
  slsV  : Int := 0
  slsT  : Nat := 1
  slsSs1 : Bool := false
  sosV  : Int := 0
  sosW  : Nat := 1
  sosT  : Nat := 1
  sdiDir : Int := 1
  sdiTol : Int := 0
  sbcSrc : Nat := 0
  sbcT  : Nat := 0
  fltReact : Nat := 1
  nwin  : Nat := 1
  v2tol : Int := 0
  dgVlim : Int := 0
  degT  : Nat := 1
  degN  : Nat := 1
  deriving DecidableEq, Repr

/-- The safety parameter block of the image (R479, R480). -/
structure ImgGs where
  block  : List Byte := []
  schk   : W32 := 0
  confIn : Nat := 0
  sin    : Tab ImgSin := []
  group  : Tab ImgGroup := []
  sout   : Tab ImgSout := []
  axis   : Tab ImgSafe := []
  deriving DecidableEq, Repr

/-- A safe input (R484 to R486). -/
structure GsIn where
  a : Bool := false
  b : Bool := false
  tA : Rt := 0
  tB : Rt := 0
  demand : Bool := false
  /-- The input was in demand until this time. -/
  demandEnd : Option Rt := none
  /-- Start of the disagreement that the discrepancy timer measures. -/
  timer : Option Rt := none
  disc  : Bool := false
  rstF  : Bool := false
  riseA : Option Rt := none
  riseB : Option Rt := none
  fallA : Option Rt := none
  fallB : Option Rt := none
  deriving DecidableEq, Repr

/-- A SOUT pair (R506 to R508): `step` 0 off, 1 to 3 switching on, 4 on. -/
structure GsOut where
  step  : Nat := 0
  rbh   : Bool := false
  rbl   : Bool := false
  fault : Bool := false
  deriving DecidableEq, Repr

/-- A group (R487 to R489). -/
structure GsGroup where
  /-- Released by a reset edge since BOOT. -/
  released : Bool := false
  /-- Latched stop: 0 none, 1 SS1, 2 STO. -/
  stop  : Nat := 0
  cause : Nat := 0xF
  /-- Latched in STO by a fault (R504, R508). -/
  fault : Bool := false
  sls   : Bool := false
  sos   : Bool := false
  sdi   : Bool := false
  /-- Host demand: 0 none, 1 SS1, 2 STO, and when it was last withdrawn (R513). -/
  host  : Nat := 0
  hostEnd : Option Rt := none
  /-- A valid reset edge waits for the next evaluation. -/
  edge  : Bool := false
  deriving DecidableEq, Repr

/-- The SAFE_ words of an axis (R476, R492). -/
structure SafeWords where
  cmd  : Nat := 0
  vsp  : Int := 0
  vlim : Int := 0
  dtol : Int := 0
  dir  : Int := 0
  posref : Int := 0
  pwin : Int := 0x7FFF_FFFF
  deriving DecidableEq, Repr

/-- The Gauntlet's view of an axis. -/
structure GsAxis where
  /-- Stop of the axis: 0 none, 1 SS1, 2 STO. -/
  stop  : Nat := 0
  cause : Nat := 0
  /-- STO waits for the brake until this time (R495). -/
  sbcDue : Option Rt := none
  /-- FB_POS held under the brake. -/
  sbcRef : Int := 0
  t     : Nat := 0
  v0    : Int := 0
  zeroRun : Nat := 0
  /-- A host OPEN took effect while SS1 was in progress (R512). -/
  hostOpen : Bool := false
  sls   : Option (Int × Nat) := none
  /-- SOS: cycles since entry, and the latched position. -/
  sos   : Option (Nat × Option Int) := none
  sdi   : Bool := false
  spdUnk : Bool := false
  /-- Degraded cause bits: SUSP, KE, FE, GD, MLOST, LIM (R499). -/
  deg   : Nat := 0
  degN  : Nat := 0
  /-- End of DEG_T, while it runs. -/
  degDue : Option Rt := none
  /-- Immediate expiry (R500). -/
  degNow : Bool := false
  feQuiet : Nat := 0
  gdQuiet : Nat := 0
  stale : Nat := 0
  hist  : List W32 := []
  /-- Cause of a fault reaction to apply at the next evaluation (R498, R503). -/
  react : Option Nat := none
  words : SafeWords := {}
  next  : SafeWords := {}
  deriving DecidableEq, Repr

/-- The Gauntlet's view of a node (R501 to R504), by segment × 64 + position. -/
structure GsNode where
  scnt   : W16 := 0
  seen   : Bool := false
  /-- A record was accepted in the current cycle. -/
  got    : Bool := false
  missed : Nat := 0
  reject : Nat := 0
  /-- The watchdog has expired. -/
  dead   : Bool := false
  head   : W16 := 0
  /-- Cycles since the torque bit of each axis index was cleared, while STO is not yet shown. -/
  wait   : Tab Nat := []
  torque : Nat := 0
  brake  : Nat := 0
  deriving DecidableEq, Repr

/-- The GUARD Gauntlet. -/
structure GsState where
  glob   : GsGlobal := .boot
  /-- End of the confirmation window. -/
  confDue : Option Rt := none
  testFail : Bool := false
  reqReason : Nat := 0
  cchk   : W32 := 0
  confN  : Nat := 0
  confEpoch : Nat := 0
  input  : Tab GsIn := []
  out    : Tab GsOut := []
  group  : Tab GsGroup := []
  axis   : Tab GsAxis := []
  node   : Tab GsNode := []
  last   : W32 := 0
  viol   : Nat := 0
  wdExp  : Nat := 0
  xcnt   : W32 := 0
  deriving DecidableEq, Repr

end Sys2Proof.Machine
end

