-- ==== Sys2Proof/Machine/Parts/Health.lean ====
section
/-! DEFINITION. Machine/Parts/Health.lean: supplies, temperature, margin, scrubbing counters and the
maintenance manager (R609 to R637). -/

namespace Sys2Proof.Machine

/-- A supply rail (R609, R633). -/
structure Rail where
  mv    : Nat := 0
  /-- Lowest value since CLR_MIN; none before the first measurement. -/
  mvMin : Option Nat := none
  low   : Bool := false
  high  : Bool := false
  stLow : Bool := false
  stHigh : Bool := false
  deriving DecidableEq, Repr

/-- The latch supplied from VDD_IO (R611). -/
structure SupLatch where
  kind  : Nat
  rail  : Nat
  mvMin : Nat
  rt    : Rt
  errs  : List W32
  /-- The ledger write of the record behind an ESCALATION reset was lost (R36). -/
  owed  : Bool := false
  deriving DecidableEq, Repr

/-- Maintenance activities, codes of R636. -/
inductive Act where
  | snapshot | netreset | qspiUpdate | flash | wake | retest | frExport
  deriving DecidableEq, Repr

/-- Activity code. -/
def Act.code : Act → Nat
  | .snapshot => 1 | .netreset => 2 | .qspiUpdate => 3 | .flash => 4 | .wake => 5 | .retest => 6 | .frExport => 7

/-- Lockable resources (R624). -/
inductive Res where
  | ring | mbx | qspi | ledgerFr | block (region index : Nat)
  deriving DecidableEq, Repr

/-- A running activity: block of a RETEST, and the due time of its bound where it has one. -/
structure Activity where
  act   : Act
  port  : Nat := 0
  region : Nat := 0
  block : Nat := 0
  due   : Option Rt := none
  deriving DecidableEq, Repr

/-- The maintenance manager (R624 to R636). -/
structure MaintState where
  iso    : Bool := false
  run    : List Activity := []
  last   : Nat := 0
  result : Nat := 0
  reason : Nat := 0
  holder : Nat := 0
  target : W32 := 0
  /-- MAINT_RETEST_STAT [1:0]. -/
  rstat  : Nat := 0
  /-- Re-tests of each block (region × 64 + index) in this epoch. -/
  count  : Tab Nat := []
  frLost : Nat := 0
  deriving DecidableEq, Repr

/-- HEALTH (R609 to R634). -/
structure HealthState where
  rail   : Tab Rail := []
  sel    : Nat := 0
  braced : Bool := false
  braceAt : Rt := 0
  braceN : Nat := 0
  braceMax : Nat := 0
  /-- Late flow closes in this brace, and LATE. -/
  lateNow : Nat := 0
  late   : W32 := 0
  tj     : Int := 0
  tjMax  : Option Int := none
  /-- Highest Tj since the last field-return record. -/
  tjRec  : Option Int := none
  /-- Lowest value of each rail since the last field-return record. -/
  mvRec  : Tab Nat := []
  twarn  : Bool := false
  thot   : Bool := false
  /-- Tj has reached HIGH and not yet fallen 5 °C below it. -/
  hotLev : Bool := false
  /-- Milliseconds above 105 °C not yet a whole second, and of powered time. -/
  hotMs  : Nat := 0
  ms     : Nat := 0
  sbMs   : Nat := 0
  therm  : W32 := 110
  margin : W32 := 0
  rho    : Nat := 0
  rhoMax : Nat := 0
  /-- Highest ρ of the last epoch. -/
  rhoLast : Nat := 0
  /-- Flows below s_W in the last cycle and in this epoch. -/
  below  : Nat := 0
  belowEp : Nat := 0
  abandon : Tab Nat := []
  scrubCor : Nat := 0
  scrubUnc : Nat := 0
  lost   : W32 := 0
  /-- Ring time of the last heartbeat of the chip error manager and of the supply supervisor. -/
  hbCem  : Rt := 0
  hbSup  : Rt := 0
  latch  : Option SupLatch := none
  deriving DecidableEq, Repr

/-- Image values of HEALTH: HEALTH_THERM_CTL, HEALTH_MARGIN_CTL and the corner-W slack of each flow and
mode, keyed mode × 4 + flow (R581, R620). -/
structure ImgHealth where
  therm  : W32 := 110
  margin : W32 := 0
  proof  : Tab Nat := []
  deriving DecidableEq, Repr

end Sys2Proof.Machine
end

