-- ==== Sys2Proof/Machine/Parts/Image.lean ====
section
/-! DEFINITION. Machine/Parts/Image.lean: the configuration image as the blocks hold it after APPLY (R579 to
R584). -/

namespace Sys2Proof.Machine

/-- An axis of the image. -/
structure ImgAxis where
  seg    : Nat := 0
  pos    : Nat := 0
  /-- Axis index within its node. -/
  idx    : Nat := 0
  source : FbSource := .remote 0x21
  /-- FILTER and OBSERVE tasks assigned (R410). -/
  flt    : Bool := false
  obs    : Bool := false
  /-- The axis uses a profile (R433). -/
  prof   : Bool := true
  /-- Profile unit of the axis. -/
  pu     : Nat := 0
  /-- Proven worst path of the LAW task, beats (R368). -/
  worst  : Nat := 0
  /-- M_miss (R166). -/
  mMiss  : Nat := 1
  cfg    : CfgVals := []
  /-- Words of the configuration area that hold no named field: integrator programs' words, and the copy of
  R481's fields from 0xF40 (R560). -/
  raw    : Tab W32 := []
  deriving DecidableEq, Repr

/-- Place of a field in the configuration area: byte offset of its word, lowest bit, width and whether it
is signed (Epgagen's layout export, R560). -/
structure LayoutEnt where
  off    : Nat
  field  : Cf
  lo     : Nat := 0
  width  : Nat := 32
  signed : Bool := true
  deriving DecidableEq, Repr

/-- The loaded configuration image. -/
structure Image where
  tcyc   : Nat := 125000
  reserve : Nat := 0
  startMode : Nat := 0
  aLead  : Nat := 8
  mode   : Tab ImgMode := []
  seg    : Tab ImgSeg := []
  role   : ImgRole := {}
  sparePos : Tab Nat := []
  time   : ImgTime := {}
  chan   : Tab ImgChan := []
  axis   : Tab ImgAxis := []
  gs     : ImgGs := {}
  health : ImgHealth := {}
  /-- VISOR registers by offset. -/
  visor  : Tab W32 := []
  layout : List LayoutEnt := []
  /-- Offsets of integrator words, and of the words the export marks as held (R32, R341). -/
  intWords : List Nat := []
  heldWords : List Nat := []
  /-- Words of the program stores by place: loop engines (R340) and signal processors (R372). -/
  leProg  : Tab W32 := []
  spProg  : Tab W32 := []
  /-- Loop-engine constant table, words 0 to 511, entry addresses of R340, and the library's. -/
  leConst : Tab W16 := []
  leEntry : List Nat := []
  leLib   : Nat := 0
  /-- Signal-processor constant table, handler vectors by ADC pair, and program entries by task code. -/
  spConst : Tab W24 := []
  spVec   : Tab Nat := []
  spEntry : Tab Nat := []
  /-- SIGPROC_CFG, SIGPROC_HOME and SIGPROC_BACKUP. -/
  spCfg   : W32 := 0
  spHome  : W32 := 0
  spBackup : W32 := 0
  /-- VM_AMAX and VM_JMAX, Q15.16 (R450). -/
  vmAmax : Nat := 0
  vmJmax : Nat := 0
  /-- Worst path of MEASURE at corner W, rt (R419). -/
  measW   : Nat := 0
  /-- Profile tables: entries and descriptors, four words each. -/
  prEntry : Tab W32 := []
  prDesc  : Tab W32 := []
  slackThr : W32 := 0
  /-- LINK_PORT_CTL, LINK_SEG_CTL and other register values by BAR0 offset. -/
  reg    : Tab W32 := []
  route  : Tab W32 := []
  hostCfg : W32 := 0
  qmpCfg : W32 := 0
  key0   : List Byte := []
  key1   : List Byte := []
  lin    : Option (List LinBound) := none
  deriving DecidableEq, Repr

end Sys2Proof.Machine
end

