-- ==== Sys2Proof/Machine/Parts/Obs.lean ====
section
/-! DEFINITION. Machine/Parts/Obs.lean: the observer, catch and start state of an axis (R299 to R328). -/

namespace Sys2Proof.Machine

/-- Sub-states of R308. -/
inductive ObsSub where
  | other | track | hold | idle | inhibit | probe | preset | detect | align | ramp | handoff | wait
  deriving DecidableEq, Repr

/-- Code of R308, COMMUTE_AX_OBS.SUB. -/
def ObsSub.code : ObsSub → Nat
  | .other => 0 | .track => 1 | .hold => 2 | .idle => 3 | .inhibit => 4 | .probe => 5 | .preset => 6
  | .detect => 7 | .align => 8 | .ramp => 9 | .handoff => 10 | .wait => 11

/-- The voltage a cycle applied (R301): (v_α, v_β) in Q15, absent where unknown, with t_U and T_cyc of
the cycle's mode. -/
structure Applied where
  v    : Option (Int × Int)
  tU   : Nat
  tcyc : Nat
  deriving DecidableEq, Repr

/-- Observer state of an axis. EMF, ω̂ and currents are Q0.23; thp is UQ0.24 of a revolution. -/
structure ObsAxis where
  ea   : Int := 0
  eb   : Int := 0
  wh   : Int := 0
  thp  : Int := 0
  iaP  : Int := 0
  ibP  : Int := 0
  mag  : Int := 0
  /-- θ̂ at S, UQ0.16. -/
  theta : Nat := 0
  /-- Confidence C (R304). -/
  conf : Nat := 0
  /-- Length of the run of blind cycles (R303). -/
  blindRun : Nat := 0
  /-- The cycle whose OBSERVE completed last. -/
  seen : Option W32 := none
  /-- ω̂ of the last 16 good cycles, newest first (R318). -/
  good : List Int := []
  /-- Applied voltages, newest first: two are kept. -/
  va   : List Applied := []
  /-- Consecutive cycles without a duties or inhibit record (R301, R179 row 9). -/
  markRun : Nat := 0
  sub  : ObsSub := .other
  /-- Cycles since the sub-state was entered. -/
  cyc  : Nat := 0
  retries : Nat := 0
  dirNeg  : Bool := false
  reason  : Nat := 0
  keLow   : Bool := false
  keHigh  : Bool := false
  ratio   : Nat := 0
  probeR  : Nat := 0
  /-- Currents (i_α, i_β) of the probes of the running sequence, oldest first (R306). -/
  prb  : List (Int × Int) := []
  /-- wp, e_p and the EMF vector of the last evaluated sequence. -/
  wp   : Int := 0
  ep   : Int := 0
  emf  : Int × Int := (0, 0)
  /-- KE_REACT pending for the end of PRESET (R322). -/
  prbReact : Bool := false
  wcmd  : Int := 0
  thcmd : Int := 0
  /-- RAMP has been at handoff speed for this many cycles. -/
  atSpeed : Nat := 0
  /-- The angle in use, where it differs from θ̂ (HOLD, HANDOFF and the moves that follow). -/
  thUse : Option Int := none
  /-- ω_h of R318. -/
  wHold : Int := 0
  /-- OBS_HOLD has expired before the OBSERVE of the cycle (R323). -/
  holdDue : Bool := false
  sk : Int := 0
  se : Int := 0
  keN : Nat := 0
  /-- The last RATIO lay below KE_LO or above KE_HI: an excursion lasts (R322). -/
  outLow  : Bool := false
  outHigh : Bool := false
  deriving DecidableEq, Repr

end Sys2Proof.Machine
end

