-- ==== Sys2Proof/Machine/Parts/Prof.lean ====
section
/-! DEFINITION. Machine/Parts/Prof.lean: profile units, plans, tables, gearing, offsets and homing (R433 to
R473). Positions are counts × 2^16, speeds and accelerations Q15.16, unless a field says otherwise. -/

namespace Sys2Proof.Machine

/-- A phase of a plan (R440): duration UQ32.32 cycles, and jerk. -/
structure Phase where
  tau  : Nat
  jerk : Int
  deriving DecidableEq, Repr

/-- A plan in time (R440): start cycle, initial position and speed, phases, and the stated end. -/
structure Plan where
  c0   : W32
  p0   : Int
  v0   : Int
  phases : List Phase
  /-- Exact end position, where the plan has one (MOVE). -/
  pEnd : Option Int
  vEnd : Int
  deriving DecidableEq, Repr

/-- PR_MODE (R438). -/
inductive PrMode where
  | host | hold | plan | time | cam | gear | homing
  deriving DecidableEq, Repr

/-- Code of R438. -/
def PrMode.code : PrMode → Nat
  | .host => 0 | .hold => 1 | .plan => 2 | .time => 3 | .cam => 4 | .gear => 5 | .homing => 6

/-- A running table (R446): descriptor, p_start, and c_0 (time) or M_e (cam). -/
structure TblRun where
  desc   : Nat
  pStart : Int
  org    : Int
  /-- A further TBL_CAM waiting for the period boundary: descriptor and M_e. -/
  next   : Option (Nat × Int) := none
  ended  : Bool := false
  /-- Period number of the last cycle. -/
  k      : Int := 0
  deriving DecidableEq, Repr

/-- A queued knuckle (R453). -/
structure Knuckle where
  at'  : Int
  num : Int
  lb  : Nat
  dir : Int
  deriving DecidableEq, Repr

/-- Gearing of an axis (R451 to R454). -/
structure Gear where
  m : Int := 0
  f : Int := 0
  n : Int := 0
  r : Nat := 0
  /-- A running blend from `n` to N' over [M, M + L_b]. -/
  blend : Option (Int × Nat) := none
  queue : List Knuckle := []
  mPrev : Int := 0
  g     : Int := 0
  deriving DecidableEq, Repr

/-- Homing states, codes of R471. -/
inductive HmSt where
  | idle | check | seek | brake1 | off | brake2 | appr | brake3 | set | goto | done
  deriving DecidableEq, Repr

/-- HMSTATE. -/
def HmSt.code : HmSt → Nat
  | .idle => 0 | .check => 1 | .seek => 2 | .brake1 => 3 | .off => 4 | .brake2 => 5 | .appr => 6 | .brake3 => 7
  | .set => 8 | .goto => 9 | .done => 10

/-- A switch edge seen by homing: active, time, and the position where it is already known. -/
structure HmEdge where
  active : Bool
  ts     : Rt
  pos    : Option W32
  deriving DecidableEq, Repr

/-- Homing of an axis (R460 to R462). -/
structure Home where
  st     : HmSt := .idle
  method : Nat := 0
  reason : Nat := 0
  /-- A MOVE, VEL, STOP or HOME was received while it runs: it fails in the next task (R462). -/
  abort  : Bool := false
  /-- Ring time of S of the entry cycle, and the base there. -/
  entry  : Rt := 0
  start  : Int := 0
  cap    : W32 := 0
  /-- Newest edges of HM_SW, newest first. -/
  edges  : List HmEdge := []
  deriving DecidableEq, Repr

/-- Profile commands of an axis with latched arguments (R463). -/
inductive PrCmd where
  | move (target : Int)
  | vel (v : Int)
  | stop
  | tblTime (desc : Nat)
  | tblCam (desc : Nat) (me : Int)
  | gearOn (n : Int) (lb : Nat)
  | knuckle (mk n : Int) (lb : Nat)
  | gearOff (lb : Nat)
  | addOfs (d : Int)
  | home (method : Nat)
  | clr
  deriving DecidableEq, Repr

/-- A held result: PR_PIN, PR_NIN, PR_AIN, PR_STAT (R418, R436). -/
structure ProfOut where
  pin  : Int
  nin  : Int
  ain  : Int
  stat : W32
  deriving DecidableEq, Repr

/-- Profile state of an axis. -/
structure ProfAxis where
  mode  : PrMode := .host
  /-- The axis was in AX_RUN or AX_DEGRADED in the last task (R465). -/
  ran   : Bool := false
  base  : Int := 0
  vBase : Int := 0
  aBase : Int := 0
  plan  : Option Plan := none
  /-- VEL or STOP waiting for acceleration 0: the commanded speed (R443). -/
  pendVel : Option Int := none
  /-- The plan is a MOVE whose end has not been reported. -/
  moving : Bool := false
  tbl   : Option TblRun := none
  gear  : Gear := {}
  ofsDone  : Int := 0
  ofsMoves : List Plan := []
  org   : W32 := 0
  homed : Bool := false
  hm    : Home := {}
  sclamp : Bool := false
  tend  : Bool := false
  msusp : Bool := false
  limN  : Bool := false
  limP  : Bool := false
  lead  : Int := 0
  /-- Pending command and the cycle whose task it acts in (R463). -/
  pend  : Option (PrCmd × W32) := none
  held  : Option ProfOut := none
  /-- Last committed speed and acceleration set-points. -/
  nin   : Int := 0
  ain   : Int := 0
  /-- FB_POS at the last two sampling instants, newest first (R458). -/
  hist  : List (Rt × W32) := []
  deriving DecidableEq, Repr

/-- A virtual master (R450). -/
structure Vm where
  plan : Option Plan := none
  /-- Position and speed at rest or at the last evaluation. -/
  pos  : Int := 0
  vel  : Int := 0
  acc  : Int := 0
  pendVel : Option Int := none
  deriving DecidableEq, Repr

/-- A master sample formed by the master stage (R447, R448): 64-bit count, speed, lost, SUSPECT. -/
structure Master where
  count : Int := 0
  raw   : W32 := 0
  seen  : Bool := false
  vel   : Int := 0
  lost  : Bool := false
  susp  : Bool := false
  age   : Nat := 0
  deriving DecidableEq, Repr

/-- A latch input as the profile units see it (R458). -/
structure SwitchIn where
  level : Bool := false
  ts    : Rt := 0
  deriving DecidableEq, Repr

/-- The PROFILE block. -/
structure ProfState where
  iso   : BitVec 4 := 0
  axis  : Tab ProfAxis := []
  vm    : Tab Vm := []
  master : Tab Master := []
  sw    : Tab SwitchIn := []
  /-- Table memory: 16,384 entries and 128 descriptors of four words each; an absent word is 0. -/
  entry : Tab W32 := []
  desc  : Tab W32 := []
  /-- Words written to the addressed entry or descriptor, not yet checked. -/
  stage : Tab W32 := []
  bad   : List Nat := []
  tblImg : Bool := true
  upd   : Bool := false
  /-- Entry or descriptor whose sums are being updated. -/
  updAt : Option (Bool × Nat) := none
  refused : Bool := false
  arg   : Tab W32 := []
  tblAddr : W32 := 0
  cmdStat : W32 := 0
  knCnt : W32 := 0
  mlostCnt : W32 := 0
  load  : Nat := 0
  deriving DecidableEq, Repr

end Sys2Proof.Machine
end

