-- ==== Sys2Proof/Machine/Parts/Sig.lean ====
section
/-! DEFINITION. Machine/Parts/Sig.lean: the signal processors (R372 to R407) and the operands of their
instructions (R376 to R383). -/

namespace Sys2Proof.Machine

/-- FA of R381: load register `reg` (x0, x1, y0, y1) through p`ptr` under UPD. -/
structure SpFetch where
  reg : Nat
  ptr : Nat
  upd : Nat
  deriving DecidableEq, Repr

/-- FB of R381: load a register, or store a part of an accumulator: 0 rounded, 1 m.h, 2 m.l, 3 m.e. -/
inductive SpXfer where
  | load (reg ptr upd : Nat)
  | store (acc ptr upd part : Nat)
  deriving DecidableEq, Repr

/-- A register, or a part of an accumulator, in the move class (R380). -/
inductive SpLoc where
  | reg (i : Nat)
  | acc (m part : Nat)
  deriving DecidableEq, Repr

/-- A data-memory address of the move class: a 14-bit offset, or a pointer with UPD. -/
inductive SpAddr where
  | direct (a : Nat)
  | ptr (p upd : Nat)
  deriving DecidableEq, Repr

/-- Move-class instructions (R380). Special registers are PK_S, PK_C, PK_TL, PK_TH (R390). -/
inductive SpMove where
  | move (dst src : SpLoc)
  | imm (dst : SpLoc) (v : W24)
  | special (dst : Nat) (sr : Nat)
  | ld (dst : SpLoc) (a : SpAddr)
  | st (src : SpLoc) (a : SpAddr)
  deriving DecidableEq, Repr

/-- Immediate or register operand. -/
inductive SpVal where
  | imm (v : W24)
  | reg (i : Nat)
  deriving DecidableEq, Repr

/-- A loop stack entry (R372, R389). -/
structure SpLoop where
  lc : Nat
  lb : Nat
  ln : Nat
  deriving DecidableEq, Repr

/-- What a delayed result writes (R388). -/
inductive SpDst where
  | reg (i : Nat)
  | acc (m : Nat)
  | ptr (k : Nat)
  | ptrBase (k : Nat)
  | modif (k : Nat)
  deriving DecidableEq, Repr

/-- A delayed result: it arrives at the start of an instruction once no slot is left (R388). -/
structure SpPend where
  dst   : SpDst
  val   : A56
  slots : Nat
  deriving DecidableEq, Repr

/-- The flags, live and sticky, with IE (R372). -/
structure SpFlags where
  n  : Bool := false
  z  : Bool := false
  v  : Bool := false
  s  : Bool := false
  hs : Bool := false
  dz : Bool := false
  ie : Bool := true
  deriving DecidableEq, Repr

/-- A signal processor (R372). -/
structure Proc where
  iso   : Bool := false
  /-- Task type code of the running task (R409), absent where none runs. -/
  task  : Option Nat := none
  /-- ADC pair whose handler runs. -/
  hand  : Option Nat := none
  /-- The entry that was the oldest of its pair when the handler was entered (R390). -/
  handPk : Option (Int × Int × Rt) := none
  axis  : Nat := 0
  lastTask : Nat := 0
  /-- x0, x1, y0, y1; m0 to m3; p0 to p7; b0 to b7; n0 to n7. -/
  r     : List W24 := List.replicate 4 0
  m     : List A56 := List.replicate 4 0
  p     : List (BitVec 14) := List.replicate 7 0 ++ [0x1400]
  b     : List (BitVec 14) := List.replicate 7 0 ++ [0x1400]
  nn    : List W24 := List.replicate 8 0
  f     : SpFlags := {}
  ic    : Nat := 0
  ix    : Nat := 0
  loops : List SpLoop := []
  stack : List Nat := []
  spc   : Nat := 0
  ssr   : SpFlags := {}
  pc    : Nat := 0
  pend  : List SpPend := []
  /-- Target of a taken branch whose delay slot is next. -/
  jump  : Option Nat := none
  /-- Data memory written, by word address (R375). -/
  mem   : Tab W24 := []
  buf   : List WEnt := []
  beats : Nat := 0
  /-- A FLT code raised by the instruction just executed. -/
  trap  : Option Nat := none
  tasks : W32 := 0
  total : W32 := 0
  peaks : W32 := 0
  lat   : Nat := 0
  stickyLast : Nat := 0
  hSticky : Bool := false
  eccProg : Nat := 0
  eccData : Nat := 0
  deriving DecidableEq, Repr

/-- The SIGPROC block. -/
structure SigState where
  proc   : Tab Proc := []
  /-- ADC pairs that request PEAK, rising (R391). -/
  req    : List Nat := []
  /-- Beats that the home processor had executed when the pair's request was made (R406). -/
  reqAt  : Tab W32 := []
  /-- Peak FIFO of each ADC pair, oldest first: corrected (s, c) in Q15 and the stamp (R390). -/
  fifo   : Tab (List (Int × Int × Rt)) := []
  satCnt : W32 := 0
  fltCnt : W32 := 0
  fltInfo : W32 := 0
  peakOvf : W32 := 0
  hSat   : W32 := 0
  /-- Pairs on their backup processor (R405). -/
  moved  : BitVec 8 := 0
  /-- Pairs whose handler ended in FLT: a bad cycle until the next reset (R396). -/
  dead   : BitVec 8 := 0
  /-- Pairs whose next accepted peak counts as a tracking error (R396, R405). -/
  lost   : BitVec 8 := 0
  deriving DecidableEq, Repr

end Sys2Proof.Machine
end

