-- ==== Sys2Proof/Machine/Parts/Vis.lean ====
section
/-! DEFINITION. Machine/Parts/Vis.lean: the Visor trigger and acquisition engine (R521 to R543). -/

namespace Sys2Proof.Machine

/-- Visor states, codes of R521. -/
inductive VState where
  | idle | armed | post | wait
  deriving DecidableEq, Repr

/-- VISOR_STAT.STATE. -/
def VState.code : VState → Nat
  | .idle => 0 | .armed => 1 | .post => 2 | .wait => 3

/-- A row (R524, R529): cycle, its S and length, one word per enabled channel. -/
structure VRow where
  cycle : W32
  rtS   : Rt
  len   : Nat
  vals  : List W32
  deriving DecidableEq, Repr

/-- A firing (R525, R527): instant, unit (4 for FORCE), type, from the shared input. -/
structure VFire where
  t      : Rt
  unit   : Nat
  type   : Nat
  shared : Bool := false
  deriving DecidableEq, Repr

/-- A node burst of a record (R536, R537). -/
structure VBurst where
  k     : Nat
  seg   : Nat
  pos   : Nat
  stat  : Nat := 1
  bid   : Nat := 0
  next  : Nat := 0
  started : Bool := false
  data  : List Byte := []
  /-- Cycle the first GRANT is due (c_g), and when it left. -/
  due   : W32
  grant : Option W32 := none
  past  : Bool := false
  gap   : Bool := false
  shifted : Bool := false
  deriving DecidableEq, Repr

/-- A record being filled. -/
structure VFill where
  area   : Nat
  /-- S of the boundary at which the area was armed. -/
  s0     : Rt := 0
  /-- Newest first. -/
  rows   : List VRow := []
  stream : List (Rt × W32) := []
  events : List (Rt × Nat × W32) := []
  evLost : Nat := 0
  evOver : Bool := false
  /-- Firings accepted before POST. -/
  cand   : List VFire := []
  trg    : Option (VFire × W32) := none
  retrig : Nat := 0
  t0     : Bool := false
  missed : Nat := 0
  stopped : Bool := false
  shareLate : Bool := false
  /-- A word of the record was uncorrectable (R541). -/
  memErr : Bool := false
  dead   : Nat := 0
  /-- Bursts requested when the record reached POST (R536). -/
  bursts : List VBurst := []
  asked  : Bool := false
  deriving DecidableEq, Repr

/-- A closed record waiting for its measurement and bursts (R523). -/
structure VRec where
  area  : Nat
  tTrg  : Rt
  cTrg  : W32
  cFirst : W32
  nRows : Nat
  preRows : Nat
  tsrc  : Nat
  ncc   : Nat
  flags : Nat
  dead  : Nat
  missed : Nat
  retrig : Nat
  nStream : Nat
  nEv   : Nat
  nEvLost : Nat
  /-- Byte offset of the burst section in the area. -/
  nbAt  : Nat
  bursts : List VBurst := []
  /-- The measurement task has not ended. -/
  meas  : Bool := false
  deriving DecidableEq, Repr

/-- The VISOR block. -/
structure VisorState where
  st      : VState := .idle
  /-- Registers from 0x004 to 0x17C by offset; an absent one holds its image value. -/
  reg     : Tab W32 := []
  /-- ARM waits for the boundary. -/
  armDue  : Bool := false
  fill    : Option VFill := none
  closed  : List VRec := []
  done    : BitVec 64 := 0
  mem     : List Host.Cell := []
  iso     : Bool := false
  memIso  : Bool := false
  recno   : W32 := 0
  lastRec : W32 := 0
  missed  : W32 := 0
  /-- Firings missed since the previous record. -/
  missSince : Nat := 0
  dead    : W32 := 0
  deadMax : W32 := 0
  /-- End of the coverage of the previous record. -/
  covEnd  : Option Rt := none
  holdoff : Nat := 0
  reason  : Nat := 0
  cfgRef  : Bool := false
  /-- Shared triggers waiting for their output instants, in order, and the last output edge (R534). -/
  shareDue : List Rt := []
  shareLast : Option Rt := none
  /-- Last raise of each event number, and what each type-2 unit has used (R525). -/
  evLast  : Tab Rt := []
  evUsed  : Tab Rt := []
  deriving DecidableEq, Repr

end Sys2Proof.Machine
end

