-- ==== Sys2Proof/Machine/Parts/Core.lean ====
section
/-! DEFINITION. Machine/Parts/Core.lean: all of the chip's state but the event unit and the command
queue, as one record of the parts. -/

namespace Sys2Proof.Machine

/-- The chip but for the event unit. -/
structure Core where
  time   : TimeState := {}
  cycle  : CycleState := {}
  port   : Tab Port := []
  seg    : Tab Segment := []
  slot   : Tab SlotSeg := []
  role   : RoleState := {}
  cuff   : CuffState := {}
  field  : FieldState := {}
  obs    : Tab ObsAxis := []
  obsCnt : W32 := 0
  eng    : EngineState := {}
  sig    : SigState := {}
  disp   : DispState := {}
  prof   : ProfState := {}
  gs     : GsState := {}
  vis    : VisorState := {}
  boot   : BootState := {}
  led    : LedgerState := {}
  health : HealthState := {}
  maint  : MaintState := {}
  err    : ErrState := {}
  host   : HostState := {}
  image  : Image := {}
  /-- Per-cycle words of every axis as last committed (R558). -/
  words  : AxisWords := []
  /-- AX_EVSUM of the running interval (R558). -/
  evsum  : Tab Nat := []
  /-- Configuration areas in force, by axis. -/
  cfg    : Tab CfgVals := []
  /-- Words of the configuration areas that hold no named field, by axis. -/
  raw    : Tab (Tab W32) := []
  /-- Outcomes of the drive slots of the last drive frame, by axis. -/
  dnOut  : Tab Nat := []
  /-- Pin offsets of the lining (R216, R590). -/
  pinOfs : Tab Int := []
  /-- Outputs of the command just executed. -/
  outs   : List Output := []
  /-- Events of the command just executed, oldest first, not yet offered to the event unit. -/
  evq    : List Ev := []
  /-- Entries of the event log that the command just executed lost (R571): index, first free value. -/
  lostLog : List (Nat × Nat) := []
  /-- Free values drawn so far (the model's own field). -/
  freeCtr : Nat := 0
  deriving DecidableEq, Repr

end Sys2Proof.Machine
end

