-- ==== Sys2Proof/Syntax.lean ====
section
/-! DEFINITION. Syntax.lean: the commands of the block, one constructor per row of spec/opcode_table.json, in its order. -/

namespace Sys2Proof

open Machine

/-- A host port with registers of its own: PCIe or SPI (R548). -/
inductive HostPort where
  | pcie | spi
  deriving DecidableEq, Repr

/-- A slow-domain block of R550, by the name of its page. -/
inductive SlowBlock where
  | health | ledger | time | gauntlet
  /-- LINK_PORT of a ring port. -/
  | port (n : Nat)
  deriving DecidableEq, Repr

/-- A command, event or instruction of the block. -/
inductive Instr where
  /-- CYCLE_BOUNDARY, R664: At each sampling instant S_c the chip commits PROFILE results and applies epoch actions, staged writes, the new schedule mode and state commands, then creates the cycle's task chains. -/
  | cycleBoundary
  /-- SENSE_FRAME_LAUNCH, R146: At S + t_sf the head launches the sense frame at both ports of every segment. -/
  | senseFrameLaunch
  /-- SENSE_COPY_RETURN, R101: A returning sense-frame copy arrives at a head port; its return time is measured and any Finzo 1 placeholders it carries are checked. -/
  | senseCopyReturn (seg : Nat) (ring : Nat) (t : Int) (good : Bool) (recs : List (List Byte)) (area : List Byte) (hop : Nat)
  /-- SENSE_RETURN_DEADLINE, R101: A sense copy has not returned by its deadline; after two consecutive misses the ring opens and the break is placed. -/
  | senseReturnDeadline (seg : Nat) (r : ReturnDue)
  /-- RING_CLOSE, R105: After 16 consecutive returns an open ring closes, EV_RING_CLOSED is raised and delay measurement resumes. -/
  | ringClose (seg : Nat) (ring : Nat)
  /-- UPLINK_RUN_RECEIVED, R157: A received uplink run is timestamped, attributed to a slot and banded; its records are checked, and corrections or OUTSLOT and MERGED counts follow. -/
  | uplinkRunReceived (r : UplinkRun)
  /-- RT_LOCK_GAINED, R212: After 256 consecutive in-window cycles ring time becomes locked and EV_RT_LOCKED is raised. -/
  | rtLockGained
  /-- SLOT_MEAN_UPDATE, R160: Every 16 cycles the filtered arrival error of each slot is compared with CORR_THR, and a SLOTADJ is sent where needed. -/
  | slotMeanUpdate
  /-- COMPUTE_WINDOW_OPEN, R163: At S + t_cw0 the uplink slot outcomes are fixed, and the chains of axes without an accepted sense record are cancelled. -/
  | computeWindowOpen
  /-- RELEASE_DEADLINE, R416: At D_f unfilled drive entries of the flow get empty markers, unfinished tasks end as released-empty and the slack is recorded. -/
  | releaseDeadline (f : Nat)
  /-- DRIVE_FRAME_LAUNCH, R165: At S + t_rel the drive frame leaves, the slot and task counters update, the cycle's per-cycle image completes and the oldest image is released. -/
  | driveFrameLaunch
  /-- FEEDBACK_TASK_DONE, R255: A FEEDBACK task completes, writes the feedback words and posts its successor. -/
  | feedbackTaskDone (a : Nat)
  /-- FILTER_TASK_DONE, R400: A FILTER task completes, filters FB_VEL in place and keeps the raw value. -/
  | filterTaskDone (a : Nat)
  /-- OBSERVE_TASK_DONE, R302: An OBSERVE task completes, updates the observer estimate and confidence and writes θ̂, ω̂ and θ_out. -/
  | observeTaskDone (a : Nat)
  /-- COMMUTE_IN_DONE, R268: A COMMUTE_IN pass applies the current and bus checks, the transforms and the angle, then posts LAW or faults the axis. -/
  | commuteInDone (a : Nat)
  /-- LAW_TASK_END, R337: A LAW task ends with END; its write buffer is committed, or sent to the comparator for a paired axis, and the guard and following-error reactions apply. -/
  | lawTaskEnd (a : Nat) (copyB : Bool)
  /-- PAIR_COMPARE, R361: The comparator compares the two paired copies and commits, cancels or faults accordingly. -/
  | pairCompare (a : Nat)
  /-- COMMUTE_OUT_DONE, R278: A COMMUTE_OUT pass computes the modulation, dead-time compensation and duties, then posts PACK. -/
  | commuteOutDone (a : Nat)
  /-- PACK_DONE, R415: PACK fills its slot's release entry, and the release pointer advances over filled entries. -/
  | packDone (a : Nat)
  /-- PROFILE_TASK_DONE, R436: A PROFILE task computes the set-point of the mode in force, with knuckles, offsets and limits, and holds it for commit. -/
  | profileTaskDone (a : Nat)
  /-- MEASURE_TASK_DONE, R532: A MEASURE task completes and writes MRES of its Visor record. -/
  | measureTaskDone (area : Nat) (ws : List W32)
  /-- MEASURE_WINDOW_END, R419: A MEASURE task that has not started by the end of its window is cancelled with reason 0x8. -/
  | measureWindowEnd
  /-- TASK_OVERRUN, R340: A task exceeds its proven worst path and ends as FLT #0xFD. -/
  | taskOverrun (t : Task) (a : Nat) (copyB : Bool)
  /-- LE_NOP, R335: Loop-engine NOP executes. -/
  | leNop (u : Nat)
  /-- LE_LDI, R335: Loop-engine LDI loads an immediate into a data register. -/
  | leLdi (u : Nat) (x : Nat) (m : W16)
  /-- LE_MOV, R335: Loop-engine MOV copies a data register. -/
  | leMov (u : Nat) (x : Nat) (y : Nat)
  /-- LE_ADD, R335: Loop-engine ADD adds two registers with saturation. -/
  | leAdd (u : Nat) (x : Nat) (y : Nat)
  /-- LE_SUB, R335: Loop-engine SUB subtracts two registers with saturation. -/
  | leSub (u : Nat) (x : Nat) (y : Nat)
  /-- LE_NEG, R335: Loop-engine NEG negates a register with saturation. -/
  | leNeg (u : Nat) (x : Nat) (y : Nat)
  /-- LE_ABS, R335: Loop-engine ABS forms the magnitude with saturation. -/
  | leAbs (u : Nat) (x : Nat) (y : Nat)
  /-- LE_MIN, R335: Loop-engine MIN keeps the smaller value. -/
  | leMin (u : Nat) (x : Nat) (y : Nat)
  /-- LE_MAX, R335: Loop-engine MAX keeps the larger value. -/
  | leMax (u : Nat) (x : Nat) (y : Nat)
  /-- LE_CMP, R335: Loop-engine CMP sets flags from a 17-bit difference. -/
  | leCmp (u : Nat) (x : Nat) (y : Nat)
  /-- LE_ASR, R335: Loop-engine ASR shifts a register right arithmetically. -/
  | leAsr (u : Nat) (x : Nat) (m : W16)
  /-- LE_ASL, R335: Loop-engine ASL shifts a register left with saturation. -/
  | leAsl (u : Nat) (x : Nat) (m : W16)
  /-- LE_MPY, R335: Loop-engine MPY writes an exact product to an accumulator. -/
  | leMpy (u : Nat) (A : Nat) (x : Nat) (y : Nat)
  /-- LE_MAC, R335: Loop-engine MAC adds a product to an accumulator. -/
  | leMac (u : Nat) (A : Nat) (x : Nat) (y : Nat)
  /-- LE_MSU, R335: Loop-engine MSU subtracts a product from an accumulator. -/
  | leMsu (u : Nat) (A : Nat) (x : Nat) (y : Nat)
  /-- LE_MACI, R335: Loop-engine MACI adds a register times an immediate to an accumulator. -/
  | leMaci (u : Nat) (A : Nat) (x : Nat) (m : W16)
  /-- LE_LDA, R335: Loop-engine LDA loads a register into an accumulator. -/
  | leLda (u : Nat) (A : Nat) (x : Nat)
  /-- LE_ADDA, R335: Loop-engine ADDA adds two accumulators. -/
  | leAdda (u : Nat) (A : Nat) (b : Nat)
  /-- LE_SUBA, R335: Loop-engine SUBA subtracts two accumulators. -/
  | leSuba (u : Nat) (A : Nat) (b : Nat)
  /-- LE_SHA, R335: Loop-engine SHA shifts an accumulator by a signed count. -/
  | leSha (u : Nat) (A : Nat) (m : W16)
  /-- LE_CLMP, R332: Loop-engine CLMP clamps an accumulator; it sets V but not S. -/
  | leClmp (u : Nat) (A : Nat) (x : Nat) (y : Nat)
  /-- LE_TSTA, R335: Loop-engine TSTA sets flags from an accumulator. -/
  | leTsta (u : Nat) (A : Nat)
  /-- LE_SAT, R335: Loop-engine SAT rounds, scales and saturates an accumulator into a register. -/
  | leSat (u : Nat) (x : Nat) (A : Nat) (m : W16)
  /-- LE_SQRT, R335: Loop-engine SQRT writes the integer square root of an accumulator. -/
  | leSqrt (u : Nat) (x : Nat) (A : Nat)
  /-- LE_DIV, R335: Loop-engine DIV writes a floored quotient, setting DZ on division by zero. -/
  | leDiv (u : Nat) (x : Nat) (A : Nat) (y : Nat)
  /-- LE_MOVA, R335: Loop-engine MOVA moves an accumulator, taken as an integer, into a register. -/
  | leMova (u : Nat) (x : Nat) (A : Nat)
  /-- LE_LD, R335: Loop-engine LD loads an F16 axis-store word, or its buffered value. -/
  | leLd (u : Nat) (x : Nat) (off : Nat)
  /-- LE_LDX, R342: Loop-engine LDX loads an F24 word, converting it to Q15. -/
  | leLdx (u : Nat) (x : Nat) (off : Nat)
  /-- LE_LDW, R335: Loop-engine LDW loads an I32 word into an accumulator. -/
  | leLdw (u : Nat) (A : Nat) (off : Nat)
  /-- LE_LDAC, R335: Loop-engine LDAC loads an A40 pair into an accumulator. -/
  | leLdac (u : Nat) (A : Nat) (off : Nat)
  /-- LE_LDR, R338: Loop-engine LDR reads another axis's F16 word from the image of cycle c − 1. -/
  | leLdr (u : Nat) (x : Nat) (y : Nat) (off : Nat)
  /-- LE_LDRX, R338: Loop-engine LDRX reads another axis's F24 word from the image of cycle c − 1. -/
  | leLdrx (u : Nat) (x : Nat) (y : Nat) (off : Nat)
  /-- LE_LDL, R339: Loop-engine LDL loads a local data word. -/
  | leLdl (u : Nat) (x : Nat) (m : Nat)
  /-- LE_ST, R337: Loop-engine ST buffers an F16 store, or executes as FLT #0xFE if the word is not LAW-writable. -/
  | leSt (u : Nat) (x : Nat) (off : Nat)
  /-- LE_STX, R337: Loop-engine STX buffers an F24 store. -/
  | leStx (u : Nat) (x : Nat) (off : Nat)
  /-- LE_STW, R337: Loop-engine STW buffers an I32 store. -/
  | leStw (u : Nat) (A : Nat) (off : Nat)
  /-- LE_STAC, R337: Loop-engine STAC buffers an A40 store. -/
  | leStac (u : Nat) (A : Nat) (off : Nat)
  /-- LE_STL, R339: Loop-engine STL stores a local scratch word, or executes as FLT #0xFE on the constant table. -/
  | leStl (u : Nat) (x : Nat) (m : Nat)
  /-- LE_SUBW, R335: Loop-engine SUBW subtracts a word modulo 2^32. -/
  | leSubw (u : Nat) (A : Nat) (off : Nat)
  /-- LE_BR, R335: Loop-engine BR branches forward on a condition. -/
  | leBr (u : Nat) (cc : Nat) (m : W16)
  /-- LE_CALL, R336: Loop-engine CALL pushes the return address, or executes as FLT at depth 4. -/
  | leCall (u : Nat) (m : W16)
  /-- LE_RET, R336: Loop-engine RET pops the return address, or executes as FLT at depth 0. -/
  | leRet (u : Nat)
  /-- LE_END, R337: Loop-engine END ends the task and hands on the write buffer. -/
  | leEnd (u : Nat)
  /-- LE_FLT, R361: Loop-engine FLT, or an undefined OP, ends the task, discards the buffer and requests AX_FAULT with a code. -/
  | leFlt (u : Nat) (code : Nat)
  /-- SP_NOP, R382: Signal-processor parallel NOP performs its moves only. -/
  | spNop (u : Nat) (fa : Option SpFetch) (fb : Option SpXfer)
  /-- SP_CLR, R382: Signal-processor CLR clears an accumulator. -/
  | spClr (u : Nat) (md : Nat) (fa : Option SpFetch) (fb : Option SpXfer)
  /-- SP_MPY, R382: Signal-processor MPY writes a product. -/
  | spMpy (u : Nat) (md : Nat) (s1 : Nat) (s2 : Nat) (fa : Option SpFetch) (fb : Option SpXfer)
  /-- SP_MAC, R382: Signal-processor MAC accumulates a product. -/
  | spMac (u : Nat) (md : Nat) (s1 : Nat) (s2 : Nat) (fa : Option SpFetch) (fb : Option SpXfer)
  /-- SP_MSU, R382: Signal-processor MSU subtracts a product. -/
  | spMsu (u : Nat) (md : Nat) (s1 : Nat) (s2 : Nat) (fa : Option SpFetch) (fb : Option SpXfer)
  /-- SP_MPYR, R382: Signal-processor MPYR writes a rounded product. -/
  | spMpyr (u : Nat) (md : Nat) (s1 : Nat) (s2 : Nat) (fa : Option SpFetch) (fb : Option SpXfer)
  /-- SP_MACR, R382: Signal-processor MACR accumulates and rounds. -/
  | spMacr (u : Nat) (md : Nat) (s1 : Nat) (s2 : Nat) (fa : Option SpFetch) (fb : Option SpXfer)
  /-- SP_ADD, R382: Signal-processor ADD adds a register to an accumulator. -/
  | spAdd (u : Nat) (md : Nat) (s1 : Nat) (fa : Option SpFetch) (fb : Option SpXfer)
  /-- SP_SUB, R382: Signal-processor SUB subtracts a register from an accumulator. -/
  | spSub (u : Nat) (md : Nat) (s1 : Nat) (fa : Option SpFetch) (fb : Option SpXfer)
  /-- SP_ADDM, R382: Signal-processor ADDM adds two accumulators. -/
  | spAddm (u : Nat) (md : Nat) (m2 : Nat) (fa : Option SpFetch) (fb : Option SpXfer)
  /-- SP_PUTM, R382: Signal-processor PUTM places a register in an accumulator. -/
  | spPutm (u : Nat) (md : Nat) (s1 : Nat) (fa : Option SpFetch) (fb : Option SpXfer)
  /-- SP_CPYM, R382: Signal-processor CPYM copies an accumulator. -/
  | spCpym (u : Nat) (md : Nat) (m2 : Nat) (fa : Option SpFetch) (fb : Option SpXfer)
  /-- SP_NEGM, R382: Signal-processor NEGM negates an accumulator. -/
  | spNegm (u : Nat) (md : Nat) (fa : Option SpFetch) (fb : Option SpXfer)
  /-- SP_ABSM, R382: Signal-processor ABSM forms an accumulator magnitude. -/
  | spAbsm (u : Nat) (md : Nat) (fa : Option SpFetch) (fb : Option SpXfer)
  /-- SP_ASLM, R382: Signal-processor ASLM doubles an accumulator with saturation. -/
  | spAslm (u : Nat) (md : Nat) (fa : Option SpFetch) (fb : Option SpXfer)
  /-- SP_ASRM, R382: Signal-processor ASRM halves an accumulator arithmetically. -/
  | spAsrm (u : Nat) (md : Nat) (fa : Option SpFetch) (fb : Option SpXfer)
  /-- SP_RND, R382: Signal-processor RND rounds an accumulator at bit 23. -/
  | spRnd (u : Nat) (md : Nat) (fa : Option SpFetch) (fb : Option SpXfer)
  /-- SP_CMPA, R382: Signal-processor CMPA sets flags from a 57-bit comparison. -/
  | spCmpa (u : Nat) (md : Nat) (s1 : Nat) (fa : Option SpFetch) (fb : Option SpXfer)
  /-- SP_MAXI, R386: Signal-processor MAXI runs one step of a maximum search with index. -/
  | spMaxi (u : Nat) (md : Nat) (s1 : Nat) (fa : Option SpFetch) (fb : Option SpXfer)
  /-- SP_MINI, R386: Signal-processor MINI runs one step of a minimum search with index. -/
  | spMini (u : Nat) (md : Nat) (s1 : Nat) (fa : Option SpFetch) (fb : Option SpXfer)
  /-- SP_MOVE, R380: A signal-processor move-class instruction moves a register, an accumulator part, an immediate or a special register, with one memory access. -/
  | spMove (u : Nat) (mv : SpMove)
  /-- SP_LDS, R401: Signal-processor LDS loads an F16 or F24 axis-store word. -/
  | spLds (u : Nat) (x : Nat) (off : Nat) (f24 : Bool)
  /-- SP_LDSM, R401: Signal-processor LDSM loads an I32 axis-store word into an accumulator. -/
  | spLdsm (u : Nat) (md : Nat) (off : Nat)
  /-- SP_STS, R401: Signal-processor STS buffers an F16 or F24 store. -/
  | spSts (u : Nat) (src : SpLoc) (off : Nat) (f24 : Bool)
  /-- SP_STSW, R401: Signal-processor STSW buffers an I32 store. -/
  | spStsw (u : Nat) (md : Nat) (off : Nat)
  /-- SP_SETP, R378: Signal-processor SETP sets an address register and its ring base. -/
  | spSetp (u : Nat) (k : Nat) (v : SpVal)
  /-- SP_SETN, R378: Signal-processor SETN sets a modifier. -/
  | spSetn (u : Nat) (k : Nat) (v : SpVal)
  /-- SP_ADDP, R378: Signal-processor ADDP moves an address register under its mode. -/
  | spAddp (u : Nat) (k : Nat) (d : Int)
  /-- SP_BR, R388: Signal-processor BR branches, with one delay slot. -/
  | spBr (u : Nat) (cc : Nat) (m : Int)
  /-- SP_CALL, R388: Signal-processor CALL pushes the return address and branches. -/
  | spCall (u : Nat) (m : Int)
  /-- SP_RET, R388: Signal-processor RET returns. -/
  | spRet (u : Nat)
  /-- SP_LOOP, R389: Signal-processor LOOP pushes a zero-overhead loop entry, or skips the body when the count is 0. -/
  | spLoop (u : Nat) (n : SpVal) (len : Nat)
  /-- SP_END, R397: Signal-processor END commits the task's write buffer. -/
  | spEnd (u : Nat)
  /-- SP_FLT, R396: Signal-processor FLT, or an invalid encoding, ends the task or handler with a fault code. -/
  | spFlt (u : Nat) (code : Nat)
  /-- SP_RTI, R392: Signal-processor RTI returns from a handler and restores the PC and flags. -/
  | spRti (u : Nat)
  /-- SP_DI, R395: Signal-processor DI masks PEAK. -/
  | spDi (u : Nat)
  /-- SP_EI, R403: Signal-processor EI unmasks PEAK, and a waiting PEAK is accepted. -/
  | spEi (u : Nat)
  /-- SP_SAVL, R394: Signal-processor SAVL copies the top loop entry to registers and pops it. -/
  | spSavl (u : Nat)
  /-- SP_RSTL, R394: Signal-processor RSTL pushes a loop entry from registers. -/
  | spRstl (u : Nat)
  /-- SP_EXP, R385: Signal-processor EXP writes an accumulator's exponent. -/
  | spExp (u : Nat) (ra : Nat) (ma : Nat)
  /-- SP_NORM, R383: Signal-processor NORM shifts an accumulator by a register. -/
  | spNorm (u : Nat) (ma : Nat) (ra : Nat)
  /-- SP_NORMI, R383: Signal-processor NORMI shifts an accumulator by an immediate. -/
  | spNormi (u : Nat) (ma : Nat) (n : Int)
  /-- SP_SQRT, R383: Signal-processor SQRT writes a square root. -/
  | spSqrt (u : Nat) (ma : Nat) (mb : Nat)
  /-- SP_DIV, R383: Signal-processor DIV writes a quotient, setting DZ on division by zero. -/
  | spDiv (u : Nat) (ma : Nat) (mb : Nat) (ra : Nat)
  /-- SP_ATAN2, R383: Signal-processor ATAN2 writes an angle. -/
  | spAtan2 (u : Nat) (ra : Nat) (rb : Nat)
  /-- SP_SINCOS, R383: Signal-processor SINCOS writes a sine and cosine. -/
  | spSincos (u : Nat) (ra : Nat)
  /-- SP_CLRI, R383: Signal-processor CLRI clears the search counter and index. -/
  | spClri (u : Nat)
  /-- SP_MOVIX, R383: Signal-processor MOVIX reads the search index. -/
  | spMovix (u : Nat) (ra : Nat)
  /-- SP_PEAK_ENTRY, R391: A signal processor accepts PEAK, saves the PC and flags and enters the pair's handler. -/
  | spPeakEntry (u : Nat)
  /-- EXCITATION_PEAK, R390: At a resolver excitation peak the ADC pair's sample is queued and PEAK is requested, or the peak is discarded if the FIFO is full. -/
  | excitationPeak (n : Nat) (t : Rt) (xs : Int) (xc : Int)
  /-- ADC_CONVERSION, R247: An ADC pair converts; the result is corrected and checked against the amplitude window. -/
  | adcConversion (n : Nat) (k : Nat) (xs : Int) (xc : Int)
  /-- CUFF_LEVEL_CHANGE, R229: A Cuff input's filtered level changes, is timestamped and is decoded into count, direction and timing. -/
  | cuffLevelChange (n : Nat) (cs : List LineChange)
  /-- CUFF_PULSE_REJECTED, R229: A pulse shorter than the filter is rejected and counted in CUFF_GLITCH. -/
  | cuffPulseRejected (n : Nat)
  /-- LINE_FAULT, R245: Both legs of a differential input stay at one level for 1 µs, so a line fault begins. -/
  | lineFault (n : Nat) (begins : Bool)
  /-- LATCH_EVENT, R254: A selected CFn_L edge latches the position, timestamp and SUSPECT state into the latch FIFO, or overflows it. -/
  | latchEvent (n : Nat) (rising : Bool) (t : Rt)
  /-- SSI_TRANSFER_DONE, R251: An SSI transfer ends; the count is updated, or the read fails and the count is held. -/
  | ssiTransferDone (n : Nat) (low : Bool) (data : Nat) (par : Bool) (stop : Bool)
  /-- LIMIT_SWITCH_CHANGE, R458: A latch input held for 1 µs changes level; limit reactions and homing edges follow. -/
  | limitSwitchChange (n : Nat) (level : Bool) (t : Rt)
  /-- ALIGN_STEP_ADVANCE, R287: An offset-search step completes its ramp, stillness or evaluation and moves to the next step, or the search ends. -/
  | alignStepAdvance (a : Nat)
  /-- ALIGN_HOLD_TIMEOUT, R287: The rotor is not still within CMT_ALN_HOLD, so the search fails with reason 0x5. -/
  | alignHoldTimeout (a : Nat)
  /-- PROBE_SEQUENCE_DONE, R306: The third short-circuit probe is evaluated as REST, INCONSISTENT, KE_HIGH or TURNING. -/
  | probeSequenceDone (a : Nat)
  /-- OBS_HOLD_EXPIRY, R319: OBS_HOLD passes in HOLD, or in a blind run, so the axis enters AX_CATCH INHIBIT and EV_OBS_LOST is raised. -/
  | obsHoldExpiry (a : Nat)
  /-- OBS_INH_EXPIRY, R309: OBS_INH passes, so AX_CATCH proceeds to PROBE. -/
  | obsInhExpiry (a : Nat)
  /-- OBS_ST_ALN_EXPIRY, R312: The start alignment time passes, so the start proceeds to RAMP. -/
  | obsStAlnExpiry (a : Nat)
  /-- OBS_MERGE_EXPIRY, R314: OBS_MERGE passes, so HANDOFF ends in TRACK or fails with reason 0x3. -/
  | obsMergeExpiry (a : Nat)
  /-- OBS_ST_TMO_EXPIRY, R315: RAMP has held handoff speed for OBS_ST_TMO without lock, so the attempt fails with reason 0x1. -/
  | obsStTmoExpiry (a : Nat)
  /-- OBS_RETRY_WAIT_EXPIRY, R309: OBS_RETRY_WAIT passes, so the start retries at DETECT. -/
  | obsRetryWaitExpiry (a : Nat)
  /-- KE_CHECK_WINDOW, R321: After 1,024 valid cycles the back-EMF ratio is written and the thresholds applied. -/
  | keCheckWindow (a : Nat)
  /-- SAFE_INPUT_LEVEL_CHANGE, R484: A safe-input channel level changes after its filter, updating demand and the discrepancy timer. -/
  | safeInputLevelChange (n : Nat) (chB : Bool) (level : Bool) (ts : Rt)
  /-- DISCREPANCY_TIMEOUT, R485: The discrepancy timer expires, so the fault is latched and EV_GS_DISCREPANCY raised. -/
  | discrepancyTimeout (n : Nat)
  /-- RESET_EDGE, R486: A valid two-channel reset pulse ends, and the group is released where its conditions held. -/
  | resetEdge (n : Nat)
  /-- RESET_HIGH_TIMEOUT, R486: A reset input channel held high beyond 2 s latches a reset fault. -/
  | resetHighTimeout (n : Nat) (chB : Bool)
  /-- CONFIRM_PULSE, R482: A valid confirm pulse in the window writes the confirmation record, and the Gauntlet enters SAFE. -/
  | confirmPulse
  /-- CONFIRM_WINDOW_EXPIRY, R482: The 60 s confirmation window expires without a pulse, so EV_GS_CONF_FAILED is raised. -/
  | confirmWindowExpiry
  /-- SOUT_TEST_PULSE, R507: A SOUT switch test pulse runs, and the readbacks are checked at its end. -/
  | soutTestPulse (n : Nat) (lowSide : Bool) (rbh : Bool) (rbl : Bool)
  /-- SOUT_SWITCH_ON_STEP, R508: A step of the switch-on sequence ends, and its readbacks are checked. -/
  | soutSwitchOnStep (n : Nat) (rbh : Bool) (rbl : Bool)
  /-- SOUT_READBACK_MISMATCH, R508: A steady readback mismatch lasts 1 ms, so the pair faults and its groups go to STO. -/
  | soutReadbackMismatch (n : Nat) (rbh : Bool) (rbl : Bool)
  /-- PROOF_TEST_DONE, R509: The proof test completes, pair faults are cleared or kept, and the Gauntlet enters SAFE. -/
  | proofTestDone (pass : Nat) (chan : Bool)
  /-- SAFETY_RECORD_RECEIVED, R503: A node-to-head safety record is accepted or rejected against CRC, counter and echo. -/
  | safetyRecordReceived (seg : Nat) (p : Nat) (r : List Byte)
  /-- SAFETY_WATCHDOG_EXPIRY, R503: SF_WD cycles pass without an accepted record, so the node's axes fault and FLT_REACT applies. -/
  | safetyWatchdogExpiry (seg : Nat) (p : Nat)
  /-- XCHAN_PERSIST, R475: A channel disagreement lasts 8 evaluations, so the comparator is isolated. -/
  | xchanPersist
  /-- SBC_DELAY_EXPIRY, R495: SBC_T passes after brake engagement, so STO applies. -/
  | sbcDelayExpiry (a : Nat)
  /-- DEG_T_EXPIRY, R500: The degraded timer expires, so SS1 follows with cause 0xD. -/
  | degTExpiry (a : Nat)
  /-- GAUNTLET_BOOT_DONE, R480: The Gauntlet BOOT self-test and check-value comparison end in CHECK_FAIL, UNCONFIRMED or SAFE. -/
  | gauntletBootDone
  /-- VISOR_EVENT_TRIGGER, R525: A type-2 unit fires on its event number. -/
  | visorEventTrigger (u : Nat)
  /-- VISOR_PIN_TRIGGER, R535: A type-3 unit fires on a TRG_IO edge, with correction where the pin is the shared input. -/
  | visorPinTrigger (u : Nat) (t : Rt) (rising : Bool)
  /-- VISOR_TIME_TRIGGER, R525: Ring time reaches a type-4 instant, so the unit fires. -/
  | visorTimeTrigger (u : Nat)
  /-- VISOR_RECORD_COMPLETE, R523: A closed record's measurement and bursts end, so its header is written and EV_VISOR_RECORD is raised. -/
  | visorRecordComplete
  /-- VISOR_HOLDOFF_EXPIRY, R523: HOLDOFF ends with a free area, so the Visor arms again. -/
  | visorHoldoffExpiry
  /-- VISOR_SHARE_OUTPUT, R534: At t_trg + TXLEAD the shared trigger pulse is driven on OUTPIN. -/
  | visorShareOutput
  /-- NB_TIMEOUT, R536: NBTMO cycles pass before LAST, so the burst ends incomplete. -/
  | nbTimeout
  /-- PORT_LINK_UP, R91: A ring port links, raising EV_PORT_UP and starting LISTEN or formation. -/
  | portLinkUp (u : PortUp)
  /-- PORT_LINK_DOWN, R140: A ring port loses link. -/
  | portLinkDown (u : PortDown)
  /-- TRAINING_TIMEOUT, R94: Clause 72 training does not complete in 500 ms, so the port stays down and retries after 1 s. -/
  | trainingTimeout (p : Nat)
  /-- TRAINING_RETRY, R94: One second after a failed training, training restarts. -/
  | trainingRetry (p : Nat)
  /-- ONE_PORT_LINK_TIMEOUT, R121: A segment with only one port linked for 2 ms forms as after a single break. -/
  | onePortLinkTimeout (seg : Nat)
  /-- LISTEN_EXPIRY, R112: t_listen passes with nothing heard, so the chip enters CLAIM. -/
  | listenExpiry
  /-- CLAIM_RECEIVED, R114: A claim role record is received and compared, moving the chip to LISTEN, CLAIM or REFUSED. -/
  | claimReceived (h : RoleHeard)
  /-- CROWN_RECORD_RECEIVED, R117: A crown role record is received; it leads to SPARE or REFUSED, checks CHK, or demotes the weaker crown. -/
  | crownRecordReceived (h : CrownHeard) (t : Rt)
  /-- STANDBY_NOTICE_RECEIVED, R131: A spare receives the crown's STANDBY notice and enters STANDBY. -/
  | standbyNoticeReceived (h : RoleHeard)
  /-- TAKEOVER_EXPIRY, R118: TAKEOVER_CYC cycles pass without a good crown record, so the spare takes over. -/
  | takeoverExpiry
  /-- RTSYNC_RECEIVED, R214: The spare receives RTSYNC, steps its ring time once or compares it. -/
  | rtsyncReceived (seg : Nat) (cyc : W32) (v : Rt)
  /-- NODE_LOSS, R104: A node is unreachable for LOSS_CYC cycles, leaves the admitted set and its axes fault. -/
  | nodeLoss (seg : Nat) (p : Nat)
  /-- TOUT_PERSIST, R212: A node sets TOUT in 16 consecutive cycles and is recorded in TIME_NODE_DEV. -/
  | toutPersist (seg : Nat) (p : Nat)
  /-- BABBLE_CONFIRMED, R170: A suspect is named in BABBLE_CYC cycles, so its records are rejected and its axes fault. -/
  | babbleConfirmed (seg : Nat)
  /-- BABBLE_CLEARED, R170: 256 cycles pass without an indication, so the suspicion clears. -/
  | babbleCleared (seg : Nat)
  /-- MBX_DATA, R173: An uplink DATA mailbox record is received and its credit returns. -/
  | mbxData (seg : Nat) (p : Nat) (cr : CreditRef) (data : List Byte)
  /-- MBX_ACK, R177: An ACK record returns an implied credit and completes a message. -/
  | mbxAck (seg : Nat) (p : Nat) (mseq : Nat)
  /-- MBX_DELAY, R107: A DELAY record gives one delay round, which is checked and filtered. -/
  | mbxDelay (seg : Nat) (p : Nat) (n : Nat) (gen : Nat) (delta : Int) (f : Int)
  /-- MBX_SNAP, R80: A SNAP record is stored in the node snapshot area. -/
  | mbxSnap (seg : Nat) (p : Nat) (n : Nat) (gen : Nat) (r : List Byte)
  /-- MBX_IDENT, R173: An IDENT capability record arrives for admission. -/
  | mbxIdent (seg : Nat) (p : Nat) (d : Ident)
  /-- MBX_VBURST, R537: A VBURST fragment is placed in its burst data. -/
  | mbxVburst (seg : Nat) (p : Nat) (n : Nat) (gen : Nat) (bid : Nat) (frag : Nat) (ofs : Nat) (data : List Byte)
  /-- CREDIT_TIMEOUT, R176: A credit returns by timeout, and an unacknowledged ACKREQ record is retransmitted or fails. -/
  | creditTimeout (seg : Nat)
  /-- BARRIER_TIMEOUT, R82: A barrier fails after 16 cycles. -/
  | barrierTimeout
  /-- SNAPSHOT_UPLOAD_TIMEOUT, R82: A snapshot upload fails 8 cycles after its scaled time. -/
  | snapshotUploadTimeout
  /-- PTP_SYNC, R208: A Sync message updates the domain servo and validity. -/
  | ptpSync (m : PtpMsg)
  /-- PTP_FOLLOW_UP, R207: A Follow_Up gives the precise Sync timestamp. -/
  | ptpFollowUp (m : PtpMsg)
  /-- PTP_DELAY_REQ, R203: A Delay_Req is answered in the master role. -/
  | ptpDelayReq (m : PtpMsg)
  /-- PTP_DELAY_RESP, R206: A Delay_Resp completes a delay measurement. -/
  | ptpDelayResp (m : PtpMsg)
  /-- PTP_PDELAY_REQ, R207: A Pdelay_Req is answered. -/
  | ptpPdelayReq (m : PtpMsg) (turn : Nat)
  /-- PTP_PDELAY_RESP, R206: A Pdelay_Resp enters the peer-delay computation. -/
  | ptpPdelayResp (m : PtpMsg)
  /-- PTP_PDELAY_RESP_FOLLOW_UP, R207: A Pdelay_Resp_Follow_Up gives precise peer-delay timestamps. -/
  | ptpPdelayRespFollowUp (m : PtpMsg)
  /-- PTP_ANNOUNCE, R204: An Announce feeds the BMCA and grandmaster tracking. -/
  | ptpAnnounce (m : PtpMsg)
  /-- PTP_OTHER_DISCARD, R203: A Signaling or Management message, or one failing its checks, is discarded. -/
  | ptpOtherDiscard (port : Nat) (failed : Bool)
  /-- SYNC_RECEIPT_TIMEOUT, R197: Three sync intervals pass without Sync, so the domain becomes invalid. -/
  | syncReceiptTimeout (n : Nat)
  /-- ANNOUNCE_RECEIPT_TIMEOUT, R197: The announce receipt timeout expires, so the domain becomes invalid. -/
  | announceReceiptTimeout (n : Nat)
  /-- SOURCE_SELECTION, R199: Every 1 ms the ring-time source rules are applied, switching, holding over or reverting. -/
  | sourceSelection
  /-- HOLD_MAX_EXPIRY, R199: HOLD_MAX passes in HOLDOVER, so the state becomes FREERUN. -/
  | holdMaxExpiry
  /-- SLEW_DONE, R201: Θ reaches Θ_0, so SLEW ends in TRACK. -/
  | slewDone
  /-- TRG_CAPTURE_EDGE, R217: A capture edge on a TRG_IO pin enters the capture FIFO, or overflows it. -/
  | trgCaptureEdge (n : Nat) (rising : Bool) (t : Rt)
  /-- PPS_EDGE, R217: A whole second of the selected timescale drives a PPS pulse. -/
  | ppsEdge (n : Nat) (rising : Bool)
  /-- CELL_FAULT, R29: A cell reports a cause code, which escalates through block, region and chip, and the error record is written. -/
  | cellFault (region : Nat) (block : Nat) (cause : Nat) (site : FaultSite) (word : Nat)
  /-- HANDSHAKE_WATCHDOG_EXPIRY, R44: A self-timed stage's handshake is not completed in 400 rt, so HSTO isolates its block. -/
  | handshakeWatchdogExpiry (region : Nat) (block : Nat)
  /-- ESCALATION_RESET_START, R36: The ledger write has ended and 10 µs have passed after CHIP_SAFE, so the ESCALATION reset starts. -/
  | escalationResetStart
  /-- LEDGER_WRITE_DONE, R593: A ledger record write completes and commits. -/
  | ledgerWriteDone
  /-- SRAM_SCRUB_DONE, R621: The SRAM scrub pass finishes. -/
  | sramScrubDone (finds : List ScrubFind)
  /-- REVERIFY_DONE, R70: Re-verification finishes, and a mismatch escalates as PARC. -/
  | reverifyDone (bad : Option (Nat × Nat × Nat))
  /-- LEDGER_SCRUB_DONE, R622: The ledger part scrub of the epoch finishes. -/
  | ledgerScrubDone (cor : Nat) (unc : Nat)
  /-- SUPPLY_WARNING, R610: A rail stays below its warning level for 1 µs, raising EV_SUPPLY_WARN. -/
  | supplyWarning (rail : Nat) (mv : Nat)
  /-- OVERVOLTAGE_WARNING, R610: A rail rises above its overvoltage warning level. -/
  | overvoltageWarning (rail : Nat) (mv : Nat)
  /-- BRACE_LEFT, R614: Both core rails hold above warning for 100 µs, so the brace ends. -/
  | braceLeft
  /-- SUPPLY_RESET_LEVEL, R610: A rail stays below its reset level for 0.2 µs, so a SUPPLY reset starts. -/
  | supplyResetLevel (rail : Nat) (mv : Nat)
  /-- POWER_ON_RESET, R596: The power-on detector asserts POR until every supply is valid. -/
  | powerOnReset
  /-- PIN_RESET, R596: RESET_N is held low, asserting a PIN reset. -/
  | pinReset
  /-- HEARTBEAT_MISSING, R618: A heartbeat is missing for 1,000 watchdog counts, so a WATCHDOG reset starts. -/
  | heartbeatMissing
  /-- RESET_RELEASE, R577: A reset is released; the straps are sampled and boot begins at RESET with self-tests. -/
  | resetRelease (strap : Nat)
  /-- SHELL_READ_DONE, R588: The shell copies are read and checked, or boot fails with reason 0xC. -/
  | shellReadDone (one : List Bool) (two : List Bool)
  /-- LEDGER_READ_DONE, R593: The ledger directory, pending writes and lining are read, and the directory is rebuilt. -/
  | ledgerReadDone (badDir : Bool) (cor : Nat) (unc : Nat)
  /-- IMAGE_COPY_DONE, R584: A streamed image copy is accepted or rejected, with fallback to the other copy. -/
  | imageCopyDone (bad : Option Nat) (fail : Option Nat) (img : Image)
  /-- BOOT_APPLY_DONE, R589: The lining and pending boot writes are applied, the image routing takes over and EV_BOOT_DONE is raised. -/
  | bootApplyDone
  /-- TJ_UPDATE, R617: Every 1 ms Tj is reported, with WARN and HIGH actions and lifetime counting. -/
  | tjUpdate (tj : Int)
  /-- REPLICA_MEASURE, R619: Every 1 ms the replica rings give ρ, checked against RHO_THR. -/
  | replicaMeasure (beats : List Nat)
  /-- RETEST_DONE, R626: A block re-test passes or fails. -/
  | retestDone (pass : Bool)
  /-- FLASH_OP_DONE, R586: A flash erase or program completes. -/
  | flashOpDone
  /-- WAKE_LOAD_DONE, R600: The WAKE sections are re-read and checked, and the chip wakes or stays in STANDBY. -/
  | wakeLoadDone (fail : Option Nat)
  /-- QSPI_UPDATE_TIMEOUT, R624: QSPI_UPDATE reaches 600 s and its lock is released. -/
  | qspiUpdateTimeout
  /-- FR_EXPORT_TIMEOUT, R624: FR_EXPORT reaches 60 s and its lock is released. -/
  | frExportTimeout
  /-- MAKER_TEST_INSTRUCTION, R630: A maker or boundary-scan test instruction is loaded, forcing CHIP_SAFE, port power-down and a trigger-7 record. -/
  | makerTestInstruction
  /-- REGISTER_WRITE, R551: A write to a register without a row of its own is decoded, and applied, staged or ignored by its access and Apply class. -/
  | registerWrite (p : HostPort) (addr : Nat) (w : W32)
  /-- GUARDED_VALUE_WRITE, R553: The value half of a guarded pair becomes pending for the writing port. -/
  | guardedValueWrite (p : HostPort) (addr : Nat) (w : W32)
  /-- GUARD_WINDOW_EXPIRY, R553: 100 µs pass without the complement, so the pending value is discarded with GUARDFAIL. -/
  | guardWindowExpiry (p : HostPort)
  /-- POSTED_WRITE_DONE, R552: A posted write of a slow-domain block takes effect and BUSY clears. -/
  | postedWriteDone (b : SlowBlock)
  /-- VIEW_OPEN, R78: A write of CHIP_VIEW_SEQ opens a view on a held cycle image, or sets FAIL. -/
  | viewOpen (p : HostPort) (w : W32)
  /-- MODE_CHANGE, R73: A guarded CHANGE request is accepted, c_eff is set and the announcement begins, or the request is refused. -/
  | modeChange (p : HostPort) (mode : Nat)
  /-- MODE_CANCEL, R74: A guarded CANCEL makes the pending mode change abort at its commit point. -/
  | modeCancel (p : HostPort)
  /-- BARRIER, R80: A BARRIER global operation is requested. -/
  | barrier (p : HostPort)
  /-- SNAPSHOT, R80: A SNAPSHOT global operation is requested, taking its locks. -/
  | snapshot (p : HostPort)
  /-- NETRESET, R80: A NETRESET resets the nodes and re-forms every segment. -/
  | netreset (p : HostPort)
  /-- RETRY, R115: A RETRY role command leaves REFUSED and restarts LISTEN. -/
  | retry (p : HostPort)
  /-- READMIT, R126: A READMIT command re-admits a refused or lost node. -/
  | readmit (p : HostPort) (seg : Nat) (pos : Nat)
  /-- DEADMIT, R126: A DEADMIT command removes an admitted node as if lost. -/
  | deadmit (p : HostPort) (seg : Nat) (pos : Nat)
  /-- LINK_SEG_REFUSE_POP, R137: A read of LINK_SEG_REFUSE pops the oldest refusal. -/
  | linkSegRefusePop (p : HostPort) (seg : Nat)
  /-- SELECT_A, R223: SELECT_A switches the ring-time source to domain A and suspends the automatic rules. -/
  | selectA (p : HostPort)
  /-- SELECT_B, R223: SELECT_B switches the ring-time source to domain B and suspends the automatic rules. -/
  | selectB (p : HostPort)
  /-- HOLD, R223: HOLD enters HOLDOVER manually. -/
  | hold (p : HostPort)
  /-- RELEASE, R223: RELEASE returns source control to the automatic rules. -/
  | release (p : HostPort)
  /-- ALIGN_NOW, R201: ALIGN_NOW starts SLEW toward Θ_0, or is refused. -/
  | alignNow (p : HostPort)
  /-- TIME_CAP_POP, R221: A read of TIME_CAP_LO pops a capture entry. -/
  | timeCapPop (p : HostPort)
  /-- CUFF_CFG_WRITE, R256: A channel configuration write is checked against the axis state and staged, or refused. -/
  | cuffCfgWrite (p : HostPort) (n : Nat) (reg : Nat) (w : W32)
  /-- CLR_SUSPECT, R246: CLR_SUSPECT clears SUSPECT of a channel or remote axis. -/
  | clrSuspect (p : HostPort) (target : Nat) (remote : Bool)
  /-- SET_REF, R243: SET_REF clears IDXREF so the next index becomes the drift reference. -/
  | setRef (p : HostPort) (target : Nat) (remote : Bool)
  /-- CUFF_LATCH_POP, R260: A read of CUFF_LATCH_CNT pops a latch entry. -/
  | cuffLatchPop (p : HostPort) (n : Nat)
  /-- ALIGN, R286: ALIGN starts the commutation offset search, or is refused. -/
  | align (p : HostPort) (a : Nat)
  /-- CLR_ALIGN, R297: CLR_ALIGN clears ALNVALID and the found offset. -/
  | clrAlign (p : HostPort) (a : Nat)
  /-- OPEN, R354: The OPEN axis command is accepted or refused. -/
  | axOpen (p : HostPort) (a : Nat)
  /-- RUN, R354: The RUN axis command makes a run request, or is refused. -/
  | axRun (p : HostPort) (a : Nat)
  /-- OFF, R354: The OFF axis command moves the axis from AX_OPEN to AX_OFF. -/
  | axOff (p : HostPort) (a : Nat)
  /-- CLEAR_FAULT, R354: CLEAR_FAULT moves the axis from AX_FAULT to AX_OPEN, or is refused with 0xA. -/
  | clearFault (p : HostPort) (a : Nat)
  /-- AXIS_CONFIG_WRITE, R357: A configuration-area write is staged when the axis is in AX_OPEN, or refused. -/
  | axisConfigWrite (p : HostPort) (a : Nat) (off : Nat) (w : W32)
  /-- PER_CYCLE_WORD_WRITE, R559: A host write to a per-cycle word is staged, held as a low half, or refused. -/
  | perCycleWordWrite (p : HostPort) (a : Nat) (off : Nat) (w : W32)
  /-- CLR_SLACK_MIN, R431: CLR_SLACK_MIN resets the slack minima. -/
  | clrSlackMin (p : HostPort)
  /-- TR_CLEAR, R431: TR_CLEAR discards the stitch trace. -/
  | trClear (p : HostPort)
  /-- DISPATCH_TR_POP, R427: A read of DISPATCH_TR_POP returns the next trace word. -/
  | dispatchTrPop (p : HostPort)
  /-- MOVE, R442: MOVE plans a jerk-limited move to a target. -/
  | move (p : HostPort) (a : Nat)
  /-- VEL, R443: VEL starts a velocity change. -/
  | vel (p : HostPort) (a : Nat)
  /-- STOP, R443: STOP plans a velocity change to zero. -/
  | stop (p : HostPort) (a : Nat)
  /-- TBL_TIME, R446: TBL_TIME starts a time table. -/
  | tblTime (p : HostPort) (a : Nat)
  /-- TBL_CAM, R446: TBL_CAM starts a cam table at an engagement position. -/
  | tblCam (p : HostPort) (a : Nat)
  /-- GEAR_ON, R452: GEAR_ON engages rational gearing with a blend. -/
  | gearOn (p : HostPort) (a : Nat)
  /-- KNUCKLE, R453: KNUCKLE queues a ratio change point. -/
  | knuckle (p : HostPort) (a : Nat)
  /-- GEAR_OFF, R452: GEAR_OFF queues a knuckle to zero ratio. -/
  | gearOff (p : HostPort) (a : Nat)
  /-- ADD_OFS, R456: ADD_OFS starts an offset move. -/
  | addOfs (p : HostPort) (a : Nat)
  /-- SET_OFS, R456: SET_OFS starts an offset move to a target total. -/
  | setOfs (p : HostPort) (a : Nat)
  /-- HOME, R460: HOME starts a homing sequence. -/
  | home (p : HostPort) (a : Nat)
  /-- CLR, R463: CLR enters Hold and ends every plan, table, gearing and homing. -/
  | clr (p : HostPort) (a : Nat)
  /-- VM_VEL, R450: VM_VEL commands a virtual master speed. -/
  | vmVel (p : HostPort)
  /-- VM_STOP, R450: VM_STOP stops a virtual master. -/
  | vmStop (p : HostPort)
  /-- PROFILE_TBL_DATA_ACCESS, R471: A table-data access reads or writes one word, checks the entry at word 3 and advances the address. -/
  | profileTblDataAccess (p : HostPort) (w : Option W32)
  /-- STO, R513: A host STO request demands STO for the masked groups. -/
  | sto (p : HostPort) (mask : Nat)
  /-- SS1, R513: A host SS1 request demands SS1 for the masked groups. -/
  | ss1 (p : HostPort) (mask : Nat)
  /-- WITHDRAW, R513: WITHDRAW removes the host demand. -/
  | withdraw (p : HostPort) (mask : Nat)
  /-- PROOF_TEST, R509: PROOF_TEST enters TEST when no outputs are permitted. -/
  | proofTest (p : HostPort)
  /-- GAUNTLET_CONF_CMD, R482: A guarded confirmation value opens the confirmation window, or is refused. -/
  | gauntletConfCmd (p : HostPort) (w : W32)
  /-- ARM, R522: ARM takes a free area and arms at the next boundary, or is refused. -/
  | arm (p : HostPort)
  /-- DISARM, R539: DISARM frees an armed area or closes a record in POST. -/
  | disarm (p : HostPort)
  /-- FORCE, R525: FORCE triggers the armed record at once. -/
  | force (p : HostPort)
  /-- CLR_STATS, R543: CLR_STATS clears VISOR_MISSED and VISOR_DEADMAX. -/
  | clrStats (p : HostPort)
  /-- VISOR_DONE_FREE, R523: A write of 1 to a complete area's bit frees the area. -/
  | visorDoneFree (p : HostPort) (high : Bool) (w : W32)
  /-- VISOR_MDATA_READ, R542: A read of VISOR_MDATA returns a capture word and advances the address. -/
  | visorMdataRead (p : HostPort)
  /-- EVENTS_LOG_POP, R565: A read of EVENTS_LOG_POP pops the oldest entry and fills the port's shadow registers. -/
  | eventsLogPop (p : HostPort)
  /-- VECTOR_ACK, R566: A write of 1 to a vector's EVENTS_VEC bit acknowledges it, and resends if it is still active. -/
  | vectorAck (p : HostPort) (w : W32)
  /-- CLR_LOG, R573: CLR_LOG empties the event log. -/
  | clrLog (p : HostPort)
  /-- CLR_COUNT, R573: CLR_COUNT zeroes the event counters and SEQ. -/
  | clrCount (p : HostPort)
  /-- HOST_RESET, R596: HOST_RESET starts a HOST reset 10 µs after acceptance. -/
  | hostReset (p : HostPort)
  /-- PARK, R598: PARK enters PARKED at the next boundary. -/
  | park (p : HostPort)
  /-- UNPARK, R598: UNPARK returns to RUN from PARKED. -/
  | unpark (p : HostPort)
  /-- STANDBY, R599: STANDBY starts the sequence into STANDBY. -/
  | standby (p : HostPort)
  /-- WAKE, R600: WAKE powers up the blocks and starts the WAKE section load. -/
  | wake (p : HostPort)
  /-- QSPI_ERASE, R586: QSPI_ERASE erases a 64 KiB flash sector. -/
  | qspiErase (p : HostPort)
  /-- QSPI_PROG, R586: QSPI_PROG programs a 256-byte flash page. -/
  | qspiProg (p : HostPort)
  /-- BOOT_SHELL_DATA_READ, R604: A read of BOOT_SHELL_DATA returns a shell word and advances the address. -/
  | bootShellDataRead (p : HostPort)
  /-- BOOT_QSPI_DATA_ACCESS, R604: A BOOT_QSPI_DATA access reads flash or writes the page buffer, and advances the address. -/
  | bootQspiDataAccess (p : HostPort) (w : Option W32)
  /-- LIN_STORE, R591: LIN_STORE checks and stores a lining entry for the next boot. -/
  | linStore (p : HostPort)
  /-- LIN_DELETE, R591: LIN_DELETE removes the lining entry of a target. -/
  | linDelete (p : HostPort)
  /-- LIN_CLEAR_ALL, R591: LIN_CLEAR_ALL removes every lining entry. -/
  | linClearAll (p : HostPort)
  /-- PEND_CLEAR, R595: PEND_CLEAR discards the pending boot-class writes. -/
  | pendClear (p : HostPort)
  /-- LEDGER_DATA_ACCESS, R606: A LEDGER_DATA access reads or posts a write of the host area and advances the address. -/
  | ledgerDataAccess (p : HostPort) (w : Option W32)
  /-- BOOT_CLASS_WRITE, R595: A write to a boot-class field is stored in the pending region, or refused when it is full. -/
  | bootClassWrite (p : HostPort) (w : W32)
  /-- CLR_MIN, R634: CLR_MIN resets the supply and thermal minima and maxima. -/
  | clrMin (p : HostPort)
  /-- FR_SNAP, R634: FR_SNAP writes a trigger-6 field-return record. -/
  | frSnap (p : HostPort)
  /-- QSPI_UPDATE, R624: QSPI_UPDATE starts a flash update holding the QSPI lock. -/
  | qspiUpdate (p : HostPort)
  /-- RETEST, R626: RETEST starts a block re-test, or is refused. -/
  | retest (p : HostPort)
  /-- FR_EXPORT, R629: FR_EXPORT freezes the field-return region. -/
  | frExport (p : HostPort)
  /-- MAINT_END, R636: END finishes QSPI_UPDATE or FR_EXPORT and releases its lock. -/
  | maintEnd (p : HostPort)
  /-- SPI_WRITE, R547: An SPI WRITE transaction writes each word as its 32nd bit arrives. -/
  | spiWrite (addr : W32) (ws : List W32)
  /-- SPI_READ, R547: An SPI READ transaction returns words, or LATE words as 0xFFFF_FFFF. -/
  | spiRead (addr : W32) (late : List Bool)
  /-- SPI_STATUS, R546: An SPI STATUS transaction returns the status byte and clears its LATE and frame bits. -/
  | spiStatus
  /-- SPI_ID, R546: An SPI ID transaction returns CHIP_ID. -/
  | spiId
  /-- SPI_CS_RISE, R547: SPI_CS_N rises and ends the transaction; a cut word counts as a frame error. -/
  | spiCsRise (cut : Bool)
  /-- PCIE_MEM_WRITE, R545: A PCIe memory write to BAR0 or BAR2 is processed, or discarded and counted. -/
  | pcieMemWrite (bar2 : Bool) (addr : Nat) (ws : List W32) (be : Bool)
  /-- PCIE_MEM_READ, R545: A PCIe memory read is completed, or completed with UR. -/
  | pcieMemRead (bar2 : Bool) (addr : Nat) (q : PcieRead)
  /-- PCIE_FLR, R569: A function-level reset clears the PCIe port's own state. -/
  | pcieFlr
  /-- PCIE_LINK_UP, R563: The PCIe link reaches DL_Active. -/
  | pcieLinkUp (speed : Nat) (width : Nat)
  /-- PCIE_LINK_DOWN, R569: The PCIe link leaves DL_Active, and requests in flight are discarded. -/
  | pcieLinkDown
  /-- PLANT_FRAME_RECEIVED, R567: A plant-port frame that is neither PTP nor QMP is answered as ARP or ICMP, or dropped. -/
  | plantFrameReceived (port : Nat) (k : PlantFrame)
  /-- QMP_HELLO, R568: A QMP HELLO opens a session at the highest common version. -/
  | qmpHello (m : QmpMsg) (lo : Nat) (hi : Nat)
  /-- QMP_READ, R568: A QMP READ returns register values. -/
  | qmpRead (m : QmpMsg)
  /-- QMP_WRITE, R568: A QMP WRITE applies permitted writes, giving one status per pair. -/
  | qmpWrite (m : QmpMsg)
  /-- QMP_OFS, R457: A QMP OFS applies ADD_OFS or SET_OFS. -/
  | qmpOfs (m : QmpMsg)
  /-- QMP_VIEWREAD, R568: A QMP VIEWREAD returns per-cycle words from one image. -/
  | qmpViewread (m : QmpMsg) (cyc : W32) (pairs : List (Nat × Nat))
  /-- QMP_GUARDED, R568: A QMP GUARDED performs a guarded pair itself. -/
  | qmpGuarded (m : QmpMsg) (off : Nat) (w : W32)
  /-- QMP_CLOSE, R568: A QMP CLOSE ends the session. -/
  | qmpClose (m : QmpMsg)
  /-- QMP_SESSION_TIMEOUT, R567: A QMP session closes after 10 s without an accepted request. -/
  | qmpSessionTimeout (port : Nat) (id : Nat)
  /-- CLAIM_PERIOD, R116: In CLAIM, once per T_cyc, the chip sends a claim at both ports of every segment and, after 8 unanswered claims, enters CROWN. -/
  | claimPeriod
  /-- PTP_MESSAGE_INTERVAL, R207: A PTP instance's interval timer expires and it transmits its periodic Sync, Follow_Up, Announce, Delay_Req or Pdelay_Req with egress timestamping. -/
  | ptpMessageInterval (n : Nat) (port : Nat) (mtype : Nat)
  /-- SELF_TEST_DONE, R577: PLL lock and the block self-tests of the RESET boot state complete, and boot moves to SHELL. -/
  | selfTestDone
  /-- HOST_RESET_DELAY_EXPIRY, R596: 10 µs after an accepted HOST_RESET command, the HOST reset is asserted. -/
  | hostResetDelayExpiry
  /-- SUPPLY_WARNING_CLEARED, R610: A rail returns inside its warning or overvoltage warning level plus hysteresis, and its live bit in HEALTH_SUP_LIVE clears. -/
  | supplyWarningCleared (rail : Nat) (mv : Nat) (high : Bool)
  /-- PCIE_CONFIG_REQUEST, R545: A PCIe configuration read or write is handled, including MSI-X enable and entry to or exit from D3hot. -/
  | pcieConfigRequest (r : CfgReq)
  /-- DRIVE_COPY_RETURN, R171: A drive-frame copy returns to the opposite head port, its FCRC is checked and counted, and its mailbox area is parsed for uplink records. -/
  | driveCopyReturn (seg : Nat) (side : Nat) (good : Bool) (area : List Byte)
  /-- TABLE_SUMS_UPDATED, R471: The running sums of L and DELTA for an accepted table entry finish updating within 10 µs, and PROFILE_TBL_STAT.UPD clears. -/
  | tableSumsUpdated
  /-- SLOTCFG_RECEIVED, R213: The spare crown receives the SLOTCFG addressed to it at the end of DISCOVER and steps its S once to S_P before tracking. -/
  | slotcfgReceived (t : Rt) (mode : Nat) (d : SlotDelay)
  /-- QMP_UNKNOWN_TYPE, R568: A correctly tagged QMP request whose TYPE is unknown, or not valid in the session's version, is answered with status 0x2 or 0x1. -/
  | qmpUnknownType (m : QmpMsg) (type : Nat)
  deriving DecidableEq, Repr

end Sys2Proof
end

