-- ==== Sys2Proof/Decode.lean ====
section
/-! DEFINITION. Decode.lean: commands spelled by words. The rows of spec/opcode_table.json give no bits, so no word of the table
spells a command. The instruction words that the spec lays out itself are here too: those of the loop engines (R334, R335), and the
parallel and special classes of the signal processors (R380 to R383), each with its encoder. -/

namespace Sys2Proof

open Machine

/-- The command that a word spells by the table's bits: none, since the table gives no row bits. -/
def decodeTableWord (_nbits _w : Nat) : Option Instr := none

/-! ### Loop engines (R334 to R336) -/

/-- A loop-engine word from OP, AX, DA, DB and IMM (R334). -/
def leWord (op ax da db imm : Nat) : W32 := w32 (op * 0x4000000 + ax * 0x1000000 + da * 0x100000 + db * 0x10000 + imm)

/-- The instruction that a word spells on engine `u`. An OP that is not listed executes as FLT #0xFF (R336). A field that the
instruction does not use must be 0 (R334); a word that breaks this spells none. -/
def leDecode (u : Nat) (w : W32) : Option Instr :=
  let A := fld w 25 24
  let x := fld w 23 20
  let y := fld w 19 16
  let m : W16 := w.extractLsb' 0 16
  let k := m.toNat
  let use := fun (ax da db im : Bool) (i : Instr) =>
    if (ax || A = 0) && (da || x = 0) && (db || y = 0) && (im || k = 0) then some i else none
  let xy := use false true true false
  let axy := use true true true false
  let xm := use false true false true
  let ax := use true true false false
  let am := use true false false true
  match fld w 31 26 with
  | 0x00 => use false false false false (.leNop u)
  | 0x01 => xm (.leLdi u x m)
  | 0x02 => xy (.leMov u x y)
  | 0x03 => xy (.leAdd u x y)
  | 0x04 => xy (.leSub u x y)
  | 0x05 => xy (.leNeg u x y)
  | 0x06 => xy (.leAbs u x y)
  | 0x07 => xy (.leMin u x y)
  | 0x08 => xy (.leMax u x y)
  | 0x09 => xy (.leCmp u x y)
  | 0x0A => xm (.leAsr u x m)
  | 0x0B => xm (.leAsl u x m)
  | 0x10 => axy (.leMpy u A x y)
  | 0x11 => axy (.leMac u A x y)
  | 0x12 => axy (.leMsu u A x y)
  | 0x13 => use true true false true (.leMaci u A x m)
  | 0x14 => ax (.leLda u A x)
  | 0x15 => if y < 4 then use true false true false (.leAdda u A y) else none
  | 0x16 => if y < 4 then use true false true false (.leSuba u A y) else none
  | 0x17 => am (.leSha u A m)
  | 0x18 => axy (.leClmp u A x y)
  | 0x19 => use true false false false (.leTsta u A)
  | 0x1A => use true true false true (.leSat u x A m)
  | 0x1B => ax (.leSqrt u x A)
  | 0x1C => axy (.leDiv u x A y)
  | 0x1D => ax (.leMova u x A)
  | 0x20 => xm (.leLd u x k)
  | 0x21 => xm (.leLdx u x k)
  | 0x22 => am (.leLdw u A k)
  | 0x23 => am (.leLdac u A k)
  | 0x24 => use false true true true (.leLdr u x y k)
  | 0x25 => use false true true true (.leLdrx u x y k)
  | 0x26 => xm (.leLdl u x k)
  | 0x28 => xm (.leSt u x k)
  | 0x29 => xm (.leStx u x k)
  | 0x2A => am (.leStw u A k)
  | 0x2B => am (.leStac u A k)
  | 0x2C => xm (.leStl u x k)
  | 0x2D => am (.leSubw u A k)
  | 0x30 => xm (.leBr u x m)
  | 0x31 => use false false false true (.leCall u m)
  | 0x32 => use false false false false (.leRet u)
  | 0x33 => use false false false false (.leEnd u)
  | 0x34 => use false false false true (.leFlt u k)
  | _ => some (.leFlt u 0xFF)

/-- The engine of a loop-engine instruction and its word (R334, R335); other commands have none. -/
def leEncode : Instr → Option (Nat × W32)
  | .leNop u => some (u, leWord 0x00 0 0 0 0)
  | .leLdi u x m => some (u, leWord 0x01 0 x 0 m.toNat)
  | .leMov u x y => some (u, leWord 0x02 0 x y 0)
  | .leAdd u x y => some (u, leWord 0x03 0 x y 0)
  | .leSub u x y => some (u, leWord 0x04 0 x y 0)
  | .leNeg u x y => some (u, leWord 0x05 0 x y 0)
  | .leAbs u x y => some (u, leWord 0x06 0 x y 0)
  | .leMin u x y => some (u, leWord 0x07 0 x y 0)
  | .leMax u x y => some (u, leWord 0x08 0 x y 0)
  | .leCmp u x y => some (u, leWord 0x09 0 x y 0)
  | .leAsr u x m => some (u, leWord 0x0A 0 x 0 m.toNat)
  | .leAsl u x m => some (u, leWord 0x0B 0 x 0 m.toNat)
  | .leMpy u A x y => some (u, leWord 0x10 A x y 0)
  | .leMac u A x y => some (u, leWord 0x11 A x y 0)
  | .leMsu u A x y => some (u, leWord 0x12 A x y 0)
  | .leMaci u A x m => some (u, leWord 0x13 A x 0 m.toNat)
  | .leLda u A x => some (u, leWord 0x14 A x 0 0)
  | .leAdda u A b => some (u, leWord 0x15 A 0 b 0)
  | .leSuba u A b => some (u, leWord 0x16 A 0 b 0)
  | .leSha u A m => some (u, leWord 0x17 A 0 0 m.toNat)
  | .leClmp u A x y => some (u, leWord 0x18 A x y 0)
  | .leTsta u A => some (u, leWord 0x19 A 0 0 0)
  | .leSat u x A m => some (u, leWord 0x1A A x 0 m.toNat)
  | .leSqrt u x A => some (u, leWord 0x1B A x 0 0)
  | .leDiv u x A y => some (u, leWord 0x1C A x y 0)
  | .leMova u x A => some (u, leWord 0x1D A x 0 0)
  | .leLd u x k => some (u, leWord 0x20 0 x 0 k)
  | .leLdx u x k => some (u, leWord 0x21 0 x 0 k)
  | .leLdw u A k => some (u, leWord 0x22 A 0 0 k)
  | .leLdac u A k => some (u, leWord 0x23 A 0 0 k)
  | .leLdr u x y k => some (u, leWord 0x24 0 x y k)
  | .leLdrx u x y k => some (u, leWord 0x25 0 x y k)
  | .leLdl u x k => some (u, leWord 0x26 0 x 0 k)
  | .leSt u x k => some (u, leWord 0x28 0 x 0 k)
  | .leStx u x k => some (u, leWord 0x29 0 x 0 k)
  | .leStw u A k => some (u, leWord 0x2A A 0 0 k)
  | .leStac u A k => some (u, leWord 0x2B A 0 0 k)
  | .leStl u x k => some (u, leWord 0x2C 0 x 0 k)
  | .leSubw u A k => some (u, leWord 0x2D A 0 0 k)
  | .leBr u cc m => some (u, leWord 0x30 0 cc 0 m.toNat)
  | .leCall u m => some (u, leWord 0x31 0 0 0 m.toNat)
  | .leRet u => some (u, leWord 0x32 0 0 0 0)
  | .leEnd u => some (u, leWord 0x33 0 0 0 0)
  | .leFlt u k => some (u, leWord 0x34 0 0 0 k)
  | _ => none

/-! ### Signal processors (R380 to R383) -/

/-- FA of R381, bits [19:12]. -/
def spFetchBits : Option SpFetch → Nat
  | none => 0
  | some f => 0x80 + f.reg * 0x20 + f.ptr * 4 + f.upd

/-- FB of R381, bits [11:0]. -/
def spXferBits : Option SpXfer → Nat
  | none => 0
  | some (.load r p u) => 0x800 + r * 0x100 + p * 0x20 + u * 8
  | some (.store a p u q) => 0xC00 + a * 0x100 + p * 0x20 + u * 8 + q * 2

/-- A word of the parallel class (R381). -/
def spParWord (op md s1 s2 : Nat) (fa : Option SpFetch) (fb : Option SpXfer) : W32 :=
  w32 (op * 0x4000000 + md * 0x1000000 + s1 * 0x400000 + s2 * 0x100000 + spFetchBits fa * 0x1000 + spXferBits fb)

/-- A word of the special class (R383). -/
def spSpecWord (sop ma mb ra rb imm : Nat) : W32 :=
  w32 (0xE0000000 + sop * 0x400000 + ma * 0x100000 + mb * 0x40000 + ra * 0x10000 + rb * 0x4000 + imm)

/-- FA of a word. -/
def spFetchOf (w : W32) : Option SpFetch :=
  if bit w 19 then some { reg := fld w 18 17, ptr := fld w 16 14, upd := fld w 13 12 } else none

/-- FB of a word. -/
def spXferOf (w : W32) : Option SpXfer :=
  if !bit w 11 then none
  else if bit w 10 then some (.store (fld w 9 8) (fld w 7 5) (fld w 4 3) (fld w 2 1))
  else some (.load (fld w 9 8) (fld w 7 5) (fld w 4 3))

/-- An instruction of the parallel class (R381, R382). An OP that is not listed, and an FB whose zero bits are not 0, execute as
FLT #0xFF (R380). -/
def spParallel (u : Nat) (w : W32) : Instr :=
  let md := fld w 25 24
  let s1 := fld w 23 22
  let s2 := fld w 21 20
  let fa := spFetchOf w
  let fb := spXferOf w
  if bit w 0 || (!bit w 10 && fld w 2 1 != 0) then .spFlt u 0xFF
  else
    match fld w 30 26 with
    | 0x00 => .spNop u fa fb
    | 0x01 => .spClr u md fa fb
    | 0x02 => .spMpy u md s1 s2 fa fb
    | 0x03 => .spMac u md s1 s2 fa fb
    | 0x04 => .spMsu u md s1 s2 fa fb
    | 0x05 => .spMpyr u md s1 s2 fa fb
    | 0x06 => .spMacr u md s1 s2 fa fb
    | 0x07 => .spAdd u md s1 fa fb
    | 0x08 => .spSub u md s1 fa fb
    | 0x09 => .spAddm u md s2 fa fb
    | 0x0A => .spPutm u md s1 fa fb
    | 0x0B => .spCpym u md s2 fa fb
    | 0x0C => .spNegm u md fa fb
    | 0x0D => .spAbsm u md fa fb
    | 0x0E => .spAslm u md fa fb
    | 0x0F => .spAsrm u md fa fb
    | 0x10 => .spRnd u md fa fb
    | 0x11 => .spCmpa u md s1 fa fb
    | 0x12 => .spMaxi u md s1 fa fb
    | 0x13 => .spMini u md s1 fa fb
    | _ => .spFlt u 0xFF

/-- An instruction of the special class (R383): unused fields are 0, and an encoding not listed executes as FLT #0xFF (R380). -/
def spSpecial (u : Nat) (w : W32) : Instr :=
  let ma := fld w 21 20
  let mb := fld w 19 18
  let ra := fld w 17 16
  let rb := fld w 15 14
  let imm := fld w 13 0
  let use := fun (a b r q : Bool) (top : Nat) (i : Instr) =>
    if (a || ma = 0) && (b || mb = 0) && (r || ra = 0) && (q || rb = 0) && decide (imm < top) then i else .spFlt u 0xFF
  match fld w 27 22 with
  | 0x01 => use true false true false 1 (.spExp u ra ma)
  | 0x02 => use true false true false 1 (.spNorm u ma ra)
  | 0x03 => use true false false false 128 (.spNormi u ma (BitVec.ofNat 7 imm).toInt)
  | 0x04 => use true true false false 1 (.spSqrt u ma mb)
  | 0x05 => use true true true false 1 (.spDiv u ma mb ra)
  | 0x06 => use false false true true 1 (.spAtan2 u ra rb)
  | 0x07 => use false false true false 1 (.spSincos u ra)
  | 0x08 => use false false false false 1 (.spClri u)
  | 0x09 => use false false true false 1 (.spMovix u ra)
  | _ => .spFlt u 0xFF

/-- The instruction that a word spells on signal processor `u` (R380). The spec lays out the bits of the parallel and special
classes; of the move, axis-store, address and control classes it gives the content alone, so such a word spells none here. Any other
class is not listed and executes as FLT #0xFF. -/
def spDecode (u : Nat) (w : W32) : Option Instr :=
  let c := fld w 31 28
  if c < 8 then some (spParallel u w)
  else if c = 8 ∨ c = 9 ∨ c = 0xA ∨ c = 0xC then none
  else if c = 0xE then some (spSpecial u w)
  else some (.spFlt u 0xFF)

/-- The processor of an instruction of the parallel or the special class and its word. -/
def spEncode : Instr → Option (Nat × W32)
  | .spNop u fa fb => some (u, spParWord 0x00 0 0 0 fa fb)
  | .spClr u md fa fb => some (u, spParWord 0x01 md 0 0 fa fb)
  | .spMpy u md s1 s2 fa fb => some (u, spParWord 0x02 md s1 s2 fa fb)
  | .spMac u md s1 s2 fa fb => some (u, spParWord 0x03 md s1 s2 fa fb)
  | .spMsu u md s1 s2 fa fb => some (u, spParWord 0x04 md s1 s2 fa fb)
  | .spMpyr u md s1 s2 fa fb => some (u, spParWord 0x05 md s1 s2 fa fb)
  | .spMacr u md s1 s2 fa fb => some (u, spParWord 0x06 md s1 s2 fa fb)
  | .spAdd u md s1 fa fb => some (u, spParWord 0x07 md s1 0 fa fb)
  | .spSub u md s1 fa fb => some (u, spParWord 0x08 md s1 0 fa fb)
  | .spAddm u md m2 fa fb => some (u, spParWord 0x09 md 0 m2 fa fb)
  | .spPutm u md s1 fa fb => some (u, spParWord 0x0A md s1 0 fa fb)
  | .spCpym u md m2 fa fb => some (u, spParWord 0x0B md 0 m2 fa fb)
  | .spNegm u md fa fb => some (u, spParWord 0x0C md 0 0 fa fb)
  | .spAbsm u md fa fb => some (u, spParWord 0x0D md 0 0 fa fb)
  | .spAslm u md fa fb => some (u, spParWord 0x0E md 0 0 fa fb)
  | .spAsrm u md fa fb => some (u, spParWord 0x0F md 0 0 fa fb)
  | .spRnd u md fa fb => some (u, spParWord 0x10 md 0 0 fa fb)
  | .spCmpa u md s1 fa fb => some (u, spParWord 0x11 md s1 0 fa fb)
  | .spMaxi u md s1 fa fb => some (u, spParWord 0x12 md s1 0 fa fb)
  | .spMini u md s1 fa fb => some (u, spParWord 0x13 md s1 0 fa fb)
  | .spExp u ra ma => some (u, spSpecWord 0x01 ma 0 ra 0 0)
  | .spNorm u ma ra => some (u, spSpecWord 0x02 ma 0 ra 0 0)
  | .spNormi u ma n => some (u, spSpecWord 0x03 ma 0 0 0 (BitVec.ofInt 7 n).toNat)
  | .spSqrt u ma mb => some (u, spSpecWord 0x04 ma mb 0 0 0)
  | .spDiv u ma mb ra => some (u, spSpecWord 0x05 ma mb ra 0 0)
  | .spAtan2 u ra rb => some (u, spSpecWord 0x06 0 0 ra rb 0)
  | .spSincos u ra => some (u, spSpecWord 0x07 0 0 ra 0 0)
  | .spClri u => some (u, spSpecWord 0x08 0 0 0 0 0)
  | .spMovix u ra => some (u, spSpecWord 0x09 0 0 ra 0 0)
  | _ => none

end Sys2Proof
end

