-- ==== Sys2Proof/Machine/Parts/Chip.lean ====
section
/-! DEFINITION. Machine/Parts/Chip.lean: the whole chip: its parts and the event unit. -/

namespace Sys2Proof.Machine

/-- The chip. -/
structure Chip where
  core : Core := {}
  ev   : EventUnit := {}
  deriving DecidableEq, Repr

end Sys2Proof.Machine
end

