-- ==== Sys2Proof/Machine/Crc.lean ====
section
/-! DEFINITION. Machine/Crc.lean: the CRC-32 of IEEE 802.3 (R147) and the CRC-32C (R148), both
reflected, initial value all ones, final complement. -/

namespace Sys2Proof

/-- One bit of a reflected CRC of 32 bits. -/
def crcBit (poly : W32) (c : W32) : W32 :=
  if c.getLsbD 0 then (c >>> 1) ^^^ poly else c >>> 1

/-- One byte of a reflected CRC. -/
def crcByte (poly : W32) (c : W32) (b : Byte) : W32 :=
  let c := c ^^^ b.zeroExtend 32
  crcBit poly (crcBit poly (crcBit poly (crcBit poly (crcBit poly (crcBit poly
    (crcBit poly (crcBit poly c)))))))

/-- A reflected CRC over bytes. -/
def crcOver (poly : W32) (bs : List Byte) : W32 := ~~~(bs.foldl (crcByte poly) 0xFFFFFFFF)

/-- CRC-32 of IEEE 802.3: polynomial 0x04C1_1DB7 (R147). -/
def crc32 (bs : List Byte) : W32 := crcOver 0xEDB88320 bs

/-- CRC-32C: polynomial 0x1EDC_6F41 (R148). -/
def crc32c (bs : List Byte) : W32 := crcOver 0x82F63B78 bs

/-- A record whose last four bytes are the big-endian CRC-32C of `head` and the bytes before. -/
def crcGood (head : List Byte) (r : List Byte) : Bool :=
  let n := r.length - 4
  beBytes (crc32c (head ++ r.take n)) == r.drop n

end Sys2Proof
end

