-- ==== Sys2Proof/Machine/ImageFile.lean ====
section
/-! DEFINITION. Machine/ImageFile.lean: an image copy as the bytes of the flash hold it: header, directory and check values,
big-endian (R8, R579 to R582). -/

namespace Sys2Proof.Machine

/-- First flash byte of copy A (false) or B (true) (R579). -/
def copyBase (copyB : Bool) : Nat := if copyB then 0x1000000 else 0

/-- Bytes of the flash; an erased byte reads 0xFF. -/
def flashBytes (m : List Host.Cell) (a n : Nat) : List Byte := memBytes 0xFF m a n

/-- A big-endian field of the flash. -/
def flashBE (m : List Host.Cell) (a n : Nat) : Nat := beNat (flashBytes m a n)

/-- Directory entry `i` of a copy (R581). -/
def imageSection (m : List Host.Cell) (base i : Nat) : ImgSection :=
  let e := base + 64 + 16 * i
  let flags := flashBE m (e + 2) 2
  { type := flashBE m e 2, optional := natBit flags 0, wake := natBit flags 1, off := flashBE m (e + 4) 4
    len := flashBE m (e + 8) 4, scrc := w32 (flashBE m (e + 12) 4) }

/-- The CRC-32C of a section's bytes as the flash holds them. -/
def sectionCrc (m : List Host.Cell) (base : Nat) (s : ImgSection) : W32 := crc32c (flashBytes m (base + s.off) s.len)

/-- CHK as computed over the stream: bytes 24 to 27 count as 0 (R582). -/
def streamCrc (m : List Host.Cell) (base len : Nat) : W32 :=
  crc32 (flashBytes m base 24 ++ [0, 0, 0, 0] ++ flashBytes m (base + 28) (len - 28))

/-- The copy that begins at `base`: its header (R580), its directory, and the check values found over its bytes. A copy whose
LENGTH is beyond the region has no stream. -/
def imageHead (m : List Host.Cell) (base : Nat) : ImgHead :=
  let magic := w32 (flashBE m base 4)
  let len := flashBE m (base + 8) 4
  let nsec := flashBE m (base + 30) 2
  let sound := magic = 0x5146494D && decide (len ≤ 16777216)
  let secs := if sound then (List.range nsec).map (imageSection m base) else []
  { magic := magic, hcrcOk := w32 (flashBE m (base + 60) 4) == crc32c (flashBytes m base 60)
    fmtMaj := flashBE m (base + 4) 1, fmtMin := flashBE m (base + 5) 1, length := len, gen := w32 (flashBE m (base + 12) 4)
    inst := BitVec.ofNat 64 (flashBE m (base + 16) 8), chk := w32 (flashBE m (base + 24) 4)
    revMin := flashBE m (base + 28) 1, revMax := flashBE m (base + 29) 1, nsec := nsec
    libRev := BitVec.ofNat 16 (flashBE m (base + 38) 2)
    secs := secs.map fun s => if s.off + s.len ≤ len then { s with crcOk := sectionCrc m base s == s.scrc } else s
    crc := if sound then streamCrc m base len else 0 }

end Sys2Proof.Machine
end

