-- ==== Sys2Proof/Machine/Events.lean ====
section
/-! DEFINITION. Machine/Events.lean: the numbers of the master event table (R562), the forms of an
event's detail word (R561), and the event unit's operations (R564 to R566, R665). -/

namespace Sys2Proof.Machine

/-! ### Numbers of R562 -/

/-- EV_SUPPLY_WARN. -/
abbrev EvNo.supplyWarn : Nat := 0
/-- EV_BRACE_ENTERED. -/
abbrev EvNo.braceEntered : Nat := 1
/-- EV_BRACE_LEFT. -/
abbrev EvNo.braceLeft : Nat := 2
/-- EV_THERMAL_WARN. -/
abbrev EvNo.thermalWarn : Nat := 3
/-- EV_THERMAL_HIGH. -/
abbrev EvNo.thermalHigh : Nat := 4
/-- EV_RESET_CAUSE. -/
abbrev EvNo.resetCause : Nat := 5
/-- EV_EPOCH_WORK_ABANDONED. -/
abbrev EvNo.epochWorkAbandoned : Nat := 6
/-- EV_SLACK_MARGIN. -/
abbrev EvNo.slackMargin : Nat := 7
/-- EV_ERR_CORRECTED. -/
abbrev EvNo.errCorrected : Nat := 8
/-- EV_ERR_ITEM_LOST. -/
abbrev EvNo.errItemLost : Nat := 9
/-- EV_BLOCK_ISOLATED. -/
abbrev EvNo.blockIsolated : Nat := 10
/-- EV_REGION_DEGRADED. -/
abbrev EvNo.regionDegraded : Nat := 11
/-- EV_REGION_LOST. -/
abbrev EvNo.regionLost : Nat := 12
/-- EV_CHIP_SAFE. -/
abbrev EvNo.chipSafe : Nat := 13
/-- EV_ESCALATION_RESET. -/
abbrev EvNo.escalationReset : Nat := 14
/-- EV_LOWPOWER. -/
abbrev EvNo.lowpower : Nat := 15
/-- EV_MODE_CHANGED. -/
abbrev EvNo.modeChanged : Nat := 16
/-- EV_MODE_ABORTED. -/
abbrev EvNo.modeAborted : Nat := 17
/-- EV_GOP_REFUSED. -/
abbrev EvNo.gopRefused : Nat := 18
/-- EV_GOP_DONE. -/
abbrev EvNo.gopDone : Nat := 19
/-- EV_GOP_FAILED. -/
abbrev EvNo.gopFailed : Nat := 20
/-- EV_EPOCH. -/
abbrev EvNo.epoch : Nat := 21
/-- EV_PORT_UP. -/
abbrev EvNo.portUp : Nat := 32
/-- EV_PORT_DOWN. -/
abbrev EvNo.portDown : Nat := 33
/-- EV_RING_BREAK. -/
abbrev EvNo.ringBreak : Nat := 34
/-- EV_RING_SPLIT. -/
abbrev EvNo.ringSplit : Nat := 35
/-- EV_RING_CLOSED. -/
abbrev EvNo.ringClosed : Nat := 36
/-- EV_NODE_ADMITTED. -/
abbrev EvNo.nodeAdmitted : Nat := 37
/-- EV_NODE_REFUSED. -/
abbrev EvNo.nodeRefused : Nat := 38
/-- EV_NODE_LOST. -/
abbrev EvNo.nodeLost : Nat := 39
/-- EV_SEG_FORMED. -/
abbrev EvNo.segFormed : Nat := 40
/-- EV_DELAY_EXCEEDED. -/
abbrev EvNo.delayExceeded : Nat := 41
/-- EV_CLAIM_WON. -/
abbrev EvNo.claimWon : Nat := 42
/-- EV_SPARE_READY. -/
abbrev EvNo.spareReady : Nat := 43
/-- EV_CLAIM_REFUSED. -/
abbrev EvNo.claimRefused : Nat := 44
/-- EV_TAKEOVER. -/
abbrev EvNo.takeover : Nat := 45
/-- EV_CROWN_DEMOTED. -/
abbrev EvNo.crownDemoted : Nat := 46
/-- EV_TRAINING_FAILED. -/
abbrev EvNo.trainingFailed : Nat := 47
/-- EV_SLOT_DRIFT. -/
abbrev EvNo.slotDrift : Nat := 48
/-- EV_SLOT_MERGED. -/
abbrev EvNo.slotMerged : Nat := 49
/-- EV_BABBLE_SUSPECT. -/
abbrev EvNo.babbleSuspect : Nat := 50
/-- EV_BABBLE_CLEARED. -/
abbrev EvNo.babbleCleared : Nat := 51
/-- EV_CREDIT_TIMEOUT. -/
abbrev EvNo.creditTimeout : Nat := 52
/-- EV_MBX_FAILED. -/
abbrev EvNo.mbxFailed : Nat := 53
/-- EV_RT_SOURCE_CHANGED. -/
abbrev EvNo.rtSourceChanged : Nat := 64
/-- EV_DOMAIN_VALID. -/
abbrev EvNo.domainValid : Nat := 65
/-- EV_DOMAIN_INVALID. -/
abbrev EvNo.domainInvalid : Nat := 66
/-- EV_HOLDOVER_ENTERED. -/
abbrev EvNo.holdoverEntered : Nat := 67
/-- EV_HOLDOVER_EXPIRED. -/
abbrev EvNo.holdoverExpired : Nat := 68
/-- EV_RT_SLEW_DONE. -/
abbrev EvNo.rtSlewDone : Nat := 69
/-- EV_RT_LOCKED. -/
abbrev EvNo.rtLocked : Nat := 70
/-- EV_RT_LOCK_LOST. -/
abbrev EvNo.rtLockLost : Nat := 71
/-- EV_PTP_PORT_STATE. -/
abbrev EvNo.ptpPortState : Nat := 72
/-- EV_PTP_GM_CHANGED. -/
abbrev EvNo.ptpGmChanged : Nat := 73
/-- EV_PLANT_OFFSET_HELD. -/
abbrev EvNo.plantOffsetHeld : Nat := 74
/-- EV_RT_CMD_REFUSED. -/
abbrev EvNo.rtCmdRefused : Nat := 75
/-- EV_NODE_TIME_DEV. -/
abbrev EvNo.nodeTimeDev : Nat := 76
/-- EV_CAP_OVERFLOW. -/
abbrev EvNo.capOverflow : Nat := 77
/-- EV_RT_RATE_CLAMPED. -/
abbrev EvNo.rtRateClamped : Nat := 78
/-- EV_TASK_LATE. -/
abbrev EvNo.taskLate : Nat := 80
/-- EV_SLACK_LOW. -/
abbrev EvNo.slackLow : Nat := 81
/-- EV_PROFILE_LATE. -/
abbrev EvNo.profileLate : Nat := 82
/-- EV_MEASURE_DROPPED. -/
abbrev EvNo.measureDropped : Nat := 83
/-- EV_TRACE_FULL. -/
abbrev EvNo.traceFull : Nat := 84
/-- EV_AX_ISUM. -/
abbrev EvNo.axIsum : Nat := 96
/-- EV_AX_OVERCURRENT. -/
abbrev EvNo.axOvercurrent : Nat := 97
/-- EV_AX_NODE_TRIP. -/
abbrev EvNo.axNodeTrip : Nat := 98
/-- EV_ALIGN_DONE. -/
abbrev EvNo.alignDone : Nat := 99
/-- EV_ALIGN_FAILED. -/
abbrev EvNo.alignFailed : Nat := 100
/-- EV_CMT_OFFSET_MISMATCH. -/
abbrev EvNo.cmtOffsetMismatch : Nat := 101
/-- EV_CURVE_ON. -/
abbrev EvNo.curveOn : Nat := 102
/-- EV_CURVE_OFF. -/
abbrev EvNo.curveOff : Nat := 103
/-- EV_CATCH_DONE. -/
abbrev EvNo.catchDone : Nat := 104
/-- EV_START_DONE. -/
abbrev EvNo.startDone : Nat := 105
/-- EV_START_RETRY. -/
abbrev EvNo.startRetry : Nat := 106
/-- EV_START_FAILED. -/
abbrev EvNo.startFailed : Nat := 107
/-- EV_OBS_HOLD. -/
abbrev EvNo.obsHold : Nat := 108
/-- EV_OBS_RECOVERED. -/
abbrev EvNo.obsRecovered : Nat := 109
/-- EV_OBS_LOST. -/
abbrev EvNo.obsLost : Nat := 110
/-- EV_KE_LOW. -/
abbrev EvNo.keLow : Nat := 111
/-- EV_KE_HIGH. -/
abbrev EvNo.keHigh : Nat := 112
/-- EV_AX_CMD_REFUSED. -/
abbrev EvNo.axCmdRefused : Nat := 113
/-- EV_COEF_REFUSED. -/
abbrev EvNo.coefRefused : Nat := 114
/-- EV_PAIR_MISMATCH. -/
abbrev EvNo.pairMismatch : Nat := 115
/-- EV_PAIR_INCOMPLETE. -/
abbrev EvNo.pairIncomplete : Nat := 116
/-- EV_LAW_FAULT. -/
abbrev EvNo.lawFault : Nat := 117
/-- EV_GUARD_ACTIVE. -/
abbrev EvNo.guardActive : Nat := 118
/-- EV_FOLLOW_ERROR. -/
abbrev EvNo.followError : Nat := 119
/-- EV_AX_FAULT. -/
abbrev EvNo.axFault : Nat := 120
/-- EV_LAW_SAT. -/
abbrev EvNo.lawSat : Nat := 121
/-- EV_SP_SAT. -/
abbrev EvNo.spSat : Nat := 122
/-- EV_SP_FLT. -/
abbrev EvNo.spFlt : Nat := 123
/-- EV_SP_PEAK_LOST. -/
abbrev EvNo.spPeakLost : Nat := 124
/-- EV_SP_HOME_MOVED. -/
abbrev EvNo.spHomeMoved : Nat := 125
/-- EV_MOTION. -/
abbrev EvNo.motion : Nat := 126
/-- EV_MOTION_FAULT. -/
abbrev EvNo.motionFault : Nat := 127
/-- EV_FB_DOUBLE. -/
abbrev EvNo.fbDouble : Nat := 128
/-- EV_FB_SUSPECT. -/
abbrev EvNo.fbSuspect : Nat := 129
/-- EV_FB_SUSPECT_CLEARED. -/
abbrev EvNo.fbSuspectCleared : Nat := 130
/-- EV_IDX_DEVIATION. -/
abbrev EvNo.idxDeviation : Nat := 131
/-- EV_IDX_MISSING. -/
abbrev EvNo.idxMissing : Nat := 132
/-- EV_FB_LINE_FAULT. -/
abbrev EvNo.fbLineFault : Nat := 133
/-- EV_SC_AMPLITUDE. -/
abbrev EvNo.scAmplitude : Nat := 134
/-- EV_SC_TRACK. -/
abbrev EvNo.scTrack : Nat := 135
/-- EV_SSI_ERROR. -/
abbrev EvNo.ssiError : Nat := 136
/-- EV_FB_JUMP. -/
abbrev EvNo.fbJump : Nat := 137
/-- EV_LATCH_OVERFLOW. -/
abbrev EvNo.latchOverflow : Nat := 138
/-- EV_FB_CFG_REFUSED. -/
abbrev EvNo.fbCfgRefused : Nat := 139
/-- EV_FB_AXIS_FAULT. -/
abbrev EvNo.fbAxisFault : Nat := 140
/-- EV_GS_DEMAND. -/
abbrev EvNo.gsDemand : Nat := 160
/-- EV_GS_RELEASED. -/
abbrev EvNo.gsReleased : Nat := 161
/-- EV_GS_VIOLATION. -/
abbrev EvNo.gsViolation : Nat := 162
/-- EV_GS_DISCREPANCY. -/
abbrev EvNo.gsDiscrepancy : Nat := 163
/-- EV_GS_RESET_FAULT. -/
abbrev EvNo.gsResetFault : Nat := 164
/-- EV_GS_SOUT_FAULT. -/
abbrev EvNo.gsSoutFault : Nat := 165
/-- EV_GS_WATCHDOG. -/
abbrev EvNo.gsWatchdog : Nat := 166
/-- EV_GS_RECORD_ERR. -/
abbrev EvNo.gsRecordErr : Nat := 167
/-- EV_GS_STO_FEEDBACK. -/
abbrev EvNo.gsStoFeedback : Nat := 168
/-- EV_GS_DEGRADED. -/
abbrev EvNo.gsDegraded : Nat := 169
/-- EV_GS_DEGRADED_LEFT. -/
abbrev EvNo.gsDegradedLeft : Nat := 170
/-- EV_GS_DEGRADED_EXPIRED. -/
abbrev EvNo.gsDegradedExpired : Nat := 171
/-- EV_GS_STATE. -/
abbrev EvNo.gsState : Nat := 172
/-- EV_GS_SCHK_MISMATCH. -/
abbrev EvNo.gsSchkMismatch : Nat := 173
/-- EV_GS_CONFIRMED. -/
abbrev EvNo.gsConfirmed : Nat := 174
/-- EV_GS_CONF_FAILED. -/
abbrev EvNo.gsConfFailed : Nat := 175
/-- EV_GS_XCHAN. -/
abbrev EvNo.gsXchan : Nat := 176
/-- EV_GS_REQ_REFUSED. -/
abbrev EvNo.gsReqRefused : Nat := 177
/-- EV_VISOR_TRIGGER. -/
abbrev EvNo.visorTrigger : Nat := 192
/-- EV_VISOR_RECORD. -/
abbrev EvNo.visorRecord : Nat := 193
/-- EV_VISOR_MISSED. -/
abbrev EvNo.visorMissed : Nat := 194
/-- EV_VISOR_FULL. -/
abbrev EvNo.visorFull : Nat := 195
/-- EV_VISOR_BURST_INCOMPLETE. -/
abbrev EvNo.visorBurstIncomplete : Nat := 196
/-- EV_VISOR_SHARE_LATE. -/
abbrev EvNo.visorShareLate : Nat := 197
/-- EV_VISOR_CMD_REFUSED. -/
abbrev EvNo.visorCmdRefused : Nat := 198
/-- EV_MAINT_STARTED. -/
abbrev EvNo.maintStarted : Nat := 208
/-- EV_MAINT_DONE. -/
abbrev EvNo.maintDone : Nat := 209
/-- EV_MAINT_CONFLICT. -/
abbrev EvNo.maintConflict : Nat := 210
/-- EV_MAINT_FAILED. -/
abbrev EvNo.maintFailed : Nat := 211
/-- EV_RETEST_PASSED. -/
abbrev EvNo.retestPassed : Nat := 212
/-- EV_RETEST_FAILED. -/
abbrev EvNo.retestFailed : Nat := 213
/-- EV_SCRUB_ERROR. -/
abbrev EvNo.scrubError : Nat := 214
/-- EV_FIELD_RECORD. -/
abbrev EvNo.fieldRecord : Nat := 215
/-- EV_BOOT_DONE. -/
abbrev EvNo.bootDone : Nat := 224
/-- EV_IMAGE_FALLBACK. -/
abbrev EvNo.imageFallback : Nat := 225
/-- EV_IMAGE_REJECTED. -/
abbrev EvNo.imageRejected : Nat := 226
/-- EV_LINING_APPLIED. -/
abbrev EvNo.liningApplied : Nat := 227
/-- EV_LINING_REJECTED. -/
abbrev EvNo.liningRejected : Nat := 228
/-- EV_LEDGER_ERROR. -/
abbrev EvNo.ledgerError : Nat := 229
/-- EV_BOOT_WRITE_STORED. -/
abbrev EvNo.bootWriteStored : Nat := 230
/-- EV_GUARDFAIL. -/
abbrev EvNo.guardfail : Nat := 240
/-- EV_WDROP. -/
abbrev EvNo.wdrop : Nat := 241
/-- EV_PCIE_LINK_UP. -/
abbrev EvNo.pcieLinkUp : Nat := 242
/-- EV_PCIE_LINK_DOWN. -/
abbrev EvNo.pcieLinkDown : Nat := 243
/-- EV_PCIE_ERROR. -/
abbrev EvNo.pcieError : Nat := 244
/-- EV_SPI_ERROR. -/
abbrev EvNo.spiError : Nat := 245
/-- EV_QMP_SESSION. -/
abbrev EvNo.qmpSession : Nat := 246
/-- EV_QMP_AUTH_FAIL. -/
abbrev EvNo.qmpAuthFail : Nat := 247
/-- EV_QMP_REFUSED. -/
abbrev EvNo.qmpRefused : Nat := 248
/-- EV_QMP_DROPPED. -/
abbrev EvNo.qmpDropped : Nat := 249
/-- EV_FLR. -/
abbrev EvNo.flr : Nat := 250

/-! ### Forms of the detail word (R561) -/

/-- An event of no object. -/
def ev0 (n : Nat) (code : Nat := 0) : Ev := { num := n, code := code }
/-- An event of an axis. -/
def evAxis (n a : Nat) (code : Nat := 0) : Ev := { num := n, kind := 1, code := code, obj := a }
/-- An event of a Cuff channel. -/
def evChan (n c : Nat) (code : Nat := 0) : Ev := { num := n, kind := 2, code := code, obj := c }
/-- An event of a node. -/
def evNode (n seg pos : Nat) (code : Nat := 0) : Ev :=
  { num := n, kind := 3, code := code, obj := seg * 256 + pos }
/-- An event of a segment. -/
def evSeg (n seg : Nat) (code : Nat := 0) : Ev := { num := n, kind := 4, code := code, obj := seg }
/-- An event of a port. -/
def evPort (n p : Nat) (code : Nat := 0) : Ev := { num := n, kind := 5, code := code, obj := p }
/-- An event of a release flow. -/
def evFlow (n f : Nat) (code : Nat := 0) : Ev := { num := n, kind := 6, code := code, obj := f }
/-- An event of a safety group. -/
def evGroup (n g : Nat) (code : Nat := 0) : Ev := { num := n, kind := 7, code := code, obj := g }
/-- An event of an ADC pair. -/
def evPair (n p : Nat) (code : Nat := 0) : Ev := { num := n, kind := 8, code := code, obj := p }
/-- An event of a region and block (R22). -/
def evBlock (n region block : Nat) (code : Nat := 0) : Ev :=
  { num := n, kind := 9, code := code, obj := region * 256 + block }
/-- An event of a host path (0 PCIe, 1 SPI, 2 QMP on PLA, 3 QMP on PLB). -/
def evHost (n path : Nat) (code : Nat := 0) : Ev := { num := n, kind := 10, code := code, obj := path }

/-- The same event, limited to once per X per 1,024 cycles (R665). -/
def Ev.limited (e : Ev) (x : Nat) : Ev := { e with lim := some x }

/-- The 32-bit detail word: KIND, CODE, OBJECT (R561). -/
def Ev.detail (e : Ev) : W32 := w32 (e.kind % 256 * 2 ^ 24 + e.code % 256 * 2 ^ 16 + e.obj % 2 ^ 16)

/-! ### The rate limit (R665) -/

/-- Key of the window of an event and its X. -/
def Ev.winKey (e : Ev) (x : Nat) : Nat := e.num * 2 ^ 32 + x

/-- Is this occurrence suppressed: has the same event for the same X been raised within the
preceding 1,024 × T_cyc? -/
def EventUnit.suppressed (u : EventUnit) (rt : Rt) (tcyc : Nat) (e : Ev) : Bool :=
  match e.lim with
  | none => false
  | some x =>
    match u.windows.look? (e.winKey x) with
    | none => false
    | some t => decide (rtDiff rt t < 1024 * tcyc)

/-- Start the window of a raised occurrence. -/
def EventUnit.startWindow (u : EventUnit) (rt : Rt) (e : Ev) : EventUnit :=
  match e.lim with
  | none => u
  | some x => { u with windows := u.windows.put (e.winKey x) rt }

/-! ### Routing and messages (R566, R573, R574) -/

/-- EVENTS_ROUTE_n. -/
def EventUnit.routeOf (u : EventUnit) (n : Nat) : W32 := u.route.look n (if u.routeDef then 0x8010 else 0)

/-- Event n is pending, signalled by MSI-X, on vector v. -/
def EventUnit.drives (u : EventUnit) (v n : Nat) : Bool :=
  u.pend.getLsbD n && bit (u.routeOf n) 4 && decide (fld (u.routeOf n) 3 0 = v)

/-- Vector v is active: a pending event with MSIX = 1 names it (R566). -/
def EventUnit.active (u : EventUnit) (v : Nat) : Bool :=
  u.pend != 0 && (List.range 256).any fun n => u.drives v n

/-- INT_N[p] is asserted: a pending event has bit p set in PINS (R566). -/
def EventUnit.pin (u : EventUnit) (p : Nat) : Bool :=
  (List.range 256).any fun n => u.pend.getLsbD n && bit (u.routeOf n) (8 + p)

/-- A word of the MSI-X table; vector control resets to masked, as PCIe Base 3.0 has it. -/
def EventUnit.msixWord (u : EventUnit) (i : Nat) : W32 := u.msix.look i (if i % 4 = 3 then 1 else 0)

/-- Message v is held: MSI-X is not enabled, or the function or the vector is masked (R566, R574). -/
def EventUnit.msixHeld (u : EventUnit) (v : Nat) : Bool := !u.msixEn || u.msixMask || bit (u.msixWord (4 * v + 3)) 0

/-- Send MSI-X message v, or hold it in the PBA (R566). -/
def EventUnit.sendMsix (u : EventUnit) (v : Nat) : EventUnit :=
  if u.msixHeld v then { u with pba := u.pba ||| (1 <<< v) } else { u with sent := u.sent ++ [v] }

/-- After MSI-X is enabled or unmasked, the held messages leave. -/
def EventUnit.flushPba (u : EventUnit) : EventUnit :=
  (List.range 16).foldl (fun (w : EventUnit) v =>
    if w.pba.getLsbD v && !w.msixHeld v then { w with pba := w.pba &&& ~~~(1#16 <<< v), sent := w.sent ++ [v] } else w) u

/-- Set the EVENTS_VEC bit of v and send its message. -/
def EventUnit.signal (u : EventUnit) (v : Nat) : EventUnit :=
  { u with vec := u.vec ||| (1 <<< v) }.sendMsix v

/-- After a change of pending bits or routing: every vector that became active and has its bit in
EVENTS_VEC at 0 sends its message (R566). -/
def EventUnit.signalNew (old u : EventUnit) : EventUnit :=
  (List.range 16).foldl (fun w v =>
    if u.active v && !old.active v && !w.vec.getLsbD v then w.signal v else w) u

/-- Set the pending bit of event n where its route enables it (R566). -/
def EventUnit.setPending (u : EventUnit) (n : Nat) : EventUnit :=
  let r := u.routeOf n
  if bit r 15 then
    let v := fld r 3 0
    let was := u.active v
    let u' := { u with pend := u.pend ||| (1 <<< n) }
    if bit r 4 && !was && !u'.vec.getLsbD v then u'.signal v else u'
  else u

/-! ### The raise (R564, R571) -/

/-- Offer an event to the log: it is logged and delivered, or counted in EVENTS_OVF (R564). -/
def EventUnit.offer (u : EventUnit) (isolated : Bool) (rt : Rt) (e : Ev) : EventUnit :=
  if isolated || decide (1024 ≤ u.log.length) then
    { u with raised := u.raised + 1, ovf := u.ovf + 1 }
  else
    { u with raised := u.raised + 1, logged := u.logged + 1, seq := u.seq + 1
             log := u.log ++ [{ num := e.num, seq := u.seq, rt := rt, detail := e.detail }] }

/-- The content of a log entry is lost: it reads with NUM 0xFF, the rest is free, and it stays an entry (R571). -/
def EventUnit.lose (u : EventUnit) (i k : Nat) : EventUnit :=
  { u with log := u.log.set i { num := 0xFF, seq := Config.freeBits 15 k, rt := Config.freeBits 64 (k + 1)
                                detail := Config.freeBits 32 (k + 2) } }

/-- Raise one event (R561, R564 to R566, R571, R665). -/
def EventUnit.raise (u : EventUnit) (isolated : Bool) (rt : Rt) (tcyc : Nat) (e : Ev) : EventUnit :=
  if u.suppressed rt tcyc e then u
  else
    let u := (u.startWindow rt e).offer isolated rt e
    if isolated then u else u.setPending e.num

/-- Insert an event by number, after those of an equal number. -/
def insertEv (e : Ev) : List Ev → List Ev
  | [] => [e]
  | f :: t => if e.num < f.num then e :: f :: t else f :: insertEv e t

/-- Events of one instant in ascending number (R564). -/
def sortEv (es : List Ev) : List Ev := es.foldl (fun acc e => insertEv e acc) []

/-- Raise the events of one instant. -/
def EventUnit.raiseAll (u : EventUnit) (isolated : Bool) (rt : Rt) (tcyc : Nat) (es : List Ev) :
    EventUnit :=
  (sortEv es).foldl (fun u e => u.raise isolated rt tcyc e) u

end Sys2Proof.Machine
end

