-- ==== Sys2Proof/Machine/Ledger.lean ====
section
/-! DEFINITION. Machine/Ledger.lean: the ledger's regions, lining, pending boot-class writes and record
writes (R589 to R595, R606, R607, R623, R628). -/

namespace Sys2Proof.Machine

/-! ### Fault history and field return -/

/-- Little-endian bytes of a number. -/
def leN (n v : Nat) : List Byte := forN n fun i => BitVec.ofNat 8 (v >>> (8 * i))

/-- A fault-history record (R592): ring time, the R38 word with VALID 1 and OVF 0, and the region
number with the low 24 bits of the cycle number. -/
def fhRecord (rt : Rt) (word : W32) (region : Nat) (cycle : W32) : List Byte :=
  leN 8 rt.toNat ++ leBytes word ++ leBytes (w32 (region % 8 * 2 ^ 29 + cycle.toNat % 2 ^ 24))

/-- Append a fault-history record, the oldest being overwritten (R592). -/
def Ledger.fhWrite (l : Ledger) (r : List Byte) : Ledger :=
  { l with fh := memSetBytes 0 l.fh (16 * l.fhNext) r
           fhNext := (l.fhNext + 1) % 8192
           fhN := (l.fhN + 1) % 65536 }

/-- The last 8 fault-history records, oldest first; an index never written holds zeros (R628). -/
def Ledger.fhLast (l : Ledger) : List Byte :=
  (forN 8 fun i => memBytes 0 l.fh (16 * ((l.fhNext + 8184 + i) % 8192)) 16).flatten

/-- The next field-return index at or after `n` that holds no record of trigger 7 (R628). -/
def frSlot (keep : List Nat) (n : Nat) : Nat → Nat
  | 0 => n % 256
  | k + 1 => if keep.contains (n % 256) then frSlot keep (n + 1) k else n % 256

/-- Write a field-return record of 252 bytes and its CRC-32C (R628). -/
def Ledger.frWrite (l : Ledger) (trigger : Nat) (body : List Byte) : Ledger :=
  let k := frSlot l.frKeep l.frNext 255
  { l with fr := memSetBytes 0 l.fr (256 * k) (body ++ leBytes (crc32c body))
           frNext := (k + 1) % 256
           frSeq := incWrap 16 l.frSeq
           frHeld := insertNat k l.frHeld
           frKeep := if trigger = 7 then insertNat k l.frKeep else l.frKeep }

/-! ### Lining -/

/-- The lining entries of a target and the rest. -/
def linOther (tgt : W32) (l : List LinEntry) : List LinEntry := l.filter fun e => e.tgt != tgt

/-- Store an entry in the place of one with the same target, in at most 2,048 places (R591, R592). -/
def linPut (l : List LinEntry) (e : LinEntry) : List LinEntry :=
  if l.any fun x => x.tgt == e.tgt then l.map fun x => if x.tgt == e.tgt then e else x
  else if l.length < 2048 then l ++ [e] else l

/-- The bound of a target in LINLIST (R581). -/
def linBound (bounds : List LinBound) (tgt : W32) : Option LinBound := bounds.find? fun b => b.tgt == tgt

/-- A value lies within its target's bounds. -/
def linOk (bounds : List LinBound) (tgt val : W32) : Bool :=
  match linBound bounds tgt with
  | none => false
  | some b => decide (b.lo ≤ val.toInt) && decide (val.toInt ≤ b.hi)

/-! ### Pending boot-class writes (R595) -/

/-- Two pending writes name the same field. -/
def PendWrite.same : PendWrite → PendWrite → Bool
  | .lin e, .lin f => e.tgt == f.tgt
  | .reg a _, .reg b _ => a == b
  | _, _ => false

/-- Store a pending write: it replaces one of the same field; none where a 65th would be needed. -/
def pendPut (l : List PendWrite) (p : PendWrite) : Option (List PendWrite) :=
  if l.any p.same then some (l.map fun x => if p.same x then p else x)
  else if l.length < 64 then some (l ++ [p]) else none

/-- The pending value of a register (R595). -/
def pendRegVal (l : List PendWrite) (addr : Nat) : Option W32 :=
  l.findSome? fun p => match p with
    | .reg a v => if a = addr then some v else none
    | .lin _ => none

/-- The pending lining entries. -/
def pendLin (l : List PendWrite) : List LinEntry :=
  l.filterMap fun p => match p with
    | .lin e => some e
    | .reg _ _ => none

/-- LIN_STORE (R591): refused with reason 0x2 where the target is not listed or the value out of its
bounds; an accepted entry becomes a pending write. Answers the ledger, acceptance and PENDFULL. -/
def LedgerState.linStore (l : LedgerState) (bounds : List LinBound) (inst : BitVec 64) : LedgerState × Bool × Bool :=
  if linOk bounds l.linTgt l.linVal then
    match pendPut l.led.pending (.lin { tgt := l.linTgt, val := l.linVal, inst := inst }) with
    | some p => ({ l with led := { l.led with pending := p } }, true, false)
    | none => (l, false, true)
  else ({ l with reason := 2 }, false, false)

/-- LIN_DELETE (R591): the stored and the pending entry of the target. -/
def LedgerState.linDelete (l : LedgerState) : LedgerState :=
  { l with led := { l.led with
      lining := linOther l.linTgt l.led.lining
      pending := l.led.pending.filter fun p => match p with
        | .lin e => e.tgt != l.linTgt
        | .reg _ _ => true } }

/-- LIN_CLEAR_ALL (R591, R602). -/
def LedgerState.linClear (l : LedgerState) : LedgerState :=
  { l with led := { l.led with
      lining := []
      pending := l.led.pending.filter fun p => match p with
        | .lin _ => false
        | .reg _ _ => true } }

/-- PEND_CLEAR (R595). -/
def LedgerState.pendClear (l : LedgerState) : LedgerState := { l with led := { l.led with pending := [] } }

/-! ### Lifetime counters -/

/-- Count a reset of a kind (R596). -/
def Lifetime.reset (t : Lifetime) (k : ResetKind) : Lifetime := { t with resets := t.resets.upd k.code 0 (· + 1) }

/-- The lifetime counters of a field-return record, bytes 76 to 99 (R628). -/
def Lifetime.frBytes (t : Lifetime) : List Byte :=
  leN 4 t.powered ++ leN 4 t.standby ++ leN 4 t.braces ++ leN 4 t.warnings ++ leN 4 t.hot ++ leN 4 (t.bootsA + t.bootsB)

/-! ### Reads and writes by address (R592, R606) -/

/-- The host area. -/
def ledHost (a : Nat) : Bool := decide (0x52000 ≤ a) && decide (a < 0x80000)

/-- A word of the ledger. The layouts of the directory, confirmation, pending and lifetime regions are
open: a word there is `free`. -/
def Ledger.word (l : Ledger) (a : Nat) (free : W32) : W32 :=
  if a < 0x2000 then free
  else if a < 0xA000 then
    let i := (a - 0x2000) / 16
    match l.lining[i]? with
    | none => 0
    | some e =>
      let body := leBytes e.tgt ++ leBytes e.val ++ leBytes (e.inst.extractLsb' 0 32)
      match (a / 4) % 4 with
      | 0 => e.tgt
      | 1 => e.val
      | 2 => e.inst.extractLsb' 0 32
      | _ => crc32c body
  else if a < 0x12000 then
    let k := (a - 0xA000) / 0x2000
    let d := l.drift.look k []
    match d[(a - 0xA000) % 0x2000 / 8]? with
    | none => 0
    | some w => if (a / 4) % 2 = 0 then w.1 else w.2
  else if a < 0x32000 then memWord 0 l.fh (a - 0x12000)
  else if a < 0x42000 then memWord 0 l.fr (a - 0x32000)
  else if a < 0x52000 then 0
  else memWord 0 l.host (a - 0x52000)

/-- Advance LEDGER_ADDR by one word within 512 KiB. -/
def LedgerState.advance (l : LedgerState) : LedgerState := { l with addr := (l.addr + 4) % 0x80000 }

/-- A write of LEDGER_DATA (R606): the host area is written, any other place sets AREAERR. -/
def LedgerState.write (l : LedgerState) (w : W32) : LedgerState :=
  if ledHost l.addr then
    { l with led := { l.led with host := memSetWord 0 l.led.host (l.addr - 0x52000) w } }.advance
  else { l with areaErr := true }.advance

/-- LEDGER_STAT without BUSY and WDROP (R607). -/
def LedgerState.statWord (l : LedgerState) : W32 :=
  w32 (b2n l.ready + 2 * b2n l.badDir + 4 * b2n l.areaErr + 16 * l.reason)

/-- LEDGER_FH. -/
def LedgerState.fhWord (l : LedgerState) : W32 := w32 (l.led.fhNext + l.led.fhN * 65536)

/-- LEDGER_LIN_STAT: entries stored, applied and skipped at the last boot. -/
def LedgerState.linStat (l : LedgerState) : W32 :=
  w32 (l.led.lining.length % 4096 + 4096 * (l.applied % 4096) + 16777216 * min 255 l.skipped)

/-- LEDGER_ERR. -/
def LedgerState.errWord (l : LedgerState) : W32 := w32 (l.errCor % 65536 + 65536 * (l.errUnc % 65536))

/-- A corrected word and uncorrectable words or torn records found (R593); the event where there is one
of the second kind. -/
def LedgerState.found (l : LedgerState) (cor unc : Nat) : LedgerState × List Ev :=
  ({ l with errCor := l.errCor + cor, errUnc := l.errUnc + unc
            led := { l.led with life := { l.led.life with errors := l.led.life.errors + cor + unc } } },
   List.replicate unc (ev0 EvNo.ledgerError))

/-- Append an index-drift entry of a channel (R243); a full history overwrites its oldest entry. Epoch number and maximum |dev|, then
the last dev and the number of index events: two bytes each, the deviations saturated (DESIGN CHOICE, log entry 69). -/
def Ledger.driftAdd (l : Ledger) (ch epoch maxDev : Nat) (dev : Int) (n : Nat) : Ledger :=
  let e := (w32 (epoch % 65536 + 65536 * min 65535 maxDev), w32 ((satS 16 dev % 65536).toNat + 65536 * min 65535 n))
  let d := l.drift.look ch []
  let k := l.driftAt.look ch 0
  { l with drift := l.drift.put ch (if d.length < 1024 then d ++ [e] else d.set k e)
           driftAt := l.driftAt.put ch ((k + 1) % 1024) }

end Sys2Proof.Machine
end

