-- ==== Sys2Proof/Machine/Boot.lean ====
section
/-! DEFINITION. Machine/Boot.lean: boot states, copies of the image, straps, resets, low-power commands
and the flash (R576 to R605). -/

namespace Sys2Proof.Machine

/-! ### Image copies (R580 to R584) -/

/-- Section types of R581. -/
def knownType (t : Nat) : Bool := decide (1 ≤ t) && decide (t ≤ 0xD)

/-- The types that must be present (R581). -/
def requiredTypes : List Nat := [1, 2, 3, 4, 5, 6, 8, 0xA]

/-- Some two sections overlap. -/
def secsOverlap : List ImgSection → Bool
  | [] => false
  | s :: t => (t.any fun u => decide (s.off < u.off + u.len) && decide (u.off < s.off + s.len)) || secsOverlap t

/-- Rows 0x1 to 0x5 of R584 on a header: reason and byte offset. -/
def ImgHead.headReject (h : ImgHead) (rev : Nat) : Option (Nat × Nat) :=
  if h.magic != 0x5146494D then some (1, 0)
  else if !h.hcrcOk then some (2, 60)
  else if h.fmtMaj != 1 then some (3, 4)
  else match h.secs.find? fun s => !knownType s.type && !s.optional with
  | some _ => some (3, 64)
  | none =>
    if decide (rev < h.revMin) || decide (h.revMax < rev) then some (4, 28)
    else if decide (16777216 < h.length) then some (5, 8)
    else if decide (h.nsec < 1) || decide (64 < h.nsec) then some (5, 30)
    else if (h.secs.any fun s => decide (h.length < s.off + s.len)) || secsOverlap h.secs then some (5, 64)
    else none

/-- Rows 0x6 to 0xA, found while the copy is streamed. -/
def ImgHead.bodyReject (h : ImgHead) : Option (Nat × Nat) :=
  match h.secs.find? fun s => !s.crcOk with
  | some s => some (6, s.off)
  | none =>
    if h.crc != h.chk then some (7, 24)
    else match h.badValue with
    | some o => some (8, o)
    | none =>
      match h.readFail with
      | some o => some (9, o)
      | none => if requiredTypes.all fun t => h.secs.any fun s => decide (s.type = t) then none else some (0xA, 64)

/-- The first reason that applies (R584). -/
def ImgHead.reject (h : ImgHead) (rev : Nat) : Option (Nat × Nat) := (h.headReject rev).orElse fun _ => h.bodyReject

/-- The copy tried first (R583): false A, true B. -/
def firstCopy (strap pref : Nat) (a b : ImgHead) : Bool :=
  if strap % 4 = 1 then false
  else if strap % 4 = 2 then true
  else if pref = 1 then false
  else if pref = 2 then true
  else decide (0 < (b.gen - a.gen).toInt)

/-- The rejection register of a copy. -/
def BootState.setRej (b : BootState) (copy : Bool) (r : Nat × Nat) : BootState :=
  if copy then { b with rejB := r } else { b with rejA := r }

/-- BOOT_REJ_A or BOOT_REJ_B (R605). -/
def rejWord (r : Nat × Nat) : W32 := w32 (r.1 + 256 * (r.2 % 2 ^ 24))

/-- Entry to BOOTFAIL (R585). -/
def BootState.fail (b : BootState) (reason : Nat) : BootState := { b with st := .bootfail, failRsn := reason }

/-- What the end of a stream gives: the boot state, events, and whether the copy streamed is loaded. -/
structure CopyRes where
  b   : BootState
  evs : List Ev
  loaded : Bool := false

/-- The end of the stream of the copy tried, with the header checks of the other copy at the first
(R583, R584). -/
def BootState.copyDone (b : BootState) (ha hb : ImgHead) (rev : Nat) : CopyRes :=
  if b.st != .image then { b := b, evs := [] }
  else
    let single := b.strap % 4 != 0
    let cur := match b.tried with
      | none => firstCopy b.strap b.pref ha hb
      | some c => !c
    let h := if cur then hb else ha
    let o := if cur then ha else hb
    let b := match b.tried, single, o.headReject rev with
      | none, false, some r => b.setRej (!cur) r
      | _, _, _ => b
    let evo := match b.tried, single, o.headReject rev with
      | none, false, some _ => [ev0 EvNo.imageRejected]
      | _, _, _ => []
    match h.reject rev with
    | none =>
      { b := { b with st := .apply, copyB := cur, fallback := b.tried.isSome, head := h }
        evs := evo, loaded := true }
    | some r =>
      let b := b.setRej cur r
      let evs := evo ++ [ev0 EvNo.imageRejected]
      let otherBad := (o.headReject rev).isSome
      if single || b.tried.isSome || otherBad then { b := b.fail r.1, evs := evs }
      else { b := { b with tried := some cur }, evs := evs ++ [ev0 EvNo.imageFallback] }

/-! ### Boot sequence (R577, R588) -/

/-- The end of the block self-tests (R577). -/
def BootState.selfTested (b : BootState) : BootState := if b.st = .reset && !b.held then { b with st := .shell } else b

/-- The shell read (R588): `one` and `two` say, per 1 KiB section, whether the CRC of the first and second
copy holds. -/
def BootState.shellRead (b : BootState) (one two : List Bool) : BootState :=
  if b.st != .shell then b
  else
    let bad := (one.zip two).any fun p => !p.1 && !p.2
    let second := (one.zip two).any fun p => !p.1 && p.2
    let b := { b with shell2 := second, shellBad := bad }
    if bad then b.fail 0xC else { b with st := .ledger }

/-- The ledger read ends (R577): hold strapping enters BOOTFAIL with reason 0xB (R576). -/
def BootState.ledgerRead (b : BootState) : BootState :=
  if b.st != .ledger then b else if b.strap % 4 = 3 then b.fail 0xB else { b with st := .image, tried := none }

/-! ### Lining at APPLY (R589, R590) -/

/-- Lining result: entries to apply, number skipped, and the events. -/
structure LinRes where
  apply : List LinEntry
  skipped : Nat
  evs  : List Ev

/-- R589: what of the stored lining is applied. -/
def linApply (lining : List LinEntry) (bounds : Option (List LinBound)) (inst : BitVec 64) (isolated : Bool) : LinRes :=
  match bounds with
  | none => { apply := [], skipped := 0, evs := [] }
  | some bs =>
    if isolated then { apply := [], skipped := 0, evs := [ev0 EvNo.liningRejected 3] }
    else
      let mine := lining.filter fun e => e.inst == inst
      let other := lining.any fun e => e.inst != inst
      let good := mine.filter fun e => linOk bs e.tgt e.val
      let bad := mine.length - good.length
      { apply := good, skipped := bad
        evs := (if other then [ev0 EvNo.liningRejected 1] else [])
          ++ (if bad = 0 then [] else [ev0 EvNo.liningRejected 2]) }

/-! ### Resets (R596, R597) -/

/-- Assertion of a reset: KIND is the first in table order of those active together, and ALSO marks the
others (R597). -/
def BootState.assert (b : BootState) (k : ResetKind) (detail : Nat) : BootState × ResetKind :=
  if b.held then
    let k1 := if k.code < b.kind.code then k else b.kind
    let other := if k.code < b.kind.code then b.kind else k
    ({ b with st := .reset, kind := k1, also := if other = k1 then b.also else b.also ||| 2 ^ other.code
              detail := if k1 = k && k.code < b.kind.code then detail else b.detail }, k1)
  else ({ b with st := .reset, held := true, kind := k, also := 0, detail := detail }, k)

/-- What a reset keeps of the boot block: flash, shell, straps and cause (R601). -/
def BootState.cleared (b : BootState) : BootState :=
  { st := .reset, held := b.held, strap := b.strap, kind := b.kind, also := b.also, detail := b.detail
    flash := b.flash, shell := b.shell, uid := b.uid, grade := b.grade, burnin := b.burnin, cal := b.cal }

/-- The release of a reset: straps are sampled and boot begins (R576, R577). -/
def BootState.release (b : BootState) (strap : Nat) (raw : BitVec 64) : BootState :=
  if b.held then { b with held := false, strap := strap % 8, relAt := raw, st := .reset } else b

/-! ### Low-power commands (R598) -/

/-- A refusal of BOOT_CMD. -/
def BootState.refuse (b : BootState) (reason : Nat) : BootState := { b with reason := reason }

/-- The event of a refused low-power command. -/
def lpRefused (reason : Nat) : List Ev := [ev0 EvNo.lowpower (0x80 + reason)]

/-! ### Flash (R579, R586, R604) -/

/-- A flash address lies in the 16 MiB region of a copy. -/
def inCopy (copyB : Bool) (a : Nat) : Bool := decide (a / 0x1000000 = if copyB then 1 else 0)

/-- Write consecutive erased bytes. -/
def eraseBytes (m : List Host.Cell) (a n : Nat) : List Host.Cell := m.filter fun c => decide (c.1 < a) || decide (a + n ≤ c.1)

/-- The end of a flash operation: a sector becomes erased, or a page takes the page buffer, bits only
falling as in NOR flash. -/
def BootState.flashDone (b : BootState) : BootState :=
  match b.qop with
  | none => b
  | some (true, a) => { b with qop := none, flash := eraseBytes b.flash (a / 0x10000 * 0x10000) 0x10000 }
  | some (false, a) =>
    let base := a / 256 * 256
    let bytes := (forN 64 fun i => leBytes (b.page.look i 0xFFFFFFFF)).flatten
    let old := memBytes 0xFF b.flash base 256
    { b with qop := none, flash := memSetBytes 0xFF b.flash base ((old.zip bytes).map fun p => p.1 &&& p.2) }

/-- A read of BOOT_QSPI_DATA (R604). -/
def BootState.qspiRead (b : BootState) : W32 × BootState :=
  (memWord 0xFF b.flash b.qspiAddr, { b with qspiAddr := (b.qspiAddr + 4) % 0x4000000 })

/-- A write of BOOT_QSPI_DATA: a page-buffer word (R604). -/
def BootState.qspiWrite (b : BootState) (w : W32) : BootState :=
  { b with page := b.page.put (b.qspiAddr / 4 % 64) w, qspiAddr := (b.qspiAddr + 4) % 0x4000000 }

/-- A read of BOOT_SHELL_DATA (R604). -/
def BootState.shellRead' (b : BootState) : W32 × BootState :=
  (memWord 0 b.shell b.shellAddr, { b with shellAddr := (b.shellAddr + 4) % 0x2000 })

/-! ### Registers (R605) -/

/-- BOOT_STAT. -/
def BootState.statWord (b : BootState) : W32 :=
  w32 (b.st.code + 16 * b2n b.shell2 + 32 * b2n b.shellBad + 64 * b2n b.pendFull + 256 * b2n b.copyB
    + 512 * b2n b.fallback + 1024 * b2n b.qop.isSome + 4096 * b.reason + 65536 * b.failRsn)

/-- BOOT_CAUSE. -/
def BootState.causeWord (b : BootState) : W32 := w32 (b.kind.code + 256 * b.also + 65536 * b.detail)

/-- BOOT_IMG. -/
def BootState.imgWord (b : BootState) : W32 := w32 (b.head.libRev.toNat + 65536 * b.head.fmtMin)

/-- BOOT_SHELL_INFO; CHIP_ID gives silicon revision 1 (R84). -/
def BootState.shellInfo (b : BootState) : W32 := w32 (b.grade + 4 * b2n b.burnin + 256)

/-- EV_RESET_CAUSE (R637). -/
def BootState.causeEv (b : BootState) : Ev := { num := EvNo.resetCause, code := b.kind.code, obj := b.detail }

end Sys2Proof.Machine
end

