-- ==== Sys2Proof/Machine/Err.lean ====
section
/-! DEFINITION. Machine/Err.lean: the escalation ladder of a reported fault (R28 to R42). -/

namespace Sys2Proof.Machine

/-- Key of a block. -/
def blkKey (region block : Nat) : Nat := region * 64 + block

/-- Is a block isolated? -/
def ErrState.isIso (e : ErrState) (region block : Nat) : Bool := e.iso.contains (blkKey region block)

/-- What CHIP_SAFE acts on (R33). -/
inductive SafeScope where
  | none | segment (n : Nat) | bank (k : Nat) | guard | all
  deriving DecidableEq, Repr

/-- Outcome of a fault: the block's, and, where it isolates, the region's and the chip's (R29 to R33). -/
structure Verdict where
  action  : Nat
  lost    : Bool := false
  isolate : Bool := false
  regionLost : Bool := false
  safe    : SafeScope := .none
  reset   : Bool := false
  deriving DecidableEq, Repr

/-- Causes that isolate at once (R30): HSTO, PARC, DRV, LOL, SELF. -/
def isolating (cause : Nat) : Bool := cause = 3 || cause = 5 || cause = 6 || cause = 8 || cause = 9

/-- Region and chip outcome of an isolation (R33); `other` says that the segment's other port is already
isolated. -/
def isoOutcome (region block : Nat) (other : Bool) : Verdict :=
  let deg : Verdict := { action := 4, isolate := true }
  let full : Verdict := { action := 7, isolate := true, regionLost := true, safe := .all, reset := true }
  match region with
  | 0 =>
    if block < 8 then
      if other then { action := 6, isolate := true, regionLost := true, safe := .segment (block / 2) } else deg
    else if block < 12 then { action := 6, isolate := true, regionLost := true, safe := .segment (block - 8) }
    else deg
  | 1 => if block = 0 || block = 5 then full else deg
  | 2 =>
    if block = 0 then full
    else if 53 ≤ block && block ≤ 60 then { action := 6, isolate := true, regionLost := true, safe := .bank (block - 53) }
    else deg
  | 3 => deg
  | 4 => { action := 6, isolate := true, regionLost := true, safe := .guard }
  | _ => if block = 6 || block = 7 then full else deg

/-- The ladder of R30 to R33 for a fault of a block that is not isolated; `program` marks a program store,
`losses` the ITEM_LOSTs of the block in the epoch so far. -/
def verdict (region block cause : Nat) (program : Bool) (losses : Nat) (other : Bool) : Verdict :=
  if cause = 1 then { action := 1 }
  else if isolating cause || (cause = 2 && program) then isoOutcome region block other
  else if 3 ≤ losses then { isoOutcome region block other with lost := true }
  else { action := 2, lost := true }

/-- The R38 word of a record. -/
def errWord (action cause block detail : Nat) : W32 :=
  w32 (2 ^ 31 + action % 8 * 2 ^ 27 + cause % 16 * 2 ^ 23 + block % 64 * 2 ^ 17 + detail % 2 ^ 17)

/-- A record arrives at its region register (R39). -/
def ErrState.record (e : ErrState) (region : Nat) (w : W32) : ErrState :=
  let cur := e.reg.look region 0
  let v := if bit cur 31 then (if fld cur 29 27 < fld w 29 27 then w else cur) ||| 0x40000000 else w
  { e with reg := e.reg.put region v }

/-- Count an ITEM_LOST of a block in the epoch (R30). -/
def ErrState.countLost (e : ErrState) (region block : Nat) : ErrState :=
  { e with lost := e.lost.upd (blkKey region block) 0 (· + 1) }

/-- Isolate a block (R30). -/
def ErrState.isolate (e : ErrState) (region block : Nat) : ErrState :=
  { e with iso := insertNat (blkKey region block) e.iso }

/-- Clear a block's isolation (R41). -/
def ErrState.restore (e : ErrState) (region block : Nat) : ErrState :=
  { e with iso := e.iso.filter (· != blkKey region block) }

/-- The events of a verdict (R37): each action reached raises its event once; CORRECTED at most once per
region per epoch. A record has reached one region outcome of R33, so REGION_LOST comes without REGION_DEGRADED (DEDUCED, log
entry 60). -/
def Verdict.events (v : Verdict) (region block : Nat) (corrRaised : Bool) : List Ev :=
  (if v.action = 1 && !corrRaised then [evBlock EvNo.errCorrected region block] else [])
    ++ (if v.lost then [evBlock EvNo.errItemLost region block] else [])
    ++ (if v.isolate then [evBlock EvNo.blockIsolated region block,
          evBlock (if v.regionLost then EvNo.regionLost else EvNo.regionDegraded) region block] else [])
    ++ (if v.safe = .none then [] else [evBlock EvNo.chipSafe region block])

/-- A new epoch: ITEM_LOST counts and the CORRECTED limit start again (R30, R37). -/
def ErrState.epoch (e : ErrState) : ErrState := { e with lost := [], corrEv := [] }

end Sys2Proof.Machine
end

