-- ==== Sys2Proof/Machine/Masks.lean ====
section
/-! DEFINITION. Machine/Masks.lean: the named bits of the registers whose value the image loads, and the values that the field
tables put in place of others (R15, R136, R184, R222, R261, R574, R633). -/

namespace Sys2Proof.Machine

/-- A field [hi:lo] of a word takes another value. -/
def setFld (w : W32) (hi lo v : Nat) : W32 :=
  w &&& ~~~(w32 ((2 ^ (hi + 1 - lo) - 1) * 2 ^ lo)) ||| w32 (v % 2 ^ (hi + 1 - lo) * 2 ^ lo)

/-- A field that lies outside a range is replaced by a value. -/
def replFld (w : W32) (hi lo a b v : Nat) : W32 := if a ≤ fld w hi lo ∧ fld w hi lo ≤ b then w else setFld w hi lo v

/-- LINK_SEG_CTL (R136). -/
def fixSegCtl (w : W32) : W32 := replFld (w &&& 0x1F) 3 0 1 8 2
/-- LINK_SEG_BRIM_CTL (R184). -/
def fixBrim (w : W32) : W32 := replFld (replFld (w &&& 0xFFFFFF) 7 0 4 32 8) 23 16 4 64 8
/-- LINK_SEG_MBX_CTL (R184). -/
def fixMbx (w : W32) : W32 := replFld (w &&& 0x7F1F) 14 8 4 64 16
/-- TIME_RT_CTL (R222). -/
def fixRtCtl (w : W32) : W32 := replFld (replFld (replFld (w &&& 0xFFFFFF1F) 15 8 1 100 10) 23 16 1 20 10) 31 24 1 255 25
/-- TIME_RT_CTL2 (R222). -/
def fixRtCtl2 (w : W32) : W32 := replFld (replFld (w &&& 0xFFFFFF) 15 0 1 65535 3600) 23 16 1 255 10
/-- HEALTH_THERM_CTL (R633). -/
def fixTherm (w : W32) : W32 := replFld (w &&& 0xFF) 7 0 90 115 110

/-- Named bits of the Cuff channel registers of Apply class cycle; none for the others (R261). -/
def cuffMask (reg : Nat) : Option W32 :=
  if reg = 0x00 then some 0xF7FFF else if reg = 0x04 then some 0xFFFFFF0F else if reg = 0x08 then some 0xFFFF_FFFF
  else if reg = 0x0C then some 0xFFFF else if reg = 0x2C ∨ reg = 0x30 ∨ reg = 0x34 then some 0xFFFF_FFFF else none

/-- CUFF_CFG2 with INTERP in its range (R261). -/
def fixCfg2 (w : W32) : W32 := replFld (w &&& 0xFFFFFF0F) 3 0 3 14 10

/-- Named bits of the VISOR registers of Apply class cycle (R542). -/
def visMask (o : Nat) : W32 :=
  if o = 0x004 then 0x17 else if o = 0x00C then 0xFFFF001F else if o = 0x010 then 0x77 else if o = 0x018 then 0xFFFF
  else if o = 0x01C then 0x80000077 else if o = 0x020 then 0x0FFFFFFF else if o = 0x024 then 0x3FF3F else if o = 0x028 then 0x80001FFF
  else if 0x080 ≤ o ∧ o < 0x0C0 then 0x800FFFFF
  else if 0x100 ≤ o ∧ o < 0x140 ∧ o % 0x10 = 0 then 0x0FFF07FF
  else if 0x100 ≤ o ∧ o < 0x140 ∧ o % 0x10 = 0xC then 0
  else if 0x140 ≤ o ∧ o < 0x160 then 0x8000033F
  else 0xFFFF_FFFF

/-- A VISOR register of Apply class cycle, NBTMO in its range (R542). -/
def fixVis (o : Nat) (w : W32) : W32 := if o = 0x024 then replFld (w &&& visMask o) 15 8 16 255 64 else w &&& visMask o

/-- Register values of a Cuff channel. -/
def ImgChan.masked (i : ImgChan) : ImgChan :=
  { i with cfg := i.cfg &&& 0xF7FFF, cfg2 := fixCfg2 i.cfg2, idxtol := i.idxtol &&& 0xFFFF }

/-- Register values of the time region. -/
def ImgTime.masked (t : ImgTime) : ImgTime :=
  { t with rtCtl := fixRtCtl t.rtCtl, rtCtl2 := fixRtCtl2 t.rtCtl2, trgCtl := t.trgCtl &&& 0xFFFF
           domA := t.domA &&& 0x0FFFFFFF, domB := t.domB &&& 0x0FFFFFFF }

/-- The register values of an image as the registers take them: bits without a name are 0 (R15). -/
def Image.masked (i : Image) : Image :=
  { i with
    seg := i.seg.each fun _ s => { s with brimCtl := fixBrim s.brimCtl, mbxCtl := fixMbx s.mbxCtl }
    chan := i.chan.each fun _ x => x.masked
    time := i.time.masked
    health := { i.health with therm := fixTherm i.health.therm, margin := i.health.margin &&& 0x1FFFF }
    visor := i.visor.each fixVis
    route := i.route.each fun _ w => w &&& 0x8F1F
    hostCfg := i.hostCfg &&& 0x1F1
    qmpCfg := i.qmpCfg &&& 0x1F03FFFF }

end Sys2Proof.Machine
end

