-- ==== Sys2Proof/Machine/Trig.lean ====
section
/-! DEFINITION. Machine/Trig.lean: angles by shift-and-add rotation on integers, precise to far below
the error bounds that the manual states (R248, R269, R383); what the bounds leave open is added from
an opaque choice where the values are used. -/

namespace Sys2Proof

/-- atan(2^−i) in units of 2^−40 turn, i = 0 to 33. -/
def atanTab : List Int :=
  [137438953472, 81134951838, 42869480287, 21761217566, 10922836750, 5466743129,
   2734038620, 1367102738, 683561799, 341782203, 170891265, 85445653,
   42722829, 21361415, 10680707, 5340354, 2670177, 1335088,
   667544, 333772, 166886, 83443, 41722, 20861,
   10430, 5215, 2608, 1304, 652, 326,
   163, 81, 41, 20]

/-- The rotation gain's inverse, scaled by 2^40. -/
def cordicGain : Int := 667681663043

/-- Rotate (x, y) onto the positive x axis, collecting the angle; `i` is the shift. -/
def cordicVec : List Int → Nat → Int → Int → Int → Int
  | [], _, _, _, z => z
  | t :: ts, i, x, y, z =>
    let p : Int := (2 ^ i : Nat)
    if 0 ≤ y then cordicVec ts (i + 1) (x + y / p) (y - x / p) (z + t)
    else cordicVec ts (i + 1) (x - y / p) (y + x / p) (z - t)

/-- Rotate (x, y) by the angle z. -/
def cordicRot : List Int → Nat → Int → Int → Int → Int × Int
  | [], _, x, y, _ => (x, y)
  | t :: ts, i, x, y, z =>
    let p : Int := (2 ^ i : Nat)
    if 0 ≤ z then cordicRot ts (i + 1) (x - y / p) (y + x / p) (z - t)
    else cordicRot ts (i + 1) (x + y / p) (y - x / p) (z + t)

/-- The angle of (x, y) in units of 2^−40 turn, 0 ≤ result < 2^40; 0 for the origin. -/
def atan2Turn (y x : Int) : Int :=
  let s : Int := 2 ^ 40
  if x = 0 && y = 0 then 0
  else if x < 0 then (cordicVec atanTab 0 (-x * s) (-y * s) 0 + 2 ^ 39) % 2 ^ 40
  else cordicVec atanTab 0 (x * s) (y * s) 0 % 2 ^ 40

/-- (cos, sin) of an angle in units of 2^−40 turn, scaled by 2^40. -/
def cosSinTurn (a : Int) : Int × Int :=
  let a := a % 2 ^ 40
  let q := (a + 2 ^ 37) / 2 ^ 38 % 4
  let r := a - (a + 2 ^ 37) / 2 ^ 38 * 2 ^ 38
  let (c, s) := cordicRot atanTab 0 cordicGain 0 r
  if q = 0 then (c, s) else if q = 1 then (-s, c) else if q = 2 then (-c, -s) else (s, -c)

/-- An integer within `k` of an exact value: `y` is that value scaled by 2^`sh`, to the precision of this file, and `exact` says that
it is an integer; `e` is the open choice among those integers. -/
def withinK (k sh : Nat) (exact : Bool) (y e : Int) : Int :=
  if exact then roundShift sh y + clampI (-k) k e
  else
    let m : Int := ((y.natAbs + 128) / 2 ^ sh : Nat)
    (if y < 0 then -1 else 1) * (m + clampI (1 - k) k e)

/-- The angle of (x, y) as UQ0.`n` of a turn, within `k` LSB; the multiples of an eighth of a turn are exact. -/
def atan2K (k n : Nat) (y x e : Int) : Nat :=
  (withinK k (40 - n) (x = 0 || y = 0 || x.natAbs = y.natAbs) (atan2Turn y x) e % (2 ^ n : Nat)).toNat

/-- (cos, sin) of a UQ0.`n` angle with `f` fraction bits, each within `k` LSB and saturated to 1 − LSB. -/
def cosSinK (k n f : Nat) (a : Int) (e : Int × Int) : Int × Int :=
  let quarter := a % (2 ^ (n - 2) : Nat) = 0
  let v := cosSinTurn (a * (2 ^ (40 - n) : Nat))
  (satS (f + 1) (withinK k (40 - f) quarter v.1 e.1), satS (f + 1) (withinK k (40 - f) quarter v.2 e.2))

/-- The angle of (x, y) rounded to UQ0.`n` of a turn. -/
def atan2Q (n : Nat) (y x : Int) : Nat := (roundShift (40 - n) (atan2Turn y x) % (2 ^ n : Nat)).toNat

/-- cos of a UQ0.`n` angle rounded to `f` fraction bits, saturated to 1 − LSB. -/
def cosQ (n f : Nat) (a : Int) : Int := satS (f + 1) (roundShift (40 - f) (cosSinTurn (a * (2 ^ (40 - n) : Nat))).1)
/-- sin likewise. -/
def sinQ (n f : Nat) (a : Int) : Int := satS (f + 1) (roundShift (40 - f) (cosSinTurn (a * (2 ^ (40 - n) : Nat))).2)

end Sys2Proof
end

