-- ==== Sys2Proof/Machine/Cuff.lean ====
section
/-! DEFINITION. Machine/Cuff.lean: decoding, speed, index handling, latches and analog corrections of
one Cuff channel (R229 to R254). -/

namespace Sys2Proof.Machine

/-! ### Configuration fields (R261) -/

/-- TYPE; 7 is off. -/
def Chan.type (c : Chan) : Nat := let t := fld c.cfg 2 0; if t = 7 then 0 else t
/-- IDXMODE; 3 is treated as 1. -/
def Chan.idxMode (c : Chan) : Nat := let m := fld c.cfg 9 8; if m = 3 then 1 else m
/-- INTERP k; values outside 3 to 14 are replaced by 10. -/
def Chan.interp (c : Chan) : Nat := let k := fld c.cfg2 3 0; if 3 ≤ k && k ≤ 14 then k else 10
/-- Sign of a step under DIRINV. -/
def Chan.inv (c : Chan) (s : Int) : Int := if bit c.cfg 3 then -s else s

/-- Flag bits of CUFF_FLAGS [7:0] (R261). -/
abbrev fDbl : Nat := 0
abbrev fIdxDev : Nat := 1
abbrev fIdxMiss : Nat := 2
abbrev fScWin : Nat := 3
abbrev fScQuad : Nat := 4
abbrev fSsiErr : Nat := 5
abbrev fJump : Nat := 6
abbrev fVsat : Nat := 7

/-- The rate-limited feedback events, once per channel or axis (R262). -/
def fbEv (num : Nat) (axis : Option Nat) (n : Nat) : Ev :=
  let e := match axis with
    | some a => evAxis num a
    | none => evChan num n
  if num = 128 || (134 ≤ num && num ≤ 138) then e.limited (match axis with | some a => 256 + a | none => n)
  else e

/-! ### Speed (R235 to R240) -/

/-- take_interval(t). -/
def SpeedSt.take (s : SpeedSt) (t : Rt) : SpeedSt :=
  { s with k := s.k + 1, tLast := t, tR := t, idle := 0, zero := false }

/-- restart_interval(t). -/
def SpeedSt.restart (s : SpeedSt) (t : Rt) : SpeedSt := { s with tRef := t, tLast := t, k := 0, tR := t }

/-- One decoded edge on CF4–CF15 (R235). -/
def SpeedSt.edge (s : SpeedSt) (st : Int) (t : Rt) : SpeedSt :=
  if st != s.dir then { s with dir := st }.restart t else s.take t

/-- One decoded edge on CF0–CF3, with rest hysteresis (R236). -/
def SpeedSt.privEdge (s : SpeedSt) (st : Int) (t : Rt) : SpeedSt :=
  if st = s.dir then
    { (if s.band = 0 then s.take t else s.restart t) with band := 0 }
  else if s.band = 0 && s.dir != 0 then { s with band := 1 }
  else { s with dir := st, band := 0 }.restart t

/-- An exact quotient in Q15.16, rounded once, ties toward plus infinity (R240). Where no time divides it the manual states no
result, and the value is open (log entry 9). -/
def q16 (num den : Int) : Int :=
  if den = 0 then Config.quotZero num
  else if den < 0 then (2 * (-num) * 65536 - den) / (2 * (-den))
  else (2 * num * 65536 + den) / (2 * den)

/-- Saturate FB_VEL; the flag says that it did (R240). -/
def velSat (x : Int) : Int × Bool := (satS 32 x, outS 32 x)

/-- The speed state of a channel that decodes no edges, SSI and resolver, at S_c: the direction of the last change of position, and
256 cycles without one (R261; log entry 69). -/
def SpeedSt.follow (s : SpeedSt) (d : Int) : SpeedSt :=
  if d != 0 then { s with dir := sgn d, idle := 1, zero := false }
  else if 256 ≤ s.idle then { s with zero := true }
  else { s with idle := s.idle + 1 }

/-- The result stage at S_c (R237): speed, then the restart of the interval. -/
def SpeedSt.form (s : SpeedSt) (rtS : Rt) (tcyc : Nat) : SpeedSt :=
  if 256 ≤ s.idle && s.k = 0 then { s with v := 0, zero := true, vsat := false }
  else if 0 < s.k then
    let (v, sat) := velSat (q16 (s.dir * s.k * tcyc) (rtDiff s.tLast s.tRef))
    { s with v := v, vsat := sat, tRef := s.tLast, k := 0, idle := s.idle + 1 }
  else
    let b := q16 tcyc (rtDiff rtS s.tR)
    let m : Int := if s.v.natAbs ≤ b then (s.v.natAbs : Int) else b
    { s with v := s.dir * m, vsat := false, idle := s.idle + 1 }

/-! ### Digital decoding (R232 to R236) -/

/-- Place of AB in the forward order 00, 10, 11, 01. -/
def quadPlace (a b : Bool) : Nat :=
  match a, b with
  | false, false => 0 | true, false => 1 | true, true => 2 | false, true => 3

/-- The step of R232 before DIRINV; none is a double transition. -/
def quadStep (a b a' b' : Bool) : Option Int :=
  match (quadPlace a' b' + 4 - quadPlace a b) % 4 with
  | 0 => some 0 | 1 => some 1 | 3 => some (-1) | _ => none

/-- What a sample decodes to: counted edges in order, or a double transition. -/
structure Decoded where
  edges  : List (Int × Rt) := []
  double : Bool := false
  /-- Time the step belongs to: the latest stamp it uses (R230). -/
  stamp  : Rt := 0
  deriving DecidableEq, Repr

/-- The new level of a line at a sample. -/
def newLevel (cs : List LineChange) (line : Nat) (old : Bool) : Bool :=
  ((cs.find? fun c => c.line = line).map (·.level)).getD old

/-- The stamp of a line's change at a sample. -/
def stampOf (cs : List LineChange) (line : Nat) : Option Rt :=
  (cs.find? fun c => c.line = line).map (·.stamp)

/-- The later of two ring times. -/
def rtMax (a b : Rt) : Rt := if rtGe a b then a else b

/-- The latest stamp among A and B changes. -/
def stampAB (cs : List LineChange) : Rt :=
  match stampOf cs 0, stampOf cs 1 with
  | some x, some y => rtMax x y
  | some x, none => x
  | none, some y => y
  | none, none => 0

/-- Decode one sample's accepted changes by the channel's type (R232 to R234). -/
def Chan.decode (c : Chan) (cs : List LineChange) : Decoded :=
  let a := newLevel cs 0 c.a
  let b := newLevel cs 1 c.b
  let t := stampAB cs
  if c.type = 1 || c.type = 4 then
    match quadStep c.a c.b a b with
    | none => { double := true, stamp := t }
    | some 0 => { stamp := t }
    | some s => { edges := [(c.inv s, t)], stamp := t }
  else if c.type = 2 then
    let step := (a && !c.a) || (bit c.cfg 12 && a != c.a)
    if !step then { stamp := t }
    else if b != c.b then { double := true, stamp := t }
    else { edges := [(c.inv (if b then 1 else -1), t)], stamp := t }
  else if c.type = 3 then
    let up := if a && !c.a then [(c.inv 1, (stampOf cs 0).getD 0)] else []
    let dn := if b && !c.b then [(c.inv (-1), (stampOf cs 1).getD 0)] else []
    { edges := up ++ dn, stamp := t }
  else { stamp := t }

/-- Results of a channel operation. -/
structure ChanOut where
  ch   : Chan
  evs  : List Ev := []
  /-- SUSPECT rose or fell (R246, R242). -/
  rise : Bool := false
  fall : Bool := false

/-- Set a sticky flag; it belongs to the cycle of the last S when its stamp is before that S (R230,
R255). -/
def Chan.setFlag (c : Chan) (i : Nat) (late : Bool) : Chan :=
  let m : BitVec 8 := 1 <<< i
  let c := { c with flags := c.flags ||| m }
  if late then { c with occS := c.occS ||| m } else { c with occ := c.occ ||| m }

/-- A channel whose position is the count of its edges: quadrature, step and direction, up and down. -/
def Chan.digital (c : Chan) : Bool := c.type = 1 || c.type = 2 || c.type = 3

/-- A count after an edge. -/
def addStep (n : W32) (e : Int × Rt) : W32 := n + BitVec.ofInt 32 e.1

/-- A count without an edge. -/
def lessStep (n : W32) (e : Int × Rt) : W32 := n - BitVec.ofInt 32 e.1

/-- One counted edge (R230, R235, R236): the count follows it; its timing belongs to the cycle of the last S when it is stamped
before that S, and to the old configuration alone where TYPE has changed at that S (R256). -/
def Chan.count (c : Chan) (priv : Bool) (rtS : Rt) (e : Int × Rt) : Chan :=
  if rtGe e.2 rtS then { c with n := addStep c.n e, edges := c.edges ++ [e] }
  else if c.fresh then { c with nS := addStep c.nS e, pos := if c.digital then addStep c.pos e else c.pos }
  else
    { c with n := addStep c.n e, nS := addStep c.nS e, pos := if c.digital then addStep c.pos e else c.pos
             past := c.past ++ [e], lastEdge := some e.2, edgeS := true
             sp := if priv then c.sp.privEdge e.1 e.2 else c.sp.edge e.1 e.2 }

/-- index_drift(lat) of R243: the new state, and whether an index was missed, the deviation exceeds
tol and differs from the last. -/
def DriftSt.index (d : DriftSt) (lat cpr : W32) (tol : Nat) : DriftSt × Bool × Bool × Bool :=
  if !d.idxref then ({ d with e := lat, idxref := true, dev := 0, missing := false }, false, false, false)
  else
    let diff := (lat - d.e).toInt
    let p : Int := cpr.toNat
    let m := if p = 0 then 0 else (diff + p / 2) / p
    let dev := diff - m * p
    let miss := decide (1 < m) || decide (m < -1)
    let past := decide (tol < dev.natAbs)
    ({ d with e := d.e + BitVec.ofInt 32 (m * p), dev := dev, missing := false }, miss, past, past && dev != d.dev)

/-- Travel beyond cpr + tol without an index (R243). -/
def DriftSt.overdue (d : DriftSt) (n cpr : W32) (tol : Nat) : Bool :=
  d.idxref && !d.missing && decide (cpr.toNat + tol < (n - d.e).toInt.natAbs)

/-- IDXQUAL holds at the sample (R242, R261). -/
def Chan.idxQual (c : Chan) (a b : Bool) : Bool :=
  match fld c.cfg 11 10 with
  | 0 => true | 1 => a && b | 2 => a | _ => b

/-- The count that an index latches: every edge decoded up to its sample (R242), a resolver's position (log entry 69). -/
def Chan.indexCount (c : Chan) : W32 := if c.type = 6 then c.pos else c.n

/-- An index is missing (R243): raised once until the next index. -/
def Chan.checkMissing (c : Chan) (ch : Nat) (axis : Option Nat) (late : Bool) : Chan × List Ev :=
  if c.idxMode = 2 && c.drift.overdue c.n c.cpr (fld c.idxtol 15 0) then
    ({ (c.setFlag fIdxMiss late) with suspect := true, drift := { c.drift with missing := true } }, [fbEv EvNo.idxMissing axis ch])
  else (c, [])

/-- The index event of a sample (R242, R243). `susp0` is SUSPECT as it stood before the sample. -/
def Chan.index (c : Chan) (axis : Option Nat) (ch : Nat) (late susp0 : Bool) : ChanOut :=
  let lat := c.indexCount
  let c := { c with idxLatch := lat }
  let c := if late then { c with idxS := true, idxLatchS := lat } else { c with idxNew := true }
  let c := { c with epN := min (c.epN + 1) 65535 }
  let fall := susp0 && c.suspect
  let c := if fall then { c with suspect := false } else c
  let e1 := if fall then [fbEv EvNo.fbSuspectCleared axis ch] else []
  if c.idxMode != 2 then { ch := c, evs := e1, fall := fall }
  else
    let (d, miss, past, newDev) := c.drift.index lat c.cpr (fld c.idxtol 15 0)
    let c := { c with drift := d, epMax := max c.epMax d.dev.natAbs }
    let c := if miss then c.setFlag fIdxMiss late else c
    let c := if past then c.setFlag fIdxDev late else c
    { ch := c, evs := e1 ++ (if newDev then [fbEv EvNo.idxDeviation axis ch] else []), fall := fall }

/-- A filtered level change (R229 to R243): decode, count, then the index of the same sample. -/
def Chan.levelChange (c : Chan) (ch : Nat) (axis : Option Nat) (rtS : Rt) (cs : List LineChange) : ChanOut :=
  let priv := decide (ch < 4)
  let susp0 := c.suspect
  let d := c.decode cs
  let a := newLevel cs 0 c.a
  let b := newLevel cs 1 c.b
  let z := newLevel cs 2 c.z
  let zRise := z && !c.z
  let c := d.edges.foldl (fun c e => c.count priv rtS e) c
  let late := !rtGe d.stamp rtS
  let c := { c with a := a, b := b, z := z }
  let (c, e1) :=
    if d.double then
      ({ (c.setFlag fDbl late) with errDbl := incWrap 16 c.errDbl, suspect := true },
        [fbEv EvNo.fbDouble axis ch])
    else (c, [])
  let susp1 := c.suspect
  let o : ChanOut :=
    if zRise && c.idxMode != 0 && c.idxQual a b && c.type != 0 then
      let zl := !rtGe ((stampOf cs 2).getD 0) rtS
      c.index axis ch zl (susp0 && !d.double)
    else { ch := c }
  let c := o.ch
  let (c, e2) := c.checkMissing ch axis late
  { ch := c, evs := e1 ++ o.evs ++ e2, rise := !susp0 && c.suspect, fall := o.fall && susp1 && !c.suspect }

/-- A line fault begins or ends (R245). On a channel that is off it is seen live and is no anomaly. -/
def Chan.lineFault (c : Chan) (ch : Nat) (axis : Option Nat) (begins : Bool) : ChanOut :=
  if c.type = 0 then { ch := { c with linef := begins } }
  else if begins then
    { ch := { c with linef := true, suspect := true, bad := true }
      evs := if c.linef then [] else [fbEv EvNo.fbLineFault axis ch], rise := !c.suspect }
  else { ch := { c with linef := false } }

/-! ### The result stage at S (R230, R237, R255) -/

/-- The speed state as the result stage at the last S forms it (R237, R238). -/
def Chan.speedS (c : Chan) (rtS : Rt) (len : Nat) : SpeedSt :=
  if c.type = 5 || c.type = 6 then
    match c.posPrev with
    | some p => if c.formed then c.sp.follow (c.pos - p).toInt else c.sp
    | none => c.sp
  else c.sp.form rtS len

/-- The edges stamped before `newS` join the cycle that ends, with its index and its flags (R230, R255). -/
def Chan.close (c : Chan) (newS : Rt) : Chan :=
  let before := c.edges.filter fun e => !rtGe e.2 newS
  let after := c.edges.filter fun e => rtGe e.2 newS
  let nS := after.foldl lessStep c.n
  { c with nS := nS, edges := after, past := before, fresh := false
           lastEdge := (before.getLast?.map (·.2)).orElse fun _ => c.lastEdge
           edgeS := !before.isEmpty
           occS := c.occ, occ := 0, idxS := c.idxNew, idxNew := false, idxLatchS := c.idxLatch
           posPrev := if c.formed then some c.pos else none
           formed := c.formed || c.digital
           pos := if c.type = 4 || c.type = 5 || c.type = 6 then c.pos else nS }

/-- The position of a resolver at a time: θ_p + ω × Δ from the peak nearest to it, with turns in [31:16] (R250). -/
def Chan.resolverPos (c : Chan) (t : Rt) : W32 :=
  match c.peaks with
  | [(p0, t0), (p1, t1)] =>
    let sp := rtDiff t1 t0
    let (p, tp) := if (rtDiff t t1).natAbs ≤ (rtDiff t t0).natAbs then (p1, t1) else (p0, t0)
    w32i (p + if sp ≤ 0 then 0 else (p1 - p0) * rtDiff t tp / sp)
  | [(p, _)] => w32i p
  | _ => 0

/-- The position at S of a resolver, from the peaks known (R250). -/
def Chan.formResolver (c : Chan) (rtS : Rt) : Chan :=
  if c.type = 6 && !c.peaks.isEmpty && !c.fresh then { c with pos := c.resolverPos rtS, formed := true } else c

/-- The boundary of a cycle: the speed of the last S is final, and the channel's position at the new S is formed where it needs no
conversion of that S (R230, R237, R260). -/
def Chan.boundary (c : Chan) (ch : Nat) (oldS : Rt) (oldLen : Nat) (newS : Rt) : Chan :=
  let priv := decide (ch < 4)
  let before := c.edges.filter fun e => !rtGe e.2 newS
  let sp := before.foldl (fun s e => if priv then s.privEdge e.1 e.2 else s.edge e.1 e.2) (c.speedS oldS oldLen)
  let moved := if c.fresh then 0 else ((before.foldl addStep c.nS) - c.nS).toInt.natAbs
  let x := c.close newS
  { x with sp := sp, badS := c.bad || c.linef, bad := false, fineoff := c.type = 4 && decide (oldLen < 4000 * moved)
           ampLow := c.ampMin, ampMin := 0xFFFF }.formResolver newS

/-- The boundary of a cycle in STANDBY: the digital counters, the index and the flags go on, and no speed is formed (R258). -/
def Chan.asleep (c : Chan) (newS : Rt) : Chan := c.close newS

/-- Wake from STANDBY (R239, R258): the speed state starts anew at S of the first cycle, and sin/cos, SSI and resolver channels
start with SUSPECT set. -/
def Chan.wake (c : Chan) (firstS : Rt) : Chan :=
  { c with sp := { tRef := firstS, tLast := firstS, tR := firstS, zero := true }, bad := false, badS := false
           suspect := c.suspect || c.type = 4 || c.type = 5 || c.type = 6, conv := [], peaks := []
           formed := false, posPrev := none, ssiBusy := false }

/-- Wake of a remote source: its positions resume with the first accepted record (R239, R258). -/
def RemoteFb.wake (r : RemoteFb) : RemoteFb :=
  { r with ref := none, n := none, v := 0, sign := 0, idle := 256, dblBase := none, theta := none, step := 0, gap := 0 }

/-- The edge time word FB_TEDGE: last edge relative to S, signed rt, saturated (R255). -/
def tedgeWord (last : Option Rt) (rtS : Rt) : W32 :=
  match last with
  | none => 0
  | some t => w32i (satS 32 (rtDiff t rtS))

/-! ### Sin/cos and resolver (R247 to R250) -/

/-- A corrected conversion (R247): shell gain and offset have been applied to the Q15 inputs; the
lining follows. Result (s, c, a, saturated). -/
def scCorrect (lin lin2 : W32) (xs xc : Int) : Int × Int × Nat × Bool :=
  let ofsS := (BitVec.ofNat 16 (fld lin 15 0)).toInt
  let ofsC := (BitVec.ofNat 16 (fld lin 31 16)).toInt
  let gain : Int := fld lin2 15 0
  let quad := (BitVec.ofNat 16 (fld lin2 31 16)).toInt
  let s := satS 16 (xs - ofsS)
  let c0 := satS 16 (xc - ofsC)
  let c1 := c0 * gain / 32768 + s * quad / 32768
  let c := satS 16 c1
  let m := (s * s + c * c).toNat
  (s, c, min (m / 32768) 0xFFFF, outS 16 (xs - ofsS) || outS 16 (xc - ofsC) || outS 16 c1)

/-- The window check of R247. -/
def Chan.outWin (c : Chan) (a : Nat) : Bool := decide (a < fld c.win 15 0) || decide (fld c.win 31 16 < a)

/-- The position of a sin/cos channel at a conversion (R248): coarse count q, fine angle UQ0.16. The
flag is a disagreement by two quadrants. -/
def scPos (q : W32) (theta k : Nat) (fineoff : Bool) : W32 × Bool :=
  let qf := theta / 16384
  let dq := (qf + 4 - q.toNat % 4) % 4
  if dq = 2 || fineoff then
    (((q >>> 2) <<< k) + w32 (q.toNat % 4 * 2 ^ (k - 2)) + w32 (2 ^ (k - 3)), dq = 2)
  else
    let q' := q + (if dq = 3 then -1 else w32 dq)
    (((q' >>> 2) <<< k) + w32 (theta / 2 ^ (16 - k)), false)

/-- A formed angle UQ0.16: exact to within 1 LSB, the error left open (R248, log entry 9). -/
def fbAngle (s c : Int) : Nat := atan2K 1 16 s c (Config.angleErr s c)

/-- The position at S of a sin/cos channel from the conversion at S (R248); a disagreement of a cycle counts once. -/
def Chan.formSc (c : Chan) (ch : Nat) (axis : Option Nat) : Chan × List Ev :=
  if c.type != 4 || c.fresh then (c, [])
  else
    let (p, quad) := scPos c.nS (fbAngle c.scS.1 c.scS.2) c.interp (c.fineoff || c.winS)
    let again := c.occS.getLsbD fScQuad
    let c := { c with pos := p, formed := true }
    if quad && !again then
      ({ (c.setFlag fScQuad true) with errAnom := incWrap 16 c.errAnom, suspect := true }, [fbEv EvNo.scTrack axis ch])
    else (c, [])

/-- A conversion result at time t (R247): checked against the window; the one at S gives the position. -/
def Chan.convert (c : Chan) (ch : Nat) (axis : Option Nat) (atS : Bool) (t : Rt) (xs xc : Int) : ChanOut :=
  let (s, co, a, sat) := scCorrect c.lin c.lin2 xs xc
  let out := c.outWin a
  let susp0 := c.suspect
  let c := if sat then c.setFlag fVsat atS else c
  let c := { c with ampMin := min c.ampMin a }
  let c := if atS then { c with scS := (s, co), ampS := a, winS := out } else c
  let c := if c.type = 4 then
      let p := (scPos c.n (fbAngle s co) c.interp (c.fineoff || out)).1
      { c with conv := (c.conv ++ [(p, t)]).drop (c.conv.length - 3) }
    else c
  let (c, evs) := if atS then c.formSc ch axis else (c, [])
  if out then
    let c := { (c.setFlag fScWin atS) with errAnom := incWrap 16 c.errAnom, suspect := true }
    let c := if atS then { c with badS := true } else { c with bad := true }
    { ch := c, evs := fbEv EvNo.scAmplitude axis ch :: evs, rise := !susp0 }
  else { ch := c, evs := evs, rise := !susp0 && c.suspect }

/-- Signed difference of UQ0.16 angles, −32768 to 32767. -/
def angDiff (a b : Nat) : Int := (BitVec.ofInt 16 ((a : Int) - b)).toInt

/-- The peaks with a new one; the turns are those of the newest. -/
def Chan.addPeak (c : Chan) (p : Int) (t : Rt) : Chan :=
  { c with turns := p / 65536, peaks := (c.peaks ++ [(p, t)]).drop (c.peaks.length - 1) }

/-- The position that the last speed predicts at a time (R249). -/
def Chan.predicted (c : Chan) (t : Rt) : Int :=
  match c.peaks with
  | [(p0, t0), (p1, t1)] => p1 + if rtDiff t1 t0 ≤ 0 then 0 else (p1 - p0) * rtDiff t t1 / rtDiff t1 t0
  | (p, _) :: _ => p
  | [] => c.turns * 65536

/-- A tracking error at a peak (R249, R250, R396): the position advances by the predicted step, and the pair is not used. -/
def Chan.peakError (c : Chan) (ch : Nat) (axis : Option Nat) (t : Rt) : ChanOut :=
  { ch := { ((c.addPeak (c.predicted t) t).setFlag fScQuad false) with errAnom := incWrap 16 c.errAnom, suspect := true }
    evs := [fbEv EvNo.scTrack axis ch], rise := !c.suspect }

/-- A resolver peak (R250): the angle at the peak extends the turns; a change of 3/8 turn or more is a tracking error. -/
def Chan.peak (c : Chan) (ch : Nat) (axis : Option Nat) (t : Rt) (theta : Nat) : ChanOut :=
  match c.peaks.getLast? with
  | none => { ch := c.addPeak (c.turns * 65536 + theta) t }
  | some (p, _) =>
    let d := angDiff theta (p % 65536).toNat
    if 24576 ≤ d.natAbs then c.peakError ch axis t else { ch := c.addPeak (p + d) t }

/-! ### SSI (R251) -/

/-- Gray to binary. -/
def grayBin (n : Nat) : Nat → Nat
  | 0 => n
  | k + 1 => grayBin (n ^^^ (n >>> 2 ^ k)) k

/-- Parity of the low `w` bits. -/
def parityOf (n : Nat) : Nat → Bool
  | 0 => false
  | w + 1 => n.testBit w != parityOf n w

/-- An SSI transfer ends (R251): data line low before the first clock, the data bits as read, the
parity bit, the stop bit. -/
def Chan.ssiDone (c : Chan) (ch : Nat) (axis : Option Nat) (low : Bool) (data : Nat) (par stop : Bool) : ChanOut :=
  let w := fld c.ssiCfg 13 8
  let badPar := bit c.ssiCfg 15 && (parityOf data w != par)
  let c := { c with ssiBusy := false }
  if low || stop || badPar then
    let e := [fbEv EvNo.ssiError axis ch]
    { ch := { (c.setFlag fSsiErr true) with errAnom := incWrap 16 c.errAnom, suspect := true, badS := true, ssiErr := true }
      evs := e, rise := !c.suspect }
  else
    let raw := (if bit c.ssiCfg 14 then grayBin data 5 else data) % 2 ^ w
    let n := match c.ssiRaw with
      | none => w32 raw
      | some p => c.n + w32i (BitVec.ofInt w ((raw : Int) - p)).toInt
    let clear := c.suspect && c.ssiErr
    let susp0 := c.suspect && !clear
    let (c, evs) := { c with n := n, nS := n, pos := n, formed := true, ssiRaw := some raw, suspect := susp0, ssiErr := false }.checkMissing ch axis true
    { ch := c, evs := (if clear then [fbEv EvNo.fbSuspectCleared axis ch] else []) ++ evs
      rise := !susp0 && c.suspect, fall := clear && !c.suspect }

/-- A transfer begins at S (R251): the first falling clock edge. The first one after a configuration change starts anew. -/
def Chan.ssiStart (c : Chan) : Chan :=
  { c with ssiBusy := true, ssiCfg := c.cfg2, ssiRaw := if c.ssiNew then none else c.ssiRaw, ssiNew := false }

/-! ### Latches and commands (R246, R254, R256) -/

/-- The two conversions around a time, or the last two before it. -/
def around (t : Rt) : List (W32 × Rt) → Option ((W32 × Rt) × (W32 × Rt))
  | x :: y :: r => if rtGe y.2 t || r.isEmpty then some (x, y) else around t (y :: r)
  | _ => none

/-- The conversion that follows a time is still to come. -/
def Chan.waits (c : Chan) (t : Rt) : Bool :=
  c.type = 4 && match c.conv.getLast? with | some (_, t1) => !rtGe t1 t | none => true

/-- The position of a channel at a time (R254): digital counts include the edges stamped up to it; a sin/cos position is
interpolated between the two conversions around it; a resolver's is formed at it, and an SSI channel's is the last one read (log
entry 69). -/
def Chan.posAt (c : Chan) (t : Rt) : W32 :=
  if c.type = 4 then
    if c.waits t then ((c.conv.getLast?).map (·.1)).getD c.pos
    else
      match around t c.conv with
      | some ((p0, t0), (p1, t1)) =>
        let d := rtDiff t1 t0
        if d ≤ 0 then p1 else p0 + w32i ((p1 - p0).toInt * rtDiff t t0 / d)
      | none => ((c.conv.getLast?).map (·.1)).getD c.pos
  else if c.type = 5 then c.pos
  else if c.type = 6 then c.resolverPos t
  else ((c.past ++ c.edges).filter fun e => !rtGe t e.2).foldl lessStep c.n

/-- Latch entries of a source that has a new conversion: the position is interpolated (R254). -/
def Chan.latchResolve (c src : Chan) : Chan :=
  { c with latch := c.latch.map fun e => if e.wait then { e with pos := src.posAt e.rt, wait := src.waits e.rt } else e }

/-- Latch entries of a source that has decoded edges, or a double transition, stamped no later than they are: filters delay edges,
and a latch holds the position and the SUSPECT state at its own time (R254). -/
def Chan.latchLate (c : Chan) (count : Bool) (d : Decoded) : Chan :=
  { c with latch := c.latch.map fun e =>
      { e with pos := if count then (d.edges.filter fun x => rtGe e.rt x.2).foldl addStep e.pos else e.pos
               susp := e.susp || (d.double && rtGe e.rt d.stamp) } }

/-- LATEDGE selects this edge (R254, R261). -/
def Chan.latSelects (c : Chan) (rising : Bool) : Bool :=
  match fld c.cfg 14 13 with
  | 1 => rising | 2 => !rising | 3 => true | _ => false

/-- A latch event of channel `ch` with the source's position and SUSPECT (R254). -/
def Chan.latchEvent (c : Chan) (ch : Nat) (src : Chan) (t : Rt) : ChanOut :=
  if c.latch.length < 8 then
    { ch := { c with latch := c.latch ++ [{ pos := src.posAt t, rt := t, susp := src.suspect, wait := src.waits t }] } }
  else { ch := { c with latchOvf := incWrap 8 c.latchOvf }, evs := [fbEv EvNo.latchOverflow none ch] }

/-- A read of CUFF_LATCH_CNT (R260): pops the oldest entry. -/
def Chan.latchPop (c : Chan) : Chan × W32 :=
  match c.latch with
  | [] => ({ c with latchT := 0, latchStat := (false, false) }, 0)
  | e :: t => ({ c with latch := t, latchT := e.rt, latchStat := (true, e.susp) }, e.pos)

/-- CUFF_LATCH_STAT (R261). -/
def Chan.latchStatWord (c : Chan) : W32 :=
  w32 (c.latch.length + 16 * b2n c.latchStat.2 + 256 * c.latchOvf + 2147483648 * b2n c.latchStat.1)

/-- CUFF_FLAGS (R261): ZERO and DIR are those of the last S. -/
def Chan.flagsWord (c : Chan) (rtS : Rt) (len : Nat) : W32 :=
  let s := c.speedS rtS len
  w32 (c.flags.toNat + 256 * b2n c.suspect + 512 * b2n c.drift.idxref + 1024 * b2n c.linef
    + 2048 * b2n (decide (s.dir < 0)) + 4096 * b2n (s.zero && c.type != 0) + 8192 * b2n c.fineoff
    + 16384 * b2n c.edgeS + 32768 * b2n c.idxS)

/-- FB_FLAGS of a local channel: the sticky bits report occurrence within the cycle (R255). -/
def Chan.fbFlags (c : Chan) (rtS : Rt) (len : Nat) : W32 := (c.flagsWord rtS len &&& ~~~0xFF) ||| c.occS.zeroExtend 32

/-- CLR_SUSPECT (R246). -/
def Chan.clearSuspect (c : Chan) (ch : Nat) (axis : Option Nat) : ChanOut :=
  if c.suspect then { ch := { c with suspect := false }, evs := [fbEv EvNo.fbSuspectCleared axis ch], fall := true }
  else { ch := c }

/-- The value checks of R256 on a configuration write; `reg` is the register's offset in the page. -/
def cuffValueOk (ch reg : Nat) (v : W32) : Bool :=
  if reg = 0x00 then !((fld v 2 0 = 4 || fld v 2 0 = 6) && decide (8 ≤ ch))
  else if reg = 0x04 then decide (8 ≤ fld v 13 8) && decide (fld v 13 8 ≤ 32)
  else if reg = 0x08 then decide (16 ≤ v.toNat) && decide (v.toNat ≤ 2 ^ 30)
  else true

/-- A change of TYPE restarts the count at 0 and clears SUSPECT, IDXREF and the latch FIFO quietly (R256); the speed state starts
anew (R239). The count of the S at which it takes effect stays that of the old configuration. -/
def Chan.restart (c : Chan) (rtS : Rt) : Chan :=
  { c with n := 0, formed := false, posPrev := none, fresh := true, edges := [], past := [], suspect := false, latch := []
           drift := {}, sp := { tRef := rtS, tLast := rtS, tR := rtS, zero := true }, ssiRaw := none, ssiBusy := false
           ssiErr := false, conv := [], turns := 0, peaks := [], lastEdge := none }

/-- An accepted configuration write takes effect (R256). -/
def Chan.setCfg (c : Chan) (reg : Nat) (rtS : Rt) (v : W32) : Chan :=
  if reg = 0x00 then
    let old := c.type
    let c := { c with cfg := v, ssiNew := true }
    if c.type = old then c else c.restart rtS
  else if reg = 0x04 then { c with cfg2 := replFld v 3 0 3 14 10, ssiNew := true }
  else if reg = 0x08 then { c with cpr := v }
  else if reg = 0x0C then { c with idxtol := v }
  else if reg = 0x2C then { c with win := v }
  else if reg = 0x30 then { c with lin := v }
  else if reg = 0x34 then { c with lin2 := v }
  else c

/-- The registers of a channel page (R260). -/
def Chan.read (c : Chan) (reg : Nat) (rtS : Rt) (len : Nat) : W32 :=
  if reg = 0x00 then c.cfg else if reg = 0x04 then c.cfg2 else if reg = 0x08 then c.cpr
  else if reg = 0x0C then c.idxtol else if reg = 0x10 then c.pos
  else if reg = 0x14 then tedgeWord c.lastEdge rtS
  else if reg = 0x18 then c.idxLatch else if reg = 0x1C then w32i c.drift.dev
  else if reg = 0x20 then c.flagsWord rtS len
  else if reg = 0x24 then w32 (c.errDbl + 65536 * c.errAnom)
  else if reg = 0x28 then w32 (c.ampS + 65536 * c.ampLow)
  else if reg = 0x2C then c.win else if reg = 0x30 then c.lin else if reg = 0x34 then c.lin2
  else if reg = 0x3C then lo32 c.latchT else if reg = 0x40 then hi32 c.latchT
  else if reg = 0x44 then c.latchStatWord
  else if reg = 0x48 then w32 (min c.lastMax 65535 + 65536 * c.lastN)
  else if reg = 0x4C then c.glitch
  else 0

end Sys2Proof.Machine
end

