-- ==== Sys2Proof/Machine/Ring.lean ====
section
/-! DEFINITION. Machine/Ring.lean: segments, breaks, delay measurement, admission and the role
machine, as operations on one segment or on the role state (R91 to R140). -/

namespace Sys2Proof.Machine

/-! ### Rings and breaks (R101 to R105) -/

/-- A sense copy returned in time (R101): a ring not yet known is closed from its first return. -/
def RingDir.returned (r : RingDir) (t : Int) : RingDir :=
  { r with known := true, closed := r.closed || !r.known, miss := 0, ret := r.ret + 1, last := some t }

/-- An open ring closes after 16 consecutive returns (R101); the flag says that it did. -/
def RingDir.close (r : RingDir) : RingDir × Bool :=
  if r.known && !r.closed && decide (16 ≤ r.ret) then ({ r with closed := true }, true) else (r, false)

/-- A sense copy missed its deadline (R101): two in a row open the ring. -/
def RingDir.missed (r : RingDir) : RingDir :=
  if 2 ≤ r.miss + 1 then { r with known := true, closed := false, miss := r.miss + 1, ret := 0, late := true }
  else { r with miss := r.miss + 1, ret := 0, late := true }

/-- A new cycle's copy leaves. -/
def RingDir.launch (r : RingDir) : RingDir := { r with last := none, late := false }

/-- Either ring is open. -/
def Segment.anyOpen (g : Segment) : Bool :=
  (g.a.known && !g.a.closed) || (g.b.known && !g.b.closed)

/-- Table positions of the segment. -/
def ImgSeg.len (i : ImgSeg) : Nat := i.nodes.foldl (fun n e => max n (e.1 + 1)) 0

/-- The node at a position. -/
def Segment.node (g : Segment) (p : Nat) : Node := g.nodes.look p {}

/-- Change the node at a position. -/
def Segment.updNode (g : Segment) (p : Nat) (f : Node → Node) : Segment :=
  { g with nodes := g.nodes.upd p {} f }

/-- Positions whose copies are expected at both ports: the admitted ones, in rising order. -/
def Segment.hearable (g : Segment) : List Nat := (g.nodes.filter fun e => e.2.st == .admitted).map (·.1)

/-- A position is taken as not heard at a port after two cycles in a row without a copy there, the two cycles of R101
(DEDUCED, log entry 67); nothing is heard over the link toward an old crown (R119). -/
def Segment.mute (g : Segment) (side p : Nat) : Bool :=
  if side = 0 then g.cut || decide (2 ≤ (g.node p).silA) else decide (2 ≤ (g.node p).silB)

/-- The position before position `p`; 0xFE before position 0 (R136). -/
def posBefore (p : Nat) : Nat := if p = 0 then 0xFE else p - 1

/-- The position before a break that lies after `lo` and before `hi`, the nearest positions known on either side; none is the head's
own port An or Bn (R102). A receiver without block lock, or a failed head port, says where: the receiver toward the break. Where
no report says so the break is placed next to `lo`. -/
def Segment.gapBreak (g : Segment) (n : Nat) (upA upB : Bool) (lo hi : Option Nat) : Nat :=
  let high := match hi with
    | some h => if (g.node h).lockA then none else some (posBefore h)
    | none => if upB then none else some (posBefore n)
  match lo with
  | some l => if (g.node l).lockB then high.getD l else l
  | none => if upA then high.getD 0xFE else 0xFE

/-- The breaks (R102). The positions from the first one not heard at An to the last one not heard at Bn are unreachable: one such
position alone is a dead node and is a break at its own position; several lie between two breaks; where there is none, one break
lies between the last position heard at An and the first heard at Bn. -/
def Segment.placeBreaks (g : Segment) (n : Nat) (upA upB : Bool) : List Nat :=
  let hs := g.hearable
  let prev := fun (x : Nat) => (hs.filter (· < x)).getLast?
  let next := fun (x : Nat) => (hs.filter (x < ·)).head?
  match hs.find? (g.mute 0), hs.reverse.find? (g.mute 1) with
  | none, none =>
    if hs.isEmpty then ((if upA then [] else [0xFE]) ++ (if upB then [] else [posBefore n])).eraseDups else []
  | some a, none => [g.gapBreak n upA upB (prev a) (some a)]
  | none, some b => [g.gapBreak n upA upB (some b) (next b)]
  | some a, some b =>
    if b < a then [g.gapBreak n upA upB (some b) (some a)]
    else if a = b then [a]
    else [g.gapBreak n upA upB (prev a) (some a), g.gapBreak n upA upB (some b) (next b)]

/-- Count the cycles in a row in which each admitted position was not heard at each port. -/
def Segment.countSilence (g : Segment) : Segment :=
  { g with nodes := g.nodes.each fun _ k =>
      if k.st == .admitted then { k with silA := if k.heardA then 0 else k.silA + 1, silB := if k.heardB then 0 else k.silB + 1 }
      else { k with silA := 0, silB := 0 } }

/-- Place the breaks while a ring is open, raising EV_RING_BREAK once for each new one (R103). A split ends with its second break
(R104). -/
def Segment.updateBreaks (g : Segment) (seg n : Nat) (upA upB : Bool) : Segment × List Ev :=
  let new := if g.anyOpen || g.cut then g.placeBreaks n (upA && !g.cut) upB else []
  let evs := (new.filter fun b => !g.breaks.contains b).map fun _ => evSeg EvNo.ringBreak seg
  ({ g with breaks := new, split := g.split && decide (2 ≤ new.length) }, evs)

/-- Does a position lie between the two breaks (R104)? -/
def Segment.between (g : Segment) (p : Nat) : Bool :=
  match g.breaks with
  | [x, y] => (x = 0xFE || decide (x < p)) && decide (p ≤ y)
  | _ => false

/-! ### Delay measurement (R107 to R110) -/

/-- Take one accepted round, given in quarter rt: the mean up to 16 rounds, then a running filter of
one sixteenth of each new error (R108). -/
def DelayFilt.add (d : DelayFilt) (x4 : Int) : DelayFilt :=
  if d.n < 16 then
    let n := d.n + 1
    let sum := d.sum + x4
    { n := n, sum := sum, v := sum * 16384 / (n : Int) }
  else { d with v := d.v + (x4 * 16384 - d.v) / 16 }

/-- The filtered delay in whole rt. -/
def DelayFilt.rt (d : DelayFilt) : Int := d.v / 65536

/-- One delay round of node `pos` (R107, R108): Δ and f as reported, in rt. While a ring is open no
round is taken; a round with a negative delay or an inconsistent sum is discarded. The event is
raised where a filtered value rises above its proved one (R110). -/
def Segment.delayRound (g : Segment) (img : ImgSeg) (seg pos : Nat) (delta f : Int) :
    Segment × List Ev :=
  let dA4 := g.dloop2 - 2 * f - 2 * delta
  let dB4 := 2 * g.dloop2 - 4 * f - dA4
  let err4 := dA4 + dB4 + 4 * f - 2 * g.dloop2
  if g.anyOpen || decide (dA4 < 0) || decide (dB4 < 0) || decide (32 < err4.natAbs) then (g, [])
  else
    let k := g.node pos
    let a := k.dA.add dA4
    let b := k.dB.add dB4
    let i := img.nodes.look pos {}
    let overA := decide ((i.dA : Int) * 65536 < a.v)
    let overB := decide ((i.dB : Int) * 65536 < b.v)
    let rise := k.st == .admitted && ((overA && !k.overA) || (overB && !k.overB))
    (g.updNode pos fun k => { k with dA := a, dB := b, fk := f, overA := overA, overB := overB },
      if rise then [evNode EvNo.delayExceeded seg pos] else [])

/-! ### Admission (R121 to R129) -/

/-- The revision selected for a node (R127, R128): the highest one in its bitmap, in the entry's
range and permitted by the layer (Finzo 1 on 2.5GBASE-X only). 0 where none qualifies. -/
def selectRev (phy : Phy) (e : ImgNode) (caps : Nat) : Nat :=
  ([3, 2, 1].find? fun r => natBit caps (r - 1) && decide (e.revMin ≤ r) && decide (r ≤ e.revMax) &&
    (decide (2 ≤ r) || phy == .g25)).getD 0

/-- The outcome of CHECK (R123). -/
inductive Check where
  | accept (rev : Nat)
  | refuse (reason : Nat)
  | refuseSegment
  deriving DecidableEq, Repr

/-- The ordered checks of R123 on what answered at a position. -/
def Segment.check (g : Segment) (img : ImgSeg) (pos : Nat) : Check :=
  let k := g.node pos
  match k.ident with
  | none => .refuse 0x8
  | some d =>
    match img.nodes.look? pos with
    | none => .refuse 0x1
    | some e =>
      let rev := selectRev img.phy e d.caps
      if e.spare then .refuse 0x1
      else if !d.good then .refuse 0x2
      else if d.part != e.part then .refuse 0x3
      else if e.identity != 0 && d.identity != e.identity then .refuse 0x4
      else if d.axes != e.axes then .refuse 0x5
      else if rev = 0 then .refuse 0x6
      else if e.tRdy < d.tRdy || e.tLoad < d.tLoad then .refuse 0x7
      else if (e.dA : Int) * 65536 < k.dA.v || (e.dB : Int) * 65536 < k.dB.v then .refuseSegment
      else .accept rev

/-- Queue a refusal: the oldest 48 stay, the event is raised for each (R125, R137). -/
def Segment.refuseNode (g : Segment) (seg pos reason : Nat) : Segment × List Ev :=
  let q := if g.refuse.length < 48 then g.refuse ++ [(pos, reason)] else g.refuse
  let g := { g with refuse := q }
  let g := if reason = 0x8 then g else g.updNode pos fun k => { k with st := .refused, tell := some (reason, 0) }
  (g, [evNode EvNo.nodeRefused seg pos reason])

/-- The segment is refused under R65: it admits no node and raises EV_DELAY_EXCEEDED (R125). -/
def Segment.refuseAll (g : Segment) (seg : Nat) : Segment × List Ev :=
  ({ g with phase := .refused
            nodes := g.nodes.each fun _ k => if k.st == .admitted then { k with st := .present } else k },
    [evSeg EvNo.delayExceeded seg])

/-- CONFIRM: the node is admitted at the revision CHECK selected (R121, R127). The spec gives the node's confirmation no record: the
model takes it as made at the end of the CONFIRM cycle (DESIGN CHOICE, log entry 66). -/
def Segment.confirm (g : Segment) (seg pos rev : Nat) : Segment × List Ev :=
  (g.updNode pos fun k => { k with st := .admitted, rev := rev, unreach := 0, tIn := 0, tOut := 0
                                   overA := false, overB := false, answered := false, silA := 0, silB := 0 },
    [evNode EvNo.nodeAdmitted seg pos])

/-- An admitted node leaves the admitted set and EV_NODE_LOST is raised (R104, R75, R126). The
caller faults its axes. -/
def Segment.loseNode (g : Segment) (seg pos : Nat) : Segment × List Ev :=
  if (g.node pos).st == .admitted then
    (g.updNode pos fun k => { k with st := .lost, unreach := 0, readmit := 0 },
      [evNode EvNo.nodeLost seg pos])
  else (g, [])

/-- An admitted Finzo 2 or 3 node is present (R121). -/
def Segment.hasTimed (g : Segment) : Bool :=
  g.nodes.any fun e => e.2.st == .admitted && decide (2 ≤ e.2.rev)

/-- Nodes that answered beyond the table are refused (R123, check 1). ADMIT takes three cycles per table position, so this is at its
end (DEDUCED, log entry 67). -/
def Segment.refuseExtra (g : Segment) (img : ImgSeg) (seg : Nat) : Segment × List Ev :=
  (g.nodes.filter fun e => e.2.st == .present && decide (img.len ≤ e.1)).foldl
    (fun r e => let (g, evs) := r.1.refuseNode seg e.1 0x1; (g, r.2 ++ evs)) (g, [])

/-- ADMIT has ended: LOCK where Finzo 2 or 3 nodes are admitted, else FORMED (R121). -/
def Segment.admitEnd (g : Segment) (img : ImgSeg) (seg : Nat) : Segment × List Ev :=
  let (g, evs) := g.refuseExtra img seg
  if g.hasTimed then ({ g with phase := .lock, cnt := 0, lockRun := 0 }, evs)
  else ({ g with phase := .formed, cnt := 0 }, evs ++ [evSeg EvNo.segFormed seg])

/-- Admission of a position: 0 begins its IDENT cycle, 1 is CHECK at the end of that cycle, whose verdict leaves in the CHECK
cycle, 2 the end of that one, and 3 the end of the CONFIRM cycle, from which the slots are open (R121). The spec gives CONFIRM no
record of its own: every accepted node confirms, DESIGN CHOICE (log entry 66). -/
def Segment.admitStep (g : Segment) (img : ImgSeg) (seg pos sub : Nat) : Segment × List Ev :=
  match sub with
  | 0 => (g.updNode pos fun k => { k with ident := none, tell := none, okRev := 0, cfgSent := false }, [])
  | 1 =>
    match g.check img pos with
    | .refuse r => g.refuseNode seg pos r
    | .refuseSegment => g.refuseAll seg
    | .accept rev => (g.updNode pos fun k => { k with tell := some (0, rev), okRev := rev }, [])
  | 2 => (g, [])
  | _ => if 0 < (g.node pos).okRev then g.confirm seg pos (g.node pos).okRev else (g, [])

/-- The IDENT cycle of a position begins, unless the COMMIT record needs the area in that cycle (R173). -/
def Segment.beginIdent (g : Segment) (img : ImgSeg) (seg pos : Nat) (hold : Bool) : Segment :=
  if hold then { g with pos := pos, sub := 0 } else { (g.admitStep img seg pos 0).1 with pos := pos, sub := 1 }

/-- Re-admission steps of nodes that READMIT or AUTOREADMIT chose (R126): one step per cycle. -/
def Segment.readmitStep (g : Segment) (img : ImgSeg) (seg : Nat) (hold : Bool) : Segment × List Ev :=
  match (g.nodes.find? fun e => decide (0 < e.2.readmit)).map fun e => (e.1, e.2.readmit) with
  | none => (g, [])
  | some (pos, n) =>
    if n = 4 && hold then (g, [])
    else
      let (g, evs) := g.admitStep img seg pos (4 - n)
      (g.updNode pos fun k => { k with readmit := n - 1 }, evs)

/-- At the epoch boundary, AUTOREADMIT picks refused or lost nodes that answer again (R126), not ABSENT ones (log entry 66). -/
def Segment.autoReadmit (g : Segment) : Segment :=
  if bit g.ctl 4 then
    { g with nodes := g.nodes.each fun _ k =>
        if (k.st == .refused || k.st == .lost) && k.answered && k.readmit = 0
        then { k with readmit := 4, answered := false } else k }
  else g

/-- The segment starts to form (R121): a ring that links goes from DOWN to DISCOVER, with its measurements, its breaks and
its admitted set empty. The two cycles of DISCOVER are whole ones: the cycle in which it starts counts as 0. -/
def Segment.startForm (g : Segment) : Segment :=
  if g.phase == .down && !g.dead then
    { g with phase := .discover, cnt := 0, pos := 0, sub := 0, a := {}, b := {}, breaks := [], split := false, nodes := [], lockRun := 0 }
  else g

/-- One cycle of segment formation at the boundary (R121); `hold` says that the next cycle is c_eff − 1 of a committed mode change,
in which no IDENT cycle is placed (R173). -/
def Segment.phaseStep (g : Segment) (img : ImgSeg) (seg : Nat) (hold : Bool) : Segment × List Ev :=
  match g.phase with
  | .down | .refused => (g, [])
  | .discover =>
    if g.cnt + 1 < 3 then ({ g with cnt := g.cnt + 1 }, [])
    else if img.len = 0 then { g with phase := .admission, pos := 0, sub := 0 }.admitEnd img seg
    else ({ g with phase := .admission }.beginIdent img seg 0 hold, [])
  | .admission =>
    if g.sub = 0 then (g.beginIdent img seg g.pos hold, [])
    else
      let (g, evs) := g.admitStep img seg g.pos g.sub
      if g.phase == .refused then (g, evs)
      else if g.sub < 3 then ({ g with sub := g.sub + 1 }, evs)
      else if g.pos + 1 < img.len then (g.beginIdent img seg (g.pos + 1) hold, evs)
      else
        let (g, evs') := { g with pos := 0, sub := 0 }.admitEnd img seg
        (g, evs ++ evs')
  | .lock =>
    if 256 ≤ g.lockRun then
      ({ g with phase := .formed, cnt := 0 }, [evSeg EvNo.segFormed seg])
    else g.readmitStep img seg hold
  | .formed => g.readmitStep img seg hold

/-- LINK_SEG_STAT (R136). -/
def Segment.statWord (g : Segment) : W32 :=
  w32 (g.phase.code + 16 * b2n g.a.closed + 32 * b2n g.b.closed + 64 * min g.breaks.length 2
    + 256 * (countP' (fun e => e.2.heardA || e.2.heardB || e.2.st != .absent) g.nodes % 256)
    + 65536 * (countP' (fun e => e.2.st == .admitted) g.nodes % 256))

/-- LINK_SEG_BREAK (R136). -/
def Segment.breakWord (g : Segment) : W32 :=
  w32 (g.breaks.getD 0 0xFF % 256 + 256 * (g.breaks.getD 1 0xFF % 256))

/-- The admitted bitmap (R135). -/
def Segment.admitMap (g : Segment) : Nat :=
  g.nodes.foldl (fun m e => if e.2.st == .admitted && decide (e.1 < 48) then m + 2 ^ e.1 else m) 0

/-- LOSS_CYC in force; 0 and 9–15 are replaced by 2 (R136). -/
def Segment.lossCyc (g : Segment) : Nat :=
  let n := fld g.ctl 3 0
  if n = 0 || 8 < n then 2 else n

/-- A position that answers is present (R136). -/
def Node.seen (k : Node) : Node := if k.st == .absent then { k with st := .present } else k

/-- LINK_SEG_NODE of a position (R136). -/
def Node.word (k : Node) : W32 := w32 (k.st.code + 16 * (k.rev % 4) + 256 * (k.caps % 8))

/-! ### Roles (R111 to R120) -/

/-- Is claim a stronger than claim b (R114)? -/
def stronger (prioA : Nat) (uidA : BitVec 64) (prioB : Nat) (uidB : BitVec 64) : Bool :=
  if prioA != prioB then decide (prioB < prioA) else decide (uidA.toNat < uidB.toNat)

/-- t_listen in rt: max(1 ms, 32 × T_cyc) (R112). -/
def tListen (tcyc : Nat) : Nat := max 4000000 (32 * tcyc)

/-- What the chip's own claim carries (R113). -/
structure OwnClaim where
  prio : Nat
  uid  : BitVec 64
  chk  : W32
  tcyc : Nat

/-- Start LISTEN, or NONE where the image is not crown-capable (R111, R130). -/
def RoleState.startListen (r : RoleState) (capable : Bool) (now : Rt) : RoleState :=
  if capable then { r with role := .listen, listening := false, claims := 0, noCrown := 0, listenAt := now }
  else { r with role := .none, listening := false, claims := 0 }

/-- Enter REFUSED and raise EV_CLAIM_REFUSED (R115, R117). -/
def RoleState.refuse (r : RoleState) : RoleState × List Ev :=
  ({ r with role := .refused, claims := 0 }, [ev0 EvNo.claimRefused])

/-- Enter CLAIM: the claim count starts. -/
def RoleState.enterClaim (r : RoleState) : RoleState := { r with role := .claim, claims := 0 }

/-- Remember the sender of a role record (R133, R134). -/
def RoleState.seen (r : RoleState) (m : RoleRec) : RoleState := { r with peer := some m }

/-- A claim role record is received (R112, R114, R115, R116). A bad CRC is ignored (R132). -/
def RoleState.claimReceived (r : RoleState) (own : OwnClaim) (now : Rt) (m : RoleRec) :
    RoleState × List Ev :=
  if !m.crcOk then (r, [])
  else
    let r := r.seen m
    let weaker := stronger own.prio own.uid m.prio m.uid
    match r.role with
    | .listen =>
      if m.uid = own.uid then r.refuse
      else if weaker then (r.enterClaim, [])
      else ({ r with listenAt := now, listening := true }, [])
    | .claim =>
      if m.chk != own.chk || m.tcyc != own.tcyc then r.refuse
      else if m.uid = own.uid then r.refuse
      else if weaker then (r, [])
      else ({ r with role := .listen, claims := 0, listenAt := now, listening := true }, [])
    | .none | .crown | .spare | .refused | .standby => (r, [])

/-- A crown role record is received (R112, R117, R118, R120). -/
def RoleState.crownReceived (r : RoleState) (own : OwnClaim) (m : RoleRec) : RoleState × List Ev :=
  if !m.crcOk then (r, [])
  else
    let r := r.seen m
    match r.role with
    | .listen | .claim =>
      if m.chk = own.chk then ({ r with role := .spare, heldRole := true, noCrown := 0, claims := 0 }, [])
      else r.refuse
    | .spare =>
      if m.chk = own.chk then ({ r with noCrown := 0, crownHeard := true }, []) else r.refuse
    | .crown =>
      if stronger own.prio own.uid m.prio m.uid then (r, [])
      else
        ({ r with yieldTo := some (if m.chk = own.chk && m.uid != own.uid then .spare else .refused) }, [])
    | .none | .refused | .standby => (r, [])

/-- Enter CROWN by claim: EV_CLAIM_WON (R116). -/
def RoleState.win (r : RoleState) : RoleState × List Ev :=
  ({ r with role := .crown, heldRole := true, claims := 0, takenOver := false }, [ev0 EvNo.claimWon])

/-- One claim has been sent; the eighth without an answer enters CROWN (R116). -/
def RoleState.sendClaim (r : RoleState) : RoleState × List Ev :=
  if r.role == .claim then
    let r := { r with claims := r.claims + 1 }
    if 8 ≤ r.claims then r.win else (r, [])
  else (r, [])

/-- A spare counts a cycle without a crown record on any segment (R118). -/
def RoleState.countCycle (r : RoleState) : RoleState :=
  if r.role == .spare then
    if r.crownHeard then { r with crownHeard := false, noCrown := 0 } else { r with noCrown := r.noCrown + 1 }
  else r

/-- Takeover: two claims, then CROWN (R118). -/
def RoleState.takeover (r : RoleState) : RoleState × List Ev :=
  ({ r with role := .crown, takenOver := true, heldRole := true, noCrown := 0 },
    [ev0 EvNo.takeover])

end Sys2Proof.Machine
end

