-- ==== Sys2Proof/Machine/Slots.lean ====
section
/-! DEFINITION. Machine/Slots.lean: attribution, bands and correction of uplink runs, record
checks, slot outcomes, babble detection (R149 to R170). -/

namespace Sys2Proof.Machine

/-- Increment one 16-bit half of a port counter: side 0 is [15:0], side 1 is [31:16] (R183). -/
def halfInc (w : W32) (side : Nat) : W32 :=
  let lo := w.toNat % 65536
  let hi := w.toNat / 65536
  if side = 0 then w32 ((lo + 1) % 65536 + 65536 * hi) else w32 (lo + 65536 * ((hi + 1) % 65536))

/-- Block time in tenths of rt (R142). -/
def blockTenths (phy : Phy) : Nat := if phy == .g25 then 1024 else 256

/-- CORR_THR in force (R184). -/
def ImgSeg.corrThr (i : ImgSeg) : Nat :=
  let v := fld i.brimCtl 7 0
  if 4 ≤ v && v ≤ 32 then v else 8
/-- ADJ_MAX in rt (R184). -/
def ImgSeg.adjMax (i : ImgSeg) : Nat := 4 * fld i.brimCtl 15 8
/-- BABBLE_CYC in force (R184). -/
def ImgSeg.babbleCyc (i : ImgSeg) : Nat :=
  let v := fld i.brimCtl 23 16
  if 4 ≤ v && v ≤ 64 then v else 8
/-- Credit pool size (R184). -/
def ImgSeg.pool (i : ImgSeg) : Nat := fld i.mbxCtl 4 0
/-- Credit timeout in cycles (R184). -/
def ImgSeg.credTmo (i : ImgSeg) : Nat :=
  let v := fld i.mbxCtl 14 8
  if 4 ≤ v && v ≤ 64 then v else 16

/-- Timing state of a slot at a port. -/
def SlotSeg.portOf (q : SlotSeg) (pos side : Nat) : SlotPort := q.port.look (2 * pos + side) {}
/-- Change it. -/
def SlotSeg.updPort (q : SlotSeg) (pos side : Nat) (f : SlotPort → SlotPort) : SlotSeg :=
  { q with port := q.port.upd (2 * pos + side) {} f }
/-- Reception of a slot in this cycle. -/
def SlotSeg.rxOf (q : SlotSeg) (pos : Nat) : SlotRx := q.rx.look pos {}
/-- Change it. -/
def SlotSeg.updRx (q : SlotSeg) (pos : Nat) (f : SlotRx → SlotRx) : SlotSeg :=
  { q with rx := q.rx.upd pos {} f }

/-- O_k(P) of a position in a schedule mode (R155). -/
def ImgNode.slotStart (k : ImgNode) (mode side : Nat) : Option Int :=
  (k.slots.look? mode).map fun o => if side = 0 then o.1 else o.2

/-- Arrival error of a timestamp against each slot of the mode's map, nearest first found (R157). -/
def ImgSeg.nearest (i : ImgSeg) (mode side : Nat) (off : Int) : Option (Nat × Int) :=
  i.nodes.foldl (fun best e =>
    match e.2.slotStart mode side with
    | none => best
    | some o =>
      let eps := off - o
      match best with
      | some (p, b) => if eps.natAbs < b.natAbs then some (e.1, eps) else some (p, b)
      | none => some (e.1, eps)) none

/-- The bands of R158. -/
inductive Band where
  | centred | inner | outer | out
  deriving DecidableEq, Repr

/-- The band of an arrival error; each band includes its upper limit (R158). -/
def band (phy : Phy) (eps : Int) : Band :=
  let b := blockTenths phy
  let e := 20 * eps.natAbs
  if e ≤ b then .centred else if e ≤ 3 * b then .inner else if e ≤ 5 * b then .outer else .out

/-- EV_SLOT_DRIFT, once per segment per window (R186). -/
def evDrift (seg : Nat) : Ev := (evSeg EvNo.slotDrift seg).limited seg

/-- Set a_k(P) to a_k(P) − corr within ADJ_MAX; a clamped one raises EV_SLOT_DRIFT (R162). -/
def SlotSeg.correct (q : SlotSeg) (img : ImgSeg) (seg pos side : Nat) (corr : Int) : SlotSeg × List Ev :=
  let k := q.portOf pos side
  let want := k.adj - corr
  let m : Int := img.adjMax
  let a := clampI (-m) m want
  (q.updPort pos side fun k => { k with adj := a }, if a = want then [] else [evDrift seg])

/-- The SLOTADJ record of a node: the absolute a_k(A) and a_k(B) (R162, R173). -/
def SlotSeg.slotAdj (q : SlotSeg) (pos : Nat) : DownRec :=
  let a := w32i (q.portOf pos 0).adj
  let b := w32i (q.portOf pos 1).adj
  { mtype := 0x09, addr := pos, len := 1
    body := [a.extractLsb' 8 8, a.extractLsb' 0 8, b.extractLsb' 8 8, b.extractLsb' 0 8] }

/-- Queue a downlink record in its class (R174). -/
def SlotSeg.enqueue (q : SlotSeg) (cls : Nat) (r : DownRec) : SlotSeg :=
  { q with queue := q.queue.upd cls [] fun l => l ++ [r] }

/-- An immediate correction (R161): the mean restarts and SLOTADJ goes out in class 2. -/
def SlotSeg.immediate (q : SlotSeg) (img : ImgSeg) (seg pos side : Nat) (eps : Int) :
    SlotSeg × List Ev :=
  let (q, evs) := q.correct img seg pos side eps
  let q := q.updPort pos side fun k => { k with sum := 0, n := 0 }
  (q.enqueue 2 (q.slotAdj pos), evs)

/-- The reception of a copy is lost to a fault of its port: its records are not accepted (R132, R182). -/
def SlotSeg.loseCopy (q : SlotSeg) (pos side : Nat) : SlotSeg :=
  q.updRx pos fun x => if side = 0 then { x with lostA := true } else { x with lostB := true }

/-- No copy of the slot is accepted any more at the port: its reception is lost, the outcome is fixed, or the position is the
confirmed suspect (R163, R170, R182). -/
def SlotSeg.barred (q : SlotSeg) (pos side : Nat) : Bool :=
  q.suspect.valid && q.suspect.pos = pos || (q.rxOf pos).outcome.isSome || (if side = 0 then (q.rxOf pos).lostA else (q.rxOf pos).lostB)

/-- Good copies received at a port (R169). -/
def SlotRx.good (x : SlotRx) (side : Nat) : Nat := countP' (fun e => e.2.1 = side) x.got

/-- Records accepted from at least one copy (R163). -/
def SlotRx.accepted (x : SlotRx) : Nat := ((x.got.map (·.1)).eraseDups).length

/-- The copy of a place that is in use: the first good one (R99). -/
def SlotRx.copy (x : SlotRx) (place : Nat) : Option (List Byte) := (x.got.find? fun e => e.1 == place).map fun e => e.2.2

/-- Count ε of an attributed copy in the 16-cycle mean, unless it is excluded (R160). -/
def SlotSeg.countEps (q : SlotSeg) (pos side : Nat) (eps : Int) : SlotSeg :=
  q.updPort pos side fun k =>
    if 0 < k.exclude then k else { k with sum := k.sum + eps, n := k.n + 1 }

/-- Nearest integer of sum ÷ n, halves away from zero. -/
def roundDiv (sum : Int) (n : Nat) : Int :=
  if n = 0 then 0
  else
    let m := (2 * sum.natAbs + n) / (2 * n)
    if sum < 0 then -(m : Int) else m

/-- The update every 16 cycles of one slot and port (R160): ε̄ is taken, and where |ε̄| exceeds
CORR_THR the adjustment moves by round(ε̄) and a filtered SLOTADJ is queued in class 6. -/
def SlotSeg.meanUpdate (q : SlotSeg) (img : ImgSeg) (seg pos side : Nat) : SlotSeg × List Ev :=
  let k := q.portOf pos side
  let m := roundDiv k.sum k.n
  let past := decide ((img.corrThr : Int) * k.n < k.sum.natAbs) && decide (0 < k.n)
  let q := q.updPort pos side fun k => { k with mean := m, sum := 0, n := 0 }
  if past then
    let (q, evs) := q.correct img seg pos side m
    (q.enqueue 6 (q.slotAdj pos), evs)
  else (q, [])

/-! ### Records (R148 to R153) -/

/-- A field of a record: big-endian 16 bits at byte `i`. -/
def rec16 (r : List Byte) (i : Nat) : Nat := (r.getD i 0).toNat * 256 + (r.getD (i + 1) 0).toNat
/-- Signed big-endian 16 bits at byte `i`. -/
def recS16 (r : List Byte) (i : Nat) : Int := (BitVec.ofNat 16 (rec16 r i)).toInt
/-- Big-endian 32 bits at byte `i`. -/
def rec32 (r : List Byte) (i : Nat) : W32 := w32 (beNat ((r.drop i).take 4))

/-- What a record turned out to be (R153). -/
inductive RecCheck where
  /-- CRC-32C fails: RECCRC. -/
  | badCrc
  /-- A bound fails after a good CRC: SRCMIS. -/
  | badBound
  | good
  deriving DecidableEq, Repr

/-- RTYPE permitted for a revision and for the axis's configured feedback (R128, R149, R153);
`fb` is the record type its feedback source needs, 0 where any decoded record will do. -/
def rtypeOk (rev fb rtype : Nat) : Bool :=
  (rtype = 0x21 || ((rtype = 0x22 || rtype = 0x23) && decide (3 ≤ rev))) && (fb = 0 || fb = rtype)

/-- The checks of R153 on a sense record expected from axis index `idx` of node `pos`. -/
def checkSense (rev fb pos idx : Nat) (cycle : W32) (r : List Byte) : RecCheck :=
  if r.length != 32 || !crcGood [] r then .badCrc
  else
    let rt := (r.getD 0 0).toNat
    let src := (r.getD 1 0).toNat
    let ns := (r.getD 2 0).toNat
    let zero := decide (ns < 64) && (r.getD 25 0).toNat / 64 = 0 && (rt != 0x23 || rec16 r 20 = 0)
      && (rt != 0x21 || (r.getD 23 0).toNat / 16 = 0)
    if rtypeOk rev fb rt && src % 64 = pos && src / 64 = idx &&
        (r.getD 3 0).toNat = cycle.toNat % 256 && zero then .good else .badBound

/-- The CRC, source and zero-byte checks on an uplink safety record of a node (R152, R153, R502); the connection
identifier enters the CRC. -/
def checkSafety (connId : W32) (pos : Nat) (r : List Byte) : RecCheck :=
  if r.length != 24 || !crcGood (beBytes connId) r then .badCrc
  else if (r.getD 0 0).toNat = 0x42 && (r.getD 1 0).toNat = pos && decide ((r.getD 6 0).toNat < 4)
      && r.getD 7 0 = 0 && (r.drop 10).take 10 = List.replicate 10 0 then .good
  else .badBound

/-- Note the outcome of one received record of a node's slot (R99, R153): the first good copy is
accepted, a later good copy is compared bit for bit. The flags are (accepted now, mismatch). -/
def SlotSeg.takeRecord (q : SlotSeg) (pos side place : Nat) (r : List Byte) (c : RecCheck) :
    SlotSeg × Bool × Bool :=
  match c with
  | .badCrc => ({ q with reccrc := halfInc q.reccrc side }, false, false)
  | .badBound =>
    ({ q with srcmis := halfInc q.srcmis side, suspect := { q.suspect with ind := true } }, false, false)
  | .good =>
    let old := (q.rxOf pos).copy place
    let q := q.updRx pos fun x => { x with got := x.got ++ [(place, side, r)] }
    match old with
    | some b => (q, false, b != r)
    | none => (q, true, false)

/-! ### Slot outcomes (R163 to R165) -/

/-- The outcome of a position's uplink slot (R163): 0 good, 1 empty, 2 error. A suspect's slot ends
as error (R170); a position that is not admitted ends empty. -/
def SlotSeg.outcomeOf (q : SlotSeg) (pos : Nat) (admitted : Bool) (rev need : Nat) : Nat :=
  if !admitted then 1
  else if q.suspect.valid && q.suspect.pos = pos then 2
  else
    let x := q.rxOf pos
    if need ≤ x.accepted then 0
    else if rev = 1 then (if x.dirty then 2 else 1)
    else if (q.portOf pos 0).runs = 0 && (q.portOf pos 1).runs = 0 then 1 else 2

/-- Count fixed uplink outcomes (R165). -/
def SlotSeg.countUp (q : SlotSeg) (outs : List Nat) : SlotSeg :=
  let g := countP' (· = 0) outs
  let e := countP' (· = 1) outs
  { q with upSched := q.upSched + BitVec.ofNat 64 outs.length
           upGood := q.upGood + BitVec.ofNat 64 g
           upEmpty := q.upEmpty + BitVec.ofNat 64 e
           upErr := q.upErr + BitVec.ofNat 64 (outs.length - g - e) }

/-- Count released downlink records by RTYPE (R164, R165): duties or inhibit good, 0x30 empty, else
error. -/
def SlotSeg.countDown (q : SlotSeg) (rtypes : List Nat) : SlotSeg :=
  let g := countP' (fun t => t = 0x31 || t = 0x32) rtypes
  let e := countP' (· = 0x30) rtypes
  { q with dnSched := q.dnSched + BitVec.ofNat 64 rtypes.length
           dnGood := q.dnGood + BitVec.ofNat 64 g
           dnEmpty := q.dnEmpty + BitVec.ofNat 64 e
           dnErr := q.dnErr + BitVec.ofNat 64 (rtypes.length - g - e) }

/-! ### Babble (R168 to R170) -/

/-- The position that the boundary rule names (R169): at An every admitted position above p failed
and every one below was good, at Bn the other way round. -/
def boundarySuspect (admitted : List Nat) (goodA goodB : Nat → Bool) : Option Nat :=
  admitted.find? fun p =>
    admitted.all fun j => (j ≤ p || !goodA j) && (p ≤ j || goodA j) && (p ≤ j || !goodB j) && (j ≤ p || goodB j)

/-- The cycle carries a babble indication (R168). -/
def Suspect.indicated (u : Suspect) : Bool := u.ind || (u.badA && u.badB) || (u.dbadA && u.dbadB)

/-- The suspect that a cycle with an indication names, with its basis: 1 boundary rule, 2 source rule (R169). -/
def Suspect.named (u : Suspect) (boundary : Option Nat) : Option (Nat × Nat) :=
  if !u.indicated then none
  else match boundary, u.src with
    | some p, _ => some (p, 1)
    | none, some p => some (p, 2)
    | none, none => none

/-- The end of a cycle for babble detection (R169, R170, R184): consecutive cycles that name the position are counted, saturating,
and so are those without an indication. A confirmed suspect keeps its position. -/
def Suspect.endCycle (u : Suspect) (boundary : Option Nat) : Suspect :=
  let v := { u with ind := false, src := none, badA := false, badB := false, dbadA := false, dbadB := false
                    clean := if u.indicated then 0 else u.clean + 1 }
  match u.named boundary with
  | none => if u.valid then { v with cycles := 0 } else { v with cycles := 0, basis := 0 }
  | some (p, b) =>
    if p = u.pos && 0 < u.cycles then { v with cycles := incSat 16 u.cycles, basis := b }
    else if !u.valid then { v with pos := p, cycles := 1, basis := b }
    else if p = u.pos then { v with cycles := 1, basis := b } else { v with cycles := 0 }

/-- LINK_SEG_SUSPECT (R184). -/
def Suspect.word (u : Suspect) : W32 :=
  w32 (u.pos % 64 + 256 * b2n u.valid + 512 * (u.basis % 4) + 65536 * (u.cycles % 65536))

/-- Clear the reception of a cycle at its boundary; after a cycle in which SLOTADJ left, two are excluded from the mean (R160). -/
def SlotSeg.newCycle (q : SlotSeg) : SlotSeg :=
  { q with rx := [], port := q.port.each fun _ k =>
      { k with runs := 0, first := none, adjSent := false, exclude := if k.adjSent then 2 else k.exclude - 1 } }

end Sys2Proof.Machine
end

