-- ==== Sys2Proof/Machine/Feedback.lean ====
section
/-! DEFINITION. Machine/Feedback.lean: what a FEEDBACK task forms from the axis's source (R238, R244,
R245, R248 to R255). -/

namespace Sys2Proof.Machine

/-- The result of a FEEDBACK task (R255). -/
structure FbResult where
  pos   : W32 := 0
  vel   : Int := 0
  tedge : W32 := 0
  idx   : W32 := 0
  flags : W32 := 0
  bad   : Bool := false
  evs   : List Ev := []
  rise  : Bool := false
  fall  : Bool := false

/-- FEEDBACK of a local channel (R237 to R240, R248, R250, R251). -/
def Chan.feedback (c : Chan) (ch axis : Nat) (rtS : Rt) (len : Nat) : Chan × FbResult :=
  let susp0 := c.suspect
  let (c, evs) := (c.formResolver rtS).formSc ch (some axis)
  let f := c.speedS rtS len
  let (v, sat) :=
    if c.digital then (f.v, f.vsat)
    else
      match c.posPrev with
      | some p => if c.formed then velSat ((c.pos - p).toInt * 65536) else (0, false)
      | none => (0, false)
  let c := if sat then c.setFlag fVsat true else c
  (c, { pos := c.pos, vel := v, tedge := tedgeWord c.lastEdge rtS, idx := c.idxLatchS, flags := c.fbFlags rtS len, bad := c.badS
        evs := evs, rise := !susp0 && c.suspect })

/-! ### Remote sources -/

/-- The flags word of a remote source, layout of CUFF_FLAGS (R255, R261). -/
def RemoteFb.flagsWord (r : RemoteFb) (occ : BitVec 8) (edge idx : Bool) : W32 :=
  w32 (occ.toNat + 256 * b2n r.suspect + 512 * b2n r.drift.idxref + 1024 * b2n r.linef
    + 2048 * b2n (decide (r.sign < 0)) + 4096 * b2n (decide (256 ≤ r.idle)) + 8192 * b2n r.fineoff
    + 16384 * b2n edge + 32768 * b2n idx)

/-- A flag of a cycle as a mask. -/
def flagBit (i : Nat) (on : Bool) : BitVec 8 := if on then 1 <<< i else 0

/-- Speed of records 0x21 (R237 to R239): the new reference, sign and speed; the flags are an anomaly (a pair that cannot be timed)
and saturation. Cycles without a record count as cycles without an edge. -/
def RemoteFb.speed21 (r : RemoteFb) (n : W32) (rtS : Rt) (len : Nat) (edge : Bool) (fb1 : Int) :
    RemoteFb × Bool × Bool :=
  let plain := match r.n with
    | some p => (n - p).toInt * 65536
    | none => 0
  let idle := min 256 (r.idle + 1 + r.gap)
  if edge then
    let t := rtAdd rtS fb1
    match r.ref with
    | none => ({ r with ref := some (n, t), v := (velSat plain).1, tR := t, idle := idle }, false, (velSat plain).2)
    | some (nr, tr) =>
      let d := (n - nr).toInt
      let dt := rtDiff t tr
      let badPair := decide (dt ≤ 0) || d = 0
      let rev := r.sign != 0 && d != 0 && sgn d != r.sign
      let (v, sat) := velSat (if badPair || rev then plain else q16 (d * len) dt)
      let s := if d = 0 then r.sign else sgn d
      ({ r with ref := some (n, t), sign := s, v := v, tR := t, idle := if badPair || rev then idle else 0 }, badPair, sat)
  else if r.ref.isNone then ({ r with v := (velSat plain).1 }, false, (velSat plain).2)
  else if 256 ≤ idle then ({ r with v := 0, idle := idle }, false, false)
  else
    let b := q16 len (rtDiff rtS r.tR)
    let m : Int := if r.v.natAbs ≤ b then (r.v.natAbs : Int) else b
    ({ r with v := sgn r.v * m, idle := idle }, false, false)

/-- FEEDBACK of a record 0x21 (R238, R244, R245, R252, R253). Results: the source, the task's words,
double transitions and other anomalies to count in CUFF_RFD_ERR. -/
def RemoteFb.rec21 (r : RemoteFb) (axis : Nat) (cpr : W32) (tol : Nat) (idxOn : Bool) (rtS : Rt) (len : Nat)
    (bytes : List Byte) : RemoteFb × FbResult × Nat × Nat :=
  let n := rec32 bytes 12
  let fb1 := (rec32 bytes 16).toInt
  let fb2 := rec32 bytes 20
  let dbl := bit fb2 0
  let idx := bit fb2 1
  let lf := bit fb2 2
  let edge := bit fb2 3
  let cnt := fld fb2 15 8
  let susp0 := r.suspect
  let begins := lf && !r.linef
  -- the index first, its anomalies after it (R244)
  let lat := n - w32i (BitVec.ofInt 16 ((n.toNat % 65536 : Int) - fld fb2 31 16)).toInt
  let clr := idx && susp0
  let (dr, miss, past, newDev) :=
    if idx && idxOn then r.drift.index lat cpr tol else (r.drift, false, false, false)
  let r := { r with drift := dr, idxLatch := if idx then lat else r.idxLatch, suspect := r.suspect && !clr }
  let added := match r.dblBase with
    | some b => (cnt + 256 - b) % 256
    | none => 0
  let isDbl := dbl || decide (0 < added)
  let overdue := idxOn && r.drift.overdue n cpr tol
  let (r, badPair, sat) := r.speed21 n rtS len edge fb1
  let r := { r with n := some n, gap := 0, dblBase := some cnt, suspect := r.suspect || isDbl || lf || overdue
                    linef := lf, tEdge := if edge then fb1 else r.tEdge - (len : Int)
                    drift := if overdue then { r.drift with missing := true } else r.drift }
  let occ := flagBit fDbl isDbl ||| flagBit fIdxDev past ||| flagBit fIdxMiss (miss || overdue) ||| flagBit fVsat sat
  let r := { r with flags := r.flags ||| occ }
  let ax := some axis
  let evs := (if clr then [fbEv EvNo.fbSuspectCleared ax 0] else []) ++
    (if newDev then [fbEv EvNo.idxDeviation ax 0] else []) ++
    (if isDbl then [fbEv EvNo.fbDouble ax 0] else []) ++
    (if begins then [fbEv EvNo.fbLineFault ax 0] else []) ++
    (if overdue then [fbEv EvNo.idxMissing ax 0] else [])
  (r, { pos := n, vel := r.v, tedge := w32i r.tEdge, idx := r.idxLatch
        flags := r.flagsWord occ edge idx, bad := lf, evs := evs
        rise := r.suspect && (!susp0 || clr), fall := clr && !r.suspect }, added, b2n badPair)

/-- One tracked pair of records 0x22 (R249): the step from the last angle against its prediction. The
flag is a tracking error. -/
def RemoteFb.track (r : RemoteFb) (theta : Nat) (thirds : Nat) : RemoteFb × Bool :=
  match r.theta with
  | none => ({ r with theta := some theta }, false)
  | some p =>
    let pred := r.step * (thirds : Int)
    let d := if thirds ≤ 1 then angDiff theta p
      else pred + angDiff theta ((((p : Int) + pred) % 65536).toNat)
    let off := if thirds ≤ 1 then d.natAbs else (d - pred).natAbs
    let err := decide (24576 ≤ off)
    let d := if err then pred else d
    let a := (p : Int) + d
    ({ r with theta := some (a % 65536).toNat, turns := r.turns + a / 65536
              step := if err || 1 < thirds then r.step else d }, err)

/-- FEEDBACK of a record 0x22 (R249): three pairs, oldest first. -/
def RemoteFb.rec22 (r : RemoteFb) (axis k : Nat) (bytes : List Byte) : RemoteFb × FbResult × Nat × Nat :=
  let ang := fun (i : Nat) => fbAngle (recS16 bytes i) (recS16 bytes (i + 2))
  let (r1, e1) := r.track (ang 20) (1 + 3 * r.gap)
  let (r2, e2) := r1.track (ang 16) 1
  let (r3, e3) := r2.track (ang 12) 1
  let err := e1 || e2 || e3
  let r3 := { r3 with gap := 0 }
  let pos := w32i (r3.turns * (2 ^ k : Nat) + ((r3.theta.getD 0) / 2 ^ (16 - k) : Nat))
  let v := match r.n with
    | some p => (pos - p).toInt * 65536
    | none => 0
  let (v, sat) := velSat v
  let occ := flagBit fScQuad err ||| flagBit fVsat sat
  let r3 := { r3 with n := some pos, v := v, suspect := r3.suspect || err, flags := r3.flags ||| occ
                      sign := sgn v, idle := 0 }
  (r3, { pos := pos, vel := v, flags := r3.flagsWord occ false false
         evs := if err then [fbEv EvNo.scTrack (some axis) 0] else []
         rise := err && !r.suspect }, 0, b2n err)

/-- FEEDBACK of a record 0x23 (R250): the peak nearest S, the preceding one, the excitation phase. -/
def RemoteFb.rec23 (r : RemoteFb) (axis : Nat) (bytes : List Byte) : RemoteFb × FbResult × Nat × Nat :=
  let a0 := fbAngle (recS16 bytes 12) (recS16 bytes 14)
  let a1 := fbAngle (recS16 bytes 16) (recS16 bytes 18)
  let phi := rec16 bytes 22
  let w := angDiff a0 a1
  let d := match r.theta with
    | some p => angDiff a0 p
    | none => 0
  let err := decide (24576 ≤ d.natAbs) || decide (24576 ≤ w.natAbs)
  let start := match r.theta with
    | some p => (p : Int)
    | none => a0
  let a := if err then start + r.step else start + d
  let phi' : Int := if phi < 32768 then phi else (phi : Int) - 65536
  let turns := r.turns + a / 65536
  let pos := w32i (turns * 65536 + a % 65536 + (if err then 0 else w * phi' / 65536))
  let v := match r.n with
    | some p => (pos - p).toInt * 65536
    | none => 0
  let (v, sat) := velSat v
  let occ := flagBit fScQuad err ||| flagBit fVsat sat
  let susp0 := r.suspect
  let r := { r with theta := some (a % 65536).toNat, turns := turns, step := if err then r.step else d
                    n := some pos, v := v, suspect := r.suspect || err, flags := r.flags ||| occ
                    sign := sgn v, idle := 0 }
  (r, { pos := pos, vel := v, flags := r.flagsWord occ false false
        evs := if err then [fbEv EvNo.scTrack (some axis) 0] else []
        rise := err && !susp0 }, 0, b2n err)

/-- The JUMP check (R245): FB_POS against that of the last completed task, per cycle between. -/
def jumped (last : Option (W32 × W32)) (pos cycle : W32) (maxStep : Nat) : Bool :=
  match last with
  | none => false
  | some (p, c) => decide (maxStep * (cycle - c).toNat < (pos - p).toInt.natAbs)

end Sys2Proof.Machine
end

