-- ==== Sys2Proof/Machine/Field.lean ====
section
/-! DEFINITION. Machine/Field.lean: the field path of an axis in its fixed-point form (R263 to R291). -/

namespace Sys2Proof.Machine

/-- Value of a configuration field. -/
def cfgGet (v : CfgVals) (f : Cf) : Int := ((v.find? fun e => e.1 = f).map (·.2)).getD 0

/-- Set a configuration field. -/
def cfgSet (v : CfgVals) (f : Cf) (x : Int) : CfgVals := (f, x) :: v.filter fun e => e.1 != f

/-! ### Arithmetic (R264, R265) -/

/-- A product of two Q15 values: (x × y + 2^14) >> 15 (R264). -/
def mulQ (x y : Int) : Int := roundShift 15 (x * y)
/-- mulg: a gain with a shift, before saturation (R264). -/
def mulG (g sh x : Int) : Int := roundShift 15 (g * (2 ^ sh.toNat : Nat) * x)
/-- sat16. -/
def sat16 (x : Int) : Int := satS 16 x
/-- cos θ in Q15 of a UQ0.16 angle, within 1 LSB (R265, log entry 9). -/
def cosT (a : Int) : Int := (cosSinK 1 16 15 a (Config.trigErr a)).1
/-- sin θ in Q15. -/
def sinT (a : Int) : Int := (cosSinK 1 16 15 a (Config.trigErr a)).2
/-- An angle modulo one revolution, UQ0.16. -/
def ang16 (a : Int) : Nat := (a % 65536).toNat
/-- The signed 16-bit value of an angle. -/
def sgn16 (a : Int) : Int := wrapS 16 a

/-- CMT_FLAGS bits (R297). -/
abbrev cSat : Nat := 0
abbrev cClamp : Nat := 1
abbrev cOvm : Nat := 2
abbrev cDsat : Nat := 3

/-- Set a CMT_FLAGS bit of the cycle. -/
def FieldAxis.flag (x : FieldAxis) (i : Nat) (on : Bool) : FieldAxis :=
  if on then { x with flags := x.flags ||| (1 <<< i) } else x

/-- CMT_FLAGS: the occurrence bits of the cycle with the live bits (R297). -/
def FieldAxis.flagsWord (x : FieldAxis) (warn : Bool) : BitVec 8 :=
  x.flags ||| flagBit 4 x.uv ||| flagBit 5 x.prov ||| flagBit 6 x.alnValid ||| flagBit 7 warn

/-! ### Clarke and Park (R269, R278) -/

/-- Clarke transform of the phase currents, by CMT_NPH; the flag is a saturation. -/
def clarke (nph ia ib ic : Int) : Int × Int × Bool :=
  if nph = 3 then
    let a := roundShift 15 ((2 * ia - ib - ic) * 10923)
    let b := roundShift 15 ((ib - ic) * 18919)
    (sat16 a, sat16 b, outS 16 a || outS 16 b)
  else
    let b := roundShift 15 ((ia + 2 * ib) * 18919)
    (ia, sat16 b, outS 16 b)

/-- Park transform at an angle with the given cosine and sine. -/
def park (al be co si : Int) : Int × Int × Bool :=
  let d := roundShift 15 (al * co + be * si)
  let q := roundShift 15 (be * co - al * si)
  (sat16 d, sat16 q, outS 16 d || outS 16 q)

/-- Inverse Park and inverse Clarke: three phase values, not saturated (R278). -/
def invPark (d q co si : Int) : Int × Int × Int :=
  let al := roundShift 15 (d * co - q * si)
  let be := roundShift 15 (d * si + q * co)
  let h := (-al) / 2
  let b := roundShift 15 (be * 28378)
  (al, h + b, h - b)

/-! ### Electrical angle (R270 to R275) -/

/-- raw of R270 with the direction applied, UQ0.16. -/
def rawAngle (c : Cf → Int) (p : Nat) : Nat :=
  let cpr := (c .cmtCpr).toNat
  if cpr = 0 then 0
  else
    let raw : Int := ((p * (c .cmtPp).toNat % cpr) * 65536 / cpr : Nat)
    ang16 (if c .cmtDir = 1 then -raw else raw)

/-- The offset in force for θ: the found offset while it stands in for the index (R272 to R274). -/
def FieldAxis.offset (x : FieldAxis) (c : Cf → Int) : Int :=
  if c .cmtOffref = 1 && !x.idxBasis && x.alnValid then x.found else c .cmtThoff

/-- θ of the phase in force (R270), with what remains of a rebase (R274). -/
def FieldAxis.angle (x : FieldAxis) (c : Cf → Int) : Nat :=
  ang16 (rawAngle c x.p + x.offset c + x.rebase.getD 0)

/-- The position reduced by CMT_CPR. -/
def modCpr (c : Cf → Int) (pos : W32) : Nat :=
  let cpr := (c .cmtCpr).toNat
  if cpr = 0 then 0 else pos.toNat % cpr

/-- The travel from an index to a position, which is signed (R241), reduced by CMT_CPR (R270). -/
def modIdx (c : Cf → Int) (pos idx : W32) : Nat :=
  let cpr := (c .cmtCpr).toNat
  if cpr = 0 then 0 else ((pos - idx).toInt % cpr).toNat

/-- The mechanical phase of the pass (R270): advanced by the change of FB_POS, or initialised. -/
def FieldAxis.phase (x : FieldAxis) (c : Cf → Int) (pos idx : W32) : FieldAxis :=
  let cpr := c .cmtCpr
  let x' := { x with posPrev := pos, started := true }
  if x.started then
    if cpr ≤ 0 then x' else { x' with p := (((x.p : Int) + (pos - x.posPrev).toInt) % cpr).toNat }
  else if c .cmtOffref = 0 then { x' with p := modCpr c pos, prov := false }
  else if x.idxSeen && (x.idxBasis || !x.prov) then
    { x' with p := modIdx c pos idx, idxBasis := true, prov := x.rebase.isSome }
  else { x' with p := modCpr c pos, prov := true, idxBasis := false }

/-- The angle is provisional (R274), or will be from the first pass (R270, R293). -/
def FieldAxis.provisional (x : FieldAxis) (c : Cf → Int) : Bool :=
  x.prov || (c .cmtSrc = 0 && c .cmtOffref = 1 && !x.started && !x.idxBasis)

/-- The index-referenced value of the found offset: θ at the index count, where the phase is `p` at position `pos` (R275). -/
def thIdx (c : Cf → Int) (found p : Nat) (pos idx : W32) : Nat :=
  let cpr := (c .cmtCpr).toNat
  ang16 (rawAngle c (if cpr = 0 then 0 else (((p : Int) - (pos - idx).toInt) % cpr).toNat) + (found : Int))

/-- The first index after a completed alignment gives the found offset its index-referenced value (R275). -/
def FieldAxis.indexFound (x : FieldAxis) (c : Cf → Int) (pos idx : W32) : FieldAxis :=
  if x.thDue then { x with thDue := false, thidx := some (thIdx c x.found x.p pos idx) } else x

/-- An index of the cycle (R273, R274): δ is the change of θ that the index basis causes. The flag is
a mismatch beyond CMT_REBTOL. -/
def FieldAxis.takeIndex (x : FieldAxis) (c : Cf → Int) (pos idx : W32) : FieldAxis × Bool :=
  let x := { (x.indexFound c pos idx) with idxSeen := true }
  if c .cmtOffref = 1 && x.prov then
    let p' := modIdx c pos idx
    let want := ang16 (rawAngle c p' + c .cmtThoff)
    let d := sgn16 ((want : Int) - x.angle c)
    if (d.natAbs : Int) ≤ c .cmtRebtol then
      ({ x with p := p', idxBasis := true, rebase := if d = 0 then none else some (-d)
                prov := d != 0 }, false)
    else (x, true)
  else (x, false)

/-- The active angle moves toward the index basis by at most 64 LSB per cycle (R274). -/
def FieldAxis.rebaseStep (x : FieldAxis) : FieldAxis :=
  match x.rebase with
  | none => x
  | some r =>
    let r' := if r.natAbs ≤ 64 then 0 else r - sgn r * 64
    if r' = 0 then { x with rebase := none, prov := false } else { x with rebase := some r' }

/-- The advance of θ to the middle of the actuation interval (R271), formed exactly, one floor. -/
def thetaAdvance (c : Cf → Int) (vel tU tcyc : Int) : Int :=
  let den := 2 * c .cmtCpr * tcyc
  if den ≤ 0 then 0
  else
    let num := vel * c .cmtPp * (2 * tU + tcyc)
    (if c .cmtDir = 1 then -num else num) / den

/-- The speed ω of R269. -/
def omegaOf (c : Cf → Int) (vel : Int) : Int × Bool :=
  let w := vel * c .cmtKomega / 2147483648
  let w := if c .cmtDir = 1 then -w else w
  (sat16 w, outS 16 w)

/-! ### The checks of COMMUTE_IN (R268) -/

/-- What the checks decide. -/
inductive CinCheck where
  | pass | trip | past | isum
  deriving DecidableEq, Repr

/-- Does a measured phase current violate check 2? -/
def overCurrent (imax i : Int) : Bool := i = -32768 || i = 32767 || decide (imax ≤ (i.natAbs : Int))

/-- Checks 1 to 3 in order; check 3 advances its run count (R268). -/
def FieldAxis.checks (x : FieldAxis) (c : Cf → Int) (ia ib ic : Int) (stat : Nat) : FieldAxis × CinCheck × Bool :=
  let three := c .cmtNph = 3
  if natBit stat 0 || natBit stat 1 then (x, .trip, false)
  else if overCurrent (c .cmtImax) ia || overCurrent (c .cmtImax) ib || (three && overCurrent (c .cmtImax) ic) then
    (x, .past, false)
  else if three then
    let past := decide (c .cmtIsumThr < ((ia + ib + ic).natAbs : Int))
    let run := if past then x.isumRun + 1 else 0
    let x := { x with isumRun := run }
    if past && decide (c .cmtIsumN ≤ (run : Int)) then (x, .isum, true) else (x, .pass, past)
  else (x, .pass, false)

/-- Check 4: UV from STAT [3] or UDC below CMT_UDCMIN. -/
def uvOf (c : Cf → Int) (stat udc : Nat) : Bool := natBit stat 3 || decide ((udc : Int) < c .cmtUdcmin)

/-! ### The current law (R276) -/

/-- Operands of the current law. -/
structure CurIn where
  id : Int
  iq : Int
  idref : Int
  iqref : Int
  w : Int
  udc15 : Int
  /-- Integrators, with 15 further fraction bits. -/
  xd : Int
  xq : Int

/-- Results of the current law. -/
structure CurOut where
  vd : Int
  vq : Int
  xd : Int
  xq : Int
  clamp : Bool
  sat : Bool
  /-- An integrator was held. -/
  wind : Bool

/-- vlim = MLIM × udc ÷ √3 (R276). -/
def vLimit (c : Cf → Int) (udc15 : Int) : Int := mulQ (mulQ udc15 (c .cmtMlim)) 18919

/-- The current law of R276. -/
def currentLaw (c : Cf → Int) (i : CurIn) : CurOut :=
  let ed := sat16 (i.idref - i.id)
  let eq := sat16 (i.iqref - i.iq)
  let ffd := -(mulG (c .kwQ) (c .kwQSh) (mulQ i.w i.iq))
  let ffq := mulG (c .kwD) (c .kwDSh) (mulQ i.w i.id) + mulG (c .ke) (c .keSh) i.w
  let vd := mulG (c .kpD) (c .kpDSh) ed + roundShift 15 i.xd + ffd
  let vq := mulG (c .kpQ) (c .kpQSh) eq + roundShift 15 i.xq + ffq
  let vlim := vLimit c i.udc15
  let vdl := clampI (-vlim) vlim vd
  let r : Int := isqrt (vlim * vlim - vdl * vdl).toNat
  let vql := clampI (-r) r vq
  let lim := vlim * 32768
  let gd := c .kiD * (2 ^ (c .kiDSh).toNat : Nat)
  let gq := c .kiQ * (2 ^ (c .kiQSh).toNat : Nat)
  let holdD := vdl != vd && sgn ed = sgn vd
  let holdQ := vql != vq && sgn eq = sgn vq
  { vd := sat16 vdl, vq := sat16 vql
    xd := if holdD then i.xd else clampI (-lim) lim (i.xd + gd * ed)
    xq := if holdQ then i.xq else clampI (-lim) lim (i.xq + gq * eq)
    clamp := vdl != vd || vql != vq
    sat := outS 16 (i.idref - i.id) || outS 16 (i.iqref - i.iq)
    wind := holdD || holdQ }

/-! ### Modulation, dead time, minimum pulse (R278 to R282) -/

/-- Largest and smallest of three. -/
def max3 (a b c : Int) : Int := max a (max b c)
/-- Smallest of three. -/
def min3 (a b c : Int) : Int := min a (min b c)

/-- The scale factor of R279 as a fraction num ÷ den; (1, 1) where none is needed. -/
def ovmScale (mod udc a b c : Int) : Int × Int :=
  if mod = 0 then
    let m := max3 (a.natAbs : Int) b.natAbs c.natAbs
    if udc < 2 * m then (udc, 2 * m) else (1, 1)
  else
    let span := max3 a b c - min3 a b c
    if udc < span then (udc, span) else (1, 1)

/-- Three duties of phase voltages by variant, exact until the one floor of R280, saturated to
0 … 65,535. Results: duties, scaled, and whether OVM is set (R279). -/
def dutiesOf (mod ovm udc a b c : Int) : (Int × Int × Int) × Bool × Bool :=
  let (num, den) := ovmScale mod udc a b c
  let d := 2 * den
  let (va, vb, vc) := (2 * a * num, 2 * b * num, 2 * c * num)
  let mx := max3 va vb vc
  let mn := min3 va vb vc
  let half := udc * den
  let z := if mod = 0 then 0
    else if mod = 1 then (mx + mn) / 2
    else if mod = 2 then (if mn.natAbs ≤ mx.natAbs then mx - half else mn + half)
    else mn + half
  let duty := fun (v : Int) => clampI 0 65535 (32768 + (v - z) * 65536 / (d * udc))
  let scaled := num != den
  ((duty va, duty vb, duty vc), scaled, scaled && (ovm = 1 || decide (num * 1000 < 999 * den)))

/-- Dead-time compensation of a phase (R281). -/
def deadComp (tdt idz i : Int) : Int := if idz ≤ 0 then 0 else tdt * clampI (-idz) idz i / idz

/-- The minimum pulse at the bottom and at the top (R282); the half of CMT_DMIN is floored (R265). -/
def minPulse (dmin d : Int) : Int :=
  let d := if 0 < d && d < dmin then (if d < dmin / 2 then 0 else dmin) else d
  let e := 65535 - d
  let e := if 0 < e && e < dmin then (if e < dmin / 2 then 0 else dmin) else e
  65535 - e

/-- A conditioned duty (R281, R282); the flag is DSAT. A phase at 0 or 65,535 does not switch and is
not compensated. -/
def condition (c : Cf → Int) (d i : Int) : Int × Bool :=
  let x := if d = 0 || d = 65535 then d else d + deadComp (c .cmtTdt) (c .cmtIdz) i
  (minPulse (c .cmtDmin) (clampI 0 65535 x), decide (x < 0) || decide (65535 < x))

/-- Result of COMMUTE_OUT. -/
structure CoutRes where
  duty : Nat × Nat × Nat
  ovm  : Bool
  scaled : Bool
  dsat : Bool

/-- COMMUTE_OUT from the phase voltages and phase currents (R279 to R282). -/
def modulate (c : Cf → Int) (udc15 : Int) (v i : Int × Int × Int) : CoutRes :=
  let (d, scaled, ovm) := dutiesOf (c .cmtMod) (c .cmtOvm) udc15 v.1 v.2.1 v.2.2
  let (a, sa) := condition c d.1 i.1
  let (b, sb) := condition c d.2.1 i.2.1
  let (e, se) := condition c d.2.2 i.2.2
  { duty := (a.toNat, b.toNat, e.toNat), ovm := ovm, scaled := scaled, dsat := sa || sb || se }

/-- COMMUTE_OUT at an angle (R278, R281). -/
def commuteOut (c : Cf → Int) (udc15 : Int) (theta : Nat) (vd vq id iq : Int) : CoutRes :=
  let co := cosT theta
  let si := sinT theta
  modulate c udc15 (invPark vd vq co si) (invPark id iq co si)

/-- Brake chopper duty (R284). -/
def brakeDuty (c : Cf → Int) (udc : Nat) : Nat :=
  let on := c .cmtBrkOn
  let full := c .cmtBrkFull
  if (udc : Int) < on then 0
  else if full ≤ udc then 65535
  else if full ≤ on then 0
  else (65535 * ((udc : Int) - on) / (full - on)).toNat

/-! ### Curve (R290, R291) -/

/-- Abscissae and speeds of the curve. -/
def curvePoints (c : Cf → Int) : List (Int × Int) :=
  [(c .crvX0, c .crvN0), (c .crvX1, c .crvN1), (c .crvX2, c .crvN2), (c .crvX3, c .crvN3),
   (c .crvX4, c .crvN4), (c .crvX5, c .crvN5), (c .crvX6, c .crvN6), (c .crvX7, c .crvN7)]

/-- Interpolate along the points after the first abscissa. -/
def curveSeg (x : Int) : List (Int × Int) → Int
  | (x0, n0) :: (x1, n1) :: t =>
    if x < x1 then (if x1 ≤ x0 then n0 else n0 + (x - x0) * (n1 - n0) / (x1 - x0))
    else curveSeg x ((x1, n1) :: t)
  | [(_, n)] => n
  | [] => 0

/-- The curve's set-point for x (R290). -/
def curveEval (c : Cf → Int) (x : Int) : Int :=
  if x ≤ c .crvX0 then c .crvN0 else if c .crvX7 ≤ x then c .crvN7 else curveSeg x (curvePoints c)

/-- EV_CURVE_ON / OFF, once per axis per window (R298). -/
def evCurve (n axis : Nat) : Ev := (evAxis n axis).limited axis

/-- The minimum time of a sub-state has passed. -/
def FieldAxis.curveTimed (x : FieldAxis) (now : Rt) (ms : Int) : Bool :=
  x.curveFree || decide (ms * 4000000 ≤ rtDiff now x.curveAt)

/-- One cycle of the curve sub-states (R291). Results: set-point, leave STOPPED by a start. -/
def FieldAxis.curveStep (x : FieldAxis) (c : Cf → Int) (axis : Nat) (now : Rt) (xin : Int) :
    FieldAxis × Int × Bool × List Ev :=
  match x.curve with
  | .none => (x, 0, false, [])
  | .stopped =>
    if c .crvXon ≤ xin && x.curveTimed now (c .crvToffmin) then (x, 0, true, [evCurve EvNo.curveOn axis])
    else (x, 0, false, [])
  | .running =>
    if xin ≤ c .crvXoff && x.curveTimed now (c .crvTonmin) then
      ({ x with curve := .stopping, curveAt := now, curveFree := false, curveTop := x.curveN }, x.curveN, false, [])
    else
      let n := curveEval c xin
      ({ x with curveN := n }, n, false, [])
  | .stopping =>
    if c .crvXon ≤ xin then ({ x with curve := .running, curveAt := now, curveFree := false }, x.curveN, false, [])
    else
      let n := max 0 (x.curveTop - c .crvDec * rtDiff now x.curveAt / 4000000)
      if n = 0 then
        ({ x with curve := .stopped, curveAt := now, curveFree := false, curveN := 0 }, 0, false,
          [evCurve EvNo.curveOff axis])
      else ({ x with curveN := n }, n, false, [])

/-! ### Offset search (R286 to R289) -/

/-- i_d* of a linear ramp over `ms` milliseconds, `el` of it passed; the fall runs it backward. -/
def rampVal (top : Int) (ms : Int) (el : Int) : Int :=
  if ms ≤ 0 || ms * 4000000 ≤ el then top else top * max 0 el / (ms * 4000000)

/-- Per-cycle work of the search: θ_cmd, i_d* and the position history (R287). -/
def AlignSt.cycle (a : AlignSt) (c : Cf → Int) (now : Rt) (pos : W32) : AlignSt :=
  let el := rtDiff now a.start
  let a := { a with hist := (pos :: a.hist).take ((c .cmtAlnStill).toNat + 1) }
  match a.step with
  | .ramp1 => { a with idref := rampVal (c .cmtAlnI) (c .cmtAlnRamp) el }
  | .hold1 | .hold2 => { a with idref := c .cmtAlnI }
  | .step => { a with idref := c .cmtAlnI, theta := max 0 (a.theta - 64) }
  | .rampdn => { a with idref := if c .cmtAlnRamp ≤ 0 then 0 else rampVal a.idTop (c .cmtAlnRamp) (c .cmtAlnRamp * 4000000 - el) }
  | .idle | .check | .eval => a

/-- Still: every FB_POS of the last CMT_ALN_STILL cycles within CMT_ALN_STOL of the newest (R287). -/
def AlignSt.still (a : AlignSt) (c : Cf → Int) : Bool :=
  decide ((c .cmtAlnStill).toNat + 1 ≤ a.hist.length) &&
    match a.hist with
    | [] => false
    | p :: t => t.all fun q => decide (((p - q).toInt.natAbs : Int) ≤ c .cmtAlnStol)

/-- Enter a step. -/
def AlignSt.enter (a : AlignSt) (s : AlnStep) (now : Rt) : AlignSt :=
  { a with step := s, start := now, hist := [] }

/-- Fail the search: the ramp down begins with the reason recorded (R287). -/
def AlignSt.fail (a : AlignSt) (reason : Nat) (now : Rt) : AlignSt :=
  { (a.enter .rampdn now) with reason := reason, failed := true, idTop := a.idref }

/-- EVAL (R287): 0 passes, else the reason. -/
def alignEval (c : Cf → Int) (th1 th2 : Nat) : Nat :=
  let d := sgn16 ((th1 : Int) - th2)
  if ((d - 0x4000).natAbs : Int) ≤ c .cmtAlnTol then 0
  else if ((d + 0x4000).natAbs : Int) ≤ c .cmtAlnTol then 0x6 else 0x7

/-- The found offset −(θ_1 − 0x4000 + θ_2) ÷ 2 modulo 2^16, with θ_2 taken near θ_1 − 0x4000 (R287). -/
def alignFound (th1 th2 : Nat) : Nat :=
  let t2 := (th1 : Int) - 0x4000 + sgn16 ((th2 : Int) - ((th1 : Int) - 0x4000))
  ang16 (-((th1 : Int) - 0x4000 + t2) / 2)

end Sys2Proof.Machine
end

