-- ==== Sys2Proof/Machine/Gauntlet.lean ====
section
/-! DEFINITION. Machine/Gauntlet.lean: safe inputs, groups, functions, the evaluation, safety records and
output pairs of the Gauntlet (R474 to R519). The two channels read the same inputs and run the same rules,
so the model holds their common state; a disagreement is an event of its own (log entry 19). -/

namespace Sys2Proof.Machine

/-- Cause codes of R519. -/
abbrev gcInput : Nat := 1
abbrev gcHost : Nat := 2
abbrev gcOver : Nat := 3
abbrev gcSs1 : Nat := 4
abbrev gcSls : Nat := 5
abbrev gcSos : Nat := 6
abbrev gcSdi : Nat := 7
abbrev gcSusp : Nat := 8
abbrev gcCh2 : Nat := 9
abbrev gcWd : Nat := 0xA
abbrev gcFb : Nat := 0xB
abbrev gcReact : Nat := 0xC
abbrev gcDeg : Nat := 0xD
abbrev gcOut : Nat := 0xE
abbrev gcStart : Nat := 0xF

/-! ### Safe inputs (R483 to R487) -/

/-- A channel shows demand (R483). -/
def sinDemA (type : Nat) (a : Bool) : Bool := (type = 1 || type = 2) && !a
/-- Channel b. -/
def sinDemB (type : Nat) (b : Bool) : Bool := if type = 1 then !b else type = 2 && b

/-- The demand and discrepancy rules after a level change of a TYPE 1 or 2 input (R485). -/
def GsIn.logic (x : GsIn) (p : ImgSin) (ts : Rt) : GsIn :=
  let da := sinDemA p.type x.a
  let db := sinDemB p.type x.b
  let disc := x.disc && !(da && db)
  let timer := if da == db then none else some (x.timer.getD ts)
  let apart := (rtDiff x.tA x.tB).natAbs
  let leave := !da && !db && !disc && decide (apart ≤ p.disc * 40000000)
  let dem := if da || db then true else if leave then false else x.demand
  { x with disc := disc, timer := timer, demand := dem
           demandEnd := if x.demand && !dem then some ts else x.demandEnd }

/-- A filtered level changes (R484, R486); `ts` is the start of the held level. -/
def GsIn.change (x : GsIn) (p : ImgSin) (chB level : Bool) (ts : Rt) : GsIn :=
  let x := if chB then { x with b := level, tB := ts } else { x with a := level, tA := ts }
  if p.type = 3 then
    let x := if level then (if chB then { x with riseB := some ts, fallB := none } else { x with riseA := some ts, fallA := none })
      else (if chB then { x with fallB := some ts } else { x with fallA := some ts })
    x
  else if p.type = 1 ∨ p.type = 2 then x.logic p ts
  else x

/-- The discrepancy timer expires (R485). -/
def GsIn.discExpire (x : GsIn) : GsIn := { x with disc := true, timer := none, demand := true }

/-- Width of a channel's pulse. -/
def pulseW (rise fall : Option Rt) : Option Int :=
  match rise, fall with
  | some r, some f => some (rtDiff f r)
  | _, _ => none

/-- A complete two-channel pulse with widths in [lo, hi] and falling edges within 50 ms (R486): first
rising edge and later falling edge. -/
def GsIn.pulse (x : GsIn) (lo hi : Int) : Option (Rt × Rt) :=
  if x.rstF || x.a || x.b then none
  else
    match pulseW x.riseA x.fallA, pulseW x.riseB x.fallB, x.riseA, x.riseB, x.fallA, x.fallB with
    | some wa, some wb, some ra, some rb, some fa, some fb =>
      if lo ≤ wa && wa ≤ hi && lo ≤ wb && wb ≤ hi && decide ((rtDiff fa fb).natAbs ≤ 200000000) then
        some (if rtGe ra rb then rb else ra, if rtGe fa fb then fa else fb)
      else none
    | _, _, _, _, _, _ => none

/-- A pulse has been used. -/
def GsIn.usePulse (x : GsIn) : GsIn := { x with riseA := none, riseB := none, fallA := none, fallB := none }

/-- A latched reset fault ends once both channels have been low for 1 s (R486). -/
def GsIn.rstClear (x : GsIn) (now : Rt) : GsIn :=
  if x.rstF && !x.a && !x.b && decide (4000000000 ≤ rtDiff now x.tA) && decide (4000000000 ≤ rtDiff now x.tB) then
    { (x.usePulse) with rstF := false }
  else x

/-- The inputs that request a function of a group. -/
def ImgGroup.inputs (g : ImgGroup) : List Nat := [g.stopIn, g.slsIn, g.sosIn, g.sdiIn].filterMap id

/-- The release conditions held from the rising edge on (R487, R512). -/
def GsState.held (s : GsState) (g : ImgGroup) (gr : GsGroup) (rise : Rt) : Bool :=
  gr.host = 0 && (match gr.hostEnd with | some t => !rtGe t rise | none => true)
    && g.inputs.all fun n =>
      let x := s.input.look n {}
      !x.demand && !x.disc && (match x.demandEnd with | some t => !rtGe t rise | none => true)

/-- A valid reset edge of an input: groups whose conditions held will be released (R486, R487). -/
def GsState.resetEdge (s : GsState) (p : ImgGs) (n : Nat) : GsState :=
  let x := s.input.look n {}
  match x.pulse 400000000 8000000000 with
  | none => s
  | some (rise, _) =>
    let s := { s with input := s.input.put n x.usePulse }
    if s.glob = .safe ∨ s.glob = .run then
      (List.range 8).foldl (fun s g =>
        let cfg := p.group.look g {}
        if cfg.rstIn = some n && s.held cfg (s.group.look g {}) rise && !x.rstF then
          { s with group := s.group.upd g {} fun gr => { gr with edge := true } }
        else s) s
    else s

/-! ### Stops (R488, R495, R496) -/

/-- Record a demand or violation in GAUNTLET_LAST (R519). -/
def GsState.note (s : GsState) (axis group cause : Nat) (cycle : W32) : GsState :=
  { s with last := w32 (axis + 256 * (group % 16) + 4096 * (cause % 16) + 65536 * (cycle.toNat % 256)) }

/-- STO of an axis; `brakeFirst` is the SBC delay of a demand (R495), from `now`. -/
def GsAxis.sto (x : GsAxis) (p : ImgSafe) (cause : Nat) (brakeFirst : Bool) (now : Rt) (pos : W32) : GsAxis :=
  if x.stop = 2 then
    if brakeFirst then x else { x with cause := cause, sbcDue := none }
  else
    { x with stop := 2, cause := cause, sls := none, sos := none, t := 0, zeroRun := 0, sbcRef := pos.toInt, hostOpen := false
             sbcDue := if brakeFirst && p.enSbc && p.sbcT != 0 then some (rtAdd now (p.sbcT * 4000000 : Nat)) else none }

/-- SS1 of an axis with the speed at its start (R491). -/
def GsAxis.ss1 (x : GsAxis) (cause : Nat) (vel : Int) : GsAxis :=
  if x.stop = 0 then { x with stop := 1, cause := cause, t := 0, v0 := (vel.natAbs : Int), zeroRun := 0, sls := none, sos := none, hostOpen := false }
  else x

/-- STO acts on the axis: not while the brake delay runs. -/
def GsAxis.applied (x : GsAxis) : Bool := x.stop = 2 && x.sbcDue.isNone

/-- Axes of a group. -/
def ImgGs.members (p : ImgGs) (g : Nat) : List Nat := (p.axis.filter fun e => e.2.group = some g).map (·.1)

/-- STO of every axis of a group, latched as a fault (R504, R508). -/
def GsState.latchGroup (s : GsState) (p : ImgGs) (g cause : Nat) (cycle : W32) (now : Rt) : GsState :=
  let s := { (s.note 0xFF g cause cycle) with group := s.group.upd g {} fun gr => { gr with stop := 2, fault := true, cause := cause } }
  (p.members g).foldl (fun s a => { s with axis := s.axis.upd a {} fun x => x.sto (p.axis.look a {}) cause false now 0 }) s

/-- Several groups, with the demand events of those that were not in STO (R489). -/
def GsState.latchGroups (s : GsState) (p : ImgGs) (gs : List Nat) (cause : Nat) (cycle : W32) (now : Rt) : GsState × List Ev :=
  (gs.foldl (fun (s : GsState) g => s.latchGroup p g cause cycle now) s,
    (gs.filter fun g => (s.group.look g {}).stop != 2).map fun g => evGroup EvNo.gsDemand g cause)

/-! ### Output pairs (R506 to R508) -/

/-- Expected readbacks of the step (R506). -/
def soutExpect (step : Nat) : Bool × Bool :=
  match step with
  | 1 => (true, true) | 2 => (false, false) | 3 => (true, false) | 4 => (true, false) | _ => (false, false)

/-- High-side and low-side commands of the step. -/
def soutCmd (step : Nat) : Bool × Bool :=
  match step with
  | 1 => (true, false) | 2 => (false, true) | 3 => (true, true) | 4 => (true, true) | _ => (false, false)

/-- A pair fault: off, latched, and every group that uses the pair to STO with cause 0xE (R508). -/
def GsState.pairFault (s : GsState) (p : ImgGs) (n : Nat) (cycle : W32) (now : Rt) : GsState × List Ev :=
  let s := { s with out := s.out.upd n {} fun o => { o with step := 0, fault := true } }
  let uses := fun (g : Nat) =>
    natBit (p.group.look g {}).stoMask n || (p.members g).any fun a => (p.axis.look a {}).sbcSrc = n + 2
  let (s, evs) := s.latchGroups p ((List.range 8).filter uses) gcOut cycle now
  (s, { num := EvNo.gsSoutFault, obj := n } :: evs)

/-- The end of a step of the switch-on sequence (R508). -/
def GsState.soutStep (s : GsState) (p : ImgGs) (n : Nat) (rbh rbl : Bool) (cycle : W32) (now : Rt) : GsState × List Ev :=
  let o := s.out.look n {}
  if o.step = 1 ∨ o.step = 2 ∨ o.step = 3 then
    let s' := { s with out := s.out.put n { o with rbh := rbh, rbl := rbl } }
    if (rbh, rbl) = soutExpect o.step then
      ({ s' with out := s'.out.put n { o with rbh := rbh, rbl := rbl, step := o.step + 1 } }, [])
    else s'.pairFault p n cycle now
  else (s, [])

/-- The end of a test pulse of one switch (R507). -/
def GsState.soutPulse (s : GsState) (p : ImgGs) (n : Nat) (lowSide rbh rbl : Bool) (cycle : W32) (now : Rt) : GsState × List Ev :=
  let o := s.out.look n {}
  if o.step = 4 then
    let s' := { s with out := s.out.put n { o with rbh := rbh, rbl := rbl } }
    let want := if lowSide then (true, true) else (false, false)
    if (rbh, rbl) = want then ({ s with out := s.out.put n { o with rbh := true, rbl := false } }, [])
    else s'.pairFault p n cycle now
  else (s, [])

/-- A pair is commanded on or off (R478, R489). -/
def GsOut.want (o : GsOut) (on : Bool) : GsOut :=
  if on then (if o.step = 0 && !o.fault then { o with step := 1, rbh := true, rbl := true } else o)
  else if o.step = 0 then o else { o with step := 0, rbh := false, rbl := false }

/-! ### Permission (R478, R495) -/

/-- Every SOUT pair of the group's STO mask is on, its sequence complete. -/
def GsState.pairsOn (s : GsState) (mask : Nat) : Bool :=
  (List.range 4).all fun n => !natBit mask n || (s.out.look n {}).step = 4

/-- The group of an axis is in STO: latched, or every axis of it has STO applied under a stop (R489). -/
def GsState.groupSto (s : GsState) (p : ImgGs) (g : Nat) : Bool :=
  let gr := s.group.look g {}
  gr.fault || (gr.stop != 0 && (p.members g).all fun a => (s.axis.look a {}).applied)

/-- Torque may be given to the axis: everything of R478 but SS1, through which the drive brakes under
power; `nodeOk` is the safety-lane condition (log entry 20). -/
def GsState.torque (s : GsState) (p : ImgGs) (a : Nat) (nodeOk : Bool) : Bool :=
  let q := p.axis.look a {}
  let x := s.axis.look a {}
  s.glob = .run && !x.applied && nodeOk
    && match q.group with
      | none => true
      | some g =>
        let gr := s.group.look g {}
        gr.released && !s.groupSto p g && s.pairsOn (p.group.look g {}).stoMask

/-- The Gauntlet permits the outputs of the axis (R478). -/
def GsState.permits (s : GsState) (p : ImgGs) (a : Nat) (nodeOk : Bool) : Bool :=
  s.torque p a nodeOk && (s.axis.look a {}).stop = 0
    && match (p.axis.look a {}).group with
      | none => true
      | some g => (s.group.look g {}).stop = 0

/-- The brake may be released (R495). -/
def GsState.brakeFree (s : GsState) (p : ImgGs) (a : Nat) (nodeOk : Bool) (st : AxState) : Bool :=
  s.torque p a nodeOk && (s.axis.look a {}).stop != 2
    && (st = .align || st = .catching || st = .start || st = .run || st = .degraded)

/-! ### The evaluation (R476, R488 to R500) -/

/-- What an evaluation reads of an axis. -/
structure GsAxIn where
  axis   : Nat
  state  : AxState
  pos    : W32
  vel    : Int
  /-- SAFE_RES of cycle c − 1. -/
  res    : W32
  bad    : Bool
  safety : Bool
  /-- SF_WD of its node. -/
  sfWd   : Nat
  fbcReact : Nat
  nodeOk : Bool
  /-- Speed-unknown indication of R320. -/
  unk    : Bool

/-- What an evaluation orders of an axis. -/
inductive GsAct where
  | halt (axis : Nat)
  | open' (axis : Nat)
  | degrade (axis : Nat)
  | fault (axis cause : Nat)
  deriving DecidableEq, Repr

/-- An evaluation in progress. -/
structure GsRun where
  s    : GsState
  acts : List GsAct := []
  evs  : List Ev := []

/-- A violation: counted, recorded, and its reaction (R489, R493, R494, R512). -/
def GsRun.violate (r : GsRun) (p : ImgGs) (i : GsAxIn) (cause : Nat) (ss1 : Bool) (cycle : W32) (now : Rt) : GsRun :=
  let q := p.axis.look i.axis {}
  let x := r.s.axis.look i.axis {}
  let x := if ss1 && x.stop = 0 then x.ss1 cause i.vel else x.sto q cause false now i.pos
  let s := { (r.s.note i.axis (q.group.getD 0) cause cycle) with viol := incWrap 16 r.s.viol, axis := r.s.axis.put i.axis x }
  let was := (r.s.axis.look i.axis {}).stop
  { r with s := s, evs := r.evs ++ [evAxis EvNo.gsViolation i.axis cause] ++ (if was < x.stop then [evAxis EvNo.gsDemand i.axis cause] else []) }

/-- The function whose limit is in force: cause code and whether SLS_REACT = SS1 applies. -/
def GsAxis.active (x : GsAxis) (p : ImgSafe) (degraded : Bool) : Nat × Bool :=
  if x.stop = 1 then (gcSs1, false)
  else if x.sos.isSome then (gcSos, false)
  else if x.sls.isSome then (gcSls, p.slsSs1)
  else if degraded then (gcOver, p.slsSs1)
  else (gcOver, false)

/-- Some function is active. -/
def GsAxis.busy (x : GsAxis) : Bool := x.stop = 1 || x.sos.isSome || x.sls.isSome || x.sdi

/-- Channel 1 and channel 2 checks of a safety-rated axis whose STO is not applied (R493, R494, R497). -/
def GsRun.checks (r : GsRun) (p : ImgGs) (i : GsAxIn) (cycle : W32) (now : Rt) : GsRun :=
  let q := p.axis.look i.axis {}
  let x := r.s.axis.look i.axis {}
  if !i.safety || x.applied || i.state = .off then r
  else
    let deg := i.state = .degraded
    let stale := fld i.res 15 8 != ((cycle - 1).toNat % 256)
    let r := if stale then
        if i.sfWd < x.stale + 1 then
          let r := { r with s := { r.s with axis := r.s.axis.put i.axis { x with stale := 0 } } }
          if x.busy then r.violate p i gcSusp false cycle now
          else { r with s := { (r.s.note i.axis (q.group.getD 0) gcSusp cycle) with viol := incWrap 16 r.s.viol }
                        evs := r.evs ++ [evAxis EvNo.gsViolation i.axis gcSusp] }
        else { r with s := { r.s with axis := r.s.axis.put i.axis { x with stale := x.stale + 1 } } }
      else { r with s := { r.s with axis := r.s.axis.put i.axis { x with stale := 0 } } }
    let res := if stale then 0 else i.res.toNat
    let (cause, ss1) := x.active q deg
    -- R497
    let r := if natBit res 3 || i.bad then
        if x.busy then r.violate p i gcSusp (x.stop != 1 && x.sos.isNone && q.slsSs1) cycle now
        else if i.state = .run then
          (if i.fbcReact = 2 then { r with acts := r.acts ++ [.fault i.axis 0x7] } else { r with acts := r.acts ++ [.degrade i.axis] })
        else r
      else r
    let live := fun (r : GsRun) => !(r.s.axis.look i.axis {}).applied
    let r := if natBit res 0 && live r then r.violate p i cause ss1 cycle now else r
    let r := if natBit res 1 && x.sdi && live r then r.violate p i gcSdi q.slsSs1 cycle now else r
    let r := if natBit res 2 && (match x.sos with | some (_, some _) => true | _ => false) && live r then
        r.violate p i gcSos false cycle now else r
    -- channel 2
    let w := x.words
    match x.hist, x.hist.drop q.nwin with
    | n :: _, o :: _ =>
      let d := (n - o).toInt
      let nw : Int := q.nwin
      let r := if w.vlim != 0 && decide (nw * (w.vlim / 65536) + q.v2tol < (d.natAbs : Int)) && live r then
          r.violate p i gcCh2 ss1 cycle now else r
      let r := if w.dir * d < -(nw * (w.dtol / 65536) + q.v2tol) && live r then r.violate p i gcCh2 q.slsSs1 cycle now else r
      if decide (w.pwin < ((n - w32i w.posref).toInt.natAbs : Int)) && live r then r.violate p i gcCh2 false cycle now else r
    | _, _ => r

/-- Cycles of a time in ms, rounded up. -/
def gsCycles (ms tcyc : Nat) : Nat := if tcyc = 0 then 0 else (ms * 4000000 + tcyc - 1) / tcyc

/-- Functions and SAFE_ words of an axis for S_{c+1} (R491, R492, R495, R500). -/
def GsAxis.words' (x : GsAxis) (q : ImgSafe) (i : GsAxIn) (tcyc : Nat) :
    GsAxis × Option Nat :=
  let base : SafeWords := { vlim := q.vmax }
  let sdiW := fun (w : SafeWords) => if x.sdi && x.stop != 2 then { w with dir := q.sdiDir, dtol := q.sdiTol } else w
  let degW := fun (w : SafeWords) =>
    if i.state = .degraded && i.safety && q.dgVlim != 0 then
      { w with vlim := if w.vlim = 0 then q.dgVlim else min w.vlim q.dgVlim } else w
  let fin := fun (x : GsAxis) (w : SafeWords) => { x with next := degW (sdiW w) }
  if x.stop = 1 then
    let T := gsCycles q.ss1T tcyc
    let z := if !x.spdUnk && decide ((i.vel.natAbs : Int) ≤ q.ss1Zero) then x.zeroRun + 1 else 0
    if 16 ≤ z || T ≤ x.t then ((fin { x with zeroRun := z } { base with cmd := 1 }), some x.cause)
    else
      let vl := if T = 0 then q.ss1Tol else x.v0 * ((T - x.t : Nat) : Int) / (T : Int) + q.ss1Tol
      (fin { x with zeroRun := z, t := x.t + 1 } { base with cmd := 1, vlim := vl }, none)
  else if x.stop = 2 then
    (fin x (if x.sbcDue.isSome then { base with cmd := 4, posref := x.sbcRef } else base), none)
  else
    match x.sos with
    | some (t, none) =>
      if (i.vel.natAbs : Int) ≤ q.sosV then
        (fin { x with sos := some (t, some i.pos.toInt) }
          { base with cmd := 4, posref := i.pos.toInt, pwin := q.sosW, vlim := q.sosV }, none)
      else if gsCycles q.sosT tcyc ≤ t + 1 then (fin x { base with cmd := 1 }, some gcSos)
      else (fin { x with sos := some (t + 1, none) } { base with cmd := 1 }, none)
    | some (_, some ref) => (fin x { base with cmd := 4, posref := ref, pwin := q.sosW, vlim := q.sosV }, none)
    | none =>
      match x.sls with
      | some (v0, t) =>
        let T := gsCycles q.slsT tcyc
        let hi := max v0 q.slsV
        let vl := if T = 0 then q.slsV else hi - (hi - q.slsV) * (min t T : Nat) / (T : Int)
        (fin { x with sls := some (v0, t + 1) } { base with cmd := 2, vsp := q.slsV, vlim := vl }, none)
      | none => (fin x base, none)

/-- The functions demanded of a group (R488, R489): demands, releases under AUTO, and a reset edge. -/
def GsRun.group (r : GsRun) (p : ImgGs) (ins : List GsAxIn) (g : Nat) (cycle : W32) (now : Rt) : GsRun :=
  let cfg := p.group.look g {}
  let gr := r.s.group.look g {}
  let dem := fun (o : Option Nat) => match o with | some n => (r.s.input.look n {}).demand | none => false
  let axes := p.members g
  let inOf := fun (a : Nat) => ins.find? fun i => i.axis = a
  -- release by a reset edge
  let free := gr.host = 0 && cfg.inputs.all fun n => !(r.s.input.look n {}).demand && !(r.s.input.look n {}).disc
  let (r, gr) :=
    if gr.edge then
      if free then
        let s := axes.foldl (fun s a => { s with axis := s.axis.upd a {} fun x =>
          { x with stop := 0, sls := none, sos := none, sdi := false, sbcDue := none, t := 0, zeroRun := 0 } }) r.s
        let opens := (axes.filterMap inOf).filter fun i => i.state = .halt
        let gr' := { gr with edge := false, released := true, stop := 0, fault := false, sls := false, sos := false, sdi := false, cause := 0 }
        let toRun := s.glob = .safe
        ({ r with s := { s with glob := if toRun then .run else s.glob }
                  acts := r.acts ++ opens.map fun i => .open' i.axis
                  evs := r.evs ++ [evGroup EvNo.gsReleased g] ++ (if toRun then [ev0 EvNo.gsState 4] else []) }, gr')
      else (r, { gr with edge := false })
    else (r, gr)
  if !gr.released then { r with s := { r.s with group := r.s.group.put g gr } }
  else
    let want := if dem cfg.stopIn then (if cfg.stopSs1 then 1 else 2) else 0
    let kd := max want gr.host
    let cause := if gr.host = kd && kd != want then gcHost else gcInput
    let new := decide (gr.stop < kd)
    let gr := if new then { gr with stop := kd, cause := cause } else gr
    let r := if new then
        let s := axes.foldl (fun s a =>
          let vel := ((inOf a).map (·.vel)).getD 0
          let pos := ((inOf a).map (·.pos)).getD 0
          { s with axis := s.axis.upd a {} fun x =>
            if kd = 2 then x.sto (p.axis.look a {}) cause true now pos else x.ss1 cause vel }) (r.s.note 0xFF g cause cycle)
        { r with s := s, evs := r.evs ++ [evGroup EvNo.gsDemand g cause] }
      else r
    let sdiReq := match cfg.sdiIn with
      | some n => (r.s.input.look n {}).demand
      | none => axes.any fun a => (p.axis.look a {}).enSdi
    let fn := fun (req cur : Bool) => if req then true else if cfg.auto then false else cur
    let gr' := { gr with sls := fn (dem cfg.slsIn) gr.sls, sos := fn (dem cfg.sosIn) gr.sos, sdi := fn sdiReq gr.sdi }
    let ups := [(gr.sls, gr'.sls), (gr.sos, gr'.sos), (gr.sdi, gr'.sdi)]
    let evs := ups.flatMap fun u =>
      if u.2 && !u.1 then [evGroup EvNo.gsDemand g gcInput] else if u.1 && !u.2 then [evGroup EvNo.gsReleased g] else []
    let s := if ups.any (fun u => u.2 && !u.1) then r.s.note 0xFF g gcInput cycle else r.s
    { r with s := { s with group := s.group.put g gr' }, evs := r.evs ++ evs }

/-- One axis of an evaluation. -/
def GsRun.axis (r : GsRun) (p : ImgGs) (i : GsAxIn) (tcyc : Nat) (cycle : W32) (now : Rt) : GsRun :=
  let q := p.axis.look i.axis {}
  let gr := match q.group with | some g => r.s.group.look g {} | none => { ({} : GsGroup) with released := true }
  let x := r.s.axis.look i.axis {}
  let x := { x with hist := if i.state = AxState.off then [] else (i.pos :: x.hist).take 17, spdUnk := i.unk }
  -- functions of the group reach the axis
  let x := if gr.released && x.stop = 0 then
      { x with sls := if gr.sls && q.enSls then some (x.sls.getD ((i.vel.natAbs : Int), 0)) else none
               sos := if gr.sos && q.enSos then some (x.sos.getD (0, none)) else none
               sdi := gr.sdi && q.enSdi }
    else x
  -- fault reactions (R498, R503)
  let (x, evs) := match x.react with
    | some cz => if q.fltReact = 0 then ({ x with react := none, sbcDue := none }, [])
      else ({ (x.sto q cz false now i.pos) with react := none }, if x.stop = 2 then [] else [evAxis EvNo.gsDemand i.axis cz])
    | none => (x, [])
  -- degraded expiry (R500)
  let (x, evs2) := if x.degNow then
      (if x.stop = 0 then { (x.ss1 gcDeg i.vel) with degNow := false, degDue := none } else { x with degNow := false, degDue := none },
        [evAxis EvNo.gsDegradedExpired i.axis])
    else (x, [])
  -- host OPEN during SS1 (R512)
  let x := if x.stop = 1 && x.hostOpen then x.sto q x.cause false now i.pos else x
  let r := { r with s := { r.s with axis := r.s.axis.put i.axis x }, evs := r.evs ++ evs ++ evs2 }
  if r.s.glob != GsGlobal.run then
    { r with s := { r.s with axis := r.s.axis.upd i.axis {} fun x => { x with next := { vlim := q.vmax } } } }
  else
    let r := r.checks p i cycle now
    let x := r.s.axis.look i.axis {}
    let (x, ends) := x.words' q i tcyc
    let x := match ends with
      | some cz => ((x.sto q cz (cz = gcInput || cz = gcHost) now i.pos).words' q i tcyc).1
      | none => x
    let r := { r with s := { r.s with axis := r.s.axis.put i.axis x } }
    if x.applied && i.state != AxState.off && i.state != AxState.fault && i.state != AxState.halt then
      { r with acts := r.acts ++ [.halt i.axis] }
    else r

/-- The SOUT pairs after an evaluation (R478, R489, R495, R508). -/
def GsState.pairs (s : GsState) (p : ImgGs) (ins : List GsAxIn) : GsState :=
  (List.range 4).foldl (fun s n =>
    let u := (p.sout.look n {}).use
    let groups := (List.range 8).filter fun g => natBit (p.group.look g {}).stoMask n
    let axSto := fun (g : Nat) => (p.members g).any fun a =>
      let x := s.axis.look a {}
      x.applied && x.cause != gcInput && x.cause != gcHost && x.cause != gcStart
    let on := s.glob = .run &&
      (if u = 1 then !groups.isEmpty && groups.all fun g =>
          (s.group.look g {}).released && !s.groupSto p g && !axSto g
        else if u = 2 then ins.any fun i =>
          (p.axis.look i.axis {}).sbcSrc = n + 2 && s.brakeFree p i.axis i.nodeOk i.state
        else false)
    { s with out := s.out.upd n {} fun o => o.want on }) s

/-- The evaluation at S_c + t_cw0 (R476). -/
def GsState.evaluate (s : GsState) (p : ImgGs) (ins : List GsAxIn) (tcyc : Nat) (cycle : W32) (now : Rt) : GsRun :=
  let s := { s with input := s.input.each fun _ x => x.rstClear now }
  let r : GsRun := { s := s }
  let r := if s.glob = .safe ∨ s.glob = .run then (List.range 8).foldl (fun r g => r.group p ins g cycle now) r else r
  let r := ins.foldl (fun r i => r.axis p i tcyc cycle now) r
  { r with s := r.s.pairs p ins }

/-- The SAFE_ words take effect at S_{c+1} (R476). -/
def GsState.commitWords (s : GsState) : GsState :=
  { s with axis := s.axis.each fun _ x => { x with words := x.next } }

/-! ### Degraded mode (R499, R500) -/

/-- An entry to AX_DEGRADED: the timer starts; beyond DEG_N entries it expires at once. -/
def GsAxis.degEnter (x : GsAxis) (q : ImgSafe) (now : Rt) : GsAxis :=
  let n := x.degN + 1
  { x with degN := min 255 n, degDue := some (rtAdd now (q.degT * 4000000000 : Nat)), degNow := decide (q.degN < n) }

/-! ### Safety records (R501 to R504) -/

/-- The checks of R503 on SCNT and ECHO. -/
def GsNode.inWindow (n : GsNode) (sfWd : Nat) (scnt echo : W16) (headPrev : W16) : Bool :=
  let adv := (scnt - n.scnt).toNat
  (!n.seen || (decide (1 ≤ adv) && decide (adv ≤ sfWd))) && decide ((headPrev - echo).toNat ≤ sfWd)

/-- An accepted record. -/
def GsNode.accept (n : GsNode) (scnt : W16) : GsNode :=
  { n with scnt := scnt, seen := true, got := true, missed := 0, dead := false }

/-- A rejected one. -/
def GsNode.rejected (n : GsNode) : GsNode := { n with reject := incWrap 8 n.reject }

/-- A cycle ends for the node's watchdog. -/
def GsNode.endCycle (n : GsNode) : GsNode :=
  if n.got then { n with got := false } else { n with missed := min 15 (n.missed + 1) }

/-- STO feedback of an axis index in an accepted record (R504): the feedback fails. -/
def stoFeedbackBad (n : GsNode) (idx limit : Nat) (sta stbC : Nat) : Bool :=
  let a := natBit sta idx
  let b := natBit stbC idx
  let off := !natBit n.torque idx
  let waited := n.wait.look idx 0
  off && decide (limit ≤ waited) && (!a || !b || a != b)

/-! ### Boot, confirmation, proof test (R477, R480, R482, R509) -/

/-- GAUNTLET_BOOT_DONE: both channels' CRC-32 of the block against GAUNTLET_SCHK, then the ledger's
confirmed value. -/
def GsState.bootDone (s : GsState) (p : ImgGs) (confirmed : Option W32) : GsState × List Ev :=
  if s.glob != .boot then (s, [])
  else if crc32 p.block != p.schk then
    ({ s with glob := .checkFail }, [ev0 EvNo.gsState 1, ev0 EvNo.gsSchkMismatch])
  else if confirmed != some p.schk then ({ s with glob := .unconfirmed }, [ev0 EvNo.gsState 2])
  else ({ s with glob := .safe }, [ev0 EvNo.gsState 3])

/-- Isolation of a GUARD block: LOST, every pair off (R477, R516). -/
def GsState.lose (s : GsState) : GsState × List Ev :=
  if s.glob = .lost then (s, [])
  else ({ s with glob := .lost, out := s.out.each fun _ o => o.want false }, [ev0 EvNo.gsState 5])

/-- A change of the global state with its event. -/
def GsState.enter (s : GsState) (g : GsGlobal) : GsState × List Ev :=
  if s.glob = g then (s, []) else ({ s with glob := g }, [ev0 EvNo.gsState g.code])

/-! ### Registers (R518, R519) -/

/-- STATE_g. -/
def GsState.groupCode (s : GsState) (p : ImgGs) (g : Nat) : Nat :=
  let gr := s.group.look g {}
  let cfg := p.group.look g {}
  let axes := (p.members g).map fun a => s.axis.look a {}
  let faulted := gr.fault || cfg.inputs.any fun n => (s.input.look n {}).disc
  let dem := gr.host != 0 || cfg.inputs.any fun n => (s.input.look n {}).demand
  if faulted then 9
  else if !gr.released then 8
  else if gr.stop = 2 || (gr.stop = 1 && s.groupSto p g) then (if dem then 2 else 8)
  else if gr.stop = 1 then 1
  else if gr.sos then (if axes.any fun x => match x.sos with | some (_, none) => true | _ => false then 5 else 6)
  else if gr.sls then
    (if axes.any fun x => match x.sls, x.next.vlim with | some _, v => decide (x.next.vsp < v) | none, _ => false then 3 else 4)
  else if gr.sdi then 7
  else 0

/-- FUNC of an axis. -/
def GsState.axisCode (s : GsState) (p : ImgGs) (a : Nat) : Nat :=
  let x := s.axis.look a {}
  match (p.axis.look a {}).group with
  | some g => if x.stop = 2 then 2 else if x.stop = 1 then 1 else s.groupCode p g
  | none => if x.stop = 2 then 2 else if x.stop = 1 then 1 else 0

/-- A function is in transition (R512). -/
def GsState.transition (s : GsState) (p : ImgGs) (tcyc : Nat) : Bool :=
  (s.out.any fun o => decide (1 ≤ o.2.step) && decide (o.2.step ≤ 3)) ||
  s.axis.any fun e =>
    let q := p.axis.look e.1 {}
    let x := e.2
    x.stop = 1 || x.sbcDue.isSome
      || (match x.sos with | some (_, none) => true | _ => false)
      || (match x.sls with | some (_, t) => decide (t ≤ gsCycles q.slsT tcyc) | none => false)

/-- Eight bits from a test. -/
def bits8 (f : Nat → Bool) : Nat := (List.range 8).foldl (fun a i => a + 2 ^ i * b2n (f i)) 0
/-- Four bits from a test. -/
def bits4 (f : Nat → Bool) : Nat := (List.range 4).foldl (fun a i => a + 2 ^ i * b2n (f i)) 0

/-- GAUNTLET_STAT. -/
def GsState.statWord (s : GsState) (trans : Bool) : W32 :=
  w32 (s.glob.code + 8 * b2n s.confDue.isSome + 16 * b2n trans + 32 * b2n s.testFail + 4096 * (s.reqReason % 16))

/-- GAUNTLET_SIN. -/
def GsState.sinWord (s : GsState) : W32 :=
  w32 (bits8 (fun n => (s.input.look n {}).a) + 256 * bits8 (fun n => (s.input.look n {}).b)
    + 65536 * bits8 (fun n => (s.input.look n {}).demand))
/-- GAUNTLET_SIN_FLT. -/
def GsState.sinFltWord (s : GsState) : W32 :=
  w32 (bits8 (fun n => (s.input.look n {}).disc) + 256 * bits8 (fun n => (s.input.look n {}).rstF))
/-- GAUNTLET_SOUT. -/
def GsState.soutWord (s : GsState) : W32 :=
  w32 (bits4 (fun n => (soutCmd (s.out.look n {}).step).1) + 16 * bits4 (fun n => (soutCmd (s.out.look n {}).step).2)
    + 256 * bits4 (fun n => (s.out.look n {}).rbh) + 4096 * bits4 (fun n => (s.out.look n {}).rbl)
    + 65536 * bits4 (fun n => (s.out.look n {}).fault))
/-- GAUNTLET_SG. -/
def GsState.sgWord (s : GsState) (p : ImgGs) : W32 :=
  w32 ((List.range 8).foldl (fun a g => a + 16 ^ g * s.groupCode p g) 0)
/-- GAUNTLET_AX_STAT. -/
def GsState.axWord (s : GsState) (p : ImgGs) (a : Nat) (nodeOk : Bool) (st : AxState) : W32 :=
  let x := s.axis.look a {}
  w32 (s.axisCode p a + 16 * b2n x.applied + 32 * b2n (!s.brakeFree p a nodeOk st) + 64 * b2n (s.permits p a nodeOk)
    + 128 * b2n x.spdUnk + 256 * (x.deg % 64) + 65536 * (x.degN % 256) + 16777216 * (x.cause % 16))
/-- GAUNTLET_NODE_STAT. -/
def GsNode.word (n : GsNode) : W32 := w32 (n.scnt.toNat + 65536 * (n.missed % 16) + 16777216 * n.reject)

end Sys2Proof.Machine
end

