-- ==== Sys2Proof/Machine/Layout.lean ====
section
/-! DEFINITION. Machine/Layout.lean: byte offsets and formats of the per-cycle area (R558). -/

namespace Sys2Proof.Machine

abbrev oState : Nat := 0x000
abbrev oEvsum : Nat := 0x004
abbrev oCycle : Nat := 0x008
abbrev oSlot : Nat := 0x00C
abbrev oSense : Nat := 0x010
abbrev oPos : Nat := 0x040
abbrev oVel : Nat := 0x044
abbrev oTedge : Nat := 0x048
abbrev oIdx : Nat := 0x04C
abbrev oFlags : Nat := 0x050
abbrev oVelRaw : Nat := 0x054
abbrev oFlt : Nat := 0x060
abbrev oId : Nat := 0x0A0
abbrev oIq : Nat := 0x0A4
abbrev oOmega : Nat := 0x0A8
abbrev oTheta : Nat := 0x0AC
abbrev oThout : Nat := 0x0B0
abbrev oUdc : Nat := 0x0B4
abbrev oVd : Nat := 0x0B8
abbrev oVq : Nat := 0x0BC
abbrev oIdref : Nat := 0x0C0
abbrev oIqref : Nat := 0x0C4
abbrev oCmtFlags : Nat := 0x0C8
abbrev oXd : Nat := 0x0D0
abbrev oXq : Nat := 0x0D8
abbrev oConf : Nat := 0x0E0
abbrev oObs : Nat := 0x0E4
abbrev oLawFlags : Nat := 0x120
abbrev oEpos : Nat := 0x124
abbrev oTqIn : Nat := 0x12C
abbrev oPg : Nat := 0x130
abbrev oVg : Nat := 0x138
abbrev oAg : Nat := 0x13C
abbrev oXw : Nat := 0x140
abbrev oNref : Nat := 0x148
abbrev oSpFlags : Nat := 0x150
abbrev oSafeRes : Nat := 0x160
abbrev oPin : Nat := 0x180
abbrev oNin : Nat := 0x188
abbrev oAin : Nat := 0x18C
abbrev oPrStat : Nat := 0x190
abbrev oCrvHost : Nat := 0x194

/-- Words that a LAW task may write among the fixed words of R558 (log entry 13). -/
def lawFixed : List Nat :=
  [oVd, oVq, oIdref, oIqref, oCmtFlags, oXd, oXd + 4, oXq, oXq + 4, oLawFlags, oEpos, oEpos + 4, oPg, oPg + 4,
   oVg, oAg, oXw, oXw + 4, oNref, oSafeRes]

/-- LAW-writable (R337): the fixed words, and the words that the image lays out for integrator
programs at 0x400 to 0x7FF. -/
def lawWritable (intWords : List Nat) (off : Nat) : Bool :=
  lawFixed.contains off || (decide (0x400 ≤ off) && decide (off < 0x800) && intWords.contains off)

/-- A word a signal processor's task may write: feedback, filter, observer, field-path and integrator
words (R387, R400, R402; log entry 13). -/
def spFixed : List Nat :=
  [oVel, oVelRaw, oTheta, oThout, oOmega, oConf, oSpFlags] ++ forN 16 (fun i => oFlt + 4 * i) ++ forN 15 (fun i => oObs + 4 * i)

/-- A F16 word of a value (R342). -/
def wF16 (x : Int) : W32 := w32i (wrapS 16 x)
/-- A F24 word of a value. -/
def wF24 (x : Int) : W32 := w32i (wrapS 24 x)
/-- The value of a F16 word. -/
def rF16 (w : W32) : Int := wrapS 16 (w.toNat : Int)
/-- The value of a F24 word. -/
def rF24 (w : W32) : Int := wrapS 24 (w.toNat : Int)
/-- The two words of a 64-bit quantity of `n` bits, low word first, sign-extended. -/
def wPair (n : Nat) (x : Int) : W32 × W32 := (w32i (wrapS n x), w32i (wrapS n x / 4294967296))
/-- The value of a pair of `n` bits. -/
def rPair (n : Nat) (lo hi : W32) : Int := wrapS n ((lo.toNat : Int) + 4294967296 * (hi.toNat : Int))

end Sys2Proof.Machine
end

