-- ==== Sys2Proof/Machine/TimeBase.lean ====
section
/-! DEFINITION. Machine/TimeBase.lean: time bases, ring time and its source, slew, captures and pins
(R187 to R202, R215 to R223). -/

namespace Sys2Proof.Machine

/-! ### Time bases (R188 to R192) -/

/-- The rate term floor(rho × (c − c_ref) / 2^44). -/
def TimeBase.rateTerm (b : TimeBase) (c : BitVec 64) : Int := b.rho * (c - b.cref).toInt / 2 ^ 44

/-- The value of a time base at raw count `c` (R190). -/
def TimeBase.valueAt (b : TimeBase) (c : BitVec 64) : BitVec 64 :=
  c + b.ofs + BitVec.ofInt 64 (b.rateTerm c)

/-- The value now. -/
def TimeBase.now (b : TimeBase) : BitVec 64 := b.valueAt b.raw

/-- The value a host reads: bits [2:0] of the raw count as 0 (R188). -/
def TimeBase.hostRead (b : TimeBase) : BitVec 64 := b.valueAt (b.raw &&& ~~~7)

/-- A rate change at the current raw count: the rate term is folded into ofs first (R191). -/
def TimeBase.setRate (b : TimeBase) (rho : Int) : TimeBase :=
  { b with ofs := b.ofs + BitVec.ofInt 64 (b.rateTerm b.raw), cref := b.raw, rho := rho }

/-- A step adds a signed amount to ofs (R191). -/
def TimeBase.step (b : TimeBase) (d : Int) : TimeBase := { b with ofs := b.ofs + BitVec.ofInt 64 d }

/-- The raw counter advances. -/
def TimeBase.advance (b : TimeBase) (n : Nat) : TimeBase := { b with raw := b.raw + BitVec.ofNat 64 n }

/-- Ring time now. -/
def TimeState.now (t : TimeState) : Rt := t.ring.now

/-- All three raw counters advance together (one PLL, R187). -/
def TimeState.advance (t : TimeState) (n : Nat) : TimeState :=
  { t with ring := t.ring.advance n, domA := t.domA.advance n, domB := t.domB.advance n }

/-- Time passes until ring time is at `goal`, where that is ahead; the rate term is met by three
rounds, which leaves at most 1 rt (log entry 2). -/
def TimeState.advanceTo (t : TimeState) (goal : Rt) : TimeState :=
  let go := fun (t : TimeState) => t.advance (rtDiff goal t.now).toNat
  go (go (go t))

/-- A rate in units of 2^−44 from tenths of ppm. -/
def ppmTenths (n : Nat) : Int := (n * 2 ^ 44 / 10000000 : Nat)

/-- ±100 ppm in units of 2^−44 (R192). -/
def rateLimit : Int := ppmTenths 1000

/-! ### Cycle lengths (R194) -/

/-- Length of cycle c in rt. -/
def cycleLen (tcyc : Nat) (c : W32) : Nat :=
  if tcyc = 83333 then (if c.toNat % 3 = 2 then 83334 else 83333)
  else if tcyc = 166667 then (if c.toNat % 3 = 2 then 166666 else 166667)
  else tcyc

/-! ### Control fields (R222) -/

/-- PREF: 0 FREE, 1 A, 2 B; 3 is FREE. -/
def TimeState.pref (t : TimeState) : Nat := let v := fld t.rtCtl 1 0; if v = 3 then 0 else v
/-- SLEW_MAX in tenths of ppm. -/
def TimeState.slewMax (t : TimeState) : Nat :=
  let v := fld t.rtCtl 15 8
  if 1 ≤ v && v ≤ 100 then v else 10
/-- ACC_MAX in ppm per second. -/
def TimeState.accMax (t : TimeState) : Nat :=
  let v := fld t.rtCtl 23 16
  if 1 ≤ v && v ≤ 20 then v else 10
/-- VALID_THR in rt. -/
def TimeState.validThr (t : TimeState) : Nat :=
  let v := fld t.rtCtl 31 24
  4 * (if v = 0 then 25 else v)
/-- HOLD_MAX in seconds. -/
def TimeState.holdMax (t : TimeState) : Nat := let v := fld t.rtCtl2 15 0; if v = 0 then 3600 else v
/-- REVERT_S in seconds. -/
def TimeState.revertS (t : TimeState) : Nat := let v := fld t.rtCtl2 23 16; if v = 0 then 10 else v

/-- One second in rt. -/
def secRt : Nat := 4000000000

/-- The domain is served as grandmaster: a port is MASTER and none is a slave (R198). -/
def PtpDomain.grandmaster (d : PtpDomain) : Bool :=
  (d.psA == .master || d.psB == .master) &&
    !(d.psA == .slave || d.psB == .slave || d.psA == .uncalibrated || d.psB == .uncalibrated)

/-- A domain's PTP state. -/
def TimeState.ptp (t : TimeState) (n : Nat) : PtpDomain := if n = 1 then t.ptpA else t.ptpB

/-- A domain's time base. -/
def TimeState.dom (t : TimeState) (d : Nat) : TimeBase := if d = 1 then t.domA else t.domB
/-- The base that gives a domain's time: ring time where the chip is its grandmaster (R198). -/
def TimeState.domBase (t : TimeState) (n : Nat) : TimeBase :=
  if (t.ptp n).grandmaster then t.ring else t.dom n

/-- A domain is valid. -/
def TimeState.domValid (t : TimeState) (d : Nat) : Bool :=
  if d = 1 then t.ptpA.valid else if d = 2 then t.ptpB.valid else false

/-! ### Source, switch, slew (R193, R199 to R201, R223) -/

/-- Distance in rt covered `e` rt after the start of a slew of `dist` rt: rate difference at most
vmax tenths of ppm, changing by at most acc ppm per second (R201). -/
def slewDist (dist vmax acc e : Nat) : Nat :=
  let t1 := 400000000 * vmax / acc
  let s1 := vmax * t1 / 20000000
  let ramp := fun (x : Nat) => acc * x * x / (2 * 1000000 * secRt)
  if 2 * s1 ≤ dist then
    let hold := (dist - 2 * s1) * 10000000 / vmax
    if e ≤ t1 then min (ramp e) dist
    else if e ≤ t1 + hold then min (s1 + vmax * (e - t1) / 10000000) dist
    else if e < 2 * t1 + hold then dist - min (ramp (2 * t1 + hold - e)) dist
    else dist
  else
    let th := isqrt (dist * 1000000 * secRt / acc)
    if e ≤ th then min (ramp e) dist
    else if e < 2 * th then dist - min (ramp (2 * th - e)) dist
    else dist

/-- Duration of a slew in rt. -/
def slewTime (dist vmax acc : Nat) : Nat :=
  let t1 := 400000000 * vmax / acc
  let s1 := vmax * t1 / 20000000
  if 2 * s1 ≤ dist then 2 * t1 + (dist - 2 * s1) * 10000000 / vmax
  else 2 * isqrt (dist * 1000000 * secRt / acc)

/-- Θ now: on the slew's trapezoid while one runs (R201). -/
def TimeState.thetaNow (t : TimeState) : Int :=
  match t.slew with
  | none => t.theta
  | some w =>
    let d := t.theta0 - w.from'
    let s : Int := slewDist d.natAbs w.vmax w.acc (rtDiff t.now w.start).toNat
    w.from' + sgn d * s

/-- The residual Θ − Θ_0 (R195). -/
def TimeState.residual (t : TimeState) : Int := t.thetaNow - t.theta0

/-- 1 ms in rt. -/
def msRt : Nat := 4000000

/-- Start SLEW toward Θ_0 (R201). -/
def TimeState.startSlew (t : TimeState) : TimeState :=
  let th := t.thetaNow
  { t with rtState := .slew, theta := th
           slew := some { from' := th, start := t.now, vmax := t.slewMax, acc := t.accMax } }

/-- A switch to domain `d` (1 A, 2 B): Θ is taken anew, ring time does not step (R200); then ALIGN,
hold or slew (R201). -/
def TimeState.switchTo (t : TimeState) (d : Nat) : TimeState × List Ev :=
  let th := (t.ring.hostRead - (t.domBase d).hostRead).toInt
  let t := { t with theta := th, slew := none, src := d, rtState := .track }
  let e := ev0 EvNo.rtSourceChanged
  if msRt < (t.theta - t.theta0).natAbs then (t, [e, ev0 EvNo.plantOffsetHeld])
  else if bit t.rtCtl 4 then (t.startSlew, [e])
  else (t, [e])

/-- Mean of the last servo updates (R196). -/
def meanRate (l : List Int) (d : Int) : Int := if l.isEmpty then d else l.foldl (· + ·) 0 / (l.length : Int)

/-- Enter HOLDOVER: the rate is frozen at the mean of the last 16 servo updates, Θ is frozen. -/
def TimeState.holdover (t : TimeState) : TimeState × List Ev :=
  let th := t.thetaNow
  ({ t with ring := t.ring.setRate (meanRate t.rates t.ring.rho), theta := th, slew := none
            rtState := .holdover, holdAt := t.now }, [ev0 EvNo.holdoverEntered])

/-- The image rate of ring time within ±100 ppm (R192, R196). -/
def ImgTime.freeRate (i : ImgTime) : Int := clampI (-rateLimit) rateLimit i.rate

/-- Enter FREE: the image rate, no servo. -/
def TimeState.goFree (t : TimeState) (img : ImgTime) : TimeState :=
  if t.rtState == .free then t
  else { t with ring := t.ring.setRate img.freeRate, rtState := .free, src := 0, slew := none }

/-- A domain that AUTO and PREF permit to leave HOLDOVER for, PREF first (R199). -/
def TimeState.permitted (t : TimeState) : Option Nat :=
  let p := t.pref
  if t.domValid p then some p
  else if bit t.rtCtl 2 && t.domValid (3 - p) then some (3 - p)
  else none

/-- The rules of R199, applied every 1 ms, unless a manual command is in force or the chip is a
spare in FOLLOW. -/
def TimeState.selectSource (t : TimeState) (img : ImgTime) : TimeState × List Ev :=
  let p := t.pref
  let t := { t with
    prefAt := if t.domValid p then some (if t.prefFor = p then t.prefAt.getD t.now else t.now) else none, prefFor := p }
  if t.manual || t.rtState == .follow then (t, [])
  else if p = 0 then (t.goFree img, [])
  else
    match t.rtState with
    | .free =>
      match t.permitted with
      | some d => t.switchTo d
      | none => (t, [])
    | .holdover | .freerun =>
      match t.permitted with
      | some d => t.switchTo d
      | none => (t, [])
    | .track | .slew | .follow =>
      if t.domValid t.src then
        let since := match t.prefAt with
          | some x => (rtDiff t.now x).toNat
          | none => 0
        if bit t.rtCtl 3 && t.src != p && t.prefAt.isSome && decide (t.revertS * secRt ≤ since)
        then t.switchTo p else (t, [])
      else if bit t.rtCtl 2 && t.domValid (3 - t.src) then t.switchTo (3 - t.src)
      else t.holdover

/-- A spare takes over (R196, R213): ring time leaves FOLLOW without a step, with no source held, and R199 and R200 apply. Where
they give no source the state is FREE. -/
def TimeState.leaveFollow (t : TimeState) (img : ImgTime) : TimeState × List Ev :=
  let t := ({ t with src := 0, slew := none } : TimeState).goFree img
  if t.pref = 0 then (t, [])
  else match t.permitted with
    | some d => t.switchTo d
    | none => (t, [])

/-- The spare's ring time in FOLLOW, steered by an error of its S or of its RTSYNC (R211, R214); only the rate moves. -/
def TimeState.follow (t : TimeState) (error : Int) : TimeState :=
  if t.rtState == .follow then
    { t with ring := t.ring.setRate (clampI (-rateLimit) rateLimit (Config.rtServo t.ring.rho error)) }
  else t

/-- HOLD_MAX passes in HOLDOVER (R199). -/
def TimeState.holdExpire (t : TimeState) : TimeState × List Ev :=
  if t.rtState == .holdover then
    (({ t with rtState := .freerun } : TimeState), [ev0 EvNo.holdoverExpired])
  else (t, [])

/-- Θ reaches Θ_0 (R201). -/
def TimeState.slewDone (t : TimeState) : TimeState × List Ev :=
  match t.slew with
  | none => (t, [])
  | some w =>
    let d := (t.theta0 - w.from').natAbs
    let t := t.advanceTo (w.start + BitVec.ofNat 64 (slewTime d w.vmax w.acc))
    ({ t with theta := t.theta0, slew := none, rtState := .track }, [ev0 EvNo.rtSlewDone])

/-- SELECT_A (1) or SELECT_B (2): refused for an invalid domain or in FREE (R223). -/
def TimeState.cmdSelect (t : TimeState) (d : Nat) : TimeState × List Ev :=
  if !t.domValid d || t.rtState == .free then (t, [ev0 EvNo.rtCmdRefused])
  else { t with manual := true }.switchTo d

/-- HOLD: refused in FREE (R223). -/
def TimeState.cmdHold (t : TimeState) : TimeState × List Ev :=
  if t.rtState == .free then (t, [ev0 EvNo.rtCmdRefused])
  else { t with manual := true }.holdover

/-- RELEASE returns control to R199 (R223). -/
def TimeState.cmdRelease (t : TimeState) : TimeState := { t with manual := false }

/-- ALIGN_NOW: refused while |Θ − Θ_0| > 1 ms (R223), else SLEW (R201). -/
def TimeState.cmdAlignNow (t : TimeState) : TimeState × List Ev :=
  if msRt < t.residual.natAbs then (t, [ev0 EvNo.rtCmdRefused])
  else if t.rtState == .track || t.rtState == .slew then (t.startSlew, [])
  else (t, [])

/-- Entering CROWN by claim for the first time since POR or SUPPLY: the single step of R193. -/
def TimeState.crownStep (t : TimeState) : TimeState :=
  if t.stepped then t
  else
    let p := t.pref
    if t.domValid p then
      let d := ((t.domBase p).hostRead - t.ring.hostRead).toInt
      { t with ring := t.ring.step d, stepped := true, aligned := true, theta := 0, theta0 := 0
               src := p, rtState := .track }
    else { t with stepped := true, theta0 := t.theta }

/-- The ring-time servo of TRACK and SLEW on an update from the source (R192, R196, R200, R201). While the ring runs a rate change
is bounded by SLEW_MAX, and by ACC_MAX for the time since the last update; beyond ±100 ppm the output is clamped. -/
def TimeState.servo (t : TimeState) (running : Bool) (error : Int) : TimeState × List Ev :=
  if t.rtState == .track || t.rtState == .slew then
    let want := Config.rtServo t.ring.rho error
    let m := min (ppmTenths t.slewMax) (ppmTenths (10 * t.accMax) * (rtDiff t.now t.servoAt).natAbs / (secRt : Int))
    let want := if running then t.ring.rho + clampI (-m) m (want - t.ring.rho) else want
    let r := clampI (-rateLimit) rateLimit want
    ({ t with ring := t.ring.setRate r, rates := (r :: t.rates).take 16, servoAt := t.now },
      if r = want then [] else [ev0 EvNo.rtRateClamped])
  else (t, [])

/-! ### Lock (R52, R212) -/

/-- The head evaluates one cycle for lock: `good` when every admitted Finzo 2 or 3 node reported an
offset within ±2 ns. -/
def TimeState.lockCycle (t : TimeState) (good : Bool) : TimeState :=
  { t with lockRun := if good then min (t.lockRun + 1) 256 else 0, reported := [] }

/-- A report outside ±2 ns: lock is lost (R52). -/
def TimeState.lockLose (t : TimeState) : TimeState × List Ev :=
  if t.locked then ({ t with locked := false, lockRun := 0 }, [ev0 EvNo.rtLockLost])
  else ({ t with lockRun := 0 }, [])

/-! ### Captures and pins (R217, R221, R222) -/

/-- MODE_n of a TRG_IO pin. -/
def TimeState.pinMode (t : TimeState) (n : Nat) : Nat := fld t.trgCtl (4 * n + 2) (4 * n)
/-- INV_n. -/
def TimeState.pinInv (t : TimeState) (n : Nat) : Bool := bit t.trgCtl (4 * n + 3)

/-- Put a capture into the FIFO in order of time (R217). -/
def insertCap (c : Capture) : List Capture → List Capture
  | [] => [c]
  | d :: l => if rtDiff c.rt d.rt < 0 then c :: d :: l else d :: insertCap c l

/-- A pin edge after inversion: is it captured (modes 1 to 3)? A full FIFO discards and counts it. -/
def TimeState.capture (t : TimeState) (pin : Nat) (rising : Bool) (rt : Rt) : TimeState × List Ev :=
  let r := rising != t.pinInv pin
  let m := t.pinMode pin
  if m = 3 || (m = 1 && r) || (m = 2 && !r) then
    if t.caps.length < 64 then ({ t with caps := insertCap { rt := rt, pin := pin, rising := r } t.caps }, [])
    else ({ t with capOvf := incWrap 16 t.capOvf }, [(ev0 EvNo.capOverflow).limited 0])
  else (t, [])

/-- A read of TIME_CAP_LO (R221): pops the oldest capture. -/
def TimeState.capPop (t : TimeState) : TimeState × W32 :=
  match t.caps with
  | [] => ({ t with capHi := 0, capSrc := 0 }, 0)
  | c :: rest =>
    ({ t with caps := rest, capHi := hi32 c.rt
              capSrc := w32 (c.pin % 4 + 16 * b2n c.rising + 2147483648) }, lo32 c.rt)

/-- The timescale a PPS mode follows: 4 ring time, 5 domain A, 6 domain B (R222). -/
def TimeState.ppsBase (t : TimeState) (mode : Nat) : Option TimeBase :=
  if mode = 4 then some t.ring else if mode = 5 then some (t.domBase 1)
  else if mode = 6 then some (t.domBase 2) else none

/-- A whole second of the selected timescale (R217): the pin is high from the second for 10 µs. -/
def TimeState.ppsEdge (t : TimeState) (pin : Nat) (rising : Bool) : TimeState :=
  if (t.ppsBase (t.pinMode pin)).isSome then
    if rising then { t with pps := t.pps.put pin t.now } else { t with pps := t.pps.del pin }
  else t

/-- TIME_STAT but for BUSY and WDROP, which HOSTIF keeps (R222). -/
def TimeState.statWord (t : TimeState) : W32 :=
  w32 (t.rtState.code + 16 * t.src + 256 * b2n t.locked + 512 * b2n t.aligned
    + 1024 * b2n t.ptpA.valid + 2048 * b2n t.ptpB.valid + 4096 * b2n t.manual)

/-- A signed value saturated to ±(2^31 − 1), as a register word. -/
def satReg (x : Int) : W32 := w32i (clampI (-2147483647) 2147483647 x)

end Sys2Proof.Machine
end

