-- ==== Sys2Proof/Machine/Glue.lean ====
section
/-! DEFINITION. Machine/Glue.lean: reading and updating the chip as one: time, events, axes, words and
configuration. -/

namespace Sys2Proof.Machine

/-! ### Time, events, outputs and free values -/

/-- Ring time as an internal reader that is no timestamp sees it (R188). -/
def Core.now (c : Core) : Rt := c.time.ring.hostRead

/-- Shell compensation of a pin's input latency at the Tj last reported, 25 °C before the first report, in rt (R216). The shell's units are the model's: latencies
in 1/256 rt, the coefficient in 1/256 rt per °C, Tj in 1/16 °C (DESIGN CHOICE, log entry 1). -/
def Core.latency (c : Core) (pin : Nat) : Int :=
  let p := c.boot.cal.pin.look pin (0, 0)
  let tj := if c.health.tjMax.isSome then c.health.tj else 400
  roundShift 8 (p.1 + p.2 * (tj - 400) / 16)

/-- Output latency of a TRG_IO pin, in rt (R217). -/
def Core.outLatency (c : Core) (pin : Nat) : Int := roundShift 8 (c.boot.cal.out.look pin 0)

/-- A timestamp of a pin: less its latency, then less its lining offset (R216). -/
def Core.pinTime (c : Core) (pin : Nat) (t : Rt) : Rt := rtAdd (rtAdd t (-(c.latency pin))) (-(c.pinOfs.look pin 0))

/-- T_cyc in rt (R59); 125,000 before an image is loaded (R665). -/
def Core.tcyc (c : Core) : Nat := c.image.tcyc

/-- Length of the present cycle (R194). -/
def Core.len (c : Core) : Nat := cycleLen c.tcyc c.cycle.cycle

/-- Instants of the schedule mode in force (R61). -/
def Core.modeI (c : Core) : ImgMode := c.image.mode.look c.cycle.mode {}

/-- Ring time of an instant of the present cycle. -/
def Core.instant (c : Core) (off : Nat) : Rt := rtAdd c.cycle.rtS off

/-- AX_EVSUM bits of an event (R558). -/
def evsumBit (t : Tab Nat) (e : Ev) : Tab Nat :=
  if decide (96 ≤ e.num) && decide (e.num < 128) && e.kind = 1 then t.upd e.obj 0 (· ||| 2 ^ (e.num - 96)) else t

/-- Raise events: they wait for the end of the command. -/
def Core.raise (c : Core) (es : List Ev) : Core := { c with evq := c.evq ++ es, evsum := es.foldl evsumBit c.evsum }

/-- Put something on the chip's pins or links. -/
def Core.out (c : Core) (o : Output) : Core := { c with outs := c.outs ++ [o] }

/-- The next free value's number. -/
def Core.draw (c : Core) : Nat × Core := (c.freeCtr, { c with freeCtr := c.freeCtr + 1 })

/-- Bring ring time to an instant named by a command, where it lies ahead. -/
def Core.at (c : Core) (t : Rt) : Core := { c with time := c.time.advanceTo t }

/-- The chip is RUNNING (R577). -/
def Core.running (c : Core) : Bool := c.boot.st = .running

/-- PARKED (R598). -/
def Core.parked (c : Core) : Bool := c.boot.lp = .parked

/-- STANDBY, or waking from it. -/
def Core.standby (c : Core) : Bool := c.boot.lp = .standby || c.boot.lp = .waking

/-- The chip computes cycles: crown or spare, and not in STANDBY. -/
def Core.computes (c : Core) : Bool := (c.role.role = .crown || c.role.role = .spare) && !c.standby

/-! ### Axes -/

/-- The image's entry of an axis. -/
def Core.imgAx (c : Core) (a : Nat) : ImgAxis := c.image.axis.look a {}

/-- The axis is in the image. -/
def Core.hasAx (c : Core) (a : Nat) : Bool := (c.image.axis.look? a).isSome

/-- The axes of the image. -/
def Core.axes (c : Core) : List Nat := c.image.axis.keys

/-- Drive-map slot of an axis in its flow (R144, R146). -/
def Core.slotOf (c : Core) (a : Nat) : Option Nat := (c.image.seg.look (c.imgAx a).seg {}).driveMap.idxOf? a

/-- The axis's state. -/
def Core.ax (c : Core) (a : Nat) : AxisState := c.eng.axis.look a {}

/-- Update an axis's state. -/
def Core.updAx (c : Core) (a : Nat) (f : AxisState → AxisState) : Core :=
  { c with eng := { c.eng with axis := c.eng.axis.upd a {} f } }

/-- Field-path state. -/
def Core.fa (c : Core) (a : Nat) : FieldAxis := c.field.axis.look a {}
/-- Update field-path state. -/
def Core.updFa (c : Core) (a : Nat) (f : FieldAxis → FieldAxis) : Core :=
  { c with field := { c.field with axis := c.field.axis.upd a {} f } }

/-- Observer state. -/
def Core.ob (c : Core) (a : Nat) : ObsAxis := c.obs.look a {}
/-- Update observer state. -/
def Core.updOb (c : Core) (a : Nat) (f : ObsAxis → ObsAxis) : Core := { c with obs := c.obs.upd a {} f }

/-- The Gauntlet's axis. -/
def Core.ga (c : Core) (a : Nat) : GsAxis := c.gs.axis.look a {}
/-- Update the Gauntlet's axis. -/
def Core.updGa (c : Core) (a : Nat) (f : GsAxis → GsAxis) : Core :=
  { c with gs := { c.gs with axis := c.gs.axis.upd a {} f } }

/-- Profile state of an axis. -/
def Core.pa (c : Core) (a : Nat) : ProfAxis := c.prof.axis.look a {}
/-- Update profile state. -/
def Core.updPa (c : Core) (a : Nat) (f : ProfAxis → ProfAxis) : Core :=
  { c with prof := { c.prof with axis := c.prof.axis.upd a {} f } }

/-- A Cuff channel. -/
def Core.ch (c : Core) (n : Nat) : Chan := c.cuff.chan.look n {}
/-- Put a Cuff channel back. -/
def Core.putCh (c : Core) (n : Nat) (x : Chan) : Core := { c with cuff := { c.cuff with chan := c.cuff.chan.put n x } }

/-- A configuration field of an axis; the SAFE_ words are the Gauntlet's (R353, R560). -/
def Core.cf (c : Core) (a : Nat) (f : Cf) : Int :=
  let w := (c.ga a).words
  match f with
  | .safeVlim => w.vlim
  | .safeDtol => w.dtol
  | .safeDir => w.dir
  | .safePosref => w.posref
  | .safePwin => w.pwin
  | .safeCmd => w.cmd
  | .safeVsp => w.vsp
  | g => cfgGet (c.cfg.look a []) g

/-- A per-cycle word as last committed. -/
def Core.word (c : Core) (a off : Nat) : W32 := (c.words.look a []).look off 0

/-- Commit a per-cycle word. -/
def Core.setWord (c : Core) (a off : Nat) (w : W32) : Core := { c with words := c.words.upd a [] fun t => t.put off w }

/-- Commit several words of an axis. -/
def Core.setWords (c : Core) (a : Nat) (ws : List (Nat × W32)) : Core := ws.foldl (fun c e => c.setWord a e.1 e.2) c

/-- Commit a write buffer as one unit (R337). -/
def Core.commitBuf (c : Core) (a : Nat) (b : List WEnt) : Core := b.foldl (fun c e => c.setWord a e.off e.val) c

/-- Segment and slot machinery of a segment. -/
def Core.sg (c : Core) (s : Nat) : Segment := c.seg.look s {}
/-- Put a segment back. -/
def Core.putSg (c : Core) (s : Nat) (g : Segment) : Core := { c with seg := c.seg.put s g }
/-- Slots of a segment. -/
def Core.sl (c : Core) (s : Nat) : SlotSeg := c.slot.look s {}
/-- Put the slots back. -/
def Core.putSl (c : Core) (s : Nat) (q : SlotSeg) : Core := { c with slot := c.slot.put s q }
/-- The image of a segment. -/
def Core.is (c : Core) (s : Nat) : ImgSeg := c.image.seg.look s {}
/-- Segments in use. -/
def Core.segs (c : Core) : List Nat := (c.image.seg.filter fun e => e.2.phy != .unused).map (·.1)

/-- The node of an axis. -/
def Core.nodeOf (c : Core) (a : Nat) : Node := (c.sg (c.imgAx a).seg).node (c.imgAx a).pos
/-- The axis's node is admitted. -/
def Core.nodeAdm (c : Core) (a : Nat) : Bool := (c.nodeOf a).st = .admitted
/-- The axis's segment is FORMED. -/
def Core.segFormed (c : Core) (a : Nat) : Bool := (c.sg (c.imgAx a).seg).phase = .formed
/-- Key of the Gauntlet's node of an axis. -/
def Core.gnKey (c : Core) (a : Nat) : Nat := (c.imgAx a).seg * 64 + (c.imgAx a).pos
/-- The safety lane serves the node of the axis: it is admitted, and its watchdog has not expired where it
carries a safety record (R478). -/
def Core.laneOk (c : Core) (a : Nat) : Bool :=
  c.nodeAdm a && !(c.gs.node.look (c.gnKey a) {}).dead

/-- The Gauntlet permits the axis's outputs (R478). -/
def Core.permits (c : Core) (a : Nat) : Bool := c.gs.permits c.image.gs a (c.laneOk a)

/-- Axes on a node. -/
def Core.nodeAxes (c : Core) (seg pos : Nat) : List Nat :=
  (c.image.axis.filter fun e => e.2.seg = seg && e.2.pos = pos).map (·.1)

/-- Axis at an index of a node. -/
def Core.axisAt (c : Core) (s p i : Nat) : Option Nat :=
  (c.image.axis.find? fun e => e.2.seg = s && e.2.pos = p && e.2.idx = i).map (·.1)

/-- FBC_SRC of an axis as a number, where the image lays the field out (R227). Its coding is the model's: 0 to 15 a local channel, any
other number a remote source, with the segment in [25:24], the position in [21:16] and the axis index in [7:0] (DESIGN CHOICE, log
entry 69). -/
def Core.fbcSrc (c : Core) (a : Nat) : Option Nat :=
  ((c.cfg.look a []).find? fun e => e.1 = .fbcSrc).map fun e => (e.2 % 4294967296).toNat

/-- The axis whose sense record holds a remote source's words: the one at the place FBC_SRC names, else the axis itself. -/
def Core.srcAxis (c : Core) (a : Nat) : Nat :=
  match c.fbcSrc a with
  | none => a
  | some v => if v < 16 then a else (c.axisAt (v / 0x1000000 % 4) (v / 0x10000 % 64) (v % 256)).getD a

/-- The feedback source of an axis: FBC_SRC, else what the image names (R226, R227). A remote source's records are of the type the
image gives their place. -/
def Core.source (c : Core) (a : Nat) : FbSource :=
  match c.fbcSrc a with
  | none => (c.imgAx a).source
  | some v =>
    if v < 16 then .channel v
    else
      match (c.imgAx (c.srcAxis a)).source with
      | .remote t => .remote t
      | .channel _ => .remote 0x21

/-- Feedback source of the axis is SUSPECT (R246). -/
def Core.susp (c : Core) (a : Nat) : Bool :=
  match c.source a with
  | .channel n => (c.ch n).suspect
  | .remote _ => (c.cuff.axis.look a {}).remote.suspect

/-- Feedback source of the axis is in a bad cycle (R245). -/
def Core.badCyc (c : Core) (a : Nat) : Bool := decide (0 < (c.cuff.axis.look a {}).badRun)

/-- The axis a local channel feeds. -/
def Core.chanAxis (c : Core) (n : Nat) : Option Nat :=
  (c.image.axis.find? fun e => c.source e.1 = .channel n).map (·.1)

/-! ### Blocks -/

/-- A block is isolated (R30). -/
def Core.iso (c : Core) (region block : Nat) : Bool := c.err.isIso region block

end Sys2Proof.Machine
end

