-- ==== Sys2Proof/Machine/CfgWord.lean ====
section
/-! DEFINITION. Machine/CfgWord.lean: the words of an axis's configuration area as fields of the image's layout (R32, R357, R560). -/

namespace Sys2Proof.Machine

/-- The field as it stands in a word. -/
def LayoutEnt.get (e : LayoutEnt) (w : W32) : Int :=
  let n := (w.toNat >>> e.lo) % 2 ^ e.width
  if e.signed then wrapS e.width (n : Int) else n

/-- The bits that a field gives its word. -/
def LayoutEnt.bits (e : LayoutEnt) (x : Int) : W32 := w32 ((BitVec.ofInt e.width x).toNat <<< e.lo)

/-- The Gauntlet-owned words at fixed offsets (R560). -/
def safeWord (w : SafeWords) (off : Nat) : Option W32 :=
  if off = 0xF00 then some (w32 w.cmd) else if off = 0xF04 then some (w32i w.vsp) else if off = 0xF08 then some (w32i w.vlim)
  else if off = 0xF0C then some (w32i w.dtol) else if off = 0xF10 then some (w32i w.dir)
  else if off = 0xF14 then some (w32i w.posref) else if off = 0xF18 then some (w32i w.pwin) else none

/-- Fields of the word at an offset. -/
def Image.fieldsAt (i : Image) (off : Nat) : List LayoutEnt := i.layout.filter fun e => e.off = off

/-- A word of an axis's configuration area, in force. -/
def Core.cfgWord (c : Core) (a off : Nat) : W32 :=
  match safeWord (c.ga a).words off with
  | some w => w
  | none =>
    (c.image.fieldsAt off).foldl (fun w e => w ||| e.bits (cfgGet (c.cfg.look a []) e.field)) ((c.raw.look a []).look off 0)

/-- Put a word of an axis's configuration area in force. A change of FBC_ values takes a new reference for the next record
(R238), and a new remote source starts anew; one of CMT_ values starts the phase anew (R270, R273). -/
def Core.setCfgWord (c : Core) (a off : Nat) (w : W32) : Core :=
  let src := c.source a
  let c := (c.image.fieldsAt off).foldl (fun (c : Core) e => { c with cfg := c.cfg.upd a [] fun v => cfgSet v e.field (e.get w) }) c
  let c := if c.image.intWords.contains off then { c with raw := c.raw.upd a [] fun t => t.put off w } else c
  if off < 0x840 then
    { c with cuff := { c.cuff with axis := c.cuff.axis.upd a {} fun y =>
      { y with remote := if c.source a = src then { y.remote with dblBase := none, ref := none } else {} } } }
  else if off < 0x900 then
    c.updFa a fun x => { x with started := false, idxSeen := false, idxBasis := false, rebase := none }
  else c

/-- A Gauntlet-owned word rewritten with 0. -/
def SafeWords.zero (w : SafeWords) (off : Nat) : SafeWords :=
  if off = 0xF00 then { w with cmd := 0 } else if off = 0xF04 then { w with vsp := 0 } else if off = 0xF08 then { w with vlim := 0 }
  else if off = 0xF0C then { w with dtol := 0 } else if off = 0xF10 then { w with dir := 0 }
  else if off = 0xF14 then { w with posref := 0 } else if off = 0xF18 then { w with pwin := 0 } else w

/-- A word of an axis's configuration area is rewritten with 0 (R32). -/
def Core.zeroCfgWord (c : Core) (a off : Nat) : Core :=
  let c := (c.setCfgWord a off 0).updGa a fun g => { g with words := g.words.zero off }
  { c with raw := c.raw.upd a [] fun t => t.del off }

end Sys2Proof.Machine
end

