-- ==== Sys2Proof/Machine/Health.lean ====
section
/-! DEFINITION. Machine/Health.lean: supply warnings, brace, temperature, margin and the HEALTH words
(R609 to R623, R633, R634). -/

namespace Sys2Proof.Machine

/-- EV_SUPPLY_WARN (R610): OBJECT 1 low, 2 high; limited per rail. -/
def supplyEv (rail : Nat) (high : Bool) : Ev :=
  { num := EvNo.supplyWarn, code := rail, obj := if high then 2 else 1, lim := some rail }

/-- Record a rail's value and its lowest. -/
def HealthState.measure (h : HealthState) (rail mv : Nat) : HealthState :=
  { h with
    rail := h.rail.upd rail {} fun r => { r with mv := mv, mvMin := some (min (r.mvMin.getD mv) mv) }
    mvRec := h.mvRec.upd rail 0xFFFF (min mv) }

/-- A rail below its warning level for 1 µs (R610): live and sticky bits; the chip enters the brace state
for VDD_CORE and VDD_SRAM (R613). The last component says that it did. -/
def HealthState.warnLow (h : HealthState) (rail mv : Nat) (rt : Rt) : HealthState × List Ev × Bool :=
  let h := h.measure rail mv
  let h := { h with rail := h.rail.upd rail {} fun r => { r with low := true, stLow := true } }
  if (rail = 0 || rail = 1) && !h.braced then
    ({ h with braced := true, braceAt := rt, braceN := incWrap 16 h.braceN, lateNow := 0 },
     [supplyEv rail false, ev0 EvNo.braceEntered], true)
  else (h, [supplyEv rail false], false)

/-- A rail above its overvoltage warning level (R610). -/
def HealthState.warnHigh (h : HealthState) (rail mv : Nat) : HealthState × List Ev :=
  let h := h.measure rail mv
  ({ h with rail := h.rail.upd rail {} fun r => { r with high := true, stHigh := true } }, [supplyEv rail true])

/-- A rail returns inside a level (R610, R633). -/
def HealthState.warnClear (h : HealthState) (rail mv : Nat) (high : Bool) : HealthState :=
  let h := h.measure rail mv
  { h with rail := h.rail.upd rail {} fun r => if high then { r with high := false } else { r with low := false } }

/-- The chip leaves the brace state (R614). -/
def HealthState.braceLeave (h : HealthState) (rt : Rt) : HealthState × List Ev :=
  if !h.braced then (h, [])
  else
    let d := min 65535 ((rtDiff rt h.braceAt).toNat / 40000)
    ({ h with braced := false, braceMax := max h.braceMax d },
     [{ num := EvNo.braceLeft, code := min 255 h.lateNow, obj := d }])

/-- A late flow close while braced (R614, R633). -/
def HealthState.lateClose (h : HealthState) : HealthState :=
  if h.braced then { h with late := h.late + 1, lateNow := h.lateNow + 1 } else h

/-- HEALTH_THERM_CTL.WARN in °C: values outside 90 to 115 are replaced by 110 (R633). -/
def HealthState.warn (h : HealthState) : Nat :=
  let w := fld h.therm 7 0
  if 90 ≤ w && w ≤ 115 then w else 110

/-- A report of Tj, in 1/16 °C (R616, R617): the new state, events, and whether HIGH was reached. -/
def HealthState.report (h : HealthState) (tj : Int) : HealthState × List Ev × Bool :=
  let w : Int := 16 * h.warn
  let up := decide (w ≤ tj) && !h.twarn
  let tw := if w ≤ tj then true else if tj < w - 80 then false else h.twarn
  let hi := decide (1920 ≤ tj) && !h.hotLev
  let hl := if 1920 ≤ tj then true else if tj < 1840 then false else h.hotLev
  let th := if 1920 ≤ tj then true else if tj < w then false else h.thot
  let mx := fun (o : Option Int) => some (match o with | none => tj | some m => max m tj)
  ({ h with tj := tj, tjMax := mx h.tjMax, tjRec := mx h.tjRec, twarn := tw, hotLev := hl, thot := th },
   (if up then [(ev0 EvNo.thermalWarn).limited 0] else []) ++ (if hi then [ev0 EvNo.thermalHigh] else []), hi)

/-- One millisecond of the lifetime counters (R592, R616): powered and STANDBY seconds, seconds above
105 °C and the highest Tj. -/
def lifeTick (h : HealthState) (t : Lifetime) (standby : Bool) : HealthState × Lifetime :=
  let hot := decide (1680 < h.tj)
  let hm := if hot then h.hotMs + 1 else h.hotMs
  let pm := h.ms + 1
  let sm := if standby then h.sbMs + 1 else h.sbMs
  ({ h with hotMs := hm % 1000, ms := pm % 1000, sbMs := sm % 1000 },
   { t with hot := t.hot + hm / 1000, powered := t.powered + pm / 1000, standby := t.standby + sm / 1000
            tjMax := some (match t.tjMax with | none => h.tj | some m => max m h.tj) })

/-- ρ of the four beat times in picoseconds, UQ1.15, saturating (R619). -/
def rhoOf (beats : List Nat) : Nat := min 65535 (beats.foldl max 0 * 32768 / 900)

/-- A replica measurement (R619, R620). -/
def HealthState.replica (h : HealthState) (beats : List Nat) : HealthState × List Ev :=
  let r := rhoOf beats
  ({ h with rho := r, rhoMax := max h.rhoMax r },
   if fld h.margin 15 0 < r then [({ num := EvNo.slackMargin, code := 1 } : Ev).limited 0xFF] else [])

/-- The slack check of a closed flow (R620); a late close counts as negative slack, and a flow that measured none is not below
s_W. HEALTH_MARGIN_STAT shows the flows below whether or not SLACKCHK asks for the event (R633). -/
def HealthState.slackCheck (h : HealthState) (proof : Tab Nat) (mode flow : Nat) (slack : Option Int) : HealthState × List Ev :=
  let under := match proof.look? (4 * mode + flow), slack with
    | some s, some v => decide (v < (s : Int))
    | _, _ => false
  if under then
    ({ h with below := h.below ||| 2 ^ flow, belowEp := h.belowEp ||| 2 ^ flow },
     if bit h.margin 16 then [(evFlow EvNo.slackMargin flow 2).limited flow] else [])
  else ({ h with below := h.below &&& (15 - 2 ^ flow) }, [])

/-- The statistics rollover (R69): highest ρ of the epoch and the flows below s_W. -/
def HealthState.rollover (h : HealthState) : HealthState :=
  { h with rhoLast := h.rhoMax, rhoMax := h.rho, belowEp := 0 }

/-- A pass is abandoned (R70, R622): 1 SRAM scrub, 2 re-verification, 3 ledger part. -/
def HealthState.abandoned (h : HealthState) (k : Nat) : HealthState × List Ev :=
  ({ h with abandon := h.abandon.upd k 0 (incWrap 8) }, [ev0 EvNo.epochWorkAbandoned k])

/-- CLR_MIN (R634). -/
def HealthState.clrMin (h : HealthState) : HealthState :=
  { h with rail := h.rail.each fun _ r => { r with mvMin := some r.mv }
           tjMax := some h.tj }

/-- A heartbeat's age in µs (R618, R633). -/
def hbAge (last rt : Rt) : Nat := min 65535 ((rtDiff rt last).toNat / 4000)

/-- HEALTH_STAT without BUSY and WDROP (R634). -/
def HealthState.statWord (h : HealthState) (tested : Bool) : W32 :=
  w32 (b2n h.braced + 2 * b2n h.twarn + 4 * b2n h.thot + 8 * b2n tested)

/-- The per-rail bits of HEALTH_SUP_LIVE or HEALTH_SUP_STICKY. -/
def HealthState.supWord (h : HealthState) (sticky : Bool) : W32 :=
  w32 (h.rail.foldl (fun n r =>
    if r.1 < 7 then n + (if (if sticky then r.2.stLow else r.2.low) then 2 ^ r.1 else 0)
      + (if (if sticky then r.2.stHigh else r.2.high) then 2 ^ (8 + r.1) else 0) else n) 0)

/-- A write of HEALTH_SUP_STICKY. -/
def HealthState.supClear (h : HealthState) (w : W32) : HealthState :=
  { h with rail := h.rail.each fun k r =>
      { r with stLow := r.stLow && !bit w k, stHigh := r.stHigh && !bit w (8 + k) } }

/-- HEALTH_SUP_V. -/
def HealthState.supV (h : HealthState) : W32 :=
  let r := h.rail.look h.sel {}
  w32 (r.mv % 65536 + 65536 * (r.mvMin.getD 0 % 65536))

/-- HEALTH_TJ. -/
def HealthState.tjWord (h : HealthState) : W32 :=
  w32 ((h.tj % 65536).toNat + 65536 * (h.tjMax.getD 0 % 65536).toNat)

/-- What bytes 0 to 75 and 100 to 251 of a field-return record are made of (R628). -/
structure FrIn where
  rt      : Rt
  cycle   : W32
  trigger : Nat
  kind    : Nat
  errs    : List W32
  emin    : List W32

/-- The 252 bytes before the CRC of a field-return record (R628). -/
def frBody (l : Ledger) (h : HealthState) (x : FrIn) : List Byte :=
  leN 8 x.rt.toNat ++ leBytes x.cycle ++ leN 1 x.trigger ++ leN 1 x.kind ++ leN 2 l.frSeq
    ++ (forN 6 fun i => leBytes (x.errs.getD i 0)).flatten
    ++ (forN 7 fun i => leN 2 (h.mvRec.look i (h.rail.look i {}).mv)).flatten
    ++ leN 2 (h.tjRec.getD h.tj % 65536).toNat ++ leN 2 h.rhoLast ++ leN 2 0
    ++ (forN 4 fun i => leBytes (x.emin.getD i 0xFFFFFFFF)).flatten
    ++ l.life.frBytes ++ l.fhLast ++ List.replicate 24 0

/-- After a record the minima and maxima of its span start again (R628). -/
def HealthState.frTaken (h : HealthState) : HealthState := { h with mvRec := [], tjRec := none }

/-- What a reset keeps (R631): only the VDD_IO latch, of the kinds that keep it (R611). -/
def HealthState.cleared (h : HealthState) (por : Bool) (therm margin : W32) (rt : Rt) : HealthState :=
  { therm := therm, margin := margin, hbCem := rt, hbSup := rt, latch := if por then none else h.latch }

end Sys2Proof.Machine
end

