-- ==== Sys2Proof/Machine/Maint.lean ====
section
/-! DEFINITION. Machine/Maint.lean: the maintenance manager's lock table and activities (R624 to R636). -/

namespace Sys2Proof.Machine

/-- The locks an activity takes: resource and whether exclusive (R624). -/
def Activity.locks (a : Activity) : List (Res × Bool) :=
  match a.act with
  | .snapshot => [(.ring, false), (.mbx, false)]
  | .netreset => [(.ring, true), (.mbx, true)]
  | .qspiUpdate => [(.qspi, true)]
  | .flash => [(.qspi, true)]
  | .wake => [(.qspi, false)]
  | .retest => [(.block a.region a.block, true)]
  | .frExport => [(.ledgerFr, true)]

/-- Two activities cannot be held together (R624). -/
def Activity.conflicts (a b : Activity) : Bool :=
  a.locks.any fun x => b.locks.any fun y => x.1 == y.1 && (x.2 || y.2)

/-- Event of an activity (R625), of its block for a RETEST. -/
def maintEv (n : Nat) (a : Activity) : Ev :=
  if a.act == .retest then evBlock n a.region a.block a.act.code else ev0 n a.act.code

/-- Admission of an activity (R625, R632): refused on a conflict with MAINT_STAT.HOLDER; `own` is the
reason field for the activities of the last row. -/
def MaintState.admitAct (m : MaintState) (a : Activity) : MaintState × Bool × List Ev :=
  let own : Bool := match a.act with
    | .qspiUpdate => true | .retest => true | .frExport => true
    | .snapshot => false | .netreset => false | .flash => false | .wake => false
  let clash := m.run.find? (a.conflicts ·)
  if m.iso || clash.isSome then
    ({ m with last := a.act.code, result := 3, reason := if own then 2 else m.reason
              holder := match clash with | none => 0 | some c => c.act.code },
     false, [maintEv EvNo.maintConflict a])
  else
    ({ m with last := a.act.code, result := 1, reason := 0, holder := 0, run := m.run ++ [a] },
     true, [maintEv EvNo.maintStarted a])

/-- An activity of this kind runs. -/
def MaintState.running (m : MaintState) (a : Act) : Bool := m.run.any fun x => x.act == a

/-- The end of the activities that `p` names, done or failed (R625). -/
def MaintState.finish (m : MaintState) (p : Activity → Bool) (ok : Bool) : MaintState × List Ev :=
  let e := m.run.filter p
  if e.isEmpty then (m, [])
  else
    ({ m with run := m.run.filter fun a => !p a
              result := if (e.any fun a => a.act.code == m.last) then (if ok then 2 else 3) else m.result },
     e.map fun a => maintEv (if ok then EvNo.maintDone else EvNo.maintFailed) a)

/-- The end of every activity of a kind. -/
def MaintState.finishAct (m : MaintState) (a : Act) (ok : Bool) : MaintState × List Ev := m.finish (fun x => x.act == a) ok

/-- A request whose code names no activity, or a refused RETEST (R626, R636). -/
def MaintState.refuse (m : MaintState) (code reason : Nat) : MaintState :=
  { m with last := code, result := 3, reason := reason, holder := 0 }

/-- Blocks that RETEST never takes: ring-time base, TDC bank, dispatcher, chip error manager, supervisors
(R626 reason 0x7). -/
def neverRetest (region block : Nat) : Bool :=
  (region = 1 && (block = 0 || block = 5)) || (region = 2 && block = 0) || (region = 5 && (block = 6 || block = 7 || block = 9))

/-- The number of blocks of a region (R22). -/
def blocksOf (region : Nat) : Nat :=
  match region with | 0 => 14 | 1 => 7 | 2 => 61 | 3 => 30 | 4 => 5 | 5 => 10 | _ => 0

/-- MAINT_STAT (R636). -/
def MaintState.statWord (m : MaintState) : W32 :=
  w32 (((List.range 8).foldl (fun n k => if k ≠ 0 && m.run.any (fun a => a.act.code == k) then n + 2 ^ k else n) 0)
    + 256 * m.last + 4096 * m.result + 65536 * m.reason + 1048576 * m.holder)

/-- State of a resource: 0 free, 1 shared, 2 exclusive. -/
def MaintState.lockOf (m : MaintState) (r : Res) : Nat :=
  let l := (m.run.map Activity.locks).flatten.filter fun x => x.1 == r
  if l.isEmpty then 0 else if l.any (·.2) then 2 else 1

/-- MAINT_LOCKS (R636). -/
def MaintState.locksWord (m : MaintState) : W32 :=
  let q := match m.run.find? fun a => a.act == .qspiUpdate with | none => 0 | some a => min a.port 2
  w32 (m.lockOf .ring + 4 * m.lockOf .mbx + 16 * m.lockOf .qspi + 64 * m.lockOf .ledgerFr
    + 256 * b2n (m.running .retest) + 512 * q)

/-- MAINT_RETEST_STAT (R635). -/
def MaintState.retestWord (m : MaintState) : W32 :=
  w32 (m.rstat + 16 * min 7 (m.count.look (fld m.target 10 8 * 64 + fld m.target 5 0) 0))

end Sys2Proof.Machine
end

