-- ==== Sys2Proof/Machine/Dispatcher.lean ====
section
/-! DEFINITION. Machine/Dispatcher.lean: chains, placement, ordered release, counters, slack and trace
(R409 to R432). -/

namespace Sys2Proof.Machine

/-! ### Counting (R420 to R422) -/

/-- Count a task as created, to be updated with cycle `u`. -/
def DispState.tallied (d : DispState) (u : W32) (f : Tally → Tally) : DispState :=
  { d with tally := d.tally.upd u.toNat {} f }

/-- A task created. -/
def Tally.made (t : Tally) : Tally := { t with disp := t.disp + 1 }
/-- A task ended. -/
def Tally.ended (t : Tally) : Ending → Tally
  | .released => { t with rel := t.rel + 1 }
  | .empty => { t with empty := t.empty + 1 }
  | .cancelled _ => { t with canc := t.canc + 1 }

/-- The update at S_c + t_rel: the four counters advance together (R422). -/
def DispState.update (d : DispState) (cycle : W32) : DispState :=
  let t := d.tally.look cycle.toNat {}
  { d with disp := d.disp + BitVec.ofNat 64 t.disp, rel := d.rel + BitVec.ofNat 64 t.rel
           empty := d.empty + BitVec.ofNat 64 t.empty, canc := d.canc + BitVec.ofNat 64 t.canc
           tally := d.tally.del cycle.toNat }

/-- The cycle with which a ready entry is counted (R422). -/
def Ready.due (r : Ready) : W32 := if r.task = .measure then r.cycle + 1 else r.cycle

/-! ### The stitch trace (R425 to R427) -/

/-- What a trace record says. -/
structure TraceIn where
  kind   : Nat
  task   : Nat := 0
  axis   : Nat := 0
  prio   : Nat := 0
  flow   : Nat := 0
  copyB  : Bool := false
  reason : Nat := 0
  cls    : Nat := 0
  unit   : Nat := 0
  depth  : Nat := 0
  slot   : Nat := 0xFFFF
  beats  : Nat := 0

/-- The four words of R426. -/
def TraceIn.rec4 (t : TraceIn) (rt : Rt) (cycle : W32) : TraceRec :=
  { w0 := lo32 rt
    w1 := w32 (t.kind + 16 * t.task + 256 * (t.axis % 256) + 65536 * (t.prio % 16) + 1048576 * (t.flow % 8)
      + 8388608 * b2n t.copyB + 16777216 * t.reason)
    w2 := w32 (t.cls + 8 * (t.unit % 32) + 256 * min 255 t.depth + 65536 * (t.slot % 65536))
    w3 := w32 (cycle.toNat % 65536 + 65536 * min 65535 t.beats) }

/-- Does DISPATCH_TR_CTL select the record (R431)? -/
def traceSel (ctl : W32) (t : TraceIn) : Bool :=
  bit ctl (4 + (t.kind - 1)) && bit ctl (12 + t.flow) && (!bit ctl 18 || t.kind = 8 || t.axis = fld ctl 31 24)

/-- Record a decision (R427); the event is EV_TRACE_FULL. -/
def DispState.traced (d : DispState) (rt : Rt) (cycle : W32) (t : TraceIn) : DispState × List Ev :=
  if !d.trRun || !traceSel d.trCtl t then (d, [])
  else if bit d.trCtl 1 then
    if d.trace.length < 2048 then ({ d with trace := d.trace ++ [t.rec4 rt cycle] }, [])
    else ({ d with trace := d.trace.drop 1 ++ [t.rec4 rt cycle], trOvw := incWrap 16 d.trOvw, trWord := 0 }, [])
  else
    let l := (d.trace ++ [t.rec4 rt cycle]).take 2048
    if l.length < 2048 then ({ d with trace := l }, [])
    else ({ d with trace := l, trRun := false, trFull := true }, [ev0 EvNo.traceFull])

/-- Record several decisions in order. -/
def DispState.tracedAll (d : DispState) (rt : Rt) (cycle : W32) (ts : List TraceIn) : DispState × List Ev :=
  ts.foldl (fun p t => let (d', e) := p.1.traced rt cycle t; (d', p.2 ++ e)) (d, [])

/-- A read of DISPATCH_TR_POP (R427). -/
def DispState.trPop (d : DispState) : DispState × W32 :=
  match d.trace with
  | [] => (d, 0)
  | r :: t =>
    let w := if d.trWord = 0 then r.w0 else if d.trWord = 1 then r.w1 else if d.trWord = 2 then r.w2 else r.w3
    if d.trWord = 3 then ({ d with trace := t, trWord := 0 }, w) else ({ d with trWord := d.trWord + 1 }, w)

/-- TR_CLEAR (R431). -/
def DispState.trClear (d : DispState) : DispState := { d with trace := [], trWord := 0, trFull := false, trOvw := 0 }

/-- Recording starts or stops at a boundary (R427). -/
def DispState.trBoundary (d : DispState) (cycle : W32) : DispState :=
  if !bit d.trCtl 0 then { d with trRun := false }
  else if d.trRun || d.trFull then d
  else if bit d.trCtl 2 && cycle != d.trCyc then d
  else { d with trRun := true }

/-- DISPATCH_TR_STAT. -/
def DispState.trStat (d : DispState) : W32 :=
  w32 (d.trace.length % 4096 + 4096 * b2n d.trRun + 8192 * b2n d.trFull + 65536 * d.trOvw)

/-! ### Chains (R410) -/

/-- The chain shape of an axis state at S_c; `flt obs` say that the image assigns the tasks. -/
def chainShape (outputs flt obs paired : Bool) : List ChainTask :=
  let law : List ChainTask := if paired then [{ task := .law }, { task := .law, copyB := true }] else [{ task := .law }]
  [{ task := .feedback }] ++ (if flt then [{ task := .filter }] else []) ++ (if obs then [{ task := .observe }] else [])
    ++ [{ task := .commuteIn }] ++ law ++ (if outputs then [{ task := .commuteOut }] else []) ++ [{ task := .pack }]

/-- Has a state a chain with COMMUTE_OUT (R410)? -/
def hasOutputs (s : AxState) (parked : Bool) : Bool :=
  !parked && (s = .run || s = .degraded || s = .align || s = .catching || s = .start)

/-- Not yet ended. -/
def ChainTask.live (t : ChainTask) : Bool := match t.st with | .ended _ => false | _ => true

/-- The task a chain waits on next: the first kind that has not ended as released. -/
def Chain.next (c : Chain) : Option Task := (c.tasks.find? fun t => t.st = .waiting).map (·.task)

/-- Every copy of a task has been released. -/
def Chain.released (c : Chain) (k : Task) : Bool :=
  c.tasks.any (fun t => t.task = k) && c.tasks.all fun t => t.task != k || t.st = .ended .released

/-- Set the state of the tasks that satisfy a test. -/
def Chain.mark (c : Chain) (p : ChainTask → Bool) (s : TaskSt) : Chain :=
  { c with tasks := c.tasks.map fun t => if p t then { t with st := s } else t }

/-- The task after `k` in the chain. -/
def Chain.after (c : Chain) (k : Task) : Option Task :=
  ((c.tasks.dropWhile fun t => t.task != k).dropWhile fun t => t.task = k).head?.map (·.task)

/-- The class a task runs in (R409); `sp` says that a FEEDBACK runs on a signal processor. -/
def Task.cls (k : Task) (sp remote : Bool) : Cls :=
  match k with
  | .feedback => if sp then .sp else if remote then .dec else .cuff
  | .filter | .observe | .measure => .sp
  | .commuteIn | .commuteOut => .cu
  | .law => .eng
  | .pack => .rel
  | .profile => .pu

/-! ### Ready lists (R413) -/

/-- The ready list of a class; `u` names the profile unit. -/
def DispState.list (d : DispState) (c : Cls) (u : Nat) : List Ready :=
  match c with
  | .eng => d.eng | .sp => d.sp | .cu => d.cu | .pu => d.pu.look u [] | .dec | .cuff | .rel => []

/-- Replace it, keeping the depth maxima (R431). -/
def DispState.setList (d : DispState) (c : Cls) (u : Nat) (l : List Ready) : DispState :=
  let (a, b, e, f) := d.depth
  let n := l.length
  match c with
  | .eng => { d with eng := l, depth := (max a n, b, e, f) }
  | .sp => { d with sp := l, depth := (a, max b n, e, f) }
  | .cu => { d with cu := l, depth := (a, b, max e n, f) }
  | .pu => { d with pu := d.pu.put u l, depth := (a, b, e, max f n) }
  | .dec | .cuff | .rel => d

/-- The entry with the highest priority, oldest first, among those a unit may take. -/
def pick (ok : Ready → Bool) (l : List Ready) : Option Ready :=
  (l.filter ok).foldl (fun acc r =>
    match acc with
    | none => some r
    | some b => if r.prio < b.prio then some r else some b) none

/-- Remove one entry. -/
def unlink (r : Ready) : List Ready → List Ready
  | [] => []
  | x :: t => if x = r then t else x :: unlink r t

/-- The task on a unit. -/
def DispState.on (d : DispState) (c : Cls) (u : Nat) : Option Running :=
  d.running.find? fun r => r.cls = c && r.unit = u

/-- The unit that runs a task of an axis. -/
def DispState.unitOf (d : DispState) (k : Task) (axis : Nat) (copyB : Bool) : Option Running :=
  d.running.find? fun r => r.r.task = k && r.r.key = axis && r.r.copyB = copyB

/-! ### Flows (R415, R416, R423, R424) -/

/-- Fill a slot's entry. -/
def Flow.fill (f : Flow) (slot : Nat) (e : Drive) (at? : Option Rt) : Flow :=
  if f.closed ∨ (f.entries.look? slot).isSome then f
  else { f with entries := f.entries.put slot e, done := match at? with | some t => f.done.put slot t | none => f.done }

/-- Replace the record of a slot already filled but not released (R415). -/
def Flow.force (f : Flow) (slot : Nat) (e : Drive) : Flow :=
  if f.closed || decide (slot < f.ptr) then f else { f with entries := f.entries.put slot e, done := f.done.del slot }

/-- The pointer advances over consecutive filled entries; `n` bounds the advance. -/
def Flow.advance : Nat → Flow → Flow
  | 0, f => f
  | n + 1, f =>
    if f.slots ≤ f.ptr then f
    else
      match f.entries.look? f.ptr with
      | none => f
      | some _ =>
        let t := match f.done.look? f.ptr, f.tLast with
          | some t, some l => some (if rtGe t l then t else l)
          | some t, none => some t
          | none, l => l
        Flow.advance n { f with ptr := f.ptr + 1, tLast := t }

/-- Slots without an entry. -/
def Flow.unfilled (f : Flow) : List Nat := (List.range f.slots).filter fun s => (f.entries.look? s).isNone

/-- The close at D_f (R416, R423, R424). Results: the flow, its late slots. -/
def Flow.close (f : Flow) (deadline : Rt) : Flow × List Nat :=
  let holes := f.unfilled
  let f := holes.foldl (fun f s => { f with entries := f.entries.put s .marker }) f
  let f := f.advance f.slots
  let late := !holes.isEmpty
  let slack : W32 := if late then 0 else
    match f.tLast with
    | none => 0xFFFF_FFFF
    | some t => w32i (rtDiff deadline t)
  let lo := fun (m : W32) => if slack = 0xFFFF_FFFF then m else if slack.toNat < m.toNat then slack else m
  ({ f with closed := true, late := late, slack := slack, slackMin := lo f.slackMin, slackCur := lo f.slackCur
            lates := if late then f.lates + 1 else f.lates }, holes)

/-- Start a flow for a cycle. -/
def Flow.start (f : Flow) (slots : Nat) : Flow :=
  { f with entries := [], slots := slots, ptr := 0, tLast := none, done := [], closed := false, late := false }

/-- Rollover of the slack minimum (R424). -/
def Flow.rollover (f : Flow) : Flow := { f with slackEmin := f.slackCur, slackCur := 0xFFFF_FFFF }

/-- In STANDBY a flow holds no entries, and keeps its counters and minima (R428). -/
def Flow.asleep (f : Flow) : Flow := f.start 0

/-- Events of a close (R424). -/
def Flow.events (f : Flow) (n : Nat) (thr : W32) : List Ev :=
  (if f.late then [(evFlow EvNo.taskLate n).limited n] else [])
    ++ (if thr != 0 && f.slack != 0xFFFF_FFFF && decide (f.slack.toNat < thr.toNat) then [(evFlow EvNo.slackLow n).limited n] else [])

/-- DISPATCH_AX_CHAIN (R431). -/
def Chain.word (c : Chain) : W32 :=
  let last := (c.tasks.filter fun t => t.st = .ended .released).getLast?
  w32 ((last.map fun t => t.task.code).getD 0 + 16 * c.endc + 256 * (c.prio % 16) + 4096 * b2n c.paired
    + 65536 * (c.slot % 256) + 16777216 * (c.flow % 4) + 268435456 * (if c.endc = 2 then c.reason else 0))

/-- DISPATCH_QDEPTH. -/
def DispState.depthWord (d : DispState) : W32 :=
  let (a, b, c, e) := d.depthLast
  w32 (min 255 a + 256 * min 255 b + 65536 * min 255 c + 16777216 * min 255 e)

end Sys2Proof.Machine
end

