-- ==== Sys2Proof/Machine/Engine.lean ====
section
/-! DEFINITION. Machine/Engine.lean: what each loop-engine instruction does to its engine (R330 to R342).
An engine executes instructions only while a LAW task runs on it (log entry 14). -/

namespace Sys2Proof.Machine

/-- d[i] as a signed value. -/
def Engine.rd (e : Engine) (i : Nat) : Int := (e.d.getD i 0).toInt
/-- a[i] as a signed value. -/
def Engine.ra (e : Engine) (i : Nat) : Int := (e.a.getD i 0).toInt

/-- N and Z of a result (R332). -/
def Engine.nz (e : Engine) (r : Int) : Engine := { e with n := decide (r < 0), z := decide (r = 0) }
/-- V, and S with it (R332). -/
def Engine.ov (e : Engine) (b : Bool) : Engine := { e with v := b, s := e.s || b }

/-- Write d[i], flags N Z. -/
def Engine.wd (e : Engine) (i : Nat) (x : Int) : Engine :=
  let r := BitVec.ofInt 16 x
  { e with d := e.d.set i r, n := decide (r.toInt < 0), z := decide (r.toInt = 0) }
/-- Write d[i] with 16-bit saturation, flags N Z V. -/
def Engine.wdSat (e : Engine) (i : Nat) (x : Int) : Engine := ((e.wd i (sat16' x)).ov (outS 16 x))
where
  /-- sat16 of R333. -/
  sat16' (x : Int) : Int := satS 16 x
/-- Write a[i], flags N Z. -/
def Engine.wa (e : Engine) (i : Nat) (x : Int) : Engine :=
  let r := BitVec.ofInt 40 x
  { e with a := e.a.set i r, n := decide (r.toInt < 0), z := decide (r.toInt = 0) }
/-- Write a[i] with 40-bit saturation, flags N Z V. -/
def Engine.waSat (e : Engine) (i : Nat) (x : Int) : Engine := (e.wa i (satS 40 x)).ov (outS 40 x)

/-- Execute one instruction of `b` beats: nothing happens unless a task runs. -/
def Engine.op (e : Engine) (b : Nat) (f : Engine → Engine) : Engine :=
  if e.run then
    f { e with beats := e.beats + b, total := e.total + BitVec.ofNat 32 b, pc := (e.pc + 1) % 2048 }
  else e

/-- A task starts (R330, R337): registers, accumulators, N Z V and stack contents are open, the sticky
flags 0. Open values are drawn from `k` on. -/
def Engine.begin (e : Engine) (k axis pc : Nat) (paired : Bool) : Engine :=
  { e with run := true, axis := axis, paired := paired, pc := pc % 2048, stack := [], scratch := [], buf := [], beats := 0
           d := forN 16 fun i => Config.freeBits 16 (k + i)
           a := forN 4 fun i => Config.freeBits 40 (k + 16 + i)
           n := Config.freeBool (k + 20), z := Config.freeBool (k + 21), v := Config.freeBool (k + 22)
           s := false, hs := false, dz := false }

/-- How many open values a task start draws. -/
abbrev engineDraws : Nat := 23

/-- The task ends; flags and registers stay for ENGINE_E_STAT (R370). -/
def Engine.finish (e : Engine) : Engine := { e with run := false, tasks := e.tasks + 1 }

/-- S, HS and DZ as a code, bits 0 to 2. -/
def Engine.sticky (e : Engine) : Nat := b2n e.s + 2 * b2n e.hs + 4 * b2n e.dz

/-! ### Data operations (R335) -/

def Engine.nop (e : Engine) : Engine := e.op 1 id
def Engine.ldi (e : Engine) (x : Nat) (m : W16) : Engine := e.op 1 fun e => e.wd x m.toInt
def Engine.mov (e : Engine) (x y : Nat) : Engine := e.op 1 fun e => e.wd x (e.rd y)
def Engine.add (e : Engine) (x y : Nat) : Engine := e.op 1 fun e => e.wdSat x (e.rd x + e.rd y)
def Engine.sub (e : Engine) (x y : Nat) : Engine := e.op 1 fun e => e.wdSat x (e.rd x - e.rd y)
def Engine.neg (e : Engine) (x y : Nat) : Engine := e.op 1 fun e => e.wdSat x (-(e.rd y))
def Engine.abs (e : Engine) (x y : Nat) : Engine := e.op 1 fun e => e.wdSat x ((e.rd y).natAbs : Int)
def Engine.min (e : Engine) (x y : Nat) : Engine := e.op 1 fun e => e.wd x (Min.min (e.rd x) (e.rd y))
def Engine.max (e : Engine) (x y : Nat) : Engine := e.op 1 fun e => e.wd x (Max.max (e.rd x) (e.rd y))
def Engine.cmp (e : Engine) (x y : Nat) : Engine := e.op 1 fun e => e.nz (e.rd x - e.rd y)
def Engine.asr (e : Engine) (x : Nat) (m : W16) : Engine :=
  e.op 1 fun e => e.wd x (e.rd x / (2 ^ (m.toNat % 16) : Nat))
def Engine.asl (e : Engine) (x : Nat) (m : W16) : Engine :=
  e.op 1 fun e => e.wdSat x (e.rd x * (2 ^ (m.toNat % 16) : Nat))
def Engine.mpy (e : Engine) (A x y : Nat) : Engine := e.op 1 fun e => e.wa A (e.rd x * e.rd y)
def Engine.mac (e : Engine) (A x y : Nat) : Engine := e.op 1 fun e => e.waSat A (e.ra A + e.rd x * e.rd y)
def Engine.msu (e : Engine) (A x y : Nat) : Engine := e.op 1 fun e => e.waSat A (e.ra A - e.rd x * e.rd y)
def Engine.maci (e : Engine) (A x : Nat) (m : W16) : Engine :=
  e.op 1 fun e => e.waSat A (e.ra A + e.rd x * m.toInt)
def Engine.lda (e : Engine) (A x : Nat) : Engine := e.op 1 fun e => e.wa A (e.rd x * 32768)
def Engine.adda (e : Engine) (A b : Nat) : Engine := e.op 1 fun e => e.waSat A (e.ra A + e.ra b)
def Engine.suba (e : Engine) (A b : Nat) : Engine := e.op 1 fun e => e.waSat A (e.ra A - e.ra b)

/-- SHA: m[4:0] signed. -/
def Engine.sha (e : Engine) (A : Nat) (m : W16) : Engine :=
  e.op 1 fun e =>
    let n := wrapS 5 m.toNat
    if 0 ≤ n then e.waSat A (e.ra A * (2 ^ n.toNat : Nat)) else e.waSat A (e.ra A / (2 ^ n.natAbs : Nat))

/-- CLMP: V without S (R332). The result is open where the bounds are crossed, which the manual
excludes. -/
def Engine.clmp (e : Engine) (k A x y : Nat) : Engine :=
  e.op 1 fun e =>
    let lo := e.rd x * 32768
    let hi := e.rd y * 32768
    if hi < lo then e.wa A (Config.freeBits 40 k).toInt |> fun e => { e with v := Config.freeBool k }
    else
      let r := clampI lo hi (e.ra A)
      { (e.wa A r) with v := decide (r ≠ e.ra A) }

def Engine.tsta (e : Engine) (A : Nat) : Engine := e.op 1 fun e => e.nz (e.ra A)

/-- SAT: m from 0 to 8; beyond that the manual states no result and it is open. -/
def Engine.sat (e : Engine) (k x A : Nat) (m : W16) : Engine :=
  e.op 1 fun e =>
    let n := m.toNat % 16
    if n ≤ 8 then e.wdSat x (roundShift 15 (e.ra A * (2 ^ n : Nat)))
    else (e.wd x (Config.freeBits 16 k).toInt).ov (Config.freeBool k)

def Engine.sqrt (e : Engine) (x A : Nat) : Engine :=
  e.op 8 fun e =>
    let v := e.ra A
    let r : Int := (isqrt v.toNat : Nat)
    if v < 0 then (e.wd x 0).ov true else (e.wd x (Min.min r 32767)).ov (decide (32767 < r))

/-- DIV: the floored quotient, saturated; by zero the stated limits and DZ, V being clear there (log
entry 15). -/
def Engine.div (e : Engine) (x A y : Nat) : Engine :=
  e.op 18 fun e =>
    if e.rd y = 0 then { ((e.wd x (if 0 ≤ e.ra A then 32767 else -32768)).ov false) with dz := true }
    else e.wdSat x (Int.fdiv (e.ra A) (e.rd y))

def Engine.mova (e : Engine) (x A : Nat) : Engine := e.op 1 fun e => e.wdSat x (e.ra A)

/-! ### Loads (R335 to R342). `w` is the axis-store word at the offset, before the write buffer. -/

/-- The newest buffered value of an offset, else the store's word (R337). -/
def Engine.seen (e : Engine) (off : Nat) (w : W32) : W32 :=
  ((e.buf.reverse.find? fun x => x.off = off).map (·.val)).getD w

def Engine.ld (e : Engine) (x off : Nat) (w : W32) : Engine := e.op 4 fun e => e.wd x (rF16 (e.seen off w))

/-- A F24 word to Q15 (R342): V, S and HS on saturation. -/
def Engine.handoff (e : Engine) (x : Nat) (w : W32) : Engine :=
  let r := (rF24 w + 128) / 256
  let o := outS 16 r
  { (e.wdSat x r) with hs := e.hs || o }

def Engine.ldx (e : Engine) (x off : Nat) (w : W32) : Engine := e.op 4 fun e => e.handoff x (e.seen off w)
def Engine.ldw (e : Engine) (A off : Nat) (w : W32) : Engine := e.op 4 fun e => e.wa A (e.seen off w).toInt
def Engine.ldac (e : Engine) (A off : Nat) (lo hi : W32) : Engine :=
  e.op 5 fun e => e.wa A (rPair 40 (e.seen off lo) (e.seen (off + 4) hi))

/-- LDR: `w` is the other axis's word of cycle c − 1, absent where that image is not held (R338). -/
def Engine.ldr (e : Engine) (x : Nat) (w : Option W32) : Engine :=
  e.op 6 fun e =>
    match w with
    | some w => e.wd x (rF16 w)
    | none => (e.wd x 0).ov true

def Engine.ldrx (e : Engine) (x : Nat) (w : Option W32) : Engine :=
  e.op 6 fun e =>
    match w with
    | some w => e.handoff x w
    | none => (e.wd x 0).ov true

/-- LDL: the constant table below 512, scratch above; a scratch word the task has not written is open
(R339). -/
def Engine.ldl (e : Engine) (k x m : Nat) (const : Nat → W16) : Engine :=
  e.op 1 fun e =>
    if m < 512 then e.wd x (const m).toInt
    else
      let w := e.scratch.look m (Config.freeBits 16 k)
      { (e.wd x w.toInt) with scratch := e.scratch.put m w }

def Engine.subw (e : Engine) (A off : Nat) (w : W32) : Engine :=
  e.op 4 fun e => e.wa A (BitVec.ofInt 32 (e.ra A) - e.seen off w).toInt

/-! ### Stores (R337). `none`: the instruction executes as FLT #0xFE. -/

/-- Buffer entries, at most 64 in all; Epgagen rejects a program that stores more, and an entry beyond
them is not kept (log entry 16). -/
def Engine.push (e : Engine) (ws : List WEnt) : Engine := { e with buf := (e.buf ++ ws).take 64 }

def Engine.st (e : Engine) (x off : Nat) : Engine :=
  e.op 2 fun e => e.push [{ off := off, val := wF16 (e.rd x), fmt := .f16 }]
def Engine.stx (e : Engine) (x off : Nat) : Engine :=
  e.op 2 fun e => e.push [{ off := off, val := wF24 (e.rd x * 256), fmt := .f24 }]
def Engine.stw (e : Engine) (A off : Nat) : Engine :=
  e.op 2 fun e => e.push [{ off := off, val := w32i (e.ra A), fmt := .i32 }]
def Engine.stac (e : Engine) (A off : Nat) : Engine :=
  e.op 3 fun e =>
    let (lo, hi) := wPair 40 (e.ra A)
    e.push [{ off := off, val := lo, fmt := .a40 }, { off := off + 4, val := hi, fmt := .a40 }]
def Engine.stl (e : Engine) (x m : Nat) : Engine :=
  e.op 1 fun e => { e with scratch := e.scratch.put m (e.d.getD x 0) }

/-! ### Control (R335, R336) -/

/-- Condition codes of BR; a code that the manual does not list is open. -/
def Engine.cond (e : Engine) (k cc : Nat) : Bool :=
  match cc with
  | 0 => true | 1 => e.z | 2 => !e.z | 3 => e.n | 4 => !e.n | 5 => e.n || e.z | 6 => !(e.n || e.z)
  | 7 => e.v | 8 => !e.v | _ => Config.freeBool k

/-- Branch by m instructions from the branch itself (log entry 15). -/
def Engine.goto (e : Engine) (m : W16) : Engine := { e with pc := (((e.pc : Int) - 1 + m.toInt) % 2048).toNat }

def Engine.br (e : Engine) (k cc : Nat) (m : W16) : Engine :=
  if e.cond k cc then e.op 2 fun e => e.goto m else e.op 1 id
/-- CALL below depth 4. -/
def Engine.call (e : Engine) (m : W16) : Engine := e.op 2 fun e => { (e.goto m) with stack := e.pc :: e.stack }
/-- RET above depth 0. -/
def Engine.ret (e : Engine) : Engine :=
  e.op 2 fun e =>
    match e.stack with
    | t :: r => { e with pc := t, stack := r }
    | [] => e

end Sys2Proof.Machine
end

