-- ==== Sys2Proof/Machine/Sigproc.lean ====
section
/-! DEFINITION. Machine/Sigproc.lean: what each signal-processor instruction does to its processor
(R372 to R401). Instructions execute only while a task or a handler runs (log entry 14). -/

namespace Sys2Proof.Machine

/-! ### Registers -/

/-- Register x0, x1, y0, y1 as a signed value. -/
def Proc.rr (q : Proc) (i : Nat) : Int := (q.r.getD i 0).toInt
/-- Accumulator as a signed value. -/
def Proc.rm (q : Proc) (i : Nat) : Int := (q.m.getD i 0).toInt
/-- Pointer. -/
def Proc.rp (q : Proc) (k : Nat) : Nat := (q.p.getD k 0).toNat
/-- A register placed in m.h (R374). -/
def placed (x : Int) : Int := x * 8388608
/-- An accumulator as 24 bits, rounded and saturated (R374). -/
def acc24 (m : Int) : Int := satS 24 (roundShift 23 m)
/-- Rounded at bit 23 with m.l cleared. -/
def rnd23 (m : Int) : Int := roundShift 23 m * 8388608

/-- Write a data register. -/
def Proc.wr (q : Proc) (i : Nat) (x : Int) : Proc := { q with r := q.r.set i (BitVec.ofInt 24 x) }
/-- Write an accumulator. -/
def Proc.wm (q : Proc) (i : Nat) (x : Int) : Proc := { q with m := q.m.set i (BitVec.ofInt 56 x) }
/-- N and Z. -/
def Proc.nz (q : Proc) (x : Int) : Proc := { q with f := { q.f with n := decide (x < 0), z := decide (x = 0) } }
/-- V, and S with it (R332). -/
def Proc.ov (q : Proc) (b : Bool) : Proc := { q with f := { q.f with v := b, s := q.f.s || b } }
/-- Accumulator result with N Z. -/
def Proc.accNZ (q : Proc) (i : Nat) (x : Int) : Proc := (q.wm i x).nz x
/-- Accumulator result, saturated, with N Z V. -/
def Proc.accSat (q : Proc) (i : Nat) (x : Int) : Proc := ((q.wm i (satS 56 x)).nz (satS 56 x)).ov (outS 56 x)

/-- A part of an accumulator as 24 bits: 0 rounded, 1 m.h, 2 m.l, 3 m.e sign-extended (R381). -/
def accPart (m : A56) (part : Nat) : W24 :=
  match part with
  | 0 => BitVec.ofInt 24 (acc24 m.toInt)
  | 1 => m.extractLsb' 23 24
  | 2 => (m.extractLsb' 0 23).zeroExtend 24
  | _ => (m.extractLsb' 47 9).signExtend 24

/-- Write a part: 0 places the value in m.h, the others write their bits alone. -/
def setPart (m : A56) (part : Nat) (v : W24) : A56 :=
  match part with
  | 0 => BitVec.ofInt 56 (placed v.toInt)
  | 1 => m.extractLsb' 47 9 ++ v ++ m.extractLsb' 0 23
  | 2 => m.extractLsb' 23 33 ++ v.extractLsb' 0 23
  | _ => v.extractLsb' 0 9 ++ m.extractLsb' 0 47

/-! ### Sequencing (R388, R389) -/

/-- Results whose slots have passed arrive, in order; the others count down. -/
def Proc.arrive (q : Proc) : Proc :=
  let due := q.pend.filter fun e => e.slots = 0
  let q := { q with pend := (q.pend.filter fun e => e.slots != 0).map fun e => { e with slots := e.slots - 1 } }
  due.foldl (fun q e =>
    match e.dst with
    | .reg i => { q with r := q.r.set i (e.val.extractLsb' 0 24) }
    | .acc m => { q with m := q.m.set m e.val }
    | .ptr k => { q with p := q.p.set k (e.val.extractLsb' 0 14) }
    | .ptrBase k => { q with p := q.p.set k (e.val.extractLsb' 0 14), b := q.b.set k (e.val.extractLsb' 0 14) }
    | .modif k => { q with nn := q.nn.set k (e.val.extractLsb' 0 24) }) q

/-- Every pending result arrives at once (RTI, R388). -/
def Proc.drain (q : Proc) : Proc :=
  Proc.arrive { q with pend := q.pend.map fun e => { e with slots := 0 } }

/-- The next address: a taken branch's target after its delay slot, or the loop's rule (R389). -/
def Proc.advance (q : Proc) (jump : Option Nat) : Proc :=
  match jump with
  | some t => { q with pc := t % 8192 }
  | none =>
    match q.loops with
    | l :: rest =>
      if q.pc = (l.lb + l.ln - 1) % 8192 then
        if 1 < l.lc then { q with pc := l.lb, loops := { l with lc := l.lc - 1 } :: rest }
        else { q with pc := (q.pc + 1) % 8192, loops := rest }
      else { q with pc := (q.pc + 1) % 8192 }
    | [] => { q with pc := (q.pc + 1) % 8192 }

/-- A program runs on the processor. -/
def Proc.runs (q : Proc) : Bool := !q.iso && (q.task.isSome || q.hand.isSome)

/-- Execute an instruction of `n` beats: delayed results arrive, the instruction acts, and the program
counter advances; a FLT stops it (R380). -/
def Proc.op (q : Proc) (n : Nat) (f : Proc → Proc) : Proc :=
  if q.runs then
    let j := q.jump
    let q := { q.arrive with jump := none, trap := none, beats := if q.hand.isSome then q.beats else q.beats + n, total := q.total + BitVec.ofNat 32 n }
    let r := f q
    if r.trap.isSome then r else r.advance j
  else q

/-- The instruction executes as FLT with a code. -/
def Proc.fltTrap (q : Proc) (code : Nat) : Proc := { q with trap := some code }

/-! ### Address generation (R377, R378) -/

/-- Reverse the low `r` bits. -/
def revBits : Nat → Nat → Nat
  | 0, _ => 0
  | r + 1, x => (x % 2) * 2 ^ r + revBits r (x / 2)

/-- Advance p`k` by a signed step under the mode of n`k`; absent for a mode the table does not list, and for an r outside 1 to 14 (DESIGN
CHOICE, log entry 17). -/
def Proc.stepped (q : Proc) (k : Nat) (s : Int) : Option Nat :=
  let n := q.nn.getD k 0
  let p := q.rp k
  let mode := (n.toNat >>> 21) % 8
  if mode = 0 then some (((p : Int) + s) % 16384).toNat
  else if mode = 1 then
    let b := (q.b.getD k 0).toNat
    let l := ((n.toNat >>> 9) % 4096 + 1 : Nat)
    some ((((b : Int) + ((p : Int) - b + s) % (l : Int)) % 16384).toNat)
  else if mode = 2 then
    let r := n.toNat % 16
    if r = 0 ∨ 14 < r then none else
    let low := revBits r (p % 2 ^ r)
    let low' := (((low : Int) + (if s < 0 then -1 else 1)) % (2 ^ r : Nat)).toNat
    some (p / 2 ^ r * 2 ^ r + revBits r low')
  else none

/-- The step of n`k` (R378). -/
def Proc.nStep (q : Proc) (k : Nat) : Int :=
  let n := q.nn.getD k 0
  let mode := (n.toNat >>> 21) % 8
  if mode = 0 then wrapS 14 n.toNat else if mode = 1 then wrapS 9 n.toNat else 1

/-- A pointer lies outside its ring. -/
def Proc.offRing (q : Proc) (k : Nat) : Bool :=
  let n := q.nn.getD k 0
  let b := (q.b.getD k 0).toNat
  (n.toNat >>> 21) % 8 = 1 && (decide (q.rp k < b) || decide (b + ((n.toNat >>> 9) % 4096 + 1) ≤ q.rp k))

/-- Address used and new pointer of an access (R377); absent where it executes as FLT #0xFF. -/
def Proc.access (q : Proc) (k upd : Nat) : Option (Nat × Nat) :=
  if q.offRing k then none
  else
    match upd with
    | 0 => (q.stepped k 0).map fun _ => (q.rp k, q.rp k)
    | 1 => (q.stepped k 1).map fun p => (q.rp k, p)
    | 2 => (q.stepped k (-1)).map fun p => (p, p)
    | _ => (q.stepped k (q.nStep k)).map fun p => (q.rp k, p)

/-! ### Data memory (R375) -/

/-- A word of data memory: the constant table of the image, the channel region (0 where nothing was
written), and the handler stack and scratch, open where the program has not written. -/
def Proc.memRd (q : Proc) (k : Nat) (const : Nat → W24) (a : Nat) : W24 :=
  if a < 0x1000 then const a
  else if a < 0x1400 then q.mem.look a 0
  else q.mem.look a (Config.freeBits 24 k)

/-- May the running program store at `a`? `pair` is the ADC pair of the running FEEDBACK task on its
home processor. -/
def Proc.mayStore (q : Proc) (pair : Option Nat) (a : Nat) : Bool :=
  if a < 0x1000 then false
  else if a < 0x1400 then
    let n := (a - 0x1000) / 0x80
    (q.hand = some n) || (q.hand.isNone && pair = some n)
  else true

/-- Store a word; elsewhere than permitted it executes as FLT #0xFE. -/
def Proc.memWr (q : Proc) (pair : Option Nat) (a : Nat) (v : W24) : Proc :=
  if q.mayStore pair a then { q with mem := q.mem.put a v } else q.fltTrap 0xFE

/-! ### Parallel class (R376, R381, R382) -/

/-- What the environment supplies to an instruction: where open values are drawn, the constant table,
and the FEEDBACK pair. -/
structure SpEnv where
  k     : Nat
  const : Nat → W24
  pair  : Option Nat

/-- A delayed load of a register. -/
def pendReg (i : Nat) (v : W24) (slots : Nat) : SpPend := { dst := .reg i, val := v.zeroExtend 56, slots := slots }

/-- The two data-memory moves of a parallel instruction, from the state `q0` at the start of the beat
onto `q1`, the state after the ALU (R376). -/
def Proc.moves (q0 q1 : Proc) (env : SpEnv) (fa : Option SpFetch) (fb : Option SpXfer) : Proc :=
  let accA := fa.map fun a => (a, q0.access a.ptr a.upd)
  let accB := fb.map fun b => match b with
    | .load r p u => (r, p, q0.access p u)
    | .store _ p u _ => (0, p, q0.access p u)
  let badA := match accA with | some (_, none) => true | _ => false
  let badB := match accB with | some (_, _, none) => true | _ => false
  if badA || badB then q0.fltTrap 0xFF
  else
    let fbReg := match fb with | some (.load r _ _) => some r | _ => none
    -- FA: the load, and the pointer unless FB names it
    let q := match accA with
      | some (a, some (ad, p')) =>
        let q := if fbReg = some a.reg then q1
          else { q1 with pend := q1.pend ++ [pendReg a.reg (q0.memRd env.k env.const ad) 1] }
        if (accB.map fun b => b.2.1) = some a.ptr then q else { q with p := q.p.set a.ptr (BitVec.ofNat 14 p') }
      | _ => q1
    -- FB
    match fb, accB with
    | some (.load r k _), some (_, _, some (ad, p')) =>
      { q with pend := q.pend ++ [pendReg r (q0.memRd (env.k + 1) env.const ad) 1], p := q.p.set k (BitVec.ofNat 14 p') }
    | some (.store m k _ part), some (_, _, some (ad, p')) =>
      if q0.mayStore env.pair ad then
        { (q.memWr env.pair ad (accPart (q0.m.getD m 0) part)) with p := q.p.set k (BitVec.ofNat 14 p') }
      else q0.fltTrap 0xFE
    | _, _ => q

/-- A parallel instruction: an ALU operation with its moves. -/
def Proc.par (q : Proc) (env : SpEnv) (fa : Option SpFetch) (fb : Option SpXfer) (alu : Proc → Proc) : Proc :=
  q.op 1 fun q0 => q0.moves (alu q0) env fa fb

/-- MAXI and MINI (R386): `better` compares the placed operand with m. -/
def Proc.search (q : Proc) (md s1 : Nat) (better : Int → Int → Bool) : Proc :=
  let x := placed (q.rr s1)
  let q := if q.ic = 0 then { (q.wm md x) with ix := 0 }
    else if better x (q.rm md) then { (q.wm md x) with ix := q.ic } else q
  let q := q.nz (q.rm md)
  if q.ic < 65534 then { q with ic := q.ic + 1 }
  else { q with ic := 65535, f := { q.f with v := true, s := true } }

def Proc.aluNop (q : Proc) : Proc := q
def Proc.aluClr (md : Nat) (q : Proc) : Proc := q.accNZ md 0
def Proc.aluMpy (md s1 s2 : Nat) (q : Proc) : Proc := q.accNZ md (q.rr s1 * q.rr s2)
def Proc.aluMac (md s1 s2 : Nat) (q : Proc) : Proc := q.accSat md (q.rm md + q.rr s1 * q.rr s2)
def Proc.aluMsu (md s1 s2 : Nat) (q : Proc) : Proc := q.accSat md (q.rm md - q.rr s1 * q.rr s2)
def Proc.aluMpyr (md s1 s2 : Nat) (q : Proc) : Proc := q.accNZ md (rnd23 (q.rr s1 * q.rr s2))
def Proc.aluMacr (md s1 s2 : Nat) (q : Proc) : Proc :=
  let x := q.rm md + q.rr s1 * q.rr s2
  let r := rnd23 (satS 56 x)
  ((q.wm md (satS 56 r)).nz (satS 56 r)).ov (outS 56 x || outS 56 r)
def Proc.aluAdd (md s1 : Nat) (q : Proc) : Proc := q.accSat md (q.rm md + placed (q.rr s1))
def Proc.aluSub (md s1 : Nat) (q : Proc) : Proc := q.accSat md (q.rm md - placed (q.rr s1))
def Proc.aluAddm (md m2 : Nat) (q : Proc) : Proc := q.accSat md (q.rm md + q.rm m2)
def Proc.aluPutm (md s1 : Nat) (q : Proc) : Proc := q.accNZ md (placed (q.rr s1))
def Proc.aluCpym (md m2 : Nat) (q : Proc) : Proc := q.accNZ md (q.rm m2)
def Proc.aluNegm (md : Nat) (q : Proc) : Proc := q.accSat md (-(q.rm md))
def Proc.aluAbsm (md : Nat) (q : Proc) : Proc := q.accSat md ((q.rm md).natAbs : Int)
def Proc.aluAslm (md : Nat) (q : Proc) : Proc := q.accSat md (q.rm md * 2)
def Proc.aluAsrm (md : Nat) (q : Proc) : Proc := q.accNZ md (q.rm md / 2)
def Proc.aluRnd (md : Nat) (q : Proc) : Proc := q.accSat md (rnd23 (q.rm md))
def Proc.aluCmpa (md s1 : Nat) (q : Proc) : Proc := q.nz (q.rm md - placed (q.rr s1))
def Proc.aluMaxi (md s1 : Nat) (q : Proc) : Proc := q.search md s1 fun x m => decide (m < x)
def Proc.aluMini (md s1 : Nat) (q : Proc) : Proc := q.search md s1 fun x m => decide (x < m)

/-! ### Move class (R380) -/

/-- Value of a location. -/
def Proc.loc (q : Proc) : SpLoc → W24
  | .reg i => q.r.getD i 0
  | .acc m part => accPart (q.m.getD m 0) part

/-- Write a location. -/
def Proc.setLoc (q : Proc) (l : SpLoc) (v : W24) : Proc :=
  match l with
  | .reg i => { q with r := q.r.set i v }
  | .acc m part => { q with m := q.m.set m (setPart (q.m.getD m 0) part v) }

/-- Address of a move with its pointer update; absent where it executes as FLT #0xFF. -/
def Proc.moveAddr (q : Proc) : SpAddr → Option (Nat × Proc)
  | .direct a => some (a % 16384, q)
  | .ptr k u => (q.access k u).map fun r => (r.1, { q with p := q.p.set k (BitVec.ofNat 14 r.2) })

/-- A move-class instruction; `peak` are the words of the pair's oldest peak (PK_S, PK_C, PK_TL,
PK_TH). A loaded accumulator part is held at once, a loaded register after one slot (R388, log entry 15). -/
def Proc.moveIns (q : Proc) (env : SpEnv) (peak : Nat → W24) (mv : SpMove) : Proc :=
  q.op 1 fun q =>
    match mv with
    | .move d s => q.setLoc d (q.loc s)
    | .imm d v => q.setLoc d v
    | .special d sr => q.setLoc (.reg d) (peak sr)
    | .ld d a =>
      match q.moveAddr a with
      | none => q.fltTrap 0xFF
      | some (ad, q') =>
        let v := q.memRd env.k env.const ad
        match d with
        | .reg i => { q' with pend := q'.pend ++ [pendReg i v 1] }
        | .acc _ _ => q'.setLoc d v
    | .st s a =>
      match q.moveAddr a with
      | none => q.fltTrap 0xFF
      | some (ad, q') => if q.mayStore env.pair ad then q'.memWr env.pair ad (q.loc s) else q.fltTrap 0xFE

/-! ### Axis store (R397, R401) -/

/-- The newest buffered value of an offset, else the store's word. -/
def Proc.seen (q : Proc) (off : Nat) (w : W32) : W32 :=
  ((q.buf.reverse.find? fun x => x.off = off).map (·.val)).getD w

/-- LDS of a F16 or F24 word: visible to the third instruction. -/
def Proc.lds (q : Proc) (x off : Nat) (f24 : Bool) (w : W32) : Proc :=
  q.op 4 fun q =>
    let v := q.seen off w
    let r := if f24 then rF24 v else rF16 v * 256
    { q with pend := q.pend ++ [pendReg x (BitVec.ofInt 24 r) 2] }

/-- LDSM of an I32 word, as an integer at bit 0. -/
def Proc.ldsm (q : Proc) (m off : Nat) (w : W32) : Proc :=
  q.op 4 fun q => { q with pend := q.pend ++ [{ dst := .acc m, val := BitVec.ofInt 56 (q.seen off w).toInt, slots := 2 }] }

/-- Keep a store in the buffer of 32 entries (R397, log entry 16). -/
def Proc.push (q : Proc) (e : WEnt) : Proc := { q with buf := (q.buf ++ [e]).take 32 }

/-- STS from a register or an accumulator (R401). -/
def Proc.sts (q : Proc) (src : SpLoc) (off : Nat) (f24 : Bool) : Proc :=
  q.op 2 fun q =>
    let x := match src with
      | .reg i => q.rr i
      | .acc m _ => roundShift 23 (q.rm m)
    if f24 then q.push { off := off, val := wF24 (satS 24 x), fmt := .f24 }
    else
      let r := (x + 128) / 256
      let o := outS 16 r
      let q := q.push { off := off, val := wF16 (satS 16 r), fmt := .f16 }
      if o then { q with f := { q.f with v := true, s := true, hs := true } } else q

/-- STSW: m [31:0]. -/
def Proc.stsw (q : Proc) (m off : Nat) : Proc :=
  q.op 2 fun q => q.push { off := off, val := w32i (q.rm m), fmt := .i32 }

/-! ### Address class (R378, R379) -/

/-- The operand of SETP and SETN. -/
def Proc.val (q : Proc) : SpVal → W24
  | .imm v => v
  | .reg i => q.r.getD i 0

def Proc.setp (q : Proc) (k : Nat) (v : SpVal) : Proc :=
  q.op 1 fun q => { q with pend := q.pend ++ [{ dst := .ptrBase k, val := (q.val v).zeroExtend 56, slots := 1 }] }
def Proc.setn (q : Proc) (k : Nat) (v : SpVal) : Proc :=
  q.op 1 fun q => { q with pend := q.pend ++ [{ dst := .modif k, val := (q.val v).zeroExtend 56, slots := 1 }] }
def Proc.addp (q : Proc) (k : Nat) (s : Int) : Proc :=
  q.op 1 fun q =>
    match q.stepped k s with
    | some p => { q with pend := q.pend ++ [{ dst := .ptr k, val := BitVec.ofNat 56 p, slots := 1 }] }
    | none => q.fltTrap 0xFF

/-! ### Control class (R388, R389, R394) -/

/-- Condition codes, those of R335 (log entry 17). -/
def Proc.cond (q : Proc) (k cc : Nat) : Bool :=
  match cc with
  | 0 => true | 1 => q.f.z | 2 => !q.f.z | 3 => q.f.n | 4 => !q.f.n | 5 => q.f.n || q.f.z | 6 => !(q.f.n || q.f.z)
  | 7 => q.f.v | 8 => !q.f.v | _ => Config.freeBool k

/-- A taken branch: its target follows the delay slot. -/
def Proc.jumpTo (q : Proc) (t : Int) : Proc := { q with jump := some ((t % 8192).toNat) }

def Proc.br (q : Proc) (k cc : Nat) (m : Int) : Proc :=
  q.op 1 fun q => if q.cond k cc then q.jumpTo ((q.pc : Int) + m) else q
/-- CALL pushes the address after the delay slot (log entry 17). -/
def Proc.call (q : Proc) (m : Int) : Proc :=
  q.op 1 fun q =>
    if 4 ≤ q.stack.length then q.fltTrap 0xFF
    else { (q.jumpTo ((q.pc : Int) + m)) with stack := (q.pc + 2) % 8192 :: q.stack }
def Proc.ret (q : Proc) : Proc :=
  q.op 1 fun q =>
    match q.stack with
    | t :: r => { (q.jumpTo t) with stack := r }
    | [] => q.fltTrap 0xFF

/-- LOOP (R389): count from an immediate or an integer register. -/
def Proc.loopIns (q : Proc) (n : SpVal) (len : Nat) : Proc :=
  if 4 ≤ q.loops.length then q.op 1 fun q => q.fltTrap 0xFF
  else q.op 2 fun q =>
    let cnt := (q.val n).toNat % 65536
    if cnt = 0 then { q with pc := (q.pc + len) % 8192 }
    else { q with loops := { lc := cnt, lb := (q.pc + 1) % 8192, ln := len } :: q.loops }

def Proc.savl (q : Proc) : Proc :=
  q.op 1 fun q =>
    match q.loops with
    | l :: rest => { (((q.wr 0 l.lc).wr 1 l.lb).wr 2 l.ln) with loops := rest }
    | [] => q.wr 0 0
def Proc.rstl (q : Proc) : Proc :=
  q.op 1 fun q =>
    let lc := (q.r.getD 0 0).toNat % 65536
    if lc = 0 then q
    else if 4 ≤ q.loops.length then q.fltTrap 0xFF
    else { q with loops := { lc := lc, lb := (q.r.getD 1 0).toNat % 8192, ln := (q.r.getD 2 0).toNat % 512 } :: q.loops }

/-- DI. -/
def Proc.di (q : Proc) : Proc := q.op 1 fun q => { q with f := { q.f with ie := false } }
/-- EI. -/
def Proc.ei (q : Proc) : Proc := q.op 1 fun q => { q with f := { q.f with ie := true } }

/-! ### Special class (R383 to R386) -/

/-- Redundant sign bits below bit 55, from bit 54 down. -/
def signRun (m : A56) : Nat → Nat
  | 0 => 0
  | n + 1 => if m.getLsbD n = m.getLsbD 55 then signRun m n + 1 else 0

/-- E of R385. -/
def expOf (m : A56) : Int := (signRun m 55 : Int) - 9

/-- Shift an accumulator by a signed count clamped to ±55 (NORM). -/
def Proc.normBy (q : Proc) (ma : Nat) (n : Int) : Proc :=
  let n := clampI (-55) 55 n
  if 0 ≤ n then q.accSat ma (q.rm ma * (2 ^ n.toNat : Nat)) else q.accSat ma (q.rm ma / (2 ^ n.natAbs : Nat))

def Proc.exp (q : Proc) (ra ma : Nat) : Proc :=
  q.op 1 fun q => let e := expOf (q.m.getD ma 0); (q.wr ra e).nz e
def Proc.norm (q : Proc) (ma ra : Nat) : Proc := q.op 1 fun q => q.normBy ma (q.rr ra)
def Proc.normi (q : Proc) (ma : Nat) (n : Int) : Proc := q.op 1 fun q => q.normBy ma n
def Proc.sqrt (q : Proc) (ma mb : Nat) : Proc :=
  q.op 24 fun q =>
    let v := q.rm mb
    if v < 0 then (q.accNZ ma 0).ov true else (q.accNZ ma (placed (isqrt v.toNat : Nat))).ov false
def Proc.div (q : Proc) (ma mb ra : Nat) : Proc :=
  q.op 28 fun q =>
    let v := q.rm mb
    if q.rr ra = 0 then
      let q := (q.accNZ ma (if v < 0 then sMin 56 else sMax 56)).ov true
      { q with f := { q.f with dz := true } }
    else q.accSat ma (placed (Int.fdiv v (q.rr ra)))
/-- ATAN2: within 2^−16 revolution, the error left open (log entry 9). -/
def Proc.atan2 (q : Proc) (ra rb : Nat) : Proc :=
  q.op 14 fun q =>
    let y := q.rr ra
    let x := q.rr rb
    if y = 0 && x = 0 then { (q.wr ra 0) with f := { q.f with z := true, dz := true } }
    else
      let a : Int := atan2K 256 24 y x (Config.angleErr y x)
      { (q.wr ra a) with f := { q.f with z := decide (a = 0) } }
/-- SINCOS: each within 2^−21. -/
def Proc.sincos (q : Proc) (ra : Nat) : Proc :=
  q.op 8 fun q =>
    let a := (q.r.getD ra 0).toNat
    let v := cosSinK 4 24 23 a (Config.trigErr a)
    (q.wr 2 v.2).wr 3 v.1
def Proc.clri (q : Proc) : Proc := q.op 1 fun q => { q with ic := 0, ix := 0 }
def Proc.movix (q : Proc) (ra : Nat) : Proc := q.op 1 fun q => (q.wr ra q.ix).nz q.ix

/-! ### Tasks and handlers (R391, R392, R397) -/

/-- How many open values a task start draws. -/
abbrev procDraws : Nat := 64

/-- A task starts (R372, R397): registers, accumulators, pointers, bases and modifiers open but for the
handler's p7, sticky flags 0, scratch not kept. -/
def Proc.begin (q : Proc) (k task axis pc : Nat) : Proc :=
  { q with task := some task, lastTask := task, axis := axis, pc := pc % 8192, beats := 0, buf := [], pend := [], jump := none
           loops := [], stack := [], trap := none
           r := forN 4 fun i => Config.freeBits 24 (k + i)
           m := forN 4 fun i => Config.freeBits 56 (k + 4 + i)
           p := (forN 7 fun i => Config.freeBits 14 (k + 8 + i)) ++ [q.p.getD 7 0x1400]
           b := (forN 7 fun i => Config.freeBits 14 (k + 16 + i)) ++ [q.b.getD 7 0x1400]
           nn := (forN 7 fun i => Config.freeBits 24 (k + 24 + i)) ++ [q.nn.getD 7 0]
           ic := (Config.freeBits 16 (k + 32)).toNat, ix := (Config.freeBits 16 (k + 33)).toNat
           f := { n := Config.freeBool (k + 34), z := Config.freeBool (k + 35), v := Config.freeBool (k + 36), ie := true }
           mem := q.mem.filter fun e => e.1 < 0x1400 }

/-- S, HS and DZ as a code. -/
def SpFlags.sticky (f : SpFlags) : Nat := b2n f.s + 2 * b2n f.hs + 4 * b2n f.dz

/-- The task ends. -/
def Proc.finish (q : Proc) : Proc :=
  { q with task := none, buf := [], tasks := q.tasks + 1, stickyLast := q.f.sticky, trap := none, pend := [], jump := none
           f := { q.f with ie := true } }

/-- The next instruction lies in no delay slot (R391). -/
def Proc.noSlot (q : Proc) : Bool := q.jump.isNone && q.pend.all fun e => e.slots = 0

/-- PEAK can be accepted (R391). -/
def Proc.accepts (q : Proc) : Bool := !q.iso && q.f.ie && q.hand.isNone && q.noSlot

/-- Handler entry at a pair's vector, `waited` beats after its request (R391). The latency is the wait and the 2 beats of the entry. -/
def Proc.enter (q : Proc) (pair vector waited : Nat) : Proc :=
  { q with hand := some pair, spc := q.pc, ssr := q.f, pc := vector % 8192, peaks := q.peaks + 1
           f := { q.f with ie := false, s := false, hs := false, dz := false }
           total := q.total + 2, lat := max q.lat (min 65535 (waited + 2)) }

/-- Return from a handler (R392): PC and flags restored, pending loads complete. The flag says the
handler set a sticky flag. -/
def Proc.rti (q : Proc) : Proc × Bool :=
  let st := q.f.sticky != 0
  ({ q.drain with hand := none, pc := q.spc, f := q.ssr, hSticky := st, jump := none, trap := none }, st)

/-- SIGPROC_P_STAT without HOMED (R407). -/
def Proc.statWord (q : Proc) : Nat :=
  (if q.iso then 3 else if q.hand.isSome then 2 else if q.task.isSome then 1 else 0)
    + 256 * (q.axis % 256) + 65536 * (q.lastTask % 16) + 1048576 * (q.stickyLast % 8) + 8388608 * b2n q.hSticky

/-! ### The library FILTER (R400) -/

/-- One biquad in direct form I with halved coefficients: new histories (x1 x2 y1 y2), output and a
saturation. -/
def biquad (b0 b1 b2 a1 a2 : Int) (h : Int × Int × Int × Int) (x : Int) : (Int × Int × Int × Int) × Int × Bool :=
  let (x1, x2, y1, y2) := h
  let m := b0 * x + b1 * x1 + b2 * x2 - a1 * y1 - a2 * y2
  let s := satS 56 m
  let d := satS 56 (s * 2)
  let y := acc24 d
  ((x, x1, y, y1), y, outS 56 m || outS 56 (s * 2) || outS 24 (roundShift 23 d))

/-- Coefficients of a section. -/
def fltCoef (c : Cf → Int) (s : Nat) : Int × Int × Int × Int × Int :=
  match s with
  | 0 => (c .fltB00, c .fltB01, c .fltB02, c .fltA01, c .fltA02)
  | 1 => (c .fltB10, c .fltB11, c .fltB12, c .fltA11, c .fltA12)
  | 2 => (c .fltB20, c .fltB21, c .fltB22, c .fltA21, c .fltA22)
  | _ => (c .fltB30, c .fltB31, c .fltB32, c .fltA31, c .fltA32)

/-- Run the sections in order on their histories; results: the words to store, the output, saturation. -/
def filterRun (c : Cf → Int) (w : Nat → W32) : Nat → Nat → Int → List (Nat × W32) × Int × Bool
  | 0, _, x => ([], x, false)
  | n + 1, s, x =>
    let o := oFlt + 16 * s
    let h := (rF24 (w o), rF24 (w (o + 4)), rF24 (w (o + 8)), rF24 (w (o + 12)))
    let (b0, b1, b2, a1, a2) := fltCoef c s
    let ((x1, x2, y1, y2), y, sat) := biquad b0 b1 b2 a1 a2 h x
    let (rest, out, sat') := filterRun c w n (s + 1) y
    ([(o, wF24 x1), (o + 4, wF24 x2), (o + 8, wF24 y1), (o + 12, wF24 y2)] ++ rest, out, sat || sat')

/-- FILTER of R400: the words it writes, and saturation. -/
def filterTask (c : Cf → Int) (w : Nat → W32) : List (Nat × W32) × Bool :=
  let sh := (2 ^ (c .fltSh).toNat : Nat)
  let vel := w oVel
  let xin := vel.toInt / (sh : Int)
  let x := satS 24 xin
  let (ws, y, sat) := filterRun c w (min 4 (c .fltN).toNat) 0 x
  let out := y * (sh : Int)
  ((oVelRaw, vel) :: (oVel, w32i (satS 32 out)) :: ws, sat || outS 24 xin || outS 32 out)

end Sys2Proof.Machine
end

