-- ==== Sys2Proof/Machine/Visor.lean ====
section
/-! DEFINITION. Machine/Visor.lean: arming, triggers, rows, records, bursts and sharing (R521 to R544). The
sections of a record are written to the capture memory when it closes (log entry 21). -/

namespace Sys2Proof.Machine

/-! ### Configuration (R542, R543) -/

/-- A configuration register: as written, else the image's value. -/
def VisorState.cfg (v : VisorState) (img : Nat → W32) (off : Nat) : W32 := v.reg.look off (img off)

/-- What the configuration says. -/
structure VCfg where
  nrecl : Nat
  auto  : Bool
  pre   : Nat
  post  : Nat
  uen   : Nat
  seq   : Bool
  holdoff : Nat
  share : W32
  txlead : Nat
  xcab  : Nat
  stream : W32
  evcfg : W32
  nbcfg : W32
  meas  : W32
  ch    : List W32
  tu    : List (W32 × W32 × W32)
  nb    : List W32

/-- Read the configuration. -/
def VisorState.cfgs (v : VisorState) (img : Nat → W32) : VCfg :=
  let r := v.cfg img
  { nrecl := min 6 (fld (r 4) 2 0), auto := bit (r 4) 4, pre := fld (r 8) 15 0, post := fld (r 8) 31 16
    uen := fld (r 0xC) 3 0, seq := bit (r 0xC) 4, holdoff := fld (r 0xC) 31 16, share := r 0x10
    txlead := (r 0x14).toNat, xcab := fld (r 0x18) 15 0, stream := r 0x1C, evcfg := r 0x20, nbcfg := r 0x24, meas := r 0x28
    ch := forN 16 fun i => r (0x80 + 4 * i)
    tu := forN 4 fun u => (r (0x100 + 16 * u), r (0x104 + 16 * u), r (0x108 + 16 * u))
    nb := forN 8 fun k => r (0x140 + 4 * k) }

/-- Enabled cycle channels, in order. -/
def VCfg.chans (c : VCfg) : List W32 := c.ch.filter fun w => bit w 31
/-- Area size in bytes. -/
def VCfg.areaSize (c : VCfg) : Nat := 4194304 / 2 ^ c.nrecl
/-- Areas. -/
def VCfg.areas (c : VCfg) : Nat := 2 ^ c.nrecl
/-- Round up to 8 bytes. -/
def up8 (n : Nat) : Nat := (n + 7) / 8 * 8
/-- Bytes of the rows. -/
def VCfg.rowBytes (c : VCfg) (rows : Nat) : Nat := (4 + 4 * c.chans.length) * rows
/-- Stream samples of a cycle at most (R524). -/
def VCfg.perCycle (c : VCfg) (tcyc : Nat) : Nat :=
  if bit c.stream 31 then
    let d := 2 ^ min 6 (fld c.stream 6 4)
    ((tcyc + 1999) / 2000 + d - 1) / d
  else 0
/-- EVMAX. -/
def VCfg.evMax (c : VCfg) : Nat := fld c.evcfg 27 16
/-- Offset of the stream section. -/
def VCfg.streamAt (c : VCfg) (rows : Nat) : Nat := up8 (640 + c.rowBytes rows)
/-- Offset of the event section. -/
def VCfg.eventsAt (c : VCfg) (rows samples : Nat) : Nat := up8 (c.streamAt rows + 4 * samples)
/-- Offset of the burst section. -/
def VCfg.burstsAt (c : VCfg) (rows samples : Nat) : Nat := up8 (c.eventsAt rows samples + 16 * c.evMax)
/-- The layout of a full record fits an area, and PRE + POST its bound (R522). -/
def VCfg.fits (c : VCfg) (tcyc : Nat) : Bool :=
  let rows := c.pre + 1 + c.post
  decide (c.burstsAt rows (c.perCycle tcyc * rows) ≤ c.areaSize) && decide (c.pre + c.post ≤ 65534)

/-- The sources of R522's reason 0x3 are valid; `pinOk p` says that TRG_IO pin p is in mode 7. -/
def VCfg.sourcesOk (c : VCfg) (axisOk : Nat → Bool) (pinOk : Nat → Bool) : Bool :=
  (c.chans.all fun w => axisOk (fld w 7 0) && decide (fld w 19 8 % 4 = 0)) &&
  ((List.range 4).all fun u =>
    let w := (c.tu.getD u (0, 0, 0)).1
    let t := fld w 3 0
    !natBit c.uen u ||
      (if t = 1 then bit (c.ch.getD (fld w 7 4) 0) 31
       else if t = 2 then !(decide (192 ≤ fld w 23 16) && decide (fld w 23 16 ≤ 207))
       else if t = 3 then pinOk (fld w 25 24)
       else true))

/-! ### Areas and arming (R521 to R523) -/

/-- Areas in use: filling, closed, complete. -/
def VisorState.inUse (v : VisorState) (a : Nat) : Bool :=
  v.done.getLsbD a || (match v.fill with | some f => f.area = a | none => false) || v.closed.any fun r => r.area = a

/-- The lowest free area. -/
def VisorState.free (v : VisorState) (c : VCfg) : Option Nat := (List.range c.areas).find? fun a => !v.inUse a

/-- Every area is complete. -/
def VisorState.full (v : VisorState) (c : VCfg) : Bool := (List.range c.areas).all fun a => v.done.getLsbD a

/-- Enter ARMED in an area at the boundary S. -/
def VisorState.arm (v : VisorState) (area : Nat) (s0 : Rt) : VisorState :=
  { v with st := .armed, armDue := false, fill := some { area := area, s0 := s0, missed := v.missSince }, missSince := 0 }

/-- A boundary: a pending ARM takes its area, HOLDOFF counts down (R522, R523). -/
def VisorState.boundary (v : VisorState) (c : VCfg) (s0 : Rt) : VisorState :=
  let waits := v.st = .wait
  let v := if v.armDue then
      match v.free c with
      | some a => v.arm a s0
      | none => { v with st := .wait, armDue := false, holdoff := 0 }
    else v
  if waits && v.st = .wait then { v with holdoff := v.holdoff - 1 } else v

/-! ### Firings (R525 to R528) -/

/-- A firing that is missed (R528); the event is limited. -/
def VisorState.miss (v : VisorState) : VisorState × List Ev :=
  ({ v with missed := v.missed + 1, missSince := v.missSince + 1 }, [(ev0 EvNo.visorMissed).limited 0])

/-- S of the area's first row: where none is written yet, the boundary at which it was armed. -/
def VFill.first (f : VFill) : Rt := (f.rows.getLast?.map (·.rtS)).getD f.s0

/-- A firing of a unit or of FORCE. -/
def VisorState.fire (v : VisorState) (c : VCfg) (f : VFire) : VisorState × List Ev :=
  match v.st, v.fill with
  | .armed, some r =>
    if c.seq && f.unit = 0 then ({ v with fill := some { r with t0 := true } }, [])
    else if c.seq && decide (f.unit < 4) && !r.t0 then (v, [])
    else if !rtGe f.t r.first then v.miss
    else ({ v with fill := some { r with cand := r.cand ++ [f] } }, [])
  | .post, some r => ({ v with fill := some { r with retrig := min 0xFFFFFFFF (r.retrig + 1) } }, [])
  | .wait, _ => v.miss
  | _, _ => (v, [])

/-- Signed value of a channel word. -/
def sval (w : W32) : Int := w.toInt

/-- The operators of R526: `p` absent on the first row. -/
def opFires (op : Nat) (lvl lvl2 v : W32) (p : Option W32) : Bool :=
  match op, p with
  | 0, some q => decide (sval q < sval lvl) && decide (sval lvl ≤ sval v)
  | 1, some q => decide (sval lvl < sval q) && decide (sval v ≤ sval lvl)
  | 6, some q => decide (sval lvl < ((sval v - sval q).natAbs : Int))
  | 2, _ => decide (sval lvl < sval v)
  | 3, _ => decide (sval v < sval lvl)
  | 4, _ => decide (sval lvl ≤ sval v) && decide (sval v ≤ sval lvl2)
  | 5, _ => decide (sval v < sval lvl) || decide (sval lvl2 < sval v)
  | 7, _ => v &&& lvl2 = lvl
  | _, _ => false

/-- Place of channel `ch` among the enabled ones. -/
def VCfg.place (c : VCfg) (ch : Nat) : Nat := countP' (fun w => bit w 31) (c.ch.take ch)

/-- Type-1 units on a new row (R525). -/
def VCfg.rowFires (c : VCfg) (row : VRow) (prev : Option VRow) : List VFire :=
  (List.range 4).filterMap fun u =>
    let (w, l, l2) := c.tu.getD u (0, 0, 0)
    let ch := fld w 7 4
    if natBit c.uen u && fld w 3 0 = 1 && bit (c.ch.getD ch 0) 31 then
      let i := c.place ch
      if opFires (fld w 10 8) l l2 (row.vals.getD i 0) (prev.map fun r => r.vals.getD i 0) then
        some { t := row.rtS, unit := u, type := 1 } else none
    else none

/-- The winner: earliest instant, then lowest unit, FORCE last (R527). -/
def winner : List VFire → Option VFire
  | [] => none
  | f :: t =>
    match winner t with
    | none => some f
    | some g =>
      let d := rtDiff f.t g.t
      if d < 0 then some f else if 0 < d then some g else if f.unit ≤ g.unit then some f else some g

/-- The cycle whose interval contains an instant (R526). -/
def cycleOf (rows : List VRow) (cur : W32) (t : Rt) : W32 :=
  match rows.find? fun r => rtGe t r.rtS with
  | some r => if rtDiff t r.rtS < (r.len : Int) then r.cycle else cur
  | none => cur

/-- Sharing of an accepted trigger (R534). Results: state, SHARELATE. -/
def VisorState.share (v : VisorState) (c : VCfg) (t now : Rt) : VisorState × Bool × List Ev :=
  if !bit c.share 2 then (v, false, [])
  else
    let due := rtAdd t c.txlead
    let late := !rtGe due now
    let at' := if late then now else due
    let close := (v.shareLast.toList ++ v.shareDue).any fun l => decide ((rtDiff at' l).natAbs < 8000)
    if close then ({ v with missed := v.missed + 1 }, false, [])
    else ({ v with shareDue := v.shareDue.filter (fun x => rtGe at' x) ++ [at'] ++ v.shareDue.filter (fun x => !rtGe at' x) }, late, if late then [ev0 EvNo.visorShareLate] else [])

/-- A record reaches POST with its winner. -/
def VisorState.toPost (v : VisorState) (c : VCfg) (cur : W32) (now : Rt) : VisorState × List Ev :=
  match v.st, v.fill with
  | .armed, some r =>
    match winner r.cand with
    | none => (v, [])
    | some f =>
      let (v, late, e) := v.share c f.t now
      let ct := cycleOf r.rows cur f.t
      ({ v with st := .post, fill := some { r with trg := some (f, ct), cand := [], shareLate := late } },
        ev0 EvNo.visorTrigger :: e)
  | _, _ => (v, [])

/-! ### Rows, stream, events (R524, R529) -/

/-- Rows kept while filling. -/
def VCfg.ringRows (c : VCfg) : Nat := c.pre + 1 + c.post

/-- A row is written at S_c + t_rel. -/
def VisorState.row (v : VisorState) (c : VCfg) (row : VRow) (now : Rt) : VisorState × List Ev :=
  match v.fill with
  | some r =>
    if v.st = .armed || v.st = .post then
      let prev := r.rows.head?
      let v := { v with fill := some { r with rows := (row :: r.rows).take c.ringRows } }
      let (v, e1) := (c.rowFires row prev).foldl (fun p f => let (v, e) := p.1.fire c f; (v, p.2 ++ e)) (v, [])
      let (v, e2) := v.toPost c row.cycle now
      (v, e1 ++ e2)
    else (v, [])
  | none => (v, [])

/-- A conversion of the stream's pair, number k of its cycle (R524). -/
def VisorState.sample (v : VisorState) (c : VCfg) (pair k : Nat) (t : Rt) (s co : Int) (tcyc : Nat) : VisorState :=
  match v.fill with
  | some r =>
    if (v.st = .armed || v.st = .post) && bit c.stream 31 && fld c.stream 2 0 = pair
        && k % 2 ^ min 6 (fld c.stream 6 4) = 0 then
      let w := w32i (wrapS 16 co % 65536 + 65536 * (wrapS 16 s % 65536))
      { v with fill := some { r with stream := ((t, w) :: r.stream).take (c.ringRows * c.perCycle tcyc) } }
    else v
  | none => v

/-- An event as raised (R524): a ring while ARMED, dropped when full afterwards. -/
def VisorState.event (v : VisorState) (c : VCfg) (t : Rt) (num : Nat) (detail : W32) : VisorState :=
  let v := { v with evLast := v.evLast.put num t }
  match v.fill with
  | some r =>
    if fld c.evcfg 7 0 ≤ num ∧ num ≤ fld c.evcfg 15 8 ∧ (v.st = .armed ∨ v.st = .post) then
      if r.events.length < c.evMax then { v with fill := some { r with events := (t, num, detail) :: r.events } }
      else if v.st = .armed then { v with fill := some { r with events := ((t, num, detail) :: r.events).take c.evMax } }
      else { v with fill := some { r with evLost := min 65535 (r.evLost + 1), evOver := true } }
    else v
  | none => v

/-! ### Closing (R523, R529 to R533) -/

/-- Measurement entry of a channel over the rows, oldest first (R531). -/
def measEntry (vals : List W32) : List Byte :=
  match vals with
  | [] => List.replicate 32 0
  | v0 :: _ =>
    let go := vals.foldl (fun (a : Int × Int × Nat × Nat × Nat × Int × Nat) w =>
      let (mn, mx, im, ix, n, sm, sq) := a
      let v := sval w
      let (mn, im) := if v < mn then (v, n) else (mn, im)
      let (mx, ix) := if mx < v then (v, n) else (mx, ix)
      (mn, mx, im, ix, n + 1, sm + v, sq + v.natAbs * v.natAbs)) (sval v0, sval v0, 0, 0, 0, 0, 0)
    let (mn, mx, im, ix, n, sm, sq) := go
    let sat := decide (2 ^ 64 ≤ sq)
    let sq := if sat then 2 ^ 64 - 1 else sq
    leBytes (w32i mn) ++ leBytes (w32i mx) ++ leBytes (w32 (im % 65536 + 65536 * (ix % 65536)))
      ++ leBytes (w32 (n % 65536 + 65536 * b2n sat))
      ++ leBytes (w32i sm) ++ leBytes (w32i (sm / 4294967296)) ++ leBytes (w32 (sq % 4294967296)) ++ leBytes (w32 (sq / 4294967296))

/-- The measurement block: 16 entries, disabled channels 0. -/
def VCfg.measBlock (c : VCfg) (rows : List VRow) : List Byte :=
  (List.range 16).flatMap fun ch =>
    if bit (c.ch.getD ch 0) 31 then measEntry (rows.map fun r => r.vals.getD (c.place ch) 0) else List.replicate 32 0

/-- Little-endian words as bytes. -/
def wordsBytes (ws : List W32) : List Byte := ws.flatMap leBytes

/-- A record closes: sections written, the record waits for measurement and bursts (R523, R529, R533). -/
def VisorState.close (v : VisorState) (c : VCfg) : VisorState :=
  match v.fill with
  | none => v
  | some r =>
    match r.trg with
    | none => { v with st := .idle, fill := none }
    | some (f, ct) =>
      let rows := (r.rows.filter fun x => decide (-(c.pre : Int) ≤ (x.cycle - ct).toInt)).reverse
      let first := rows.head?
      let cFirst := (first.map (·.cycle)).getD ct
      let s0 := (first.map (·.rtS)).getD f.t
      let endC := match rows.getLast? with | some x => rtAdd x.rtS x.len | none => s0
      let pre := (rows.filter fun x => decide ((x.cycle - ct).toInt < 0)).length
      let stream := ((r.stream.filter fun x => rtGe x.1 s0).map (·.2)).reverse
      let evs := (r.events.filter fun x => rtGe x.1 s0).reverse
      let base := r.area * c.areaSize
      let n := rows.length
      let mem := memSetBytes 0 v.mem base (List.replicate 64 0 ++ c.measBlock rows ++ List.replicate 64 0)
      let mem := memSetBytes 0 mem (base + 640) (wordsBytes (rows.flatMap fun x => x.cycle :: x.vals))
      let mem := memSetBytes 0 mem (base + c.streamAt n) (wordsBytes stream)
      let mem := memSetBytes 0 mem (base + c.eventsAt n stream.length)
        (wordsBytes (evs.flatMap fun x => [lo32 x.1, hi32 x.1, w32 (x.2.1 % 65536), x.2.2]))
      let dead : Nat := match v.covEnd with | some e => min 0xFFFFFFFF (rtDiff s0 e).toNat | none => 0
      let flags := b2n (decide (pre < c.pre)) + 2 * b2n r.stopped + 32 * b2n r.evOver + 64 * b2n f.shared + 128 * b2n r.shareLate + 512 * b2n r.memErr
      let q : VRec :=
        { area := r.area, tTrg := f.t, cTrg := ct, cFirst := cFirst, nRows := n, preRows := pre
          tsrc := (if f.unit = 4 then 4 else f.unit) + 16 * f.type, ncc := c.chans.length, flags := flags, dead := dead
          missed := r.missed + v.missSince, retrig := r.retrig, nStream := stream.length, nEv := evs.length, nEvLost := r.evLost
          nbAt := c.burstsAt n stream.length, bursts := r.bursts, meas := bit c.meas 31 }
      let d : W32 := w32 dead
      { v with mem := mem, fill := none, closed := v.closed ++ [q], missSince := 0, covEnd := some endC, dead := d
               deadMax := if v.deadMax.toNat < dead then d else v.deadMax
               st := if c.auto && !r.stopped then .wait else .idle, holdoff := c.holdoff }

/-- The row just written was the last of the record (R523, R539). -/
def VFill.isDone (r : VFill) (c : VCfg) : Bool :=
  match r.trg, r.rows.head? with
  | some (_, ct), some x => decide ((c.post : Int) ≤ (x.cycle - ct).toInt) || r.stopped
  | _, _ => false

/-- Burst entries and data of the section, cut at the room left; also the status after a cut. -/
def burstBytes (t0 : VBurst → Rt) : Nat → List VBurst → List Byte × List VBurst
  | _, [] => ([], [])
  | room, b :: t =>
    let ent := fun (st : Nat) => [BitVec.ofNat 8 b.seg, BitVec.ofNat 8 b.pos, BitVec.ofNat 8 st, BitVec.ofNat 8 b.bid]
      ++ leBytes (lo32 (t0 b)) ++ leBytes (hi32 (t0 b)) ++ leBytes (w32 b.data.length) ++ b.data
    let full := ent b.stat
    if full.length ≤ room then
      let (bs, l) := burstBytes t0 (room - full.length) t
      (full ++ bs, b :: l)
    else
      let b' := { b with stat := 4, data := b.data.take (room - 16) }
      let (bs, l) := burstBytes t0 0 t
      (if room < 16 then [] else (ent 4).take room, b' :: l) |> fun r => (r.1 ++ bs, r.2 ++ [])

/-- The header of R530. -/
def VRec.header (r : VRec) (recno : W32) (nbBytes : Nat) : List Byte :=
  let h := wordsBytes
    [w32 (0x5649 + 65536 + 16777216 * 8), recno, lo32 r.tTrg, hi32 r.tTrg, r.cTrg, r.cFirst
     , w32 (r.nRows % 65536 + 65536 * (r.preRows % 65536))
     , w32 (r.tsrc % 256 + 256 * (r.ncc % 256) + 65536 * (r.flags % 65536))
     , w32 r.dead, w32 (min 0xFFFFFFFF r.missed), w32 (min 0xFFFFFFFF r.retrig), w32 r.nStream
     , w32 (r.nEv % 65536 + 65536 * (r.nEvLost % 65536)), w32 nbBytes, 0]
  h ++ leBytes (crc32c h)

/-- Nothing of the record is still running. -/
def VRec.ready (r : VRec) : Bool := !r.meas && r.bursts.all (·.past)

/-- Complete the first closed record that is ready (R523, R530, R537). The flag says one completed. -/
def VisorState.complete (v : VisorState) (c : VCfg) (t0 : VBurst → Rt) : VisorState × List Ev :=
  match v.closed.find? VRec.ready with
  | none => (v, [])
  | some r =>
    let base := r.area * c.areaSize
    let (bytes, bs) := burstBytes t0 (c.areaSize - r.nbAt) r.bursts
    let trunc := bs.any fun b => b.stat = 4
    let r' := { r with flags := r.flags ||| 16 * b2n trunc ||| 256 * b2n (r.bursts.any (·.shifted)) }
    let mem := memSetBytes 0 v.mem (base + r.nbAt) bytes
    let mem := memSetBytes 0 mem base (r'.header v.recno bytes.length)
    let v := { v with mem := mem, closed := v.closed.filter (fun x => x != r), done := v.done ||| (1 <<< r.area)
                      lastRec := v.recno, recno := v.recno + 1 }
    (v, [ev0 EvNo.visorRecord] ++ ((bs.filter fun b => b.stat = 1 || b.stat = 3 || b.stat = 4).map fun b =>
          evNode EvNo.visorBurstIncomplete b.seg b.pos)
        ++ (if v.full c then [ev0 EvNo.visorFull] else []))

/-- MEMERR of a record: the one filling, one that waits for its measurement and bursts, or a complete one, whose header
carries it (R541). -/
def VisorState.setMemErr (v : VisorState) (c : VCfg) (area : Nat) : VisorState :=
  let v := { v with fill := v.fill.map fun (r : VFill) => if r.area = area then { r with memErr := true } else r
                    closed := v.closed.map fun (r : VRec) => if r.area = area then { r with flags := r.flags ||| 512 } else r }
  if v.done.getLsbD area then
    let base := area * c.areaSize
    let ws := (List.range 15).map fun i => memWord 0 v.mem (base + 4 * i) ||| (if i = 7 then 0x02000000 else 0)
    let h := wordsBytes ws
    { v with mem := memSetBytes 0 v.mem base (h ++ leBytes (crc32c h)) }
  else v

/-- The engine is isolated: the record in progress ends without completing (R541). -/
def VisorState.lose (v : VisorState) : VisorState :=
  { v with iso := true, st := .idle, armDue := false, fill := none, shareDue := [] }

/-- The capture memory is isolated: every record is discarded (R541). -/
def VisorState.loseMem (v : VisorState) : VisorState :=
  { v with memIso := true, st := .idle, armDue := false, fill := none, closed := [], done := 0, mem := [] }

/-! ### Bursts (R536 to R539) -/

/-- Update the bursts of the closed records. -/
def VisorState.mapBursts (v : VisorState) (f : VBurst → VBurst) : VisorState :=
  { v with closed := v.closed.map (fun r => { r with bursts := r.bursts.map f })
           fill := v.fill.map fun r => { r with bursts := r.bursts.map f } }

/-- Every burst of the record filling and of the closed records. -/
def VisorState.allBursts (v : VisorState) : List VBurst :=
  (match v.fill with | some r => r.bursts | none => []) ++ v.closed.flatMap (·.bursts)

/-- A record reaches POST: bursts are requested, with c_g = c_trg + NB_POST + 1 (R536). -/
def VFill.ask (r : VFill) (c : VCfg) (img : VBurst → VBurst) : VFill :=
  match r.trg with
  | none => r
  | some (_, ct) =>
    if r.asked then r
    else
      { r with asked := true, bursts := (List.range 8).foldl (fun (l : List VBurst) k =>
          let w := c.nb.getD k 0
          let b := img { k := k, seg := fld w 9 8, pos := fld w 5 0, due := ct + w32 (fld c.nbcfg 5 0 + 1) }
          if !bit w 31 then l
          else if !b.past && l.any (fun x => x.seg = b.seg && x.pos = b.pos && !x.past) then l ++ [{ b with stat := 3, past := true }]
          else l ++ [b]) [] }

/-- A fragment: BID, FRAG, OFS, data (R537). -/
def VBurst.frag (b : VBurst) (bid fr ofs : Nat) (data : List Byte) : VBurst :=
  if b.past then b
  else
    let gap := b.gap || ofs != b.next
    let body := if ofs = b.data.length then b.data ++ data
      else b.data.take ofs ++ List.replicate (ofs - b.data.length) 0 ++ data ++ b.data.drop (ofs + data.length)
    let last := decide (128 ≤ fr)
    { b with bid := if b.started then b.bid else bid, started := true, data := body, next := ofs + data.length, gap := gap
             past := last, stat := if last && !gap then 0 else 1 }

/-- NBTMO cycles with the replacement of R543. -/
def VCfg.nbTmo (c : VCfg) : Nat := let n := fld c.nbcfg 15 8; if n < 16 then 64 else n

/-- T0 of a burst (R537): S of C0 plus PH0; `sOf` gives S of a cycle. -/
def VBurst.t0 (b : VBurst) (sOf : W32 → Rt) : Rt :=
  if b.data.length < 8 then 0 else sOf (memWord 0 (b.data.zipIdx.map fun e => (e.2, e.1)) 0)
    + (memWord 0 (b.data.zipIdx.map fun e => (e.2, e.1)) 4).zeroExtend 64

/-! ### Reads (R542) -/

/-- VISOR_STAT. -/
def VisorState.statWord (v : VisorState) (c : VCfg) : W32 :=
  w32 (v.st.code + 16 * (v.reason % 8) + 256 * ((v.fill.map (·.area)).getD 0) + 65536 * b2n v.cfgRef + 131072 * b2n (v.full c))

end Sys2Proof.Machine
end

