-- ==== Sys2Proof/Machine/Chain.lean ====
section
/-! DEFINITION. Machine/Chain.lean: posting, placing, completing and cancelling tasks on the chip's units,
and the release entries (R410 to R421). -/

namespace Sys2Proof.Machine

/-- Record a decision in the stitch trace. -/
def Core.tr (c : Core) (t : TraceIn) : Core :=
  let (d, evs) := c.disp.traced c.now c.cycle.cycle t
  { c with disp := d }.raise evs

/-- The chain of an axis. -/
def Core.chainOf (c : Core) (a : Nat) : Chain := c.disp.chain.look a {}

/-- Update the chain of an axis that has one. -/
def Core.updChain (c : Core) (a : Nat) (f : Chain → Chain) : Core :=
  match c.disp.chain.look? a with
  | none => c
  | some x => { c with disp := { c.disp with chain := c.disp.chain.put a (f x) } }

/-- The FEEDBACK task of an axis runs on a signal processor (R409). -/
def Core.spFeedback (c : Core) (a : Nat) : Bool :=
  match c.source a with
  | .channel n => (c.ch n).type = 4 || (c.ch n).type = 6
  | .remote t => t != 0x21

/-- The FEEDBACK task reads a remote record. -/
def Core.remoteFeedback (c : Core) (a : Nat) : Bool :=
  match c.source a with | .channel _ => false | .remote _ => true

/-- Current home processor of an ADC pair: the backup after a move (R390, R405). -/
def Core.pairHome (c : Core) (p : Nat) : Nat :=
  if c.sig.moved.getLsbD p then fld c.image.spBackup (4 * p + 2) (4 * p) else fld c.image.spHome (4 * p + 2) (4 * p)

/-- Profile unit that serves an axis (R469). -/
def Core.puOf (c : Core) (a : Nat) : Nat :=
  let u := (c.imgAx a).pu
  ((forN 4 fun i => (u + i) % 4).find? fun v => !c.prof.iso.getLsbD v).getD u

/-- Flow number of a task in the trace (R426). -/
def Core.flowOf (c : Core) (r : Ready) : Nat :=
  match r.task with
  | .profile => 4 | .measure => 5
  | .feedback | .filter | .observe | .commuteIn | .law | .commuteOut | .pack => (c.imgAx r.key).seg

/-- The class a ready entry waits for. -/
def Core.clsOf (c : Core) (r : Ready) : Cls := r.task.cls (c.spFeedback r.key) (c.remoteFeedback r.key)

/-- Units of a class, ascending. -/
def unitsOf : Cls → List Nat
  | .eng => List.range 32
  | .sp => List.range 8
  | .cu => List.range 8
  | .pu => List.range 4
  | .dec | .cuff | .rel => []

/-- A pair requests PEAK at its home processor (R390); a request that stands keeps its moment. -/
def Core.peakRequest (c : Core) (n : Nat) : Core :=
  if c.sig.req.contains n then c
  else { c with sig := { c.sig with req := insertNat n c.sig.req, reqAt := c.sig.reqAt.put n (c.sig.proc.look (c.pairHome n) {}).total } }

/-- A PEAK that the processor accepts before it starts a task (R391, R403). -/
def Core.peakDue (c : Core) (u : Nat) : Bool :=
  (c.sig.proc.look u {}).accepts && c.sig.req.any fun n => decide (c.pairHome n = u)

/-- A unit is free and may take work: not isolated, idle, no engine under re-test, no processor that accepts a PEAK first (R403,
R413, R626). -/
def Core.unitFree (c : Core) (k : Cls) (u : Nat) : Bool :=
  (c.disp.on k u).isNone && !c.disp.iso
    && match k with
      | .eng => !(c.eng.eng.look u {}).iso && !c.maint.run.any fun x => x.act == .retest && x.region = 2 && x.block = u + 1
      | .sp => !(c.sig.proc.look u {}).iso && (c.sig.proc.look u {}).hand.isNone && !c.peakDue u
      | .cu => !c.iso 2 (41 + u)
      | .pu => !c.prof.iso.getLsbD u
      | .dec | .cuff | .rel => true

/-- Group of a loop engine (R370). -/
def engGroup (u : Nat) : Nat := u / 8

/-- May the unit take the task (R413)? -/
def Core.eligible (c : Core) (u : Nat) (r : Ready) : Bool :=
  match r.task with
  | .feedback =>
    match c.source r.key with
    | .channel n => if (c.ch n).type = 6 then decide (c.pairHome n = u) else true
    | .remote _ => true
  | .law =>
    match (c.chainOf r.key).paired, (c.chainOf r.key).group with
    | true, some g => decide (engGroup u != g)
    | _, _ => true
  | .measure => c.disp.measWin
  | .filter | .observe | .commuteIn | .commuteOut | .pack | .profile => true

/-- The trace fields of an entry. -/
def Core.trOf (c : Core) (kind : Nat) (r : Ready) : TraceIn :=
  { kind := kind, task := r.task.code, axis := r.key, prio := r.prio, flow := c.flowOf r, copyB := r.copyB
    cls := (c.clsOf r).code, depth := (c.disp.list (c.clsOf r) (c.puOf r.key)).length
    slot := if r.task = .pack then (c.slotOf r.key).getD 0xFFFF else 0xFFFF }

/-- Configuration of the Visor in force. -/
def Core.vcfg (c : Core) : VCfg := c.vis.cfgs fun o => c.image.visor.look o 0

/-- Program entry of a signal-processor task; MEASURE takes that of VISOR_MEAS (R532). -/
def Core.spEntry (c : Core) (t : Task) : Nat :=
  if t = .measure then fld c.vcfg.meas 12 0 else c.image.spEntry.look t.code 0

/-- The measurement of the record in an area has ended, with MEASDONE (4) or MEASDROP (8) (R532). -/
def Core.measEnd (c : Core) (area flag : Nat) : Core :=
  { c with vis := { c.vis with closed := c.vis.closed.map fun (r : VRec) =>
      if r.area = area && r.meas then { r with meas := false, flags := r.flags ||| flag } else r }
           disp := { c.disp with meas := c.disp.meas.filter fun k => k != area } }

/-- A task starts on a unit (R337, R397, R413). -/
def Core.start (c : Core) (k : Cls) (u : Nat) (r : Ready) : Core :=
  let c := { c with disp := { c.disp with running := c.disp.running ++ [(⟨r, k, u⟩ : Running)] } }
  let c := match k with
    | .eng =>
      let p := (c.cf r.key .lawProg).toNat
      { c with eng := { c.eng with eng := c.eng.eng.upd u {} fun (e : Engine) => e.begin c.freeCtr r.key p (c.chainOf r.key).paired }
               freeCtr := c.freeCtr + engineDraws }
    | .sp =>
      { c with sig := { c.sig with proc := c.sig.proc.upd u {} fun q => q.begin c.freeCtr r.task.code r.key (c.spEntry r.task) }
               freeCtr := c.freeCtr + procDraws }
    | .cu | .pu | .dec | .cuff | .rel => c
  let c := c.updChain r.key fun (x : Chain) =>
    if r.task = Task.profile ∨ r.task = Task.measure then x
    else { (x.mark (fun t => t.task = r.task && t.copyB = r.copyB) .running) with
           group := if r.task = Task.law && x.paired && x.group.isNone then some (engGroup u) else x.group }
  c.tr { (c.trOf 2 r) with unit := u }

/-- A free unit selects its next task (R413). -/
def Core.placeOne (c : Core) (k : Cls) (u : Nat) : Core :=
  if c.unitFree k u then
    match pick (c.eligible u) (c.disp.list k u) with
    | none => c
    | some r => { c with disp := c.disp.setList k u (unlink r (c.disp.list k u)) }.start k u r
  else c

/-- Free units of a class select in ascending order (R414). -/
def Core.place (c : Core) (k : Cls) : Core := (unitsOf k).foldl (fun c u => c.placeOne k u) c

/-- Post a task of an axis (R411). -/
def Core.post (c : Core) (t : Task) (a : Nat) (copyB : Bool := false) (cycle : W32) : Core :=
  let prio := if t = .measure then 15 else (c.cf a .dspPrio).toNat % 16
  let r : Ready := { task := t, key := a, copyB := copyB, prio := prio, cycle := cycle }
  let k := c.clsOf r
  let c := c.tr (c.trOf 1 r)
  match k with
  | .dec => c.start .dec (c.imgAx a).seg r
  | .rel => c.start .rel (c.imgAx a).seg r
  | .cuff => c.start .cuff (match c.source a with | .channel n => n | .remote _ => 0) r
  | .eng | .sp | .cu | .pu =>
    let u := c.puOf a
    let c := c.updChain a fun x =>
      if t = .profile ∨ t = .measure then x else x.mark (fun q => q.task = t && q.copyB = copyB) .ready
    { c with disp := c.disp.setList k u (c.disp.list k u ++ [r]) }.place k

/-- Post the chain's next task, both copies of a paired LAW together. -/
def Core.postNext (c : Core) (a : Nat) (t : Task) : Core :=
  let cy := c.cycle.cycle
  if t = .law && (c.chainOf a).paired then (c.post .law a false cy).post .law a true cy else c.post t a false cy

/-- Beats a unit has executed for its task. -/
def Core.unitBeats (c : Core) (k : Cls) (u : Nat) : Nat :=
  match k with
  | .eng => (c.eng.eng.look u {}).beats
  | .sp => (c.sig.proc.look u {}).beats
  | .cu | .pu | .dec | .cuff | .rel => 0

/-- A unit stops its task: its write buffer is discarded. -/
def Core.freeUnit (c : Core) (r : Running) : Core :=
  let c := { c with disp := { c.disp with running := c.disp.running.filter fun x => x != r } }
  match r.cls with
  | .eng => { c with eng := { c.eng with eng := c.eng.eng.upd r.unit {} fun e => { e with run := false, buf := [] } } }
  | .sp =>
    { c with sig := { c.sig with proc := c.sig.proc.upd r.unit {} fun q =>
        { q with task := none, buf := [], trap := none, pend := if q.hand.isSome then q.pend else []
                 jump := if q.hand.isSome then q.jump else none, f := if q.hand.isSome then q.f else { q.f with ie := true } } } }
  | .cu | .pu | .dec | .cuff | .rel => c

/-- A PROFILE task ends as released-empty (R418). -/
def Core.profileEmpty (c : Core) (r : Ready) : Core :=
  { c with disp := { (c.disp.tallied r.due (·.ended .empty)) with profLate := c.disp.profLate + 1 } }.raise
    [(evAxis EvNo.profileLate r.key).limited 0]

/-- A running task completes: it is released, its unit selects again (R414, R420). -/
def Core.complete (c : Core) (r : Running) : Core :=
  let beats := c.unitBeats r.cls r.unit
  let c := match r.cls with
    | .eng => { c with eng := { c.eng with eng := c.eng.eng.upd r.unit {} Engine.finish } }
    | .sp => { c with sig := { c.sig with proc := c.sig.proc.upd r.unit {} Proc.finish } }
    | .cu | .pu | .dec | .cuff | .rel => c
  let c := c.tr { (c.trOf 3 r.r) with unit := r.unit, beats := beats }
  let c := { c with disp := { (c.disp.tallied r.r.due (·.ended .released)) with
      running := c.disp.running.filter fun x => x != r } }
  let c := c.updChain r.r.key fun x =>
    if r.r.task = .profile ∨ r.r.task = .measure then x
    else x.mark (fun t => t.task = r.r.task && t.copyB = r.r.copyB) (.ended .released)
  c.place r.cls

/-- The running task of a type for an axis. -/
def Core.runningTask (c : Core) (t : Task) (a : Nat) (copyB : Bool := false) : Option Running := c.disp.unitOf t a copyB

/-! ### Release entries (R415) -/

/-- Flow `f`. -/
def Core.flow (c : Core) (f : Nat) : Flow := c.disp.flow.look f {}

/-- Advance a flow's pointer and trace the slots released. -/
def Core.advanceFlow (c : Core) (f : Nat) : Core :=
  let x := c.flow f
  let y := x.advance x.slots
  let c := { c with disp := { c.disp with flow := c.disp.flow.put f y } }
  let m := (c.is f).driveMap
  (List.range' x.ptr (y.ptr - x.ptr)).foldl
    (fun c s => c.tr { kind := 6, axis := m.getD s 0, flow := f, cls := 7, slot := s }) c

/-- Fill the entry of an axis's slot, unless it is filled. -/
def Core.fillSlot (c : Core) (a : Nat) (d : Drive) (at? : Option Rt) : Core :=
  match c.slotOf a with
  | none => c
  | some s =>
    let f := (c.imgAx a).seg
    { c with disp := { c.disp with flow := c.disp.flow.upd f {} fun x => x.fill s d at? } }.advanceFlow f

/-- Put a record in the entry of an axis's slot while it is not released (R415). -/
def Core.forceSlot (c : Core) (a : Nat) (d : Drive) : Core :=
  match c.slotOf a with
  | none => c
  | some s =>
    let f := (c.imgAx a).seg
    { c with disp := { c.disp with flow := c.disp.flow.upd f {} fun x => x.force s d } }.advanceFlow f

/-- CMD.BRKEN and DBRK of an axis's record (R284). -/
def Core.brake (c : Core) (a : Nat) : Bool × Nat :=
  let i := c.imgAx a
  (((c.is i.seg).nodes.look i.pos {}).chopper, (c.fa a).dbrk)

/-- The inhibit record of an axis. -/
def Core.inhibit (c : Core) (a : Nat) : Drive := .inhibit (c.brake a).1 (c.brake a).2

/-! ### Cancelling (R415, R420, R421) -/

/-- The chain still has a task that has not ended. -/
def Core.chainLive (c : Core) (a : Nat) : Bool := (c.chainOf a).tasks.any (·.live)

/-- End the tasks of a chain that have not ended, with a trace record each. -/
def Core.endChainTasks (c : Core) (a : Nat) (e : Ending) (endc reason : Nat) : Core :=
  let live := (c.chainOf a).tasks.filter (·.live)
  let units := c.disp.running.filter fun r => r.r.key = a && r.r.task != .profile && r.r.task != .measure
  let trs := live.foldl (fun (c : Core) t =>
    let r : Ready := { task := t.task, key := a, copyB := t.copyB, prio := (c.chainOf a).prio, cycle := c.cycle.cycle }
    let on := c.runningTask t.task a t.copyB
    let unit := match on with | some x => x.unit | none => 0
    match e, on with
    | .cancelled k, _ => c.tr { (c.trOf 5 r) with reason := k, unit := unit }
    | .empty, some x => c.tr { (c.trOf 4 r) with unit := unit, beats := c.unitBeats x.cls x.unit }
    | .empty, none => c
    | .released, _ => c) c
  let c := live.foldl (fun (c : Core) _ => { c with disp := c.disp.tallied c.cycle.cycle (·.ended e) }) trs
  let c := units.foldl (fun c r => c.freeUnit r) c
  let keep := fun (l : List Ready) => l.filter fun r => r.key != a || r.task = .measure
  let c := { c with disp := { c.disp with eng := keep c.disp.eng, sp := keep c.disp.sp, cu := keep c.disp.cu } }
  let c := c.updChain a fun x => { (x.mark (·.live) (.ended e)) with endc := endc, reason := reason }
  { c with eng := { c.eng with copies := c.eng.copies.del a } }

/-- Cancel an axis's chain with a reason; its slot takes the record named. -/
def Core.cancelChain (c : Core) (a reason : Nat) (d : Drive) : Core :=
  if c.chainLive a then
    ((((c.endChainTasks a (.cancelled reason) 2 reason).fillSlot a d none).place .eng).place .sp).place .cu
  else c

/-- A Gauntlet action within the cycle (R415): the tasks that have not completed are cancelled, and the
entry takes an inhibit record. -/
def Core.gauntletCancel (c : Core) (a : Nat) : Core :=
  let d := c.inhibit a
  if c.chainLive a then c.cancelChain a 7 d else c.forceSlot a d

/-- The running unit's task is ended as a FLT of its axis's chain. -/
def Core.cancelEmpty (c : Core) (a reason : Nat) : Core := c.cancelChain a reason .marker

end Sys2Proof.Machine
end

