-- ==== Sys2Proof/Machine/Sensorless.lean ====
section
/-! DEFINITION. Machine/Sensorless.lean: observer, confidence, probes, start and catch of an axis and
the back-EMF check (R299 to R329). 24-bit values are Q0.23; each is rounded once and saturated (log
entry 12). -/

namespace Sys2Proof.Machine

/-- A time field in ms as cycles, rounded up (R300). -/
def msCycles (ms : Int) (tcyc : Nat) : Nat :=
  if tcyc = 0 then 0 else ((ms * 4000000).toNat + tcyc - 1) / tcyc

/-- A Q0.15 gain with shift on a Q0.23 value, saturated to 24 bits. -/
def mulG24 (g sh x : Int) : Int := satS 24 (mulG g sh x)
/-- KW × x: Q0.23 speed to UQ0.24 angle per cycle (R300: KW is UQ0.16 with shift, in LSB of 2^−16). -/
def kwAngle (c : Cf → Int) (x : Int) : Int :=
  roundShift 31 (c .obsKw * (2 ^ (c .obsKwSh).toNat : Nat) * x)
/-- Signed difference of two UQ0.24 angles. -/
def sgn24 (a : Int) : Int := wrapS 24 a
/-- UQ0.16 of a UQ0.24 angle. -/
def ang24to16 (a : Int) : Nat := ang16 (a / 256)

/-- KE × |ω| in Q0.23 for ω in Q0.23. -/
def keMag (c : Cf → Int) (w : Int) : Int := mulG (c .ke) (c .keSh) (w.natAbs : Int)

/-- A quotient as UQ1.15, saturating. -/
def uq115 (num den : Int) : Nat :=
  if den ≤ 0 then (if num ≤ 0 then 0 else 65535) else (clampI 0 65535 (num * 32768 / den)).toNat

/-! ### Entering sub-states -/

/-- Enter a sub-state of R308. -/
def ObsAxis.enter (x : ObsAxis) (s : ObsSub) : ObsAxis :=
  { x with sub := s, cyc := 0, atSpeed := 0, holdDue := false
           prb := if s = .probe ∨ s = .detect then [] else x.prb }

/-- What a happening does to the axis beside its sub-state. -/
structure ObsRes where
  x : ObsAxis
  evs : List Ev := []
  /-- The axis goes to AX_FAULT. -/
  fault : Bool := false
  /-- KE_REACT to apply: 1 AX_DEGRADED, 2 AX_FAULT. -/
  react : Nat := 0

/-- A failed attempt (R315). -/
def ObsAxis.fail (x : ObsAxis) (c : Cf → Int) (axis reason : Nat) : ObsRes :=
  let x := { x with reason := reason }
  if (x.retries : Int) < c .obsRetryN then
    { x := { (x.enter .wait) with retries := x.retries + 1 }
      evs := [(evAxis EvNo.startRetry axis).limited axis] }
  else { x := { (x.enter .other) with retries := 0 }, evs := [evAxis EvNo.startFailed axis], fault := true }

/-- The Gauntlet ends the sequence (R323). -/
def ObsAxis.endGauntlet (x : ObsAxis) : ObsAxis :=
  if x.sub.code = 0 ∨ x.sub.code = 1 ∨ x.sub.code = 3 then x.enter .other
  else { (x.enter .other) with reason := 0x8, retries := 0 }

/-- The host ends the sequence (R323). -/
def ObsAxis.endQuiet (x : ObsAxis) : ObsAxis := { (x.enter .other) with retries := 0 }

/-- Enter AX_START DETECT: an attempt begins and latches the direction (R312). -/
def ObsAxis.startDetect (x : ObsAxis) (nref : Int) : ObsAxis :=
  { (x.enter .detect) with dirNeg := decide (nref < 0) }

/-- Enter AX_START ALIGN in a direction, with the commanded angle 0 (R312). -/
def ObsAxis.startAlign (x : ObsAxis) : ObsAxis :=
  { (x.enter .align) with wcmd := 0, thcmd := 0, thUse := none }

/-- +1 or −1 of the latched direction. -/
def ObsAxis.dir (x : ObsAxis) : Int := if x.dirNeg then -1 else 1

/-! ### OBSERVE (R301 to R304) -/

/-- va of R301 for one component: λ_U va[c−2] + (1 − λ_U) va[c−1], from Q15 to Q0.23. -/
def blendV (tU tcyc : Nat) (v2 v1 : Int) : Int :=
  if tcyc = 0 then 0 else satS 24 ((tU * v2 + (tcyc - tU : Int) * v1) * 256 / tcyc)

/-- The voltage of the interval that ends at S, absent where it holds an unknown voltage (R303). -/
def ObsAxis.interval (x : ObsAxis) : Option (Int × Int) :=
  match x.va with
  | a1 :: a2 :: _ =>
    match a1.v, a2.v with
    | some p1, some p2 => some (blendV a1.tU a1.tcyc p2.1 p1.1, blendV a1.tU a1.tcyc p2.2 p1.2)
    | _, _ => none
  | _ => none

/-- A cycle's applied voltage is known (R301); two are kept. -/
def ObsAxis.applied (x : ObsAxis) (a : Applied) : ObsAxis := { x with va := (a :: x.va).take 2 }

/-- The values of R302 before each is saturated to 24 bits: the two EMF residues, the two filtered EMFs, the magnitude, ε, ε_n, ω̂, the
speed that turns thp, and the atan's argument. -/
structure ObsRaw where
  ra : Int
  rb : Int
  ea : Int
  eb : Int
  mag : Int
  eps : Int
  epsn : Int
  wh : Int
  wp : Int
  lag : Int

/-- Some value of R302 saturates (R402). -/
def ObsRaw.sat (r : ObsRaw) : Bool := [r.ra, r.rb, r.ea, r.eb, r.mag, r.eps, r.epsn, r.wh, r.wp, r.lag].any (outS 24)

/-- The values of R302 in the order of its lines, each formed from saturated ones; `al be` are the Clarke currents of S in Q15. -/
def ObsAxis.raw (x : ObsAxis) (c : Cf → Int) (va vb al be : Int) : ObsRaw :=
  let res := fun (v i ip : Int) => v - mulG (c .obsKr) (c .obsKrSh) ((i + ip) / 2) - mulG (c .obsKl) (c .obsKlSh) (i - ip)
  let filt := fun (e r : Int) => e + roundShift 16 (c .obsKf * (satS 24 r - e))
  let ra := res va (al * 256) x.iaP
  let rb := res vb (be * 256) x.ibP
  let ea := filt x.ea ra
  let eb := filt x.eb rb
  let mag : Int := (isqrt (satS 24 ea * satS 24 ea + satS 24 eb * satS 24 eb).toNat : Int)
  let eps := roundShift 15 (-satS 24 ea * cosT (ang24to16 x.thp) - satS 24 eb * sinT (ang24to16 x.thp))
  let epsn := (if x.wh < 0 then -satS 24 eps else satS 24 eps) * 8388608 / max (satS 24 mag) 32768
  let wh := x.wh + mulG (c .obsKi) (c .obsKiSh) (satS 24 epsn)
  { ra := ra, rb := rb, ea := ea, eb := eb, mag := mag, eps := eps, epsn := epsn, wh := wh
    wp := satS 24 wh + mulG (c .obsKp) (c .obsKpSh) (satS 24 epsn), lag := mulG (c .obsKtau) (c .obsKtauSh) (satS 24 wh) }

/-- The equations of R302. Also ε_n. -/
def ObsAxis.equations (x : ObsAxis) (c : Cf → Int) (va vb al be : Int) : ObsAxis × Int :=
  let r := x.raw c va vb al be
  let wh := satS 24 r.wh
  let thp := (x.thp + kwAngle c (satS 24 r.wp)) % 16777216
  let theta := ang24to16 (thp + sgn24 ((atan2Q 24 (satS 24 r.lag) 8388608 : Nat) : Int) + kwAngle c wh / 2)
  ({ x with ea := satS 24 r.ea, eb := satS 24 r.eb, wh := wh, thp := thp, iaP := al * 256, ibP := be * 256, mag := satS 24 r.mag
            theta := theta }, satS 24 r.epsn)

/-- A good cycle (R304). -/
def ObsAxis.isGood (x : ObsAxis) (c : Cf → Int) (epsn : Int) : Bool :=
  let r : Int := uq115 x.mag (keMag c x.wh)
  decide (c .obsWmin * 256 ≤ (x.wh.natAbs : Int)) && decide ((epsn.natAbs : Int) ≤ c .obsEpsmax * 256)
    && decide (c .obsRlo ≤ r) && decide (r ≤ c .obsRhi)

/-- The confidence of a cycle that is not blind (R304). -/
def ObsAxis.confide (x : ObsAxis) (good : Bool) : ObsAxis :=
  if good then { x with conf := min 255 (x.conf + 1), good := (x.wh :: x.good).take 16 }
  else { x with conf := x.conf - 8 }

/-- A blind cycle (R303). -/
def ObsAxis.blind (x : ObsAxis) (c : Cf → Int) : ObsAxis :=
  let thp := (x.thp + kwAngle c x.wh) % 16777216
  { x with thp := thp, theta := ang24to16 ((x.theta : Int) * 256 + kwAngle c x.wh), blindRun := x.blindRun + 1 }

/-- OBSERVE of a cycle whose chain runs: the estimate and the confidence (R302 to R304). In PRESET's cycle the estimate stands at what
R311 has set for its S. A cycle that is blind for its voltage alone still keeps its currents (DEDUCED, log entry 70). -/
def ObsAxis.estimate (x : ObsAxis) (c : Cf → Int) (al be : Int) : ObsAxis :=
  if x.sub = .preset then { x with iaP := al * 256, ibP := be * 256 }
  else match x.interval with
  | none => { (x.blind c) with iaP := al * 256, ibP := be * 256 }
  | some v =>
    let (y, epsn) := x.equations c v.1 v.2 al be
    { (y.confide (y.isGood c epsn)) with blindRun := 0 }

/-- θ_out = angle in use + KW × ω × λ, λ = (t_U + T_cyc ÷ 2) ÷ T_cyc (R271, R302). -/
def obsThout (c : Cf → Int) (theta : Int) (wh : Int) (tU tcyc : Nat) : Nat :=
  if tcyc = 0 then ang16 theta
  else ang24to16 (theta * 256 + kwAngle c wh * (2 * tU + tcyc) / (2 * tcyc))

/-- Locked (R304). -/
def ObsAxis.locked (x : ObsAxis) (c : Cf → Int) : Bool := decide (c .obsClock ≤ (x.conf : Int))
/-- Lost. -/
def ObsAxis.lost (x : ObsAxis) (c : Cf → Int) : Bool := decide ((x.conf : Int) < c .obsClose)

/-! ### The angle in use (R314, R318) -/

/-- Move one UQ0.24 angle toward another by at most 64 LSB of 2^−16; absent once they meet. -/
def approach (use target : Int) : Option Int :=
  let d := sgn24 (target - use)
  if d.natAbs ≤ 16384 then none else some ((use + sgn d * 16384) % 16777216)

/-- The angle in use of the cycle, UQ0.16. -/
def ObsAxis.angle (x : ObsAxis) : Int :=
  if x.sub = .align ∨ x.sub = .ramp then x.thcmd / 256
  else match x.thUse with | some u => u / 256 | none => x.theta

/-- The angle in use of the next cycle, where it turns on by `adv` and moves toward θ̂, which turns on by KW × ω̂: the 64 LSB of R314 and
R318 are a move relative to θ̂ (DEDUCED, log entry 70). -/
def ObsAxis.merge (x : ObsAxis) (c : Cf → Int) (adv : Int) : Option Int :=
  x.thUse.bind fun u => approach (u + adv) (x.theta * 256 + kwAngle c x.wh)

/-- Mean ω̂ of the last good cycles (R318). -/
def ObsAxis.meanGood (x : ObsAxis) : Int :=
  if x.good.isEmpty then x.wh else (x.good.foldl (· + ·) 0) / (x.good.length : Int)

/-- The commanded angle, the angle in use and the counts of one cycle (R313, R314, R318). -/
def ObsAxis.move (x : ObsAxis) (c : Cf → Int) (tcyc : Nat) : ObsAxis :=
  let top := x.dir * c .obsWHandoff * 256
  let inc := c .obsStAcc * 256 * tcyc / 4000000
  match x.sub with
  | .ramp =>
    let w := if x.dirNeg then max top (x.wcmd - inc) else min top (x.wcmd + inc)
    { x with wcmd := w, thcmd := (x.thcmd + kwAngle c w) % 16777216
             atSpeed := if w = top then x.atSpeed + 1 else 0 }
  | .handoff =>
    { x with thcmd := (x.thcmd + kwAngle c x.wcmd) % 16777216
             thUse := x.merge c (kwAngle c x.wcmd) }
  | .hold => { x with thUse := some ((x.thUse.getD (x.theta * 256) + kwAngle c x.wHold) % 16777216) }
  | .track => { x with thUse := x.merge c (kwAngle c x.wh) }
  | .other | .idle | .inhibit | .probe | .preset | .detect | .align | .wait => x

/-- i_d* of ALIGN, RAMP and HANDOFF (R312, R314). -/
def ObsAxis.idStar (x : ObsAxis) (c : Cf → Int) (tcyc : Nat) : Int :=
  let aln := msCycles (c .obsStAln) tcyc
  let mrg := msCycles (c .obsMerge) tcyc
  match x.sub with
  | .align => if aln ≤ 4 * x.cyc then c .obsStI else c .obsStI * (4 * x.cyc : Nat) / (aln : Int)
  | .ramp => c .obsStI
  | .handoff => if mrg ≤ x.cyc then 0 else c .obsStI * ((mrg - x.cyc : Nat) : Int) / (mrg : Int)
  | .other | .track | .hold | .idle | .inhibit | .probe | .preset | .detect | .wait => 0

/-- Rotate an integrator pair by Δ into the observer frame (R314). -/
def rotate (delta xd xq : Int) : Int × Int :=
  (roundShift 15 (xd * cosT delta - xq * sinT delta), roundShift 15 (xd * sinT delta + xq * cosT delta))

/-- Δ of R314 on entry to HANDOFF. -/
def ObsAxis.delta (x : ObsAxis) : Int := sgn16 (x.thcmd / 256 - x.theta)

/-- RAMP passes to HANDOFF (R313). -/
def ObsAxis.rampReady (x : ObsAxis) (c : Cf → Int) : Bool :=
  x.sub = .ramp && x.wcmd = x.dir * c .obsWHandoff * 256 && x.locked c
    && decide (((x.wh - x.wcmd).natAbs : Int) ≤ c .obsSliptol * 256)

/-- Enter HANDOFF: the angle in use starts at θ_cmd (R314). -/
def ObsAxis.enterHandoff (x : ObsAxis) : ObsAxis := { (x.enter .handoff) with thUse := some x.thcmd }

/-! ### Per-cycle transitions that follow an estimate (R309, R313 to R317) -/

/-- Failures of R315 that an estimate shows: 0 none. -/
def ObsAxis.failCode (x : ObsAxis) (c : Cf → Int) : Nat :=
  let rev := x.locked c && decide (sgn x.wh != x.dir)
  match x.sub with
  | .ramp =>
    if rev then 0x2
    else if x.locked c && decide (c .obsSliptol * 256 < ((x.wh - x.wcmd).natAbs : Int)) then 0x3 else 0
  | .handoff => if rev then 0x2 else if x.lost c then 0x3 else 0
  | .other | .track | .hold | .idle | .inhibit | .probe | .preset | .detect | .align | .wait => 0

/-- The low-speed rule of R317, for a set-point n* in Q15. -/
def ObsAxis.lowSpeed (x : ObsAxis) (c : Cf → Int) (nref : Int) : ObsAxis :=
  if x.sub = .track ∧ (x.wh.natAbs : Int) ≤ c .obsWHandoff * 256 then
    if nref * x.wh < 0 then { x.startAlign with dirNeg := decide (nref < 0), retries := 0 }
    else if (nref.natAbs : Int) ≤ c .obsWmin then { (x.enter .idle) with thUse := none }
    else x
  else x

/-- TRACK and HOLD after an estimate (R309, R318, R323). ω_h is formed on entry to HOLD (DEDUCED, log entry 70). -/
def ObsAxis.holdStep (x : ObsAxis) (c : Cf → Int) (axis : Nat) : ObsAxis × List Ev :=
  if x.sub = .track ∧ x.lost c then
    ({ (x.enter .hold) with wHold := x.meanGood, thUse := some (x.thUse.getD (x.theta * 256)) },
      [(evAxis EvNo.obsHold axis).limited axis])
  else if x.sub = .hold ∧ x.locked c then ({ (x.enter .track) with thUse := x.thUse }, [evAxis EvNo.obsRecovered axis])
  else if x.sub = .hold ∧ x.holdDue then ((x.enter .inhibit), [evAxis EvNo.obsLost axis])
  else (x, [])

/-- OBS_HOLD has passed in HOLD, or a blind run exceeds it (R303, R309, R319). -/
def ObsAxis.holdPassed (x : ObsAxis) (c : Cf → Int) (tcyc : Nat) : Bool :=
  let n := msCycles (c .obsHold) tcyc
  (x.sub = .hold && decide (n ≤ x.cyc)) || ((x.sub = .track || x.sub = .hold) && decide (n < x.blindRun))

/-- OBS_HOLD expires; in HOLD before the cycle's OBSERVE the decision waits for it (R323). -/
def ObsAxis.holdExpire (x : ObsAxis) (c : Cf → Int) (axis tcyc : Nat) (cycle : W32) : ObsAxis × List Ev :=
  if !x.holdPassed c tcyc then (x, [])
  else if x.sub = .hold ∧ x.blindRun = 0 ∧ x.seen ≠ some cycle then ({ x with holdDue := true }, [])
  else ({ (x.enter .inhibit) with thUse := none }, [evAxis EvNo.obsLost axis])

/-! ### Probes (R305 to R307) -/

/-- Outcomes of R306. -/
inductive Probe where
  | rest | inconsistent | keHigh | turning (keLow : Bool)
  deriving DecidableEq, Repr

/-- The values of R306: φ_2, im of each, d1, d2, wp (Q0.23), thp (UQ0.24), e_p (Q0.23), rp. -/
structure ProbeVals where
  im : List Int
  d1 : Int
  d2 : Int
  wp : Int
  thp : Int
  ep : Int
  rp : Nat
  emf : Int × Int

/-- Form the values of R306 from three probe currents in Q15; t_U and T_cyc of the probes' mode. -/
def probeVals (c : Cf → Int) (tU tcyc : Nat) (p0 p1 p2 : Int × Int) : ProbeVals :=
  let phi := fun (p : Int × Int) => (fbAngle (-p.2) (-p.1) : Int)
  let im := fun (p : Int × Int) => (isqrt (p.1 * p.1 + p.2 * p.2).toNat : Int)
  let d1 := sgn16 (phi p1 - phi p0)
  let d2 := sgn16 (phi p2 - phi p1)
  let kw := c .obsKw * (2 ^ (c .obsKwSh).toNat : Nat)
  let den := 2 * c .obsPrbG * kw
  let wp := if den ≤ 0 then 0 else satS 24 ((d1 + d2) * 8388608 * 65536 / den)
  let rest : Int := (tcyc : Int) - tU
  let adv := if tcyc = 0 then 0 else kwAngle c wp * rest / (2 * tcyc)
  let thp := (phi p2 * 256 - sgn wp * 0x400000 + adv) % 16777216
  let ep := if rest ≤ 0 then 0 else satS 24 (mulG (c .obsKl) (c .obsKlSh) (im p2 * 256) * tcyc / rest)
  { im := [im p0, im p1, im p2], d1 := d1, d2 := d2, wp := wp, thp := thp, ep := ep
    rp := uq115 ep (keMag c wp)
    emf := (if rest ≤ 0 then (0, 0) else
      (satS 24 (mulG (c .obsKl) (c .obsKlSh) (-p2.1 * 256) * tcyc / rest),
       satS 24 (mulG (c .obsKl) (c .obsKlSh) (-p2.2 * 256) * tcyc / rest))) }

/-- The outcome table of R306. -/
def probeOutcome (c : Cf → Int) (v : ProbeVals) : Probe :=
  let small := fun (i : Int) => decide (i < c .obsPrbImin)
  if v.im.all small || decide ((v.wp.natAbs : Int) < c .obsWmin * 256) then .rest
  else if v.im.any small || decide (sgn v.d1 * sgn v.d2 < 0)
      || decide (c .obsPrbTol < ((v.d1 - v.d2).natAbs : Int))
      || decide (0x6000 < v.d1.natAbs) || decide (0x6000 < v.d2.natAbs) then .inconsistent
  else if c .keChk = 1 && decide (c .keHi < (v.rp : Int)) then .keHigh
  else .turning (c .keChk = 1 && decide ((v.rp : Int) < c .keLo))

/-- The sequence's outcome on the axis (R306, R309, R322). -/
def ObsAxis.probeDone (x : ObsAxis) (c : Cf → Int) (axis tU tcyc : Nat) (nref : Int) : ObsRes :=
  match x.prb with
  | [p0, p1, p2] =>
    let v := probeVals c tU tcyc p0 p1 p2
    match probeOutcome c v with
    | .rest => { x := { x.startAlign with dirNeg := if x.sub = .probe then decide (nref < 0) else x.dirNeg } }
    | .inconsistent => x.fail c axis 0x5
    | .keHigh =>
      { x := { (x.enter .other) with probeR := v.rp, keHigh := true, keLow := false, retries := 0 }
        evs := [evAxis EvNo.keHigh axis, evAxis EvNo.startFailed axis], fault := true }
    | .turning low =>
      { x := { (x.enter .preset) with probeR := v.rp, keLow := low, keHigh := false, prbReact := low
                                      wp := v.wp, thp := v.thp, ep := v.ep, emf := v.emf }
        evs := if low then [evAxis EvNo.keLow axis] else [] }
  | _ => { x := x }

/-- PRESET of an observer axis, `n` cycles after probe 3 (R311). Also x_d and x_q, Q15. The blind cycles of the probing are no run of
TRACK (R303). -/
def ObsAxis.presetObs (x : ObsAxis) (c : Cf → Int) (n : Nat) : ObsAxis × Int × Int :=
  let thp := (x.thp + kwAngle c x.wp * n) % 16777216
  let xq := sgn x.wp * x.ep - mulG (c .ke) (c .keSh) x.wp
  ({ x with thp := thp, theta := ang24to16 thp, wh := x.wp, ea := x.emf.1, eb := x.emf.2
            conf := (c .obsClock).toNat, thUse := none, blindRun := 0 }, 0, xq / 256)

/-- PRESET completes (R309, R322). -/
def ObsAxis.presetDone (x : ObsAxis) (c : Cf → Int) (axis : Nat) (observer : Bool) : ObsRes :=
  { x := { (x.enter (if observer then .track else .other)) with
            prbReact := false, retries := if observer then 0 else x.retries }
    evs := [evAxis EvNo.catchDone axis]
    react := if x.prbReact then (c .keReact).toNat else 0 }

/-! ### Back-EMF constant (R321, R322) -/

/-- e of the check on an observer axis (R321): mag with the sign of the EMF's q component. -/
def ObsAxis.emfQ (x : ObsAxis) : Int :=
  sgn (x.eb * cosT x.theta - x.ea * sinT x.theta) * x.mag

/-- A valid cycle of the check adds to both sums; ω and e in Q0.23. -/
def ObsAxis.keAdd (x : ObsAxis) (c : Cf → Int) (w e : Int) : ObsAxis :=
  if x.keN < 1024 then { x with sk := x.sk + keMag c w, se := x.se + e * sgn w, keN := x.keN + 1 } else x

/-- After 1,024 valid cycles: RATIO and its thresholds. -/
def ObsAxis.keWindow (x : ObsAxis) (c : Cf → Int) (axis : Nat) : ObsRes :=
  if x.keN < 1024 then { x := x }
  else
    let r := uq115 x.se x.sk
    let low := decide ((r : Int) < c .keLo)
    let high := decide (c .keHi < (r : Int))
    { x := { x with ratio := r, sk := 0, se := 0, keN := 0, keLow := low, keHigh := high
                    outLow := low, outHigh := high }
      evs := if low && !x.outLow then [evAxis EvNo.keLow axis]
        else if high && !x.outHigh then [evAxis EvNo.keHigh axis] else []
      react := if low || high then (c .keReact).toNat else 0 }

/-- e of the check on an encoder axis (R321), Q15 inputs. -/
def keEmf (c : Cf → Int) (vq iq id w : Int) : Int :=
  sat16 (vq - mulG (c .obsKr) (c .obsKrSh) iq - mulG (c .kwD) (c .kwDSh) (mulQ w id))

/-! ### Clearing (R324, R325) -/

/-- Every reset clears the state of the chapter. -/
def ObsAxis.cleared : ObsAxis := {}

/-- Leaving PARKED (R325): the flag says the axis is an observer axis. -/
def ObsAxis.unpark (x : ObsAxis) (nref : Int) : ObsAxis :=
  if x.sub.code = 0 then x else x.startDetect nref

/-- A PARC in the observer state (R326): the estimate and C are cleared. -/
def ObsAxis.parc (x : ObsAxis) (axis : Nat) : ObsAxis × List Ev :=
  let y := { x with ea := 0, eb := 0, wh := 0, thp := 0, iaP := 0, ibP := 0, mag := 0, theta := 0, conf := 0, good := [] }
  if x.sub = .track ∨ x.sub = .hold then ({ (y.enter .inhibit) with thUse := none }, [evAxis EvNo.obsLost axis]) else (y, [])

/-! ### Registers (R328) -/

/-- COMMUTE_AX_OBS. -/
def ObsAxis.obsWord (x : ObsAxis) : W32 :=
  w32 (x.sub.code + 16 * (x.retries % 8) + 128 * b2n x.dirNeg + 256 * (x.reason % 16) + 4096 * b2n x.keLow
    + 8192 * b2n x.keHigh + 65536 * x.conf)
/-- COMMUTE_AX_OBSW. -/
def ObsAxis.obswWord (x : ObsAxis) : W32 := w32 ((x.wh / 256 % 65536).toNat + 65536 * x.theta)
/-- COMMUTE_AX_KE. -/
def ObsAxis.keWord (x : ObsAxis) : W32 := w32 (x.ratio + 65536 * x.probeR)

end Sys2Proof.Machine
end

