-- ==== Sys2Proof/Machine/Law.lean ====
section
/-! DEFINITION. Machine/Law.lean: the law library as one function from a task's inputs to its write
sequence (R343 to R353, with the current law of R276 and the Gauntlet's guard commands of R490). -/

namespace Sys2Proof.Machine

/-- Inputs of a LAW task. -/
structure LawIn where
  c      : Cf → Int
  cycle  : W32
  state  : AxState
  sub    : ObsSub
  /-- Set-point of the curve module (R290). -/
  curveN : Int
  /-- The axis releases duties this cycle (R283). -/
  hasOut : Bool
  parked : Bool
  safety : Bool
  /-- i_d* of the offset search or of a start (R287, R312 to R314). -/
  idSeq  : Int
  /-- The axis's words. -/
  w      : Nat → W32

/-- Results: the stores in program order, the sticky S, and the beats (R343). -/
structure LawOut where
  writes : List WEnt
  sat    : Bool
  beats  : Nat

/-- A F16 store. -/
def entF16 (off : Nat) (x : Int) : List WEnt := [{ off := off, val := wF16 x, fmt := .f16 }]
/-- An I32 store. -/
def entI32 (off : Nat) (x : Int) : List WEnt := [{ off := off, val := w32i x, fmt := .i32 }]
/-- A 48-bit pair. -/
def entPair (off : Nat) (x : Int) : List WEnt :=
  [{ off := off, val := (wPair 48 x).1, fmt := .i32 }, { off := off + 4, val := (wPair 48 x).2, fmt := .i32 }]
/-- An A40 store. -/
def entA40 (off : Nat) (x : Int) : List WEnt :=
  [{ off := off, val := (wPair 40 x).1, fmt := .a40 }, { off := off + 4, val := (wPair 40 x).2, fmt := .a40 }]

/-- A loop with divider `d` runs in cycle c (R66). A divider or phase outside the rule's range is used as it stands: d ≤ 1 as 1,
any other d as the modulus. DESIGN CHOICE (log entry 68). -/
def loopDue (c : Cf → Int) (cycle : W32) (d : Int) : Bool :=
  if d ≤ 1 then true else ((cycle.toNat : Int) - c .divPhi) % d = 0

/-! ### The guard (R346 to R348, R490) -/

/-- Guard state. -/
structure Guard where
  pg : Int
  vg : Int
  ag : Int

/-- The guard's result: the state and gv, ga, gj. -/
structure GuardOut where
  g  : Guard
  gv : Bool
  ga : Bool
  gj : Bool

/-- SAFE_CMD bits (R560). -/
def safeStop (c : Cf → Int) : Bool := natBit (c .safeCmd).toNat 0
/-- LIM. -/
def safeLim (c : Cf → Int) : Bool := natBit (c .safeCmd).toNat 1
/-- HOLD. -/
def safeHold (c : Cf → Int) : Bool := natBit (c .safeCmd).toNat 2

/-- The guard's speed limit (R346, R490). -/
def guardVmax (c : Cf → Int) (degraded : Bool) : Int :=
  let v := if degraded then min (c .gdVmax) (c .dgVmax) else c .gdVmax
  if safeLim c then min v (c .safeVsp) else v

/-- vin of R346, replaced by the Gauntlet's commands under R490. -/
def guardInput (c : Cf → Int) (mode : Int) (g : Guard) (pin nin : Int) : Int :=
  if safeHold c then (if mode = 2 then wrapS 48 (c .safePosref * 65536 - g.pg) else 0)
  else if safeStop c then 0
  else if mode = 2 then wrapS 48 (pin - g.pg) else nin

/-- One cycle of the guard (R346). -/
def Guard.step (g : Guard) (c : Cf → Int) (degraded : Bool) (vin : Int) : GuardOut :=
  let vmax := guardVmax c degraded
  let jin := vin - g.vg - g.ag
  let j := clampI (-(c .gdJmax)) (c .gdJmax) jin
  let a := clampI (-(c .gdAmax)) (c .gdAmax) (g.ag + j)
  let v := clampI (-vmax) vmax (g.vg + a)
  { g := { pg := wrapS 48 (g.pg + v), vg := v, ag := a }
    gj := j != jin, ga := a != g.ag + j, gv := v != g.vg + a }

/-- Guard presets of R348. -/
def guardPreset (c : Cf → Int) (w : Nat → W32) : Guard :=
  { pg := wrapS 48 ((w oPos).toInt * 65536)
    vg := if c .cmtSrc = 0 then (w oVel).toInt else rF16 (w oOmega) * 65536
    ag := 0 }

/-- Store the guard state. -/
def Guard.store (g : Guard) : List WEnt := entPair oPg g.pg ++ entI32 oVg g.vg ++ entI32 oAg g.ag
/-- Load the guard state. -/
def Guard.load (w : Nat → W32) : Guard :=
  { pg := rPair 48 (w oPg) (w (oPg + 4)), vg := (w oVg).toInt, ag := (w oAg).toInt }

/-! ### Position and speed loops (R349, R350) -/

/-- A guard speed as a speed reference: by KOMEGA, or Q15.16 to Q15 for an observer axis. -/
def guardOmega (c : Cf → Int) (v : Int) : Int × Bool :=
  if c .cmtSrc = 0 then omegaOf c v else (sat16 (v / 65536), outS 16 (v / 65536))

/-- The position loop: e, ferr, nref and a saturation. -/
def posLoop (c : Cf → Int) (g : Guard) (pos : W32) : Int × Bool × Int × Bool :=
  let e := wrapS 48 (g.pg - pos.toInt * 65536)
  let lim := c .feMax * 65536
  let eq := e / (2 ^ (c .plEsh).toNat : Nat)
  let (wff, s1) := omegaOf c g.vg
  let n := mulG (c .kpp) (c .kppSh) (sat16 eq) + mulG (c .kvff) (c .kvffSh) wff
  (e, decide (lim < e) || decide (e < -lim), sat16 n, s1 || outS 16 eq || outS 16 n)

/-- Results of the speed loop. -/
structure SpeedOut where
  iq   : Int
  xw   : Int
  ilim : Bool
  wind : Bool
  sat  : Bool

/-- The speed loop (R350); xw has 15 further fraction bits. -/
def speedLoop (c : Cf → Int) (iqlim nref w ag xw : Int) : SpeedOut :=
  let ew := sat16 (nref - w)
  let (aff, s1) := guardOmega c ag
  let u := mulG (c .kpW) (c .kpWSh) ew + roundShift 15 xw + mulG (c .kaff) (c .kaffSh) aff
  let iq := clampI (-iqlim) iqlim u
  let hold := iq != u && sgn ew = sgn u
  { iq := iq, ilim := iq != u, wind := hold, sat := s1 || outS 16 (nref - w)
    xw := if hold then xw
      else clampI (-(iqlim * 32768)) (iqlim * 32768) (xw + c .kiW * (2 ^ (c .kiWSh).toNat : Nat) * ew) }

/-- iqlim (R350). -/
def iqLimit (c : Cf → Int) (degraded : Bool) : Int := if degraded then min (c .lawIqmax) (c .dgIq) else c .lawIqmax

/-! ### Safety-speed checks (R353) -/

/-- SAFE_RES. -/
def safeRes (c : Cf → Int) (cycle : W32) (pos : W32) (vel : Int) (susp : Bool) : Nat :=
  let dp := (pos - w32i (c .safePosref)).toInt
  b2n (decide (c .safeVlim < vel) || decide (vel < -(c .safeVlim)))
    + 2 * b2n ((decide (0 < c .safeDir) && decide (vel < -(c .safeDtol))) ||
        (decide (c .safeDir < 0) && decide (c .safeDtol < vel)))
    + 4 * b2n (decide (c .safePwin < dp) || decide (dp < -(c .safePwin)))
    + 8 * b2n susp + 256 * (cycle.toNat % 256)

/-! ### The task -/

/-- References and flags that modules 3 to 5 leave. -/
structure Refs where
  writes : List WEnt := []
  id     : Int
  iq     : Int
  flags  : Nat := 0
  sat    : Bool := false
  beats  : Nat := 0

/-- Modules 2 to 5 in AX_RUN and AX_DEGRADED (R346, R349 to R351). -/
def lawLoops (i : LawIn) : Refs :=
  let c := i.c
  let degraded := decide (i.state = .degraded)
  let iqlim := iqLimit c degraded
  let mode := c .lawMode
  let idHeld := rF16 (i.w oIdref)
  let iqHeld := rF16 (i.w oIqref)
  if mode = 0 then
    { id := c .lawIdref
      iq := if safeStop c then 0 else clampI (-iqlim) iqlim (rF16 (i.w oTqIn)) }
  else
    let g := Guard.load i.w
    let crv := mulG (c .knmax) (c .knmaxSh) i.curveN
    let nin := if mode = 3 then sat16 crv * 65536 else (i.w oNin).toInt
    let o := g.step c degraded (guardInput c mode g (rPair 48 (i.w oPin) (i.w (oPin + 4))) nin)
    let fl := 8 * b2n o.gv + 16 * b2n o.ga + 32 * b2n o.gj
    let (ps, nref, s1, ferr, posRuns) :=
      if mode = 2 then
        if loopDue c i.cycle (c .divP) then
          let (e, fe, n, s) := posLoop c o.g (i.w oPos)
          (entPair oEpos e, n, s, fe, true)
        else ([], rF16 (i.w oNref), false, false, false)
      else
        let (n, s) := guardOmega c o.g.vg
        ([], n, s, false, false)
    let base : List WEnt := o.g.store ++ ps ++ entF16 oNref nref
    let b := (if mode = 3 then 48 else 0) + 96 + (if posRuns then 64 else 0)
    let fl := fl + 128 * b2n ferr
    if i.sub = .hold then
      { writes := base, id := 0, iq := clampI (-(c .obsHoldIq)) (c .obsHoldIq) iqHeld, flags := fl, sat := s1, beats := b }
    else if loopDue c i.cycle (c .divS) then
      let sp := speedLoop c iqlim nref (rF16 (i.w oOmega)) o.g.ag (rPair 40 (i.w oXw) (i.w (oXw + 4)))
      { writes := base ++ entA40 oXw sp.xw, id := c .lawIdref, iq := sp.iq
        flags := fl + 64 * b2n sp.ilim + 512 * b2n sp.wind
        sat := s1 || sp.sat || (mode = 3 && outS 16 crv), beats := b + 88 }
    else { writes := base, id := idHeld, iq := iqHeld, flags := fl, sat := s1, beats := b }

/-- References of AX_ALIGN, AX_START and AX_CATCH (R286, R310 to R314, R351). -/
def lawSeq (i : LawIn) : Refs :=
  if i.state = .align then { id := i.idSeq, iq := 0 }
  else if i.sub = .handoff then { id := i.idSeq, iq := sat16 (roundShift 15 (rPair 40 (i.w oXw) (i.w (oXw + 4)))) }
  else if i.sub = .align ∨ i.sub = .ramp then { id := i.idSeq, iq := 0 }
  else { id := 0, iq := 0 }

/-- Module 6: the current law with its stores (R276). -/
def lawCurrent (i : LawIn) (id iq : Int) : List WEnt × Bool × Bool :=
  let o := currentLaw i.c
    { id := rF16 (i.w oId), iq := rF16 (i.w oIq), idref := id, iqref := iq, w := rF16 (i.w oOmega)
      udc15 := rF16 (i.w oUdc), xd := rPair 40 (i.w oXd) (i.w (oXd + 4)), xq := rPair 40 (i.w oXq) (i.w (oXq + 4)) }
  (entF16 oVd o.vd ++ entF16 oVq o.vq ++ entA40 oXd o.xd ++ entA40 oXq o.xq ++
    entI32 oCmtFlags ((((i.w oCmtFlags) ||| w32 (2 ^ cClamp * b2n o.clamp + 2 ^ cSat * b2n o.sat)).toNat : Nat) : Int),
    o.sat, o.wind)

/-- Modules 7 and 8. -/
def lawTail (i : LawIn) : List WEnt × Nat :=
  if i.safety then
    (entI32 oSafeRes (safeRes i.c i.cycle (i.w oPos) (i.w oVel).toInt (bit (i.w oFlags) 8)), 64)
  else ([], 0)

/-- The presets of R352. -/
def lawPresets (i : LawIn) : List WEnt :=
  (guardPreset i.c i.w).store ++ entA40 oXw 0 ++ entF16 oNref 0 ++ entF16 oIdref 0 ++ entF16 oIqref 0

/-- A LAW task of the law library (R343). -/
def lawTask (i : LawIn) : LawOut :=
  let (tail, tb) := lawTail i
  if i.parked || i.state = .off || i.state = .opened || i.state = .halt || i.state = .fault then
    { writes := lawPresets i ++ tail ++ entF16 oLawFlags (256 * b2n (i.c .lawPaired = 1) : Nat)
      sat := false, beats := 24 + tb + 36 }
  else
    let r := if i.state = .run || i.state = .degraded then lawLoops i else lawSeq i
    let refs : List WEnt := entF16 oIdref r.id ++ entF16 oIqref r.iq
    let (cur, cs, wind) := if i.hasOut then lawCurrent i r.id r.iq else ([], false, false)
    let sat := r.sat || cs
    let fl := r.flags ||| 512 * b2n wind ||| 256 * b2n (i.c .lawPaired = 1) ||| b2n sat
    { writes := r.writes ++ refs ++ cur ++ tail ++ entF16 oLawFlags fl
      sat := sat, beats := 24 + r.beats + (if i.hasOut then 176 else 0) + tb + 36 }

end Sys2Proof.Machine
end

