-- ==== Sys2Proof/Machine/Axis.lean ====
section
/-! DEFINITION. Machine/Axis.lean: the axis states of the chip as a whole: faults, halts, reactions, the
sequences that a state change ends, presets, and the host's state commands (R286 to R289, R309 to R315, R323,
R348, R352, R354 to R364, R496 to R500). -/

namespace Sys2Proof.Machine

/-- The axis has an observer source. -/
def Core.isObs (c : Core) (a : Nat) : Bool := c.cf a .cmtSrc = 1 || c.cf a .cmtSrc = 2

/-- The axis is safety-rated: its node carries a safety record and the axis has a group (R474, R479). -/
def Core.safetyRated (c : Core) (a : Nat) : Bool :=
  ((c.is (c.imgAx a).seg).nodes.look (c.imgAx a).pos {}).safety && (c.image.gs.axis.look? a).isSome

/-! ### Words set on a state entry (R310, R311, R314, R348, R352) -/

/-- Store entries of the LAW formats as committed words. -/
def Core.storeEnts (c : Core) (a : Nat) (es : List WEnt) : Core := c.commitBuf a es

/-- The presets of AX_RUN and PRESET: guard at the measured state, speed-loop integrator and held outputs 0. -/
def Core.presetLaw (c : Core) (a : Nat) : Core :=
  c.storeEnts a ((guardPreset (c.cf a) (c.word a)).store ++ entA40 oXw 0 ++ entF16 oNref 0 ++ entF16 oIdref 0 ++ entF16 oIqref 0)

/-- Current-loop integrators in Q15, kept with 15 further fraction bits. -/
def Core.presetCur (c : Core) (a : Nat) (xd xq : Int) : Core :=
  c.storeEnts a (entA40 oXd (xd * 32768) ++ entA40 oXq (xq * 32768))

/-- Entry to HANDOFF: integrators rotated by Δ, the speed loop's output preset to OBS_ST_I × sin Δ (R314). -/
def Core.presetHandoff (c : Core) (a : Nat) : Core :=
  let d := (c.ob a).delta
  let (xd, xq) := rotate d (rPair 40 (c.word a oXd) (c.word a (oXd + 4))) (rPair 40 (c.word a oXq) (c.word a (oXq + 4)))
  let c' := c.storeEnts a (entA40 oXd xd ++ entA40 oXq xq ++ entA40 oXw (mulQ (c.cf a .obsStI) (sinT d) * 32768)
    ++ (guardPreset (c.cf a) (c.word a)).store)
  c'.updOb a ObsAxis.enterHandoff

/-! ### Ends of sequences -/

/-- The offset search ends with nothing written; the Gauntlet's end carries reason 0x8 (R289). -/
def Core.endAlign (c : Core) (a : Nat) (gauntlet : Bool) : Core :=
  if (c.fa a).align.step = .idle then c
  else if gauntlet then
    (c.updFa a fun x => { x with align := { ({} : AlignSt) with reason := 0x8 } }).raise [evAxis EvNo.alignFailed a 0x8]
  else c.updFa a fun x => { x with align := { ({} : AlignSt) with reason := x.align.reason } }

/-- A curve axis outside its run is in STOPPED with its set-point 0 (R291). -/
def Core.resetCurve (c : Core) (a : Nat) : Core :=
  c.updFa a fun x => { x with curve := if c.cf a .cmtSrc = 2 then .stopped else .none, curveN := 0, curveFree := true }

/-- Leave AX_DEGRADED: its timer stops. -/
def Core.endDegraded (c : Core) (a : Nat) : Core :=
  if (c.ax a).state = .degraded then c.updGa a fun g => { g with degDue := none } else c

/-! ### AX_FAULT and AX_HALT (R362, R364, R478, R498) -/

/-- Record a cause on an axis already in AX_FAULT: of one cycle the origin nearest the top, else the newest. -/
def AxisState.recause (x : AxisState) (cause pcode : Nat) : AxisState :=
  if x.causesNow.isEmpty then { x with cause := cause, pcode := pcode }
  else if cause < x.cause then { x with cause := cause, pcode := pcode, causesNow := cause :: x.causesNow }
  else { x with causesNow := cause :: x.causesNow }

/-- An axis goes to AX_FAULT: sequences end, the cause is recorded, EV_AX_FAULT is raised and the Gauntlet
applies FLT_REACT at its next evaluation. -/
def Core.axisFault (c : Core) (a cause : Nat) (pcode : Nat := 0) : Core :=
  if !c.hasAx a then c
  else if (c.ax a).state = .fault then c.updAx a fun x => x.recause cause pcode
  else
    let c := (c.endAlign a (cause = 7)).endDegraded a
    let c := c.updOb a fun x => if x.sub = .other then x else if cause = 7 then x.endGauntlet else x.endQuiet
    let c := c.updAx a fun x => { x with state := .fault, cause := cause, pcode := pcode, causesNow := [cause], openDue := false }
    let c := c.updGa a fun g => { g with react := some (g.react.getD gcReact) }
    (c.resetCurve a).raise [evAxis EvNo.axFault a cause]

/-- A Gauntlet action takes an axis to AX_FAULT within the cycle (R415). -/
def Core.gauntletFault (c : Core) (a cause : Nat) : Core := (c.axisFault a cause).gauntletCancel a

/-- An axis goes to AX_HALT, unless it is in AX_OFF, AX_HALT or AX_FAULT; what remains of its chain is
cancelled (R415, R478). -/
def Core.axisHalt (c : Core) (a : Nat) : Core :=
  let s := (c.ax a).state
  if !c.hasAx a || s = .off || s = .halt || s = .fault then c
  else
    let c := (c.endAlign a true).endDegraded a
    let c := c.updOb a fun x => if x.sub = .other then x else x.endGauntlet
    let c := c.updAx a fun x => { x with state := .halt, openDue := false }
    (c.resetCurve a).gauntletCancel a

/-- An axis returns to AX_OPEN quietly (R323, R354). -/
def Core.axisOpen (c : Core) (a : Nat) : Core :=
  let c := (c.endAlign a false).endDegraded a
  let c := c.updOb a fun x => if x.sub = .other then x else x.endQuiet
  (c.updAx a fun x => { x with state := .opened, openDue := false }).resetCurve a

/-! ### Reactions (R246, R322, R347, R349, R459, R499) -/

/-- Degraded cause bits (R499). -/
abbrev dgSusp : Nat := 1
/-- KE. -/
abbrev dgKe : Nat := 2
/-- FE. -/
abbrev dgFe : Nat := 4
/-- GD. -/
abbrev dgGd : Nat := 8
/-- MLOST. -/
abbrev dgMlost : Nat := 16
/-- LIM. -/
abbrev dgLim : Nat := 32

/-- A reaction of AX_DEGRADED: the cause bit is set, and an axis in AX_RUN enters AX_DEGRADED (R499, R500). -/
def Core.degrade (c : Core) (a bitv : Nat) : Core :=
  let c := c.updGa a fun g => { g with deg := g.deg ||| bitv, feQuiet := if bitv = dgFe then 0 else g.feQuiet
                                       gdQuiet := if bitv = dgGd then 0 else g.gdQuiet }
  if (c.ax a).state = .run then
    let c := c.updAx a fun x => { x with state := .degraded }
    (c.updGa a fun g => g.degEnter (c.image.gs.axis.look a {}) c.now).raise [evAxis EvNo.gsDegraded a]
  else c

/-- A configured reaction: 0 none, 1 AX_DEGRADED, 2 AX_FAULT with a cause. -/
def Core.react (c : Core) (a code bitv cause : Nat) : Core :=
  if code = 1 then c.degrade a bitv else if code = 2 then c.axisFault a cause else c

/-- SUSPECT of an axis rose (R246): in AX_RUN, AX_CATCH and AX_START the event is raised and FBC_REACT applies. During a
search it fails the search (R289). -/
def Core.suspRose (c : Core) (a : Nat) : Core :=
  let s := (c.ax a).state
  if s = .run ∨ s = .catching ∨ s = .start then
    (c.raise [evAxis EvNo.fbSuspect a]).react a (c.cf a .fbcReact).toNat dgSusp 1
  else if s = .align ∧ ((c.fa a).align.step = .hold1 ∨ (c.fa a).align.step = .step ∨ (c.fa a).align.step = .hold2) then
    c.updFa a fun x => { x with align := x.align.fail 0x4 c.now }
  else c

/-- SUSPECT of an axis fell, which its source has reported: the cause bit clears (R499). -/
def Core.suspFell (c : Core) (a : Nat) : Core := c.updGa a fun g => { g with deg := g.deg &&& (63 - dgSusp) }

/-! ### Observer and start sequences (R308, R309) -/

/-- The axis state that a sub-state belongs to. -/
def ObsSub.state (s : ObsSub) (cur : AxState) : AxState :=
  match s with
  | .track | .hold | .idle => if cur = .degraded then .degraded else .run
  | .inhibit | .probe | .preset => .catching
  | .detect | .align | .ramp | .handoff | .wait => .start
  | .other => if cur = .catching then .run else cur

/-- The axis state follows the sub-state; entries to HOLD are counted, a curve axis that comes back to AX_RUN is in
RUNNING, and entry to ALIGN clears the integrators (R291, R312, R328). -/
def Core.followSub (c : Core) (a : Nat) (before : ObsSub) : Core :=
  let s := (c.ob a).sub
  if s = before then c
  else
    let st := s.state (c.ax a).state
    let back := (c.ax a).state != .run && (c.ax a).state != .degraded && st = .run
    let c := if st = .run || st = .degraded then c else c.endDegraded a
    let c := c.updAx a fun x => { x with state := st }
    let c := if s = .hold then { c with obsCnt := halfInc c.obsCnt 0 } else c
    let c := if back && c.cf a .cmtSrc = 2 then
        c.updFa a fun x => { x with curve := .running, curveAt := c.cycle.rtS, curveFree := false }
      else c
    let c := if s = .align then c.presetCur a 0 0 else c
    if s = .track && before != .hold && c.cf a .cmtSrc != 0 && before != .preset && before != .handoff then c.presetLaw a else c

/-- Apply the result of a sequence step. -/
def Core.putObs (c : Core) (a : Nat) (r : ObsRes) (faultCause : Nat := 9) : Core :=
  let before := (c.ob a).sub
  let c := (c.updOb a fun _ => r.x).raise r.evs
  if r.fault then c.axisFault a faultCause
  else (c.followSub a before).react a r.react dgKe 0xA

/-- PRESET begins (R310, R311): an encoder axis starts from feedback, an observer axis from the probes, one cycle after
probe 3. -/
def Core.presetBegin (c : Core) (a : Nat) : Core :=
  if c.isObs a then
    let (x, xd, xq) := (c.ob a).presetObs (c.cf a) 1
    let c := c.updOb a fun _ => x
    let c := c.setWords a [(oTheta, w32 x.theta), (oOmega, wF16 (x.wh / 256))]
    (c.presetCur a xd xq).presetLaw a
  else (c.presetCur a 0 0).presetLaw a

/-! ### Host state commands (R354 to R356) -/

/-- The commands of ENGINE_AX_CMD. -/
def axCmdOf : Nat → Option AxCmd
  | 1 => some .openCmd | 2 => some .run | 3 => some .off | 4 => some .clearFault | _ => none

/-- The state permits the command (R354). -/
def AxCmd.from' (k : AxCmd) (s : AxState) : Bool :=
  match k with
  | .openCmd => s = .off || s = .align || s = .catching || s = .start || s = .run || s = .degraded
  | .run | .off => s = .opened
  | .clearFault => s = .fault

/-- The cause of a fault persists (R356 reason 0xA). -/
def Core.causePersists (c : Core) (a : Nat) : Bool :=
  !c.nodeAdm a || c.badCyc a || c.iso 2 (53 + a / 32)
    || match c.source a with
      | .channel n => c.iso 3 n || ((c.ch n).type = 4 || (c.ch n).type = 6) && c.iso 3 (16 + n)
      | .remote _ => c.iso 3 (24 + (c.imgAx a).seg)

/-- The conditions beyond the state, by command (R356). -/
def Core.cmdReason (c : Core) (a : Nat) (k : AxCmd) : Nat :=
  let x := c.ax a
  let low := c.parked || c.standby
  match k with
  | .run =>
    let f := c.fa a
    if !c.nodeAdm a || !c.segFormed a then 0x3
    else if !c.permits a then 0x4
    else if f.provisional (c.cf a) && !f.alnValid then 0x5
    else if c.cf a .cmtSrc = 0 && (c.susp a || c.badCyc a) then 0x6
    else if low then 0x7 else 0
  | .openCmd => if x.state = .off && low then 0x7 else 0
  | .off => 0
  | .clearFault => if c.causePersists a then 0xA else if c.standby then 0x7 else 0

/-- The first check of a command, when it is written: 0 where it is accepted. -/
def Core.cmdCheck (c : Core) (a code : Nat) : Nat :=
  match axCmdOf code with
  | none => 0x9
  | some k =>
    if !c.hasAx a || (c.slotOf a).isNone then 0x2
    else if (c.ax a).pend.isSome then 0x8
    else if !k.from' (c.ax a).state then 0x1
    else c.cmdReason a k

/-- ENGINE_CMD_STAT. -/
def cmdStatWord (a code result reason : Nat) : W32 := w32 (a % 256 + 256 * (code % 16) + 4096 * result + 65536 * (reason % 16))

/-- A write of ENGINE_AX_CMD (R354 to R356). -/
def Core.axCommand (c : Core) (a code : Nat) : Core :=
  let r := c.cmdCheck a code
  let put := fun (c : Core) (res : Nat) => { c with eng := { c.eng with cmdStat := cmdStatWord a code res r } }
  if r = 0 then (put c 1).updAx a fun x => { x with pend := axCmdOf code }
  else (put c 3).raise [evAxis EvNo.axCmdRefused a r]

/-- A run request takes effect (R309, R348). -/
def Core.runRequest (c : Core) (a : Nat) : Core :=
  if c.isObs a then
    let c := (c.updAx a fun x => { x with state := .run }).updOb a fun x => { (x.enter .idle) with retries := 0, thUse := none }
    let c := c.updFa a fun x =>
      if c.cf a .cmtSrc = 2 then { x with curve := .stopped, curveN := 0, curveFree := true, curveAt := c.cycle.rtS } else { x with curve := .none }
    (c.presetCur a 0 0).presetLaw a
  else if c.cf a .obsWcatch ≤ ((rF16 (c.word a oOmega)).natAbs : Int) then
    let c := (c.updAx a fun x => { x with state := .catching }).updOb a fun x => { (x.enter .preset) with cyc := 1 }
    c.presetBegin a
  else
    let c := (c.updAx a fun x => { x with state := .run }).updOb a fun x => x.enter .other
    (c.presetCur a 0 0).presetLaw a

/-- A pending command takes effect at the boundary, after a second check (R355, R364). -/
def Core.takeCommand (c : Core) (a : Nat) : Core :=
  match (c.ax a).pend with
  | none => c
  | some k =>
    let c := c.updAx a fun x => { x with pend := none }
    let newFault := k = .clearFault && !(c.ax a).causesNow.isEmpty
    let r := if newFault then 0xA else if !k.from' (c.ax a).state then 0x1 else c.cmdReason a k
    let put := fun (c : Core) (res : Nat) => { c with eng := { c.eng with cmdStat := cmdStatWord a k.code res r } }
    if r != 0 then (put c 3).raise [evAxis EvNo.axCmdRefused a r]
    else
      match k with
      | .openCmd => ((put c 2).axisOpen a).updGa a fun g => { g with hostOpen := g.stop = 1 }
      | .run => (put c 2).runRequest a
      | .off => (put c 2).updAx a fun x => { x with state := .off }
      | .clearFault => (put c 2).axisOpen a

/-! ### ALIGN (R286, R297) -/

/-- The ALIGN command. No axis leaves AX_OPEN before its segment is FORMED (R121); the reason code for that is the model's (DESIGN
CHOICE, log entry 66). -/
def Core.alignCommand (c : Core) (a : Nat) : Core :=
  let r := if (c.ax a).state != .opened then 0x1 else if c.cf a .cmtSrc != 0 then 0x2 else if !c.permits a || !c.segFormed a then 0x3 else 0
  if !c.hasAx a then c
  else if r != 0 then
    (c.updFa a fun x => { x with align := { x.align with reason := r } }).raise [evAxis EvNo.alignFailed a r]
  else
    let c := c.updAx a fun x => { x with state := .align }
    let c := c.updFa a fun x => { x with align := { step := .check, start := c.now, theta := 0x4000, reason := x.align.reason } }
    c.presetCur a 0 0

/-- CLR_ALIGN: clears ALNVALID and the found offset, in AX_OPEN alone. -/
def Core.clrAlign (c : Core) (a : Nat) : Core :=
  if c.hasAx a && (c.ax a).state = .opened then c.updFa a fun x => { x with alnValid := false, found := 0, thidx := none, thDue := false } else c

/-- The search returns the axis to AX_OPEN. -/
def Core.alignLeave (c : Core) (a : Nat) : Core :=
  let c := c.updAx a fun x => if x.state = .align then { x with state := .opened } else x
  c

/-- The search is done: the found offset is written, and its index-referenced value where an index is latched (R275,
R287). -/
def Core.alignDone (c : Core) (a : Nat) : Core :=
  let c := c.updFa a fun x =>
    let f := alignFound x.align.th1 x.align.th2
    { x with align := { reason := x.align.reason }, found := f, alnValid := true
             thDue := !x.idxSeen
             thidx := if x.idxSeen then some (thIdx (c.cf a) f x.p (c.word a oPos) (c.word a oIdx)) else x.thidx }
  (c.alignLeave a).raise [evAxis EvNo.alignDone a]

/-- The failed search has ramped down. -/
def Core.alignFailed (c : Core) (a : Nat) : Core :=
  let r := (c.fa a).align.reason
  ((c.updFa a fun x => { x with align := { ({} : AlignSt) with reason := r } }).alignLeave a).raise [evAxis EvNo.alignFailed a r]

end Sys2Proof.Machine
end

