-- ==== Sys2Proof/Machine/FrameBytes.lean ====
section
/-! DEFINITION. Machine/FrameBytes.lean: the bytes of what the head sends: frames, role records, drive records, safety records
and mailbox records (R113, R144 to R152, R171 to R173, R501). -/

namespace Sys2Proof.Machine

/-- Big-endian bytes of a number of 32 bits. -/
def be32 (x : Int) : List Byte := beBytes (w32i x)
/-- Big-endian 16 bits. -/
def be16 (x : Int) : List Byte := (be32 x).drop 2
/-- One byte. -/
def byte (n : Nat) : Byte := BitVec.ofNat 8 n
/-- Bytes followed by zeros, `n` in all. -/
def padTo (n : Nat) (bs : List Byte) : List Byte := (bs ++ List.replicate (n - bs.length) 0).take n

/-- A role record (R113). -/
def RoleRec.bytes (r : RoleRec) : List Byte :=
  let b := [0x51, 0xC1, byte r.rev, byte r.prio] ++ beBytes (hi32 r.uid) ++ beBytes (lo32 r.uid) ++ beBytes r.chk ++ be32 r.tcyc
    ++ [byte r.segs, byte r.state] ++ be16 r.seq ++ beBytes r.cycle
  b ++ beBytes (crc32c b)

/-- A downlink mailbox record (R172). -/
def DownRec.bytes (r : DownRec) : List Byte := padTo (8 * r.len) ([byte r.mtype, byte r.addr, byte r.len, byte r.tag] ++ r.body)

/-- CMD of a drive record (R151, R283, R284). -/
def Drive.cmd : Drive → Nat
  | .marker | .errMarker => 0
  | .inhibit b _ => 2 * b2n b
  | .duties b _ _ _ _ => 1 + 2 * b2n b

/-- DA, DB, DC and DBRK of a drive record (R151). -/
def Drive.values : Drive → List Nat
  | .marker | .errMarker => [0, 0, 0, 0]
  | .inhibit _ k => [0, 0, 0, k]
  | .duties _ x y z k => [x, y, z, k]

/-- A drive record for a destination in a cycle (R151). -/
def Drive.bytes (d : Drive) (dst : Nat) (cycle : W32) : List Byte :=
  [byte d.rtype, byte dst, byte d.cmd, cycle.extractLsb' 0 8] ++ d.values.flatMap (fun (v : Nat) => be16 (v : Int)) ++ [0, 0, 0, 0]

/-- A head-to-node safety record (R152, R501). -/
def SafetyOut.bytes (r : SafetyOut) (cycle : W32) : List Byte :=
  let en := byte (r.torque % 16 + 16 * (r.brake % 16))
  let b := [0x41, byte r.pos] ++ be16 r.scnt.toNat ++ [en, ~~~en, byte r.wd, 0] ++ beBytes cycle ++ be16 r.echo.toNat
    ++ List.replicate 6 0
  b ++ beBytes (crc32c (beBytes r.conn ++ b))

/-- FTYPE (R145). -/
def FrameKind.ftype : FrameKind → Byte
  | .sense => 0x5E | .drive => 0xD2 | .claim => 0xC5

/-- The header (R145). -/
def FrameOut.header (f : FrameOut) : List Byte :=
  [f.kind.ftype, byte (0x30 + 4 * (f.ring % 2) + f.seg % 4), byte (f.inForce % 8 + 16 * (((f.mode.map (·.1)).getD f.inForce) % 8)), 0]
    ++ beBytes f.cycle

/-- The downlink records of a frame (R144). -/
def FrameOut.records (f : FrameOut) : List Byte :=
  match f.kind with
  | .sense => List.replicate (32 * f.holders) 0
  | .drive => f.recs.flatMap fun e => e.2.bytes e.1 f.cycle
  | .claim => []

/-- The mailbox records, after what is left free for an IDENT record. -/
def FrameOut.mail (f : FrameOut) : List Byte := List.replicate f.gap 0 ++ f.mbx.flatMap DownRec.bytes

/-- The management region, 96 bytes (R144, R171). -/
def FrameOut.region (f : FrameOut) : List Byte :=
  match f.kind with
  | .drive => padTo 96 f.mail
  | .sense | .claim => padTo 32 ((f.role.map RoleRec.bytes).getD []) ++ padTo 64 f.mail

/-- The trailer without its FCRC (R146). -/
def FrameOut.trailer (f : FrameOut) : List Byte := [byte (f.phase % 4 + 4 * (f.gop.getD 0 % 4)), byte f.cdn, 0, 0]

/-- A frame on the wire, its FCRC last (R144, R147). -/
def FrameOut.bytes (f : FrameOut) : List Byte :=
  let b := f.header ++ f.records ++ f.region ++ f.safety.flatMap (fun r => r.bytes f.cycle) ++ f.trailer
  b ++ beBytes (crc32 b)

end Sys2Proof.Machine
end

