-- ==== Sys2Proof/Machine/Mailbox.lean ====
section
/-! DEFINITION. Machine/Mailbox.lean: credits, implied credits, downlink queues and the records of
the management mailbox (R171 to R178). -/

namespace Sys2Proof.Machine

/-- Pool credits outstanding, CRED_STAT.OUT (R178). -/
def SlotSeg.outCount (q : SlotSeg) : Nat := countP' (fun e => e.2.out) q.credits

/-- Implied credits outstanding, CRED_STAT.IOUT (R178). -/
def SlotSeg.ioutCount (q : SlotSeg) : Nat := q.implied.length

/-- The lowest free credit of the pool. -/
def SlotSeg.freeCredit (q : SlotSeg) (pool : Nat) : Option Nat :=
  (List.range pool).find? fun n => !(q.credits.look n {}).out

/-- Send a GRANT (R175): a free credit goes out to a node with its generation incremented. -/
def SlotSeg.sendGrant (q : SlotSeg) (n node purpose : Nat) (cycle : W32) : SlotSeg × DownRec :=
  let gen := ((q.credits.look n {}).gen + 1) % 16
  ({ q with credits := q.credits.put n { out := true, gen := gen, node := node, sent := cycle, purpose := purpose }
            grant := q.grant + 1 },
    { mtype := 0x02, addr := node, len := 1
      body := [BitVec.ofNat 8 (gen * 16 + n), BitVec.ofNat 8 purpose, 0, 0] })

/-- What a received record turned out to be: the first good copy, the second copy of the record accepted before (R99), with
whether it differs, or a stale one. -/
inductive Receipt where
  | first | second (differs : Bool) | stale
  deriving DecidableEq, Repr

/-- A record `r` that carries credit `n` with generation `gen` is received (R176): an outstanding credit of that generation
returns; the second copy of that record is compared and discarded (R99); any other record is stale and is discarded. -/
def SlotSeg.receiveCredit (q : SlotSeg) (n gen node : Nat) (r : List Byte) : SlotSeg × Receipt :=
  let c := q.credits.look n {}
  if c.gen = gen && c.node = node then
    if c.out then ({ q with credits := q.credits.put n { c with out := false, first := some r }, ret := q.ret + 1 }, .first)
    else match c.first with
      | some b => ({ q with credits := q.credits.put n { c with first := none } }, .second (b != r))
      | none => ({ q with stale := incWrap 8 q.stale }, .stale)
  else ({ q with stale := incWrap 8 q.stale }, .stale)

/-- An ACK of `node` for `mseq` is received (R177); its second copy is discarded (R99). -/
def SlotSeg.receiveAck (q : SlotSeg) (node mseq : Nat) : SlotSeg :=
  if q.implied.any fun i => i.node = node && i.mseq = mseq then
    { q with implied := q.implied.eraseP fun i => decide (i.node = node) && decide (i.mseq = mseq)
             acked := q.acked ++ [(node, mseq)], ret := q.ret + 1 }
  else if q.acked.contains (node, mseq) then { q with acked := q.acked.erase (node, mseq) }
  else { q with stale := incWrap 8 q.stale }

/-- Cycles since a record was sent. -/
def age (now sent : W32) : Nat := (now - sent).toNat

/-- EV_CREDIT_TIMEOUT, once per segment per window (R186). -/
def evCredTmo (seg : Nat) : Ev := (evSeg EvNo.creditTimeout seg).limited seg

/-- Return every pool credit whose time has passed (R176). -/
def SlotSeg.timeoutPool (q : SlotSeg) (seg tmo : Nat) (cycle : W32) : SlotSeg × List Ev :=
  let due := fun (c : Credit) => c.out && decide (tmo ≤ age cycle c.sent)
  let n := countP' (fun e => due e.2) q.credits
  ({ q with credits := q.credits.each fun _ c => if due c then { c with out := false } else c
            tmo := q.tmo + BitVec.ofNat 32 n },
    (List.replicate n (evCredTmo seg)))

/-- Return the implied credits whose time has passed: the record is retransmitted with the same
MSEQ, at most twice, in class 5; then the message fails (R177). -/
def SlotSeg.timeoutImplied (q : SlotSeg) (seg tmo : Nat) (cycle : W32) : SlotSeg × List Ev :=
  let due := q.implied.filter fun i => decide (tmo ≤ age cycle i.sent)
  let keep := q.implied.filter fun i => !decide (tmo ≤ age cycle i.sent)
  let again := due.filter fun i => decide (i.tries < 2)
  let fail := due.filter fun i => decide (2 ≤ i.tries)
  let q := { q with implied := keep, tmo := q.tmo + BitVec.ofNat 32 due.length
                    mbxFail := (q.mbxFail + fail.length) % 256 }
  let q := again.foldl (fun q i =>
    q.enqueue 5 { i.msg with addr := i.node, tries := i.tries + 1 }) q
  (q, due.map (fun _ => evCredTmo seg) ++ fail.map fun i => evNode EvNo.mbxFailed seg i.node)

/-- The nodes a record addresses: one, or every admitted node for 0xFF (R172). -/
def DownRec.dests (r : DownRec) (admitted : List Nat) : List Nat :=
  if r.addr = 0xFF then admitted else [r.addr]

/-- Does the record ask for acknowledgment (R172)? Bit 7 of TAG. -/
def DownRec.ackReq (r : DownRec) : Bool := natBit r.tag 7

/-- Put a record on the wire: an ACKREQ record grants an implied credit to each node it addresses,
counted in CRED_GRANT (R177). -/
def SlotSeg.sent (q : SlotSeg) (r : DownRec) (admitted : List Nat) (cycle : W32) : SlotSeg :=
  if r.ackReq then
    let ds := r.dests admitted
    { q with implied := q.implied ++ ds.map fun d =>
               { node := d, mseq := r.tag % 128, sent := cycle, tries := r.tries, msg := r }
             acked := q.acked.filter fun e => !(e.2 = r.tag % 128 && ds.contains e.1)
             grant := q.grant + BitVec.ofNat 32 ds.length }
  else q

/-- May the head of a class leave now? It must fit the space left; a GRANT needs a free credit, and implied credits must stay at or
below 255 (R175, R178). -/
def SlotSeg.mayLeave (q : SlotSeg) (r : DownRec) (pool : Nat) (admitted : List Nat) (space : Nat) : Bool :=
  decide (8 * r.len ≤ space) &&
    (!r.ackReq || decide (q.ioutCount + (r.dests admitted).length ≤ 255)) && (r.mtype != 0x02 || (q.freeCredit pool).isSome)

/-- A GRANT that waits in its class: its credit is assigned as it leaves. -/
def grantReq (node purpose : Nat) : DownRec := { mtype := 0x02, addr := node, len := 1, body := [0, BitVec.ofNat 8 purpose, 0, 0] }

/-- One record leaves its queue: a GRANT takes the lowest free credit, an ACKREQ record grants implied ones. -/
def SlotSeg.depart (q : SlotSeg) (r : DownRec) (pool : Nat) (admitted : List Nat) (cycle : W32) : SlotSeg × DownRec :=
  match decide (r.mtype = 0x02), q.freeCredit pool with
  | true, some n => q.sendGrant n r.addr (r.body.getD 1 0).toNat cycle
  | _, _ => (q.sent r admitted cycle, r)

/-- Records leaving from one class, first come first served, while they fit (R174). -/
def SlotSeg.drainClass (q : SlotSeg) (cls pool : Nat) (admitted : List Nat) (cycle : W32) :
    Nat → Nat → SlotSeg × Nat × List DownRec
  | 0, space => (q, space, [])
  | fuel + 1, space =>
    match q.queue.look cls [] with
    | [] => (q, space, [])
    | r :: t =>
      if q.mayLeave r pool admitted space then
        let (q, r) := ({ q with queue := q.queue.put cls t } : SlotSeg).depart r pool admitted cycle
        let (q, sp, rs) := q.drainClass cls pool admitted cycle fuel (space - 8 * r.len)
        (q, sp, r :: rs)
      else (q, space, [])

/-- The record being built from a class is lost to a parity fault: it leaves like one put on the wire, so that what asks for
acknowledgment, and the credit of a GRANT, come back by their timeout; a broadcast record is not sent again (R177, R182). -/
def SlotSeg.spoil (q : SlotSeg) (cls pool : Nat) (admitted : List Nat) (cycle : W32) : SlotSeg :=
  match q.queue.look cls [] with
  | [] => q
  | r :: t =>
    let q := { q with queue := q.queue.put cls t }
    if r.addr = 0xFF then q else (q.depart r pool admitted cycle).1

/-- A SLOTADJ of a position leaves (R160). -/
def SlotSeg.markAdj (q : SlotSeg) (rs : List DownRec) : SlotSeg :=
  rs.foldl (fun q r => if r.mtype = 0x09 then
    (q.updPort r.addr 0 fun k => { k with adjSent := true }).updPort r.addr 1 fun k => { k with adjSent := true }
    else q) q

/-- Fill `space` bytes of mailbox area class by class (R174). Where the head record of a class does not fit, or waits for a
credit, the lower classes may still use the space: DESIGN CHOICE (log entry 66). -/
def SlotSeg.fillClasses (q : SlotSeg) (pool : Nat) (admitted : List Nat) (cycle : W32) :
    List Nat → Nat → SlotSeg × Nat × List DownRec
  | [], space => (q, space, [])
  | c :: cs, space =>
    let (q, sp, a) := q.drainClass c pool admitted cycle 20 space
    let (q, sp, d) := q.fillClasses pool admitted cycle cs sp
    (q, sp, a ++ d)

/-- Fill the mailbox area of one frame. -/
def SlotSeg.fillArea (q : SlotSeg) (pool : Nat) (admitted : List Nat) (cycle : W32) (space : Nat) :
    SlotSeg × List DownRec :=
  let (q, _, rs) := q.fillClasses pool admitted cycle [1, 2, 3, 4, 5, 6, 7, 8, 9] space
  (q.markAdj rs, rs)

/-- Entry to STANDBY: every outstanding credit returns by timeout accounting at once (R181). -/
def SlotSeg.standby (q : SlotSeg) : SlotSeg :=
  { q with credits := q.credits.each fun _ c => { c with out := false }
           tmo := q.tmo + BitVec.ofNat 32 (q.outCount + q.ioutCount)
           implied := [], queue := [], acked := [] }

/-- LINK_SEG_CRED_STAT (R184). -/
def SlotSeg.credStat (q : SlotSeg) : W32 :=
  w32 (q.outCount % 32 + 256 * (q.stale % 256) + 65536 * (q.mbxFail % 256)
    + 16777216 * (q.ioutCount % 256))

end Sys2Proof.Machine
end

