-- ==== Sys2Proof/Machine/Ptp.lean ====
section
/-! DEFINITION. Machine/Ptp.lean: the two PTP domains of the plant ports (R197, R198, R203 to R208).
The state decisions that the manual leaves to IEEE 1588-2019 are marked in log entry 8. -/

namespace Sys2Proof.Machine

/-! ### Instance configuration, TIME_DOM_x_CFG (R222) -/

/-- ROLE: 0 disabled, 1 slave-only, 2 master-capable, 3 boundary clock. -/
def domRole (cfg : W32) : Nat := fld cfg 11 10
/-- Is a port used by the instance? PORT 0 PLA, 1 PLB, 2 both. -/
def domUses (cfg : W32) (port : Nat) : Bool := fld cfg 9 8 = 2 || fld cfg 9 8 = port
/-- ONESTEP. -/
def domOneStep (cfg : W32) : Bool := bit cfg 12
/-- P2P, which the 802.1AS option implies (R204). -/
def domP2p (cfg : W32) : Bool := bit cfg 13 || bit cfg 15

/-- The IEEE 802.1AS option (R204). -/
def domGptp (cfg : W32) : Bool := bit cfg 15
/-- Annex C transport; the 802.1AS option uses Annex E (R203, R204). -/
def domUdp (cfg : W32) : Bool := bit cfg 14 && !bit cfg 15

/-- The interval 2^LOGSYNC seconds in rt. -/
def logInterval (nibble : Nat) : Nat :=
  if nibble < 8 then secRt * 2 ^ nibble else secRt / 2 ^ (16 - nibble)

/-- portState of a port. -/
def PtpDomain.ps (d : PtpDomain) (port : Nat) : PState := if port = 0 then d.psA else d.psB

/-- EV_PTP_PORT_STATE, once per port per window (R224). -/
def evPtpState (port : Nat) : Ev := (evPort EvNo.ptpPortState (8 + port)).limited port

/-- Set a portState; a change raises EV_PTP_PORT_STATE. -/
def PtpDomain.setPs (d : PtpDomain) (port : Nat) (s : PState) : PtpDomain × List Ev :=
  if d.ps port == s then (d, [])
  else (if port = 0 then { d with psA := s } else { d with psB := s }, [evPtpState port])

/-- A correctionField rounded to the nearest rt: 1 rt is 2^14 units of 2^−16 ns (R206). -/
def corrRt (c : Int) : Int := roundShift 14 c

/-- correctionField on transmission: 0x4000 per rt beyond the whole nanoseconds (R206). -/
def txStamp (rt : Int) : Nat × Int := ((rt / 4 * 4).toNat, rt % 4 * 0x4000)

/-- The order of the best-master comparison: priority1, class, accuracy, variance, priority2,
identity, steps, sender. -/
def Announce.key (a : Announce) : List Nat :=
  [a.prio1, a.clkClass, a.accuracy, a.variance, a.prio2, a.gm.toNat, a.steps, a.sender.toNat]

/-- Lexicographic order of keys. -/
def lexLt : List Nat → List Nat → Bool
  | a :: as, b :: bs => if a < b then true else if b < a then false else lexLt as bs
  | _, _ => false

/-- `a` is a better master than `b`. -/
def Announce.better (a b : Announce) : Bool := lexLt a.key b.key

/-! ### Receiving -/

/-- Outcome of a domain operation: the domain, its base, events and what is transmitted. -/
structure DomOut where
  dom : PtpDomain
  base : TimeBase
  evs : List Ev := []
  tx  : List PtpTx := []

/-- Lose validity (R197). -/
def PtpDomain.invalidate (d : PtpDomain) (n : Nat) : PtpDomain × List Ev :=
  if d.valid then ({ d with valid := false, inWin := 0 }, [ev0 EvNo.domainInvalid n])
  else ({ d with inWin := 0 }, [])

/-- A complete Sync: precise t1 (with corrections) and t2 in domain time (R197, R206, R208). `n` is
the domain's number 1 or 2, `thr` VALID_THR in rt. -/
def domSync (d : PtpDomain) (b : TimeBase) (n thr : Nat) (now : Rt) (port : Nat) (t1 t2 : Int) : DomOut :=
  let meas := t2 - t1 - d.mpd
  let f := Config.ptpFilter d.offset meas
  let unc := d.ps port == .uncalibrated
  let big := decide (msRt < meas.natAbs)
  let b := (if unc && big then b.step (-meas) else b).setRate (clampI (-rateLimit) rateLimit (Config.domServo b.rho meas))
  let (d, e1) := if unc && !big then d.setPs port .slave else (d, [])
  let inw := d.ps port == .slave && decide (f.natAbs ≤ thr)
  let d := { d with offset := f, t1 := t1, t2 := t2, lastSync := now
                    inWin := if inw then min 16 (d.inWin + 1) else 0 }
  if 4 * thr < f.natAbs then
    let (d, e2) := d.invalidate n
    { dom := d, base := b, evs := e1 ++ e2 }
  else if d.inWin = 16 && !d.valid then
    { dom := { d with valid := true }, base := b, evs := e1 ++ [ev0 EvNo.domainValid n] }
  else { dom := d, base := b, evs := e1 }

/-- Ingress in domain time: the stamp less the port's ingress latency and asymmetry (R205). -/
def ingress (b : TimeBase) (stamp : BitVec 64) (lat asym : Int) : Int :=
  ((b.valueAt stamp).toNat : Int) - lat - asym

/-- A port of the instance may exchange time: under the 802.1AS option, where it is asCapable (R204). -/
def PtpDomain.capable (d : PtpDomain) (cfg : W32) (port : Nat) : Bool := !domGptp cfg || d.asCap.getLsbD port

/-- The port is a slave of the sender's domain. -/
def PtpDomain.slaveOn (d : PtpDomain) (port : Nat) : Bool :=
  d.ps port == .slave || d.ps port == .uncalibrated

/-- A Sync message (R207, R208). -/
def domOnSync (d : PtpDomain) (b : TimeBase) (cfg : W32) (n thr : Nat) (now : Rt) (lat asym : Int) (m : PtpMsg) : DomOut :=
  if !d.slaveOn m.port || !d.capable cfg m.port then { dom := d, base := b }
  else
    let t2 := ingress b m.stamp lat asym
    if m.twoStep then
      { dom := { d with wantFup := some (m.seq, t2, m.corr) }, base := b }
    else domSync { d with wantFup := none } b n thr now m.port (m.ts + corrRt m.corr) t2

/-- A Follow_Up completes the two-step Sync of its sequence number (R207). -/
def domOnFollowUp (d : PtpDomain) (b : TimeBase) (n thr : Nat) (now : Rt) (m : PtpMsg) : DomOut :=
  match d.wantFup with
  | some (seq, t2, c) =>
    if seq = m.seq && d.slaveOn m.port then
      domSync { d with wantFup := none } b n thr now m.port (m.ts + corrRt (m.corr + c)) t2
    else { dom := d, base := b }
  | none => { dom := d, base := b }

/-- A message of the instance, on its transport; a one-step event message over UDP has the checksum 0x0000 (R203, R207). -/
def PtpTx.on (m : PtpTx) (cfg : W32) : PtpTx :=
  { m with udp := domUdp cfg, zeroSum := domUdp cfg && domOneStep cfg && decide (m.mtype ≤ 3) }

/-- A Delay_Req is answered in the master role: receiveTimestamp, the request's correction returned
(R203, R206). Its asymmetry is the sender's to apply (R205). -/
def domOnDelayReq (d : PtpDomain) (b : TimeBase) (cfg : W32) (lat : Int) (m : PtpMsg) : DomOut :=
  if d.ps m.port == .master && !domP2p cfg then
    let (ns, c) := txStamp (ingress b m.stamp lat 0)
    let r : PtpTx := { port := m.port, domain := m.domain, mtype := 9, seq := m.seq, ts := ns, corr := m.corr - c }
    { dom := d, base := b, tx := [r.on cfg] }
  else { dom := d, base := b }

/-- A Delay_Resp completes an end-to-end measurement (R206). -/
def domOnDelayResp (d : PtpDomain) (b : TimeBase) (m : PtpMsg) : DomOut :=
  match d.dreq with
  | some (seq, t3) =>
    if m.mine && seq = m.seq then
      let t4 : Int := m.ts - corrRt m.corr
      { dom := { d with dreq := none, mpd := ((d.t2 - d.t1) + (t4 - t3)) / 2 }, base := b }
    else { dom := d, base := b }
  | none => { dom := d, base := b }

/-- A Pdelay_Req is answered: in one-step operation the turnaround enters the correction, in
two-step a Follow_Up carries the response's egress (R207). `turn` is the time between the two raw stamps, to which the latencies of
both directions are added (R205). -/
def domOnPdelayReq (d : PtpDomain) (b : TimeBase) (cfg : W32) (lat latOut : Int) (turn : Nat) (m : PtpMsg) : DomOut :=
  if !domP2p cfg || domRole cfg = 0 then { dom := d, base := b }
  else
    let t2 := ingress b m.stamp lat 0
    let t3 := t2 + lat + turn + latOut
    let (ns, c) := txStamp t2
    let r : PtpTx := { port := m.port, domain := m.domain, mtype := 3, seq := m.seq }
    if domOneStep cfg then
      { dom := d, base := b, tx := [({ r with corr := m.corr + (t3 - t2) * 0x4000 } : PtpTx).on cfg] }
    else
      let (ns3, c3) := txStamp t3
      { dom := d, base := b
        tx := [({ r with ts := ns, corr := -c, twoStep := true } : PtpTx).on cfg,
               ({ r with mtype := 0xA, ts := ns3, corr := m.corr + c3 } : PtpTx).on cfg] }

/-- The delays of a peer-delay exchange of a port: t2 and t3 where the two-step response gave both, so that neighborRateRatio
follows from successive t3 and t4; `turn` is t3 − t2, with the corrections. Under the 802.1AS option t4 − t1 is taken at the neighbour's
rate, and the port is asCapable while the delay lies within its threshold (R204). -/
def domPeer (d : PtpDomain) (cfg : W32) (port : Nat) (t1 t4 turn : Int) (t3 : Option Int) : PtpDomain :=
  let nrr := match t3, d.pPrev.look? port with
    | some t3, some (p3, p4) => if t4 - p4 = 0 then d.nrr else ((t3 - p3) - (t4 - p4)) * 2 ^ 44 / (t4 - p4)
    | _, _ => d.nrr
  let trip := if domGptp cfg then (t4 - t1) + (t4 - t1) * nrr / 2 ^ 44 else t4 - t1
  let mpd := (trip - turn) / 2
  let ok := decide (mpd ≤ (Config.gptpDelayThresh : Int))
  { d with preq := d.preq.del port, presp := d.presp.del port, lost := d.lost.del port, nrr := nrr
           mpd := if d.slaveOn port || !(d.slaveOn 0 || d.slaveOn 1) then mpd else d.mpd
           asCap := if domGptp cfg then (if ok then d.asCap ||| (1#2 <<< port) else d.asCap &&& ~~~(1#2 <<< port)) else d.asCap
           pPrev := match t3 with | some t3 => d.pPrev.put port (t3, t4) | none => d.pPrev }

/-- A Pdelay_Resp (R206, R207): one-step, its correction holds the turnaround; two-step, the Follow_Up
is awaited. Its correction and the port's asymmetry lessen the delay (R205). -/
def domOnPdelayResp (d : PtpDomain) (b : TimeBase) (cfg : W32) (lat asym : Int) (m : PtpMsg) : DomOut :=
  match d.preq.look? m.port with
  | some (seq, t1) =>
    if m.mine && seq = m.seq then
      let t4 := ingress b m.stamp lat asym
      if m.twoStep then { dom := { d with presp := d.presp.put m.port ((m.ts : Int) - corrRt m.corr, t4) }, base := b }
      else { dom := domPeer d cfg m.port t1 t4 (corrRt m.corr) none, base := b }
    else { dom := d, base := b }
  | none => { dom := d, base := b }

/-- A Pdelay_Resp_Follow_Up gives t3 (R207). -/
def domOnPdelayFup (d : PtpDomain) (b : TimeBase) (cfg : W32) (m : PtpMsg) : DomOut :=
  match d.preq.look? m.port, d.presp.look? m.port with
  | some (seq, t1), some (t2, t4) =>
    if m.mine && seq = m.seq then
      let t3 := (m.ts : Int) + corrRt m.corr
      { dom := domPeer d cfg m.port t1 t4 (t3 - t2) (some t3), base := b }
    else { dom := d, base := b }
  | _, _ => { dom := d, base := b }

/-- An Announce feeds the best-master comparison (R203, R204, R208). A path trace that holds this
chip's identity is discarded. -/
def domOnAnnounce (d : PtpDomain) (b : TimeBase) (cfg : W32) (n : Nat) (own : Announce) (now : Rt)
    (m : PtpMsg) : DomOut :=
  let a := m.ann
  if domRole cfg = 0 || !domUses cfg m.port || a.path.contains own.gm || !d.capable cfg m.port then { dom := d, base := b }
  else
    let take := match d.parent with
      | none => true
      | some p => (p.sender == a.sender && d.parentPort == m.port) || a.better p
    if !take then { dom := d, base := b }
    else
      let changed := match d.parent with
        | some p => p.gm != a.gm
        | none => false
      let e0 := if changed && d.valid then [ev0 EvNo.ptpGmChanged n] else []
      let ownWins := domRole cfg != 1 && own.better a
      let d := { d with parent := some a, parentPort := m.port, lastAnn := now }
      if ownWins then
        let (d, e1) := d.setPs m.port .master
        { dom := d, base := b, evs := e0 ++ e1 }
      else
        let (d, e1) := if d.slaveOn m.port && !changed then (d, []) else d.setPs m.port .uncalibrated
        let (d, e2) := if domRole cfg = 3 then d.setPs (1 - m.port) .master else (d, [])
        { dom := d, base := b, evs := e0 ++ e1 ++ e2 }

/-! ### Timeouts and intervals -/

/-- Three sync intervals without Sync (R197). -/
def domSyncTimeout (d : PtpDomain) (b : TimeBase) (n : Nat) : DomOut :=
  let (d, e) := d.invalidate n
  { dom := { d with wantFup := none }, base := b, evs := e }

/-- The announce receipt timeout (R197): the domain is invalid, the slave port returns to LISTENING,
or to MASTER where the instance may be master. One that has heard no Announce takes the master role on the ports where it
listens (R203). -/
def domAnnTimeout (d : PtpDomain) (b : TimeBase) (cfg : W32) (n : Nat) : DomOut :=
  match d.parent with
  | none =>
    if 2 ≤ domRole cfg then
      let (d, e0) := if d.psA == .listening then d.setPs 0 .master else (d, [])
      let (d, e1) := if d.psB == .listening then d.setPs 1 .master else (d, [])
      { dom := d, base := b, evs := e0 ++ e1 }
    else { dom := d, base := b }
  | some _ =>
    let (d, e) := d.invalidate n
    let port := d.parentPort
    let (d, e1) := d.setPs port (if domRole cfg = 1 then .listening else .master)
    { dom := { d with parent := none, wantFup := none }, base := b, evs := e ++ e1 }

/-- The data set that an instance announces: its own where it is the grandmaster, its parent's one step further where it is a
boundary clock below one; under the 802.1AS option a boundary clock appends its identity to the path trace (R204, R208). -/
def PtpDomain.announced (d : PtpDomain) (cfg : W32) (own : Announce) (port : Nat) : Announce :=
  let slave := d.slaveOn 0 || d.slaveOn 1
  let a := match d.parent with
    | some p => if slave then { p with steps := p.steps + 1 } else own
    | none => own
  { a with sender := own.gm, senderPort := port + 1
           path := if domRole cfg = 3 && domGptp cfg then (if slave then a.path else []) ++ [own.gm] else [] }

/-- A Pdelay_Req leaves while the one before has no answer: after too many the port is not asCapable (R204). -/
def PtpDomain.askPeer (d : PtpDomain) (port : Nat) (t : Int) : PtpDomain :=
  let n := if (d.preq.look? port).isSome then d.lost.look port 0 + 1 else 0
  { d with preq := d.preq.put port (d.seqReq, t), presp := d.presp.del port, seqReq := (d.seqReq + 1) % 65536, lost := d.lost.put port n
           asCap := if Config.gptpLostMax < n then d.asCap &&& ~~~(1#2 <<< port) else d.asCap }

/-- An interval timer expires (R207): the periodic message of its type leaves with its egress stamp. The correction of a Delay_Req
or Pdelay_Req is lessened by the port's asymmetry (R205).
mtype: 0 Sync, 1 Delay_Req, 2 Pdelay_Req, 0xB Announce. -/
def domInterval (d : PtpDomain) (b : TimeBase) (cfg : W32) (own : Announce) (lat asym : Int) (port mtype : Nat) : DomOut :=
  let t : Int := ((b.now).toNat : Int) + lat
  let (ns, c) := txStamp t
  let x : PtpTx := { port := port, domain := fld cfg 7 0, mtype := mtype }
  let speaks := d.ps port == .master && d.capable cfg port
  if domRole cfg = 0 || !domUses cfg port then { dom := d, base := b }
  else if mtype = 0 then
    if speaks then
      let x := { x with seq := d.seqSync }
      let d := { d with seqSync := (d.seqSync + 1) % 65536 }
      if domOneStep cfg then { dom := d, base := b, tx := [({ x with ts := ns, corr := c } : PtpTx).on cfg] }
      else
        { dom := d, base := b
          tx := [({ x with twoStep := true } : PtpTx).on cfg, ({ x with mtype := 8, ts := ns, corr := c } : PtpTx).on cfg] }
    else { dom := d, base := b }
  else if mtype = 0xB then
    if speaks then
      { dom := { d with seqAnn := (d.seqAnn + 1) % 65536 }, base := b
        tx := [({ x with seq := d.seqAnn, ann := some (d.announced cfg own port) } : PtpTx).on cfg] }
    else { dom := d, base := b }
  else if mtype = 1 then
    if d.slaveOn port && !domP2p cfg then
      { dom := { d with dreq := some (d.seqReq, t), seqReq := (d.seqReq + 1) % 65536 }, base := b
        tx := [({ x with seq := d.seqReq, corr := -asym * 0x4000 } : PtpTx).on cfg] }
    else { dom := d, base := b }
  else
    if domP2p cfg then
      { dom := d.askPeer port t, base := b, tx := [({ x with mtype := 2, seq := d.seqReq, corr := -asym * 0x4000 } : PtpTx).on cfg] }
    else { dom := d, base := b }

/-- The instances start after a reset: INITIALIZING, then LISTENING on the ports the image uses
(R218). -/
def PtpDomain.start (cfg : W32) : PtpDomain :=
  let s := fun port => if domRole cfg = 0 || !domUses cfg port then PState.unused else .listening
  { psA := s 0, psB := s 1 }

/-- The ports that an instance starts on go from INITIALIZING to LISTENING (R224). -/
def domStartEvs (cfg : W32) : List Ev := ([0, 1].filter fun p => domRole cfg != 0 && domUses cfg p).map evPtpState

/-- TIME_DOM_x_STAT (R222). -/
def PtpDomain.statWord (d : PtpDomain) : W32 :=
  w32 (d.psA.code + 16 * d.psB.code + 256 * b2n d.valid)

/-! ### The domain that a message addresses -/

/-- Which domain (1 A, 2 B) serves a domain number on a port and a transport. -/
def ImgTime.domOf (i : ImgTime) (port domain : Nat) (udp : Bool) : Option Nat :=
  let serves := fun (w : W32) => domRole w != 0 && domUses w port && fld w 7 0 = domain && domUdp w == udp
  if serves i.domA then some 1 else if serves i.domB then some 2 else none

/-- A domain's configuration. -/
def ImgTime.cfg (i : ImgTime) (n : Nat) : W32 := if n = 1 then i.domA else i.domB
/-- Ingress and egress latency of a port (R222). -/
def ImgTime.latIn (i : ImgTime) (port : Nat) : Int := fld (if port = 0 then i.latA else i.latB) 15 0
/-- Egress latency. -/
def ImgTime.latOut (i : ImgTime) (port : Nat) : Int := fld (if port = 0 then i.latA else i.latB) 31 16
/-- delayAsymmetry of a port, signed rt (R221). -/
def ImgTime.asymOf (i : ImgTime) (port : Nat) : Int :=
  (BitVec.ofNat 16 (if port = 0 then fld i.asym 15 0 else fld i.asym 31 16)).toInt

/-- Put a domain operation's outcome back. -/
def TimeState.putDom (t : TimeState) (n : Nat) (o : DomOut) : TimeState :=
  if n = 1 then { t with ptpA := o.dom, domA := o.base } else { t with ptpB := o.dom, domB := o.base }

/-- Count a discarded PTP message of a port (R208). -/
def TimeState.ptpDiscard (t : TimeState) (port : Nat) : TimeState :=
  if port = 0 then { t with ptpErrA := incWrap 16 t.ptpErrA } else { t with ptpErrB := incWrap 16 t.ptpErrB }

/-- Run a receive operation on the domain a message addresses, where `up` says that its time base is in service (R197); a message that
fails its checks is discarded and counted (R208); one that no instance takes is discarded. A Sync that moves the source domain
drives the ring-time servo. -/
def TimeState.ptpRx (t : TimeState) (i : ImgTime) (m : PtpMsg) (up : Nat → Bool) (running : Bool)
    (f : PtpDomain → TimeBase → W32 → Nat → DomOut) : TimeState × List Ev × List PtpTx :=
  if !m.ok then (t.ptpDiscard m.port, [], [])
  else
    match (i.domOf m.port m.domain m.udp).filter up with
    | none => (t, [], [])
    | some n =>
      let o := f (t.ptp n) (t.domBase n) (i.cfg n) n
      let moved := o.dom.lastSync != (t.ptp n).lastSync || o.base != t.domBase n
      let t := t.putDom n o
      if moved && t.src = n then
        let err := (t.now - (t.dom n).now).toInt - t.thetaNow
        let (t, e) := t.servo running err
        (t, o.evs ++ e, o.tx)
      else (t, o.evs, o.tx)

end Sys2Proof.Machine
end

