-- ==== Sys2Proof/Machine/Net.lean ====
section
/-! DEFINITION. Machine/Net.lean: the ring as the whole chip sees it: ports and links, loss of nodes, roles and
the start of the ring (R91 to R131, R193). -/

namespace Sys2Proof.Machine

/-! ### Ports -/

/-- A port. -/
def Core.po (c : Core) (p : Nat) : Port := c.port.look p {}
/-- Update a port. -/
def Core.updPort (c : Core) (p : Nat) (f : Port → Port) : Core := { c with port := c.port.upd p {} f }

/-- Both ports, or one, of a segment are linked. -/
def Core.links (c : Core) (s : Nat) : Nat := b2n (c.po (2 * s)).link + b2n (c.po (2 * s + 1)).link

/-- A segment forms once the chip is in CROWN and its ports are linked; `one` permits a single port (R121). A ring that lacks a port,
or that leads to an old crown (R119), is open from the start. -/
def Core.tryForm (c : Core) (s : Nat) (one : Bool) : Core :=
  if c.role.role = .crown ∧ (c.links s = 2 ∨ (one ∧ c.links s = 1)) then
    let g := (c.sg s).startForm
    let g := if g.phase = .discover && !c.cycle.running then { g with cnt := 1 } else g
    let shut := fun (r : RingDir) => { r with known := true, closed := false }
    c.putSg s (if c.links s = 2 && !g.cut then g else { g with a := shut g.a, b := shut g.b })
  else c

/-- A test pattern or the loopback operates at a port: its segment is DOWN (R93). -/
def Core.testing (c : Core) (p : Nat) : Bool :=
  (c.sg (p / 2)).phase = .down && (bit (c.po p).ctl 6 || fld (c.po p).ctl 2 0 = 1 || fld (c.po p).ctl 2 0 = 2)

/-- The PRBS checker of a port runs, and counts the errors of its pattern (R93, R138). -/
def Core.checking (c : Core) (p : Nat) : Bool := c.testing p && fld (c.po p).ctl 2 0 != 0 && !bit (c.po p).ctl 2

/-- A port may link: its segment is in use, and the port is not isolated, not powered down and not under test. -/
def Core.mayLink (c : Core) (p : Nat) : Bool :=
  decide (p < 8) && c.running && (c.is (p / 2)).phy != .unused && !c.iso 0 p && !c.standby && !c.boot.maker && (c.po p).training != .retryWait
    && !c.testing p

/-- A port links (R91, R112, R121, R139): its module, if it has one, and the transmit coefficients that training reached. Where
the chip listens, t_listen starts with the first port of any segment that links (DESIGN CHOICE, log entry 66). -/
def Core.portUp (c : Core) (p : Nat) (present : Bool) (txeq : W32) : Core :=
  if c.mayLink p && !(c.po p).link then
    let kr : Bool := (c.is (p / 2)).phy = .kr
    let c := c.updPort p fun x => { x with
      link := true, lock := true, trained := kr, training := .none, modPresent := present && !kr, modLos := false
      txeq := if kr then txeq &&& 0x3F3F3F else 0 }
    let c := c.raise [evPort EvNo.portUp p]
    let c := if c.role.role = .listen && !c.role.listening then
        { c with role := { c.role with listening := true, listenAt := c.now } }
      else c
    c.tryForm (p / 2) false
  else c

/-- A port loses link (R140): both rings of the segment are open there, as after a break at the port (R102, R132). -/
def Core.portDown (c : Core) (p : Nat) : Core :=
  if (c.po p).link then
    (c.updPort p fun x => { x with link := false, lock := false, trained := false, downs := x.downs + 1 }).raise [evPort EvNo.portDown p]
  else c

/-- PORT_LINK_DOWN: what the port then sees of its module and its lock, and the block errors counted since it linked (R138, R139). -/
def Core.portLost (c : Core) (p : Nat) (present los lock : Bool) (errs : Nat) : Core :=
  if (c.po p).link then
    let kr : Bool := (c.is (p / 2)).phy = .kr
    (c.portDown p).updPort p fun x => { x with
      modPresent := present && !kr, modLos := los && !kr, lock := lock, blkerr := x.blkerr + BitVec.ofNat 32 errs }
  else c

/-- A frame is received at a port, its FCRC good or bad (R138). -/
def Core.countFrame (c : Core) (p : Nat) (good : Bool) : Core :=
  c.updPort p fun x => if good then { x with rxfrm := x.rxfrm + 1 } else { x with rxcrc := x.rxcrc + 1 }

/-- A frame leaves at both ports of its segment at once, or at the one that is linked (R98). -/
def Core.launch (c : Core) (f : FrameOut) : Core :=
  (List.range 2).foldl (fun (c : Core) k => if (c.po (2 * f.seg + k)).link then c.out (.frame { f with ring := k }) else c) c

/-! ### Nodes -/

/-- The axes of a node go to AX_FAULT with cause 0x3 (R75, R104, R170). -/
def Core.faultNode (c : Core) (s pos : Nat) : Core := (c.nodeAxes s pos).foldl (fun c a => c.axisFault a 3) c

/-- A node that leaves the ring ends its bursts incomplete (R539). -/
def Core.burstLost (c : Core) (s pos : Nat) : Core :=
  { c with vis := c.vis.mapBursts fun (b : VBurst) =>
      if b.seg = s && b.pos = pos && !b.past && b.grant.isSome then { b with past := true, stat := 1 } else b }

/-- A node leaves the admitted set and its axes fault (R104, R126). -/
def Core.loseNode (c : Core) (s pos : Nat) : Core :=
  let (g, evs) := (c.sg s).loseNode s pos
  if evs.isEmpty then c else (((c.putSg s g).raise evs).faultNode s pos).burstLost s pos

/-- The admitted positions of a segment. -/
def Core.admitted (c : Core) (s : Nat) : List Nat := ((c.sg s).nodes.filter fun e => e.2.st = .admitted).map (·.1)

/-- Node count of the whole ring network, admitted. -/
def Core.admittedAll (c : Core) : List Nat := c.segs.flatMap fun s => (c.admitted s).map fun p => s * 64 + p

/-! ### Roles -/

/-- What this chip's claims carry (R113). -/
def Core.own (c : Core) : OwnClaim :=
  { prio := c.image.role.prio, uid := c.boot.uid, chk := c.boot.head.chk, tcyc := c.tcyc }

/-- The role record this chip sends. -/
def Core.roleRec (c : Core) : RoleRec :=
  { prio := c.image.role.prio, uid := c.boot.uid, chk := c.boot.head.chk, tcyc := c.tcyc, segs := c.segs.foldl (fun n s => n + 2 ^ s) 0
    state := if c.role.notices = 0 then c.role.role.code else 6, seq := c.role.seq
    cycle := if c.role.role = .crown then c.cycle.cycle else 0 }

/-- The next role record, its sequence number taken (R113). -/
def Core.nextRole (c : Core) : Core × RoleRec := ({ c with role := { c.role with seq := (c.role.seq + 1) % 65536 } }, c.roleRec)

/-- A claim frame of a segment (R113, R144). -/
def Core.claimFrame (c : Core) (s : Nat) (r : RoleRec) : FrameOut :=
  { seg := s, kind := .claim, cycle := c.cycle.cycle, inForce := c.cycle.mode, role := some { r with state := 2, cycle := 0 } }

/-- A claim leaves at both ports of a segment (R116). -/
def Core.sendClaim (c : Core) (s : Nat) : Core :=
  let (c, r) := c.nextRole
  c.launch (c.claimFrame s r)

/-- The chip enters CROWN by claim (R58, R116, R193): a chip that held neither role since its reset starts at cycle 0; then
the segments form in the start mode. -/
def Core.enterCrown (c : Core) (first : Bool) : Core :=
  let c := if first then { c with time := c.time.crownStep, cycle := { c.cycle with running := false, cycle := 0 } } else c
  let c := { c with cycle := { c.cycle with mode := c.image.startMode } }
  c.segs.foldl (fun c s => (c.putSg s { (c.sg s) with cut := false }).tryForm s false) c

/-- One claim at both ports of every segment; the eighth unanswered claim enters CROWN (R116). -/
def Core.claimPeriod (c : Core) : Core :=
  if c.role.role = .claim then
    let first := !c.role.heldRole
    let c := c.segs.foldl Core.sendClaim c
    let (r, evs) := c.role.sendClaim
    let c := { c with role := r }.raise evs
    if r.role = .crown then c.enterCrown first else c
  else c

/-- The Gauntlet of a chip that holds no ring: SAFE in place of RUN and TEST, its pairs off, every group awaiting a reset edge
(R517). -/
def Core.gsIdle (c : Core) : Core :=
  let (g, evs) := if c.gs.glob = GsGlobal.run || c.gs.glob = GsGlobal.test then c.gs.enter .safe else (c.gs, [])
  { c with gs := { g with out := g.out.each (fun _ o => o.want false)
                          group := g.group.each fun _ x => { x with released := false, edge := false } } }.raise evs

/-- Takeover by the spare (R118, R119, R517): the link at An toward the old crown counts as a break before position 0. -/
def Core.takeover (c : Core) : Core :=
  if c.role.role = .spare && decide (c.image.role.takeoverCyc ≤ c.role.noCrown) then
    let c := c.segs.foldl (fun (c : Core) s => (c.sendClaim s).sendClaim s) c
    let (r, evs) := c.role.takeover
    let c := { c with role := r }.raise evs
    let c := c.axes.foldl (fun c a => c.updAx a fun x => { x with state := .off, pend := none }) c
    let c := c.gsIdle
    let (t, evs) := c.time.leaveFollow c.image.time
    let c := { c with time := t }.raise evs
    c.segs.foldl (fun c s => (c.putSg s { (c.sg s) with phase := .down, cnt := 0, cut := true }).tryForm s true) c
  else c

/-- The chip becomes SPARE: ring time follows the crown's distribution from its next RTSYNC (R213, R214). -/
def Core.toSpare (c : Core) : Core :=
  let c := c.gsIdle
  { c with role := { c.role with role := .spare, noCrown := 0, claims := 0, heldRole := true }
           time := { c.time with rtState := .follow, src := 0, slew := none, spareRun := 0, spareCfg := none, spareRef := none, spareOther := none
                                 rtsyncSeen := false } }

/-- A chip that stops being CROWN (R120): every axis goes to AX_HALT and the segments go down. -/
def Core.demote (c : Core) (r : Role) : Core :=
  let c := { c with role := { c.role with role := r, yieldTo := none, noCrown := 0 } }.raise [ev0 EvNo.crownDemoted]
  let c := if r = .spare then c.toSpare else c.gsIdle.raise [ev0 EvNo.claimRefused]
  let c := c.axes.foldl (fun c a => c.axisHalt a) c
  c.segs.foldl (fun c s => c.putSg s { (c.sg s) with phase := .down, cnt := 0, cut := false }) c

/-- A role command or reset restarts LISTEN (R115, R130). -/
def Core.restartListen (c : Core) : Core :=
  let r := c.role.startListen c.image.role.capable c.now
  { c with role := { r with listening := r.role = .listen && c.port.any fun e => e.2.link } }

end Sys2Proof.Machine
end

