-- ==== Sys2Proof/Machine/Profile.lean ====
section
/-! DEFINITION. Machine/Profile.lean: plans, tables, gearing, offsets, homing and the PROFILE task (R433 to
R473). -/

namespace Sys2Proof.Machine

/-! ### Roots -/

/-- Integer square root of numbers below 2^256. -/
def isqrtW (n : Nat) : Nat := isqrtAux n 128 0
/-- Integer cube root by binary search. -/
def icbrtAux (n : Nat) : Nat → Nat → Nat
  | 0, r => r
  | k + 1, r =>
    let t := r + 2 ^ k
    if t * t * t ≤ n then icbrtAux n k t else icbrtAux n k r
/-- Integer cube root of numbers below 2^255. -/
def icbrt (n : Nat) : Nat := icbrtAux n 85 0

/-! ### Plans (R440 to R443). A duration is floored to 2^−32 cycle (log entry 18). -/

/-- 2^32. -/
abbrev two32 : Nat := 4294967296

/-- The phases of a velocity change (R441), Δv in 2^−32 count per cycle, A and J in Q15.16. -/
def velPhases (dv32 : Nat) (sg : Int) (A J : Nat) : List Phase :=
  if dv32 = 0 ∨ A = 0 ∨ J = 0 then []
  else if A * A * 65536 ≤ dv32 * J then
    let tj := A * two32 / J
    let t2 := (dv32 * J - A * A * 65536) * two32 / (A * J * 65536)
    [⟨tj, sg * J⟩, ⟨t2, 0⟩, ⟨tj, -(sg * J)⟩]
  else
    let tj := isqrtW (dv32 * two32 * two32 / (J * 65536))
    [⟨tj, sg * J⟩, ⟨tj, -(sg * J)⟩]

/-- A velocity-change plan from a speed to a speed (Q15.16). -/
def velPlan (c0 : W32) (p0 v0 v1 : Int) (A J : Nat) : Plan :=
  { c0 := c0, p0 := p0, v0 := v0, phases := velPhases ((v1 - v0).natAbs * 65536) (sgn (v1 - v0)) A J
    pEnd := none, vEnd := v1 }

/-- A MOVE over Δ (counts × 2^16) with limits V, A, J (R442). -/
def movePlan (c0 : W32) (p0 delta : Int) (V A J : Nat) : Plan :=
  let D := delta.natAbs
  let s := sgn delta
  let cruise := fun (vp32 : Nat) (tv : Nat) =>
    velPhases vp32 s A J ++ (if tv = 0 then [] else [⟨tv, 0⟩]) ++ velPhases vp32 (-s) A J
  let phases :=
    if D = 0 ∨ V = 0 ∨ A = 0 ∨ J = 0 then []
    else
      let full := if A * A ≤ V * J then decide (V * V * J + V * A * A ≤ D * A * J)
        else decide (4 * V * V * V ≤ D * D * J)
      if full then
        -- T_v = (|Δ| − V h) ÷ V, h = V/A + A/J, or 2 √(V/J)
        let h := if A * A ≤ V * J then V * two32 / A + A * two32 / J else 2 * isqrtW (V * two32 * two32 / J)
        cruise (V * 65536) (D * two32 / V - h)
      else if 2 * A * A * A ≤ D * J * J then
        let root := isqrtW ((A * A * A * A + 4 * A * D * J * J) * 4294967296)
        let vp32 := (root - A * A * 65536) * 65536 / (2 * J) / 65536
        cruise vp32 0
      else
        let tj := icbrt (D * two32 * two32 * two32 / (2 * J))
        [⟨tj, s * J⟩, ⟨tj, -(s * J)⟩, ⟨tj, -(s * J)⟩, ⟨tj, s * J⟩]
  { c0 := c0, p0 := p0, v0 := 0, phases := phases, pEnd := some (p0 + delta), vEnd := 0 }

/-- Nearest integer of n ÷ d, halves up. -/
def roundDivUp (n : Int) (d : Nat) : Int := (2 * n + d) / (2 * (d : Int))

/-- State (p, v, a) in 2^−32 units after `s` (UQ32.32) of a phase with jerk j (R440). -/
def phaseState (p v a j : Int) (s : Nat) : Int × Int × Int :=
  let t : Int := s
  let b : Int := two32
  let j32 := j * 65536
  (roundDivUp (6 * p * b * b * b + 6 * v * t * b * b + 3 * a * t * t * b + j32 * t * t * t) (6 * two32 * two32 * two32),
   roundDivUp (2 * v * b * b + 2 * a * t * b + j32 * t * t) (2 * two32 * two32),
   roundDivUp (a * b + j32 * t) two32)

/-- Walk the phases: the state at time `t` (UQ32.32 from the start). -/
def planWalk (pEnd : Option Int) (vEnd : Int) : List Phase → Nat → Int → Int → Int → Int × Int × Int
  | [], t, p, _, _ =>
    let pe := match pEnd with | some e => e * 65536 | none => p
    (roundDivUp (pe * two32 + vEnd * 65536 * t) two32, vEnd * 65536, 0)
  | ph :: rest, t, p, v, a =>
    if t < ph.tau then phaseState p v a ph.jerk t
    else
      let (p', v', a') := phaseState p v a ph.jerk ph.tau
      planWalk pEnd vEnd rest (t - ph.tau) p' v' a'

/-- The plan's (p, v, a) in cycle c: p in 2^−16 count, v and a in Q15.16 (R440). Before its start cycle, where a plan that is to take
effect stands, it runs at its initial speed. -/
def Plan.eval (q : Plan) (c : W32) : Int × Int × Int :=
  let t := (c - q.c0).toInt
  if t < 0 then (q.p0 + q.v0 * t, q.v0, 0)
  else
    let (p, v, a) := planWalk q.pEnd q.vEnd q.phases (t.toNat * two32) (q.p0 * 65536) (q.v0 * 65536) 0
    (roundDivUp p 65536, roundDivUp v 65536, roundDivUp a 65536)

/-- Length of the phases, UQ32.32. -/
def Plan.length (q : Plan) : Nat := (q.phases.map (·.tau)).foldl (· + ·) 0
/-- The last phase has ended by cycle c. -/
def Plan.past (q : Plan) (c : W32) : Bool := decide (0 ≤ (c - q.c0).toInt) && decide (q.length ≤ (c - q.c0).toInt.toNat * two32)

/-! ### Tables (R444 to R446) -/

/-- A table entry. -/
structure Seg where
  len   : Nat
  delta : Int
  m0    : Int
  m1    : Int
  deriving DecidableEq, Repr

/-- Entry `i` of the table memory. -/
def ProfState.seg (f : ProfState) (i : Nat) : Seg :=
  { len := (f.entry.look (4 * i) 0).toNat, delta := (f.entry.look (4 * i + 1) 0).toInt
    m0 := (f.entry.look (4 * i + 2) 0).toInt, m1 := (f.entry.look (4 * i + 3) 0).toInt }

/-- A descriptor: first entry, count, CYCLIC, KIND master. -/
structure Desc where
  first  : Nat
  count  : Nat
  cyclic : Bool
  master : Bool

/-- Descriptor `i`. -/
def ProfState.descOf (f : ProfState) (i : Nat) : Desc :=
  let w0 := f.desc.look (4 * i) 0
  let w1 := f.desc.look (4 * i + 1) 0
  { first := fld w0 13 0, count := fld w1 12 0, cyclic := bit w1 16, master := bit w1 17 }

/-- The segments of a table. -/
def ProfState.segs (f : ProfState) (d : Desc) : List Seg := forN d.count fun i => f.seg (d.first + i)

/-- The Hermite follower position within a segment (R445). -/
def hermite (s : Seg) (p0 : Int) (x : Int) : Int :=
  let L : Int := s.len
  if L ≤ 0 then p0
  else p0 + (s.delta * 65536 * (3 * x * x * L - 2 * x * x * x)
    + L * (s.m0 * (x * x * x - 2 * x * x * L + x * L * L) + s.m1 * (x * x * x - x * x * L))) / (L * L * L)

/-- The slope there, Q15.16 counts per unit of x. -/
def hermiteSlope (s : Seg) (x : Int) : Int :=
  let L : Int := s.len
  if L ≤ 0 then 0
  else (s.delta * 65536 * (6 * x * L - 6 * x * x)
    + L * (s.m0 * (3 * x * x - 4 * x * L + L * L) + s.m1 * (3 * x * x - 2 * x * L))) / (L * L * L)

/-- Position and slope in a list of segments at x ≥ 0, from position p; beyond the end the end is held. -/
def segsAt : List Seg → Int → Int → Int × Int
  | [], p, _ => (p, 0)
  | s :: t, p, x =>
    if x < (s.len : Int) then (hermite s p x, hermiteSlope s x)
    else segsAt t (p + s.delta * 65536) (x - s.len)

/-- Period and travel of a table. -/
def tablePeriod (l : List Seg) : Int × Int :=
  (l.foldl (fun a s => a + (s.len : Int)) 0, l.foldl (fun a s => a + s.delta) 0)

/-- The table's follower at coordinate x (R446): position, slope, past the end, period number. -/
def tableAt (l : List Seg) (cyclic : Bool) (pStart x : Int) : Int × Int × Bool × Int :=
  let (P, Q) := tablePeriod l
  if P ≤ 0 then (pStart, 0, true, 0)
  else if cyclic then
    let k := x / P
    let (p, s) := segsAt l pStart (x - k * P)
    (p + k * Q * 65536, s, false, k)
  else if x < 0 then (pStart, 0, false, 0)
  else
    let (p, s) := segsAt l pStart x
    (p, s, decide (P ≤ x), 0)

/-- Is a descriptor's table bad, or undefined (R464, R468)? -/
def ProfState.tableOk (f : ProfState) (i : Nat) (master : Bool) : Bool :=
  let d := f.descOf i
  decide (1 ≤ d.count) && decide (d.count ≤ 4096) && decide (d.first + d.count ≤ 16384) && d.master == master
    && !(f.bad.any fun e => decide (d.first ≤ e) && decide (e < d.first + d.count))

/-- Does an axis use entry `e` (or descriptor `e`)? -/
def ProfState.inUse (f : ProfState) (isDesc : Bool) (e : Nat) : Bool :=
  f.axis.any fun p => match p.2.tbl with
    | none => false
    | some t =>
      let ds := t.desc :: (match t.next with | some n => [n.1] | none => [])
      ds.any fun i => if isDesc then i = e
        else
          let d := f.descOf i
          decide (d.first ≤ e) && decide (e < d.first + d.count)

/-! ### Gearing (R451 to R455) -/

/-- Move the base to a master position under the numerator in force (R453). -/
def Gear.moveTo (g : Gear) (D : Nat) (mk : Int) : Gear :=
  if D = 0 then g
  else
    let t := g.n * (mk - g.m) + g.r
    let q := t / (D : Int)
    { g with f := g.f + q, r := (t - q * D).toNat, m := mk }

/-- The term t of R451, or of R454 inside a blend. Before a blend's span, where a master that runs backward stands, the ratio is still N
(DESIGN CHOICE, log entry 71). -/
def Gear.term (g : Gear) (m : Int) : Int :=
  let x := m - g.m
  match g.blend with
  | none => g.n * x + g.r
  | some (n', lb) => if lb = 0 || decide (x < 0) then g.n * x + g.r else g.n * x + (n' - g.n) * x * x / (2 * (lb : Int)) + g.r

/-- End a blend that the master reference has passed (R454): the flag says one ended. -/
def Gear.endBlend (g : Gear) (D : Nat) (m : Int) : Gear × Bool :=
  match g.blend with
  | none => (g, false)
  | some (n', lb) =>
    if (lb : Int) ≤ m - g.m && D != 0 then
      let t := (g.n + n') * (lb : Int) / 2 + g.r
      let q := t / (D : Int)
      ({ g with f := g.f + q, r := (t - q * D).toNat, m := g.m + lb, n := n', blend := none }, true)
    else (g, false)

/-- Apply the queue's knuckles that the reference has reached, in order; `fuel` bounds them. Results:
the gear, knuckles applied, blends ended. -/
def Gear.knuckles (D : Nat) (m : Int) : Nat → Gear → Gear × Nat × Nat
  | 0, g => (g, 0, 0)
  | fuel + 1, g =>
    let (g, be) := g.endBlend D m
    match g.queue with
    | k :: rest =>
      if 0 ≤ (m - k.at') * k.dir && g.blend.isNone then
        let g := { (g.moveTo D k.at') with queue := rest }
        let g := if k.lb = 0 then { g with n := k.num } else { g with blend := some (k.num, k.lb) }
        let (g, a, b) := Gear.knuckles D m fuel g
        (g, a + 1, b + b2n be)
      else (g, 0, b2n be)
    | [] => (g, 0, b2n be)

/-- The geared base in counts × 2^16, G, and v_base (R451). -/
def Gear.out (g : Gear) (D : Nat) (m vm : Int) : Int × Int × Int :=
  if D = 0 then (g.f * 65536, g.f, 0)
  else
    let t := g.term m
    let q := t / (D : Int)
    let f := t - q * D
    let n := match g.blend with
      | none => g.n
      | some (n', lb) => if lb = 0 || decide (m < g.m) then g.n else g.n + (n' - g.n) * (m - g.m) / (lb : Int)
    ((g.f + q) * 65536 + f * 65536 / (D : Int), g.f + q, n * vm / (D : Int))

/-- A knuckle position is refused (R453, reason 0xA): behind the reference in its direction, or inside a
blend that runs or is queued. -/
def Gear.passed (g : Gear) (m mk dir : Int) : Bool :=
  decide ((mk - m) * dir < 0) ||
    (match g.blend with | some (_, lb) => decide ((mk - (g.m + lb)) * dir < 0) | none => false) ||
    g.queue.any fun k => k.lb != 0 && decide ((mk - (k.at' + (if 0 ≤ k.dir then (k.lb : Int) else 0))) * dir < 0)

/-! ### The PROFILE task -/

/-- Inputs of a PROFILE task for cycle c. -/
structure ProfIn where
  c      : Cf → Int
  axis   : Nat
  cycle  : W32
  /-- Ring time of S_c, predicted, and of the last S. -/
  rtS    : Rt
  state  : AxState
  /-- The chip is PARKED (R467). -/
  parked : Bool
  fbPos  : W32
  m      : Int
  vm     : Int
  lost   : Bool
  susp   : Bool
  /-- Level of HM_SW after polarity: active. -/
  hmActive : Bool
  /-- An index latch of the last complete image, with its value. -/
  idx    : Option W32
  /-- The source has a bad cycle. -/
  badCyc : Bool
  segs   : Nat → List Seg
  cyclic : Nat → Bool

/-- Results: events, reaction code (1 degraded, 2 fault), knuckles applied, a master loss, and what homing
asks of the source: a captured clear of SUSPECT, an index reference. -/
structure ProfRes where
  x    : ProfAxis
  evs  : List Ev := []
  react : Nat := 0
  kn   : Nat := 0
  mlost : Bool := false
  clearSuspect : Bool := false
  newRef : Bool := false

/-- EV_MOTION with a code; 0x02, 0x03 and 0x04 are limited (R473). -/
def evMotion (axis code : Nat) : Ev :=
  let e := evAxis EvNo.motion axis code
  if code = 2 ∨ code = 3 ∨ code = 4 then e.limited (axis * 256 + code) else e
/-- EV_MOTION_FAULT with a code; 0x13 and 0x15 are limited. -/
def evMotionFault (axis code : Nat) : Ev :=
  let e := evAxis EvNo.motionFault axis code
  if code = 0x13 ∨ code = 0x15 then e.limited (axis * 256 + code) else e

/-- Enter Hold (R438): the base stays, everything else ends. Offsets are kept. -/
def ProfAxis.hold (x : ProfAxis) : ProfAxis :=
  { x with mode := .hold, vBase := 0, aBase := 0, plan := none, pendVel := none, moving := false, tbl := none
           gear := { x.gear with queue := [], blend := none } }

/-- Start a velocity change at the cycle of the task, or leave it pending (R443). -/
def ProfAxis.setVel (x : ProfAxis) (c : W32) (v : Int) (A J : Nat) : ProfAxis :=
  match x.plan with
  | some q =>
    let (p, v0, a) := q.eval c
    if a = 0 then { x with plan := some (velPlan c p v0 v A J), pendVel := none, moving := false }
    else { x with pendVel := some v }
  | none => { x with plan := some (velPlan c x.base x.vBase v A J), pendVel := none, moving := false }

/-- VEL and STOP out of table and gear modes, and out of Host, start from the last committed cycle (R443). -/
def ProfAxis.velFrom (x : ProfAxis) (c : W32) (v : Int) (A J : Nat) : ProfAxis :=
  { x with mode := .plan, plan := some (velPlan (c - 1) x.base x.vBase v A J), pendVel := none, moving := false
           tbl := none, gear := { x.gear with queue := [], blend := none } }

/-- At rest: no plan left to run and no speed. -/
def ProfAxis.atRest (x : ProfAxis) (c : W32) : Bool :=
  match x.plan with
  | none => true
  | some q => q.past c && q.vEnd = 0 && x.pendVel.isNone

/-- A pending VEL or STOP takes effect once the acceleration is 0. -/
def ProfAxis.takePend (x : ProfAxis) (c : W32) (A J : Nat) : ProfAxis :=
  match x.pendVel with
  | some v => x.setVel c v A J
  | none => x

/-- Limits of an axis. -/
def prLim (c : Cf → Int) : Nat × Nat × Nat := ((c .prVmax).toNat, (c .prAmax).toNat, (c .prJmax).toNat)

/-- Evaluate the plan in force. -/
def ProfAxis.planOut (x : ProfAxis) (c : W32) : ProfAxis :=
  match x.plan with
  | none => { x with vBase := 0, aBase := 0 }
  | some q =>
    let (p, v, a) := q.eval c
    { x with base := wrapS 48 p, vBase := v, aBase := a }

/-- Fail homing (R462): STOP is issued. -/
def ProfAxis.homeFail (x : ProfAxis) (i : ProfIn) (reason : Nat) : ProfAxis × List Ev :=
  let (_, A, J) := prLim i.c
  let y := { x with mode := .plan, hm := { x.hm with st := .idle, reason := reason, abort := false } }
  (y.setVel i.cycle 0 A J, [evMotionFault i.axis 0x14])

/-- Enter a homing state. -/
def ProfAxis.hmEnter (x : ProfAxis) (i : ProfIn) (s : HmSt) : ProfAxis :=
  { x with hm := { x.hm with st := s, entry := i.rtS, start := x.base, edges := [] } }

/-- The position of an edge: known, or interpolated between the sampling instants around it (R458). -/
def edgePos (hist : List (Rt × W32)) (e : HmEdge) : Option W32 :=
  match e.pos with
  | some p => some p
  | none =>
    match hist with
    | (t1, p1) :: (t0, p0) :: _ =>
      if rtGe t1 e.ts then
        let d := rtDiff t1 t0
        some (if d ≤ 0 then p1 else p0 + w32i ((p1 - p0).toInt * rtDiff e.ts t0 / d))
      else none
    | _ => none

/-- The first edge of a kind since the state's entry. -/
def Home.edge (h : Home) (active : Bool) : Option HmEdge :=
  h.edges.reverse.find? fun e => e.active = active && rtGe e.ts h.entry

/-- One PROFILE step of homing (R460 to R462). -/
def ProfAxis.homeStep (x : ProfAxis) (i : ProfIn) : ProfRes :=
  let c := i.c
  let (V, A, J) := prLim c
  let dir := if c .hmDir < 0 then (-1 : Int) else 1
  let h := x.hm
  let travel := ((x.base - h.start).natAbs : Int)
  let tooFar := decide (c .hmMaxdist * 65536 < travel)
  let go := fun (x : ProfAxis) (s : HmSt) (v : Int) => (x.hmEnter i s).setVel i.cycle v A J
  if (i.badCyc || i.state != .run || h.abort) && h.st != .idle && h.st != .done then
    let (y, e) := x.homeFail i (if i.badCyc then 0x3 else if i.state != .run then 0x4 else 0x5)
    { x := y, evs := e }
  else
    match h.st with
    | .idle | .done => { x := x }
    | .check =>
      if h.method = 5 ∨ h.method = 6 then { x := x.hmEnter i .set }
      else if h.method = 3 then { x := go x .appr (dir * c .hmVslow) }
      else if i.hmActive then { x := go x .off (-dir * c .hmVslow) }
      else { x := go x .seek (dir * c .hmVfast) }
    | .seek =>
      if (h.edge true).isSome then { x := go x .brake1 0 }
      else if tooFar then let (y, e) := x.homeFail i 0x1; { x := y, evs := e }
      else { x := x }
    | .brake1 => if x.atRest i.cycle then { x := go x .off (-dir * c .hmVslow) } else { x := x }
    | .off =>
      match h.edge false with
      | some e =>
        if h.method = 4 then
          match edgePos x.hist e with
          | some p => { x := go { x with hm := { h with cap := p } } .brake2 0, clearSuspect := true }
          | none => { x := x }
        else { x := go x .brake2 0 }
      | none => if tooFar then let (y, e) := x.homeFail i 0x1; { x := y, evs := e } else { x := x }
    | .brake2 =>
      if x.atRest i.cycle then
        (if h.method = 4 then { x := x.hmEnter i .set } else { x := go x .appr (dir * c .hmVslow) })
      else { x := x }
    | .appr =>
      let done := fun (p : W32) (ref : Bool) =>
        ({ x := go { x with hm := { h with cap := p } } .brake3 0, clearSuspect := true, newRef := ref } : ProfRes)
      let far : ProfRes := if tooFar then let (y, e) := x.homeFail i 0x1; { x := y, evs := e } else { x := x }
      if h.method = 1 then
        match h.edge true with
        | some e => match edgePos x.hist e with
          | some p => done p false
          | none => far
        | none => far
      else if h.method = 2 then
        match h.edge true, i.idx with
        | some e, some ix =>
          match edgePos x.hist e with
          | some p => if 0 ≤ (ix - p).toInt * dir then done ix true else far
          | none => far
        | _, _ => far
      else
        match i.idx with
        | some ix => done ix true
        | none => far
    | .brake3 => if x.atRest i.cycle then { x := x.hmEnter i .set } else { x := x }
    | .set =>
      let cap : W32 := if h.method = 5 then i.fbPos else if h.method = 6 then 0 else h.cap
      let y := { x with org := cap - w32i (c .hmOfs) }
      if c .hmGo0 = 1 then
        let delta := wrapS 48 (y.org.toInt * 65536 - y.base)
        { x := { (y.hmEnter i .goto) with plan := some (movePlan i.cycle y.base delta V A J), pendVel := none } }
      else
        { x := { (y.hmEnter i .done) with homed := true, plan := none, pendVel := none }, evs := [evMotion i.axis 0x05] }
    | .goto =>
      if x.atRest i.cycle then
        { x := { (x.hmEnter i .done) with homed := true }, evs := [evMotion i.axis 0x05] }
      else { x := x }

/-- A command takes effect in its task (R443, R446, R452, R453, R456, R460, R463). -/
def ProfAxis.act (x : ProfAxis) (i : ProfIn) : PrCmd → ProfAxis × List Ev
  | .move t =>
    let (V, A, J) := prLim i.c
    let want := (BitVec.ofInt 32 (t + x.org.toInt)).toInt * 65536
    ({ x with mode := .plan, plan := some (movePlan i.cycle x.base (wrapS 48 (want - x.base)) V A J)
              pendVel := none, moving := true, tbl := none }, [])
  | .vel v =>
    let (_, A, J) := prLim i.c
    if x.mode = .plan ∨ x.mode = .hold then ({ (x.setVel i.cycle v A J) with mode := .plan }, [])
    else (x.velFrom i.cycle v A J, [])
  | .stop =>
    let (_, A, J) := prLim i.c
    if x.mode = .plan ∨ x.mode = .hold then ({ (x.setVel i.cycle 0 A J) with mode := .plan }, [])
    else (x.velFrom i.cycle 0 A J, [])
  | .tblTime d =>
    ({ x with mode := .time, plan := none, pendVel := none, moving := false, tend := false
              tbl := some { desc := d, pStart := x.base, org := i.cycle.toNat } }, [])
  | .tblCam d me =>
    match x.mode, x.tbl with
    | .cam, some t => ({ x with tbl := some { t with next := some (d, me) } }, [])
    | _, _ =>
      ({ x with mode := .cam, plan := none, pendVel := none, moving := false, tend := false
                tbl := some { desc := d, pStart := x.base, org := me } }, [])
  | .gearOn n lb =>
    ({ x with mode := .gear, plan := none, pendVel := none, moving := false, tbl := none
              gear := { m := i.m, f := x.base / 65536, n := 0, r := 0, mPrev := i.m
                        queue := [{ at' := i.m, num := n, lb := lb, dir := 1 }] } }, [])
  | .knuckle kp n lb =>
    let d := if i.m < x.gear.mPrev then (-1 : Int) else 1
    ({ x with gear := { x.gear with queue := x.gear.queue ++ [{ at' := kp, num := n, lb := lb, dir := d }] } }, [])
  | .gearOff lb =>
    let d := if i.m < x.gear.mPrev then (-1 : Int) else 1
    ({ x with gear := { x.gear with queue := x.gear.queue ++ [{ at' := i.m, num := 0, lb := lb, dir := d }] } }, [])
  | .addOfs d =>
    let q := movePlan i.cycle 0 d (i.c .ofsVmax).toNat (i.c .ofsAmax).toNat (i.c .ofsJmax).toNat
    ({ x with ofsMoves := x.ofsMoves ++ [q] }, [])
  | .home m => ({ (x.hold) with mode := .homing, hm := { st := .check, method := m, entry := i.rtS, start := x.base } }, [])
  | .clr =>
    let failed := x.mode = .homing && x.hm.st != .idle && x.hm.st != .done
    let y := x.hold
    ({ y with hm := { y.hm with st := .idle, reason := if failed then 0x5 else y.hm.reason } },
      if failed then [evMotionFault i.axis 0x14] else [])

/-- Evaluate the mode in force for the cycle (R438, R440, R446, R451). -/
def ProfAxis.evaluate (x : ProfAxis) (i : ProfIn) : ProfRes :=
  let (_, A, J) := prLim i.c
  match x.mode with
  | .host => { x := x }
  | .hold =>
    if i.state = .opened ∨ i.state = .halt ∨ i.state = .fault then
      { x := { x with base := wrapS 48 (i.fbPos.toInt * 65536), vBase := 0, aBase := 0 } }
    else { x := { x with vBase := 0, aBase := 0 } }
  | .plan =>
    let y := (x.takePend i.cycle A J).planOut i.cycle
    let done := y.moving && y.atRest i.cycle
    { x := { y with moving := y.moving && !done }, evs := if done then [evMotion i.axis 0x01] else [] }
  | .homing =>
    let r := x.homeStep i
    let y := (r.x.takePend i.cycle A J).planOut i.cycle
    { r with x := y }
  | .time =>
    match x.tbl with
    | none => { x := x }
    | some t =>
      let (p, v, ended, _) := tableAt (i.segs t.desc) (i.cyclic t.desc) t.pStart (i.cycle - w32i t.org).toNat
      { x := { x with base := wrapS 48 p, vBase := v, aBase := v - x.vBase, tbl := some { t with ended := ended }
                      tend := ended }
        evs := if ended && !t.ended then [evMotion i.axis 0x02] else [] }
  | .cam =>
    match x.tbl with
    | none => { x := x }
    | some t =>
      let xx := i.m - t.org
      let (p, s, ended, k) := tableAt (i.segs t.desc) (i.cyclic t.desc) t.pStart xx
      match t.next with
      | some (d, me) =>
        -- a further TBL_CAM takes effect at the period boundary of the running table
        if k != t.k || ended then
          let (P, Q) := tablePeriod (i.segs t.desc)
          let kb := if k < t.k then t.k else t.k + 1
          let ps := if i.cyclic t.desc then t.pStart + kb * Q * 65536 else p
          let _ := P
          let (p2, s2, e2, k2) := tableAt (i.segs d) (i.cyclic d) ps (i.m - me)
          let v := s2 * i.vm / 65536
          { x := { x with base := wrapS 48 p2, vBase := v, aBase := v - x.vBase
                          tbl := some { desc := d, pStart := ps, org := me, ended := e2, k := k2 }, tend := e2 }
            evs := if e2 then [evMotion i.axis 0x02] else [] }
        else
          let v := s * i.vm / 65536
          { x := { x with base := wrapS 48 p, vBase := v, aBase := v - x.vBase, tbl := some { t with ended := ended, k := k } } }
      | none =>
        let v := s * i.vm / 65536
        { x := { x with base := wrapS 48 p, vBase := v, aBase := v - x.vBase
                        tbl := some { t with ended := ended, k := k }, tend := ended }
          evs := if ended && !t.ended then [evMotion i.axis 0x02] else [] }
  | .gear =>
    let D := (i.c .grDen).toNat
    let (g, kn, be) := Gear.knuckles D i.m 4 x.gear
    let (b, G, v) := g.out D i.m i.vm
    { x := { x with base := wrapS 48 b, vBase := v, aBase := v - x.vBase, gear := { g with mPrev := i.m, g := G } }
      kn := kn
      evs := List.replicate kn (evMotion i.axis 0x03) ++ List.replicate be (evMotion i.axis 0x04) }

/-- The offset moves in cycle c (R456): finished moves are added exactly. -/
def ProfAxis.offsets (x : ProfAxis) (c : W32) : ProfAxis × Int × Int :=
  let fin := x.ofsMoves.filter fun q => q.past c
  let run := x.ofsMoves.filter fun q => !q.past c
  let done := wrapS 48 (fin.foldl (fun a q => a + q.pEnd.getD 0) x.ofsDone)
  let (p, v) := run.foldl (fun a q => let (p, v, _) := q.eval c; (a.1 + p, a.2 + v)) (done, 0)
  ({ x with ofsDone := done, ofsMoves := run }, wrapS 48 p, v)

/-- The software limits (R459): the base clamped to the window; the flag says it was clamped. -/
def softClamp (c : Cf → Int) (org : W32) (base : Int) : Int × Bool :=
  if c .slimEn = 0 then (base, false)
  else
    let rel := wrapS 48 (base - org.toInt * 65536)
    let r := clampI (c .slimNeg * 65536) (c .slimPos * 65536) rel
    if r = rel then (base, false) else (wrapS 48 (org.toInt * 65536 + r), true)

/-- Flags [15:0] with MODE, HMSTATE and HMREASON of PROFILE_AX_STAT (R471). -/
def ProfAxis.statWord (x : ProfAxis) (c : W32) : W32 :=
  let tblRun := match x.tbl with | some t => !t.ended | none => false
  let hmRun := x.mode = .homing && x.hm.st != .idle && x.hm.st != .done
  let planRun := x.mode = .plan && !x.atRest c
  w32 (b2n (planRun || x.gear.blend.isSome || tblRun || hmRun) + 2 * b2n x.msusp + 4 * b2n x.sclamp + 8 * b2n x.homed
    + 16 * b2n x.gear.blend.isSome + 32 * min 2 x.gear.queue.length + 128 * min 4 x.ofsMoves.length
    + 1024 * b2n x.limN + 2048 * b2n x.limP + 4096 * b2n x.tend + 65536 * x.mode.code
    + 1048576 * x.hm.st.code + 16777216 * (x.hm.reason % 16))

/-- Modes that follow a master. -/
def PrMode.mastered (m : PrMode) : Bool := m = .cam || m = .gear

/-- The PROFILE task for a cycle (R418, R436 to R465): the result is held for its commit. -/
def ProfAxis.task (x : ProfAxis) (i : ProfIn) : ProfRes :=
  let running := i.state = .run || i.state = .degraded
  -- leaving AX_RUN and AX_DEGRADED, and PARKED: Hold (R438, R465, R467)
  let hmLive := x.mode = .homing && x.hm.st != .idle && x.hm.st != .done
  let left := x.mode != .hold && (i.parked || !running && (x.ran || x.mode != .host))
  let (x, e1) := if left then
      let y := x.hold
      ({ y with hm := if hmLive then { y.hm with st := .idle, reason := 0x4 } else y.hm },
        if hmLive then [evMotionFault i.axis 0x14] else [])
    else (x, [])
  let x := { x with ran := running && !i.parked }
  -- master loss before any knuckle (R449, R465)
  let lost := i.lost && x.mode.mastered
  let x := if lost then x.hold else x
  let (x, e2) := match x.pend with
    | some (cmd, cyc) =>
      if 0 ≤ (i.cycle - cyc).toInt then
        let (y, e) := { x with pend := none }.act i cmd
        (y, e)
      else (x, [])
    | none => (x, [])
  let x := { x with msusp := i.susp && x.mode.mastered }
  let r := x.evaluate i
  let (b, cl) := if r.x.mode = .host then (r.x.base, false) else softClamp i.c r.x.org r.x.base
  let newClamp := cl && !r.x.sclamp
  let y := { r.x with base := b, sclamp := cl }
  let (y, ofs, vo) := y.offsets i.cycle
  let out : ProfOut := { pin := wrapS 48 (y.base + ofs), nin := y.vBase + vo, ain := y.aBase, stat := y.statWord i.cycle &&& 0xFFFF }
  { r with
    x := { y with held := if y.mode = .host then none else some out }
    evs := e1 ++ (if lost then [evMotionFault i.axis 0x12] else []) ++ e2 ++ r.evs ++
      (if newClamp then [evMotionFault i.axis 0x15] else [])
    react := if lost then (i.c .mlostReact).toNat else 0
    mlost := lost }

/-- A limit switch becomes active (R459, R465): toward it means against the switch's own side. -/
def ProfAxis.limitHit (x : ProfAxis) (c : Cf → Int) (axis : Nat) (neg : Bool) (cycle : W32) (isHmSw : Bool) :
    ProfAxis × List Ev × Nat :=
  let toward := if neg then x.vBase ≤ 0 else 0 ≤ x.vBase
  let suppressed := isHmSw && x.mode = .homing && x.hm.method = 4 && x.hm.st != .idle && x.hm.st != .done
  if suppressed then (x, [], 0)
  else
    let (_, A, J) := prLim c
    let hmLive := x.mode = .homing && x.hm.st != .idle && x.hm.st != .done
    if hmLive && !isHmSw then
      let y := { x with mode := .plan, hm := { x.hm with st := .idle, reason := 0x2 } }
      (y.setVel cycle 0 A J, [evMotionFault axis 0x13, evMotionFault axis 0x14], (c .limReact).toNat)
    else
      let stop := (x.mode = .plan && toward) || x.mode = .time || x.mode = .cam || x.mode = .gear
      (if stop then x.hold else x, [evMotionFault axis 0x13], (c .limReact).toNat)

/-! ### Virtual masters and the master stage (R447 to R450) -/

/-- The position (2^−16 count), speed and acceleration of a virtual master in cycle c. -/
def Vm.eval (v : Vm) (c : W32) : Int × Int × Int :=
  match v.plan with
  | some q => q.eval c
  | none => (v.pos, 0, 0)

/-- VM_VEL or VM_STOP (R450): at once where the acceleration is 0, else pending. -/
def Vm.setVel (v : Vm) (c : W32) (s : Int) (A J : Nat) : Vm :=
  let (p, v0, a) := v.eval c
  if a = 0 then { v with plan := some (velPlan c p v0 s A J), pendVel := none } else { v with pendVel := some s }

/-- Advance a virtual master to cycle c. -/
def Vm.advance (v : Vm) (c : W32) (A J : Nat) : Vm :=
  let v := match v.pendVel with
    | some s => v.setVel c s A J
    | none => v
  let (p, s, a) := v.eval c
  { v with pos := p, vel := s, acc := a }

/-- Extend a 32-bit sample to a 64-bit count (R448, R241). -/
def Master.extend (m : Master) (raw : W32) : Master :=
  if m.seen then { m with count := m.count + (raw - m.raw).toInt, raw := raw }
  else { m with count := raw.toInt, raw := raw, seen := true }

/-- The master reference m = m_s + lead, with the lead (R448). -/
def Master.ref (m : Master) (leadk : Int) : Int × Int :=
  let lead := roundDivUp (m.vel * m.age * leadk) (2 ^ 30)
  (m.count + lead, lead)

/-! ### Command checks (R463, R464) -/

/-- What a command check needs beside the axis. -/
structure PrCheck where
  c      : Cf → Int
  state  : AxState
  parked : Bool
  valid  : Bool
  /-- Master lost, and its reference. -/
  lost   : Bool
  m      : Int
  /-- The table is usable, and is not being updated. -/
  tblOk  : Bool
  tblUpd : Bool
  absSrc : Bool

/-- LAW_MODE permits the mode a command needs (R438). -/
def PrCmd.lawOk (c : Cf → Int) : PrCmd → Bool
  | .vel _ | .stop => c .lawMode = 1 || c .lawMode = 2
  | .move _ | .tblTime _ | .tblCam _ _ | .gearOn _ _ | .home _ => c .lawMode = 2
  | .knuckle _ _ _ | .gearOff _ | .addOfs _ | .clr => true

/-- The speed sign a MOVE or VEL heads for. -/
def PrCmd.heading (x : ProfAxis) : PrCmd → Int
  | .move t => sgn (wrapS 48 ((BitVec.ofInt 32 (t + x.org.toInt)).toInt * 65536 - x.base))
  | .vel v => sgn v
  | .stop | .tblTime _ | .tblCam _ _ | .gearOn _ _ | .knuckle _ _ _ | .gearOff _ | .addOfs _ | .home _ | .clr => 0

/-- The axis state or PR_MODE permits the command (R463). -/
def PrCmd.stateOk (x : ProfAxis) (s : AxState) : PrCmd → Bool
  | .move _ | .vel _ | .stop | .tblTime _ | .tblCam _ _ | .gearOn _ _ => s = .run || s = .degraded
  | .knuckle _ _ _ | .gearOff _ => x.mode = .gear
  | .home _ => s = .run
  | .addOfs _ => true
  | .clr => true

/-- Arguments within their ranges (reason 0x2). -/
def PrCmd.argOk (k : PrCheck) : PrCmd → Bool
  | .vel v => (v.natAbs : Int) ≤ k.c .prVmax
  | .tblTime _ | .tblCam _ _ => k.tblOk
  | .gearOn _ lb | .gearOff lb | .knuckle _ _ lb => lb % 2 = 0
  | .home m => decide (1 ≤ m) && decide (m ≤ 6) && (m != 6 || k.absSrc)
  | .move _ | .stop | .clr => true
  | .addOfs d => d = wrapS 32 d

/-- The refusal reason of a command, 0 where it is accepted, checked in the order of R464. -/
def ProfAxis.refusal (x : ProfAxis) (k : PrCheck) (cmd : PrCmd) : Nat :=
  let hmRun := x.mode = .homing && x.hm.st != .idle && x.hm.st != .done
  let dir := if k.m < x.gear.mPrev then (-1 : Int) else 1
  let isClr := match cmd with | .clr => true | _ => false
  let isOfs := match cmd with | .addOfs _ => true | _ => false
  let isTbl := match cmd with | .tblTime _ | .tblCam _ _ => true | _ => false
  let usesMaster := match cmd with | .tblCam _ _ | .gearOn _ _ | .knuckle _ _ _ | .gearOff _ => true | _ => false
  let queueFull := match cmd with | .knuckle _ _ _ | .gearOff _ => decide (2 ≤ x.gear.queue.length) | _ => false
  let move? := match cmd with | .move t => some t | _ => none
  let h := cmd.heading x
  if !k.valid then 0x2
  else if !cmd.stateOk x k.state then 0x1
  else if !cmd.argOk k then 0x2
  else if move?.isSome && !(x.nin = 0 && x.ain = 0) then 0x3
  else if (match move? with
    | some t => k.c .slimEn = 1 && (decide (t < k.c .slimNeg) || decide (k.c .slimPos < t))
    | none => false) then 0x4
  else if x.pend.isSome || queueFull || (isOfs && decide (4 ≤ x.ofsMoves.length)) || (hmRun && !isClr && !isOfs)
      || (isTbl && k.tblUpd) then 0x5
  else if usesMaster && k.lost then 0x6
  else if !cmd.lawOk k.c then 0x7
  else if k.parked && !isClr && !isOfs then 0x8
  else if (decide (h < 0) && x.limN) || (decide (0 < h) && x.limP) then 0x9
  else if (match cmd with | .knuckle kp _ _ => x.gear.passed k.m kp dir | _ => false) then 0xA
  else 0

end Sys2Proof.Machine
end

