-- ==== Sys2Proof/Machine/Fault.lean ====
section
/-! DEFINITION. Machine/Fault.lean: a fault of a cell on the chip as a whole: its record, the isolation of a block
and what CHIP_SAFE does (R28 to R42, R405, R469, R623, R628, R666). -/

namespace Sys2Proof.Machine

/-! ### Records -/

/-- The ledger is in service. -/
def Core.ledgerOk (c : Core) : Bool := !c.iso 5 5

/-- Update the ledger's data. -/
def Core.updLed (c : Core) (f : Ledger → Ledger) : Core := { c with led := { c.led with led := f c.led.led } }

/-- A field-return record of a trigger (R628, R629); none where the region is frozen or the ledger isolated. -/
def Core.frRecord (c : Core) (trigger : Nat) : Core :=
  if c.maint.running .frExport then
    { c with maint := { c.maint with frLost := c.maint.frLost + 1 } }.raise [ev0 EvNo.fieldRecord 2]
  else if c.ledgerOk then
    let x : FrIn := { rt := c.now, cycle := c.cycle.cycle, trigger := trigger, kind := c.boot.kind.code
                      errs := forN 6 fun r => c.err.reg.look r 0
                      emin := forN 4 fun f => (c.disp.flow.look f {}).slackEmin }
    let body := frBody c.led.led c.health x
    (({ (c.updLed fun l => l.frWrite trigger body) with health := c.health.frTaken }).raise [ev0 EvNo.fieldRecord 1])
  else { c with health := { c.health with lost := c.health.lost + 1 } }

/-- An error record (R38, R39, R623): region register, fault history, lifetime count. -/
def Core.errRecord (c : Core) (region block cause action detail : Nat) : Core :=
  let w := errWord action cause block detail
  let c := { c with err := c.err.record region w }
  let c := c.updLed fun l => { l with life := { l.life with errors := l.life.errors + 1 } }
  if c.ledgerOk then c.updLed fun l => l.fhWrite (fhRecord c.now w region c.cycle.cycle)
  else { c with health := { c.health with lost := c.health.lost + 1 } }

/-! ### Tasks lost outside a chain (R419, R429, R468) -/

/-- The MEASURE task of an area ends cancelled with a reason, running or not. -/
def Core.dropMeasure (c : Core) (area reason : Nat) : Core :=
  let mine := fun (r : Ready) => decide (r.task = .measure) && decide (r.key = area)
  let gone := fun (c : Core) (r : Ready) =>
    let c := c.tr { (c.trOf 5 r) with reason := reason }
    { c with disp := c.disp.tallied r.due (·.ended (.cancelled reason)) }
  match c.disp.running.find? fun r => mine r.r with
  | some r => ((gone (c.freeUnit r) r.r).measEnd area 8).place .sp
  | none =>
    match c.disp.sp.find? mine with
    | some r => (gone { c with disp := { c.disp with sp := c.disp.sp.filter fun x => !mine x } } r).measEnd area 8
    | none => c

/-- The PROFILE task of an axis ends as released-empty, running or not (R468). -/
def Core.dropProfile (c : Core) (a : Nat) : Core :=
  match c.disp.unitOf .profile a false with
  | some r =>
    let c := (c.freeUnit r).tr { (c.trOf 4 r.r) with unit := r.unit }
    (c.profileEmpty r.r).place .pu
  | none =>
    match (c.disp.pu.flatMap fun e => e.2).find? fun r => r.key = a with
    | some r => { c with disp := { c.disp with pu := c.disp.pu.each fun _ l => l.filter fun x => x.key != a } }.profileEmpty r
    | none => c

/-! ### Isolation (R27, R33, R405, R469) -/

/-- Axes fed by a Cuff channel. -/
def Core.fedBy (c : Core) (n : Nat) : List Nat := (c.image.axis.filter fun e => c.source e.1 = .channel n).map (·.1)

/-- Cancel what runs on a unit, with reason 0x3; a copy of a paired LAW only leaves its engine (R367). -/
def Core.cancelUnit (c : Core) (k : Cls) (u : Nat) : Core :=
  match c.disp.on k u with
  | none => c
  | some r =>
    let a := r.r.key
    if r.r.task = .profile then
      let c := c.tr { (c.trOf 5 r.r) with reason := 3 }
      { (c.freeUnit r) with disp := ((c.freeUnit r).disp).tallied r.r.due (·.ended (.cancelled 3)) }
    else if r.r.task = .measure then
      let c := c.tr { (c.trOf 5 r.r) with reason := 3 }
      ({ (c.freeUnit r) with disp := ((c.freeUnit r).disp).tallied r.r.due (·.ended (.cancelled 3)) }).measEnd a 8
    else if r.r.task = .law && (c.chainOf a).paired then
      let c := c.tr { (c.trOf 5 r.r) with reason := 3 }
      let c := { (c.freeUnit r) with disp := ((c.freeUnit r).disp).tallied r.r.due (·.ended (.cancelled 3)) }
      c.updChain a fun (x : Chain) => x.mark (fun t => t.task = Task.law && t.copyB = r.r.copyB) (.ended (.cancelled 3))
    else c.cancelEmpty a 3

/-- ADC pairs of an isolated processor move to their backup with cleared state and SUSPECT (R405). -/
def Core.moveHomes (c : Core) (u : Nat) : Core :=
  (List.range 8).foldl (fun (c : Core) p =>
    if c.pairHome p = u && !c.sig.moved.getLsbD p then
      let x := c.ch p
      let rose := !x.suspect
      let c := { c with sig := { c.sig with moved := c.sig.moved ||| (1 <<< p), lost := c.sig.lost ||| (1 <<< p) } }
      let c := c.putCh p { x with suspect := true, turns := 0, peaks := [] }
      let c := c.raise [evPair EvNo.spHomeMoved p]
      if rose then match c.chanAxis p with | some a => c.suspRose a | none => c else c
    else c) c

/-- What leaves service with a block, beyond the chip outcome. -/
def Core.leaveService (c : Core) (region block : Nat) : Core :=
  match region with
  | 0 =>
    if block < 8 then c.portDown block
    else if block < 12 then c.putSg (block - 8) { (c.sg (block - 8)) with dead := true }
    else c
  | 1 =>
    -- a domain time base, or the engine of the port that the domain is on (R197, R220)
    let hit := fun (n : Nat) => block = n || (block = 3 || block = 4) &&
      (let w := if n = 1 then c.image.time.domA else c.image.time.domB
       fld w 9 8 = block - 3 || fld w 9 8 = 2 && (c.time.ptp n).parentPort = block - 3)
    let (a, e1) := if hit 1 then c.time.ptpA.invalidate 1 else (c.time.ptpA, [])
    let (b, e2) := if hit 2 then c.time.ptpB.invalidate 2 else (c.time.ptpB, [])
    -- the trigger bus goes to high impedance
    { c with time := { c.time with ptpA := a, ptpB := b, pps := if block = 6 then [] else c.time.pps } }.raise (e1 ++ e2)
  | 2 =>
    if block = 0 then { c with disp := { c.disp with iso := true } }
    else if block ≤ 32 then
      ({ c with eng := { c.eng with eng := c.eng.eng.upd (block - 1) {} fun e => { e with iso := true } } }).cancelUnit .eng (block - 1)
    else if block ≤ 40 then
      let u := block - 33
      let c := ({ c with sig := { c.sig with proc := c.sig.proc.upd u {} fun q => { q with iso := true, hand := none } } }).cancelUnit .sp u
      c.moveHomes u
    else if block ≤ 48 then c.cancelUnit .cu (block - 41)
    else if block ≤ 52 then
      let u := block - 49
      let c := ({ c with prof := { c.prof with iso := c.prof.iso ||| (1 <<< u) } }).cancelUnit .pu u
      let rest := c.disp.pu.look u []
      let c := { c with disp := { c.disp with pu := c.disp.pu.put u [] } }
      let c := rest.foldl (fun (c : Core) r =>
        let v := c.puOf r.key
        { c with disp := { c.disp with pu := c.disp.pu.upd v [] (· ++ [r]) } }) c
      c.place .pu
    else c
  | 3 =>
    if block < 16 then (c.fedBy block).foldl (fun c a => c.axisFault a 1) c
    else if block < 24 then
      (c.fedBy (block - 16)).foldl (fun c a =>
        if (c.ch (block - 16)).type = 4 || (c.ch (block - 16)).type = 6 then c.axisFault a 1 else c) c
    else if block < 28 then
      (c.axes.filter fun a => (c.imgAx a).seg = block - 24 && c.remoteFeedback a).foldl (fun c a => c.axisFault a 1) c
    else if block = 28 then { c with vis := c.vis.lose }
    else
      -- MEASURE tasks of discarded records that have not started end cancelled
      let gone := c.vis.closed.filter (·.meas)
      let c := gone.foldl (fun (c : Core) r => c.dropMeasure r.area 3) c
      { c with vis := c.vis.loseMem }
  | 4 =>
    let (g, evs) := c.gs.lose
    { c with gs := g }.raise evs
  | _ => if block = 8 then { c with maint := { c.maint with iso := true } } else c

/-- CHIP_SAFE acts on the stated axes (R33, R34). -/
def Core.chipSafe (c : Core) (s : SafeScope) : Core :=
  match s with
  | .none => c
  | .segment n => (c.axes.filter fun a => (c.imgAx a).seg = n).foldl (fun c a => c.axisHalt a) c
  | .bank k => (c.axes.filter fun a => a / 32 = k).foldl (fun c a => c.gauntletFault a 8) c
  | .guard | .all => c.axes.foldl (fun c a => c.axisHalt a) c

/-! ### Sites (R32, R326, R295, R666) -/

/-- A FEEDBACK item is lost: the chain is cancelled with reason 0x2. -/
def Core.itemLost (c : Core) (a : Nat) : Core := c.cancelEmpty a 2

/-- The table of an entry is bad: each axis that runs it goes to AX_FAULT with cause 0x8 (R468). -/
def Core.tableBad (c : Core) (i : Nat) : Core :=
  let runs := c.axes.filter fun a => match (c.pa a).tbl with
    | none => false
    | some t => let d := c.prof.descOf t.desc; decide (d.first ≤ i) && decide (i < d.first + d.count)
  let c := { c with prof := { c.prof with bad := insertNat i c.prof.bad } }
  runs.foldl (fun (c : Core) a => (c.axisFault a 8).raise [evMotionFault a 0x16]) c

/-- What a fault does to the item that held it; `lost` says that the item is lost and `state` that the fault is a parity
fault of control state. -/
def Core.faultSite (c : Core) (site : FaultSite) (lost state : Bool) : Core :=
  match site with
  | .plain | .programStore => c
  | .axisConfig a off => if lost then (c.zeroCfgWord a off).axisFault a 8 else c
  | .axisCycle a off read held =>
    if lost then
      let c := if read then c.itemLost a else c
      let c := c.setWord a off 0
      if held then
        let c := if decide (oObs ≤ off) && decide (off < oObs + 60) then c.updOb a fun x => ({} : ObsAxis) |> fun y => { y with sub := x.sub } else c
        c.axisFault a 8
      else c
    else c
  | .task a t =>
    if !lost then c
    else if t = 8 then c.dropProfile a
    else if t = 9 then c.dropMeasure a 2
    else c.itemLost a
  | .feed a => if lost then c.itemLost a else c
  | .driveRecord a =>
    if lost then
      match c.slotOf a with
      | some s => { c with disp := { c.disp with flow := c.disp.flow.upd (c.imgAx a).seg {} fun f => { f with entries := f.entries.put s .errMarker } } }
      | none => c
    else c
  | .rxCopy n pos side => if lost then c.putSl n ((c.sl n).loseCopy pos side) else c
  | .logEntry i =>
    if lost then { c with lostLog := c.lostLog ++ [(i, c.freeCtr)], freeCtr := c.freeCtr + 3 } else c
  | .tableEntry i => if lost then c.tableBad i else c
  | .visorRecord area => if lost then { c with vis := c.vis.setMemErr c.vcfg area } else c
  | .traceEntry i =>
    if lost then
      let blank : TraceRec := { w0 := 0, w1 := 0xF, w2 := 0, w3 := 0 }
      { c with disp := { c.disp with trace := c.disp.trace.set i blank } }
    else c
  | .listEntry k t =>
    if !lost then c else if t = 8 then c.dropProfile k else if t = 9 then c.dropMeasure k 2 else c.itemLost k
  | .mailbox n cls => if lost then c.putSl n ((c.sl n).spoil cls (c.is n).pool (c.admitted n) c.cycle.cycle) else c
  | .chanRegion p =>
    if lost then
      { (c.putCh p { (c.ch p) with turns := 0, peaks := [] }) with sig := { c.sig with lost := c.sig.lost ||| (1 <<< p) } }
    else c
  | .capEntry i =>
    if lost && decide (i < c.time.caps.length) then
      { c with time := { c.time with caps := c.time.caps.eraseIdx i, capOvf := incWrap 16 c.time.capOvf } }
    else c
  | .latchEntry n i =>
    let x := c.ch n
    if lost && decide (i < x.latch.length) then
      c.putCh n { x with latch := x.latch.eraseIdx i, latchOvf := incWrap 8 x.latchOvf }
    else c
  | .axisPhase a =>
    if state then
      let c := c.updFa a fun x => { x with prov := true, started := false, idxBasis := false, idxSeen := false, rebase := none }
      if (c.ax a).state = .opened then c else c.axisFault a 2
    else c
  | .axisObs a =>
    if state then
      let before := (c.ob a).sub
      let (x, evs) := (c.ob a).parc a
      ((c.updOb a fun _ => x).raise evs).followSub a before
    else c

/-- DETAIL of a record (R38). Both of its rows fit a task item that a memory fault hits: a memory fault (cause ECC1 or ECC2) names
the word index, every other cause the task (DESIGN CHOICE, log entry 60). -/
def FaultSite.detail (s : FaultSite) (cause word : Nat) : Nat :=
  match s with
  | .task a t | .listEntry a t => if cause = 1 ∨ cause = 2 then word else a % 256 + 256 * (t % 16)
  | .plain | .programStore | .axisConfig _ _ | .axisCycle _ _ _ _ | .feed _ | .driveRecord _ | .rxCopy _ _ _ | .logEntry _
  | .tableEntry _ | .visorRecord _ | .traceEntry _ | .mailbox _ _ | .chanRegion _ | .capEntry _ | .latchEntry _ _ | .axisPhase _
  | .axisObs _ => word

/-- The cause by which a fault escalates: a parity fault of a list entry ends as ITEM_LOST, as one of the datapath does
(R31, R429). -/
def FaultSite.ladder (s : FaultSite) (cause : Nat) : Nat :=
  match s with
  | .listEntry _ _ => if cause = 5 then 4 else cause
  | _ => cause

/-- A report that is not taken: the block is isolated or absent, or unpowered in STANDBY; a waking block is powered and tests
itself (R22, R41, R42, R600). -/
def Core.faultMute (c : Core) (region block : Nat) : Bool :=
  c.iso region block || decide (blocksOf region ≤ block) || c.boot.lp = .standby && (region = 0 || region = 2)

/-- The chip error manager writes the record of a verdict and raises its events (R37, R38, R623); nothing once it has stopped. -/
def Core.manageRecord (c : Core) (region block cause : Nat) (v : Verdict) (detail : Nat) : Core :=
  if c.err.cemStopped then c
  else
    let corrRaised := c.err.corrEv.contains region
    let c := c.errRecord region block cause v.action detail
    let c := if v.action = 1 then
        { c with err := { c.err with corr := c.err.corr.upd region 0 (· + 1), corrEv := insertNat region c.err.corrEv } }
      else c
    c.raise (v.events region block corrRaised)

/-- The chip error manager takes the chip outcome of a verdict: CHIP_SAFE with its field-return record, and the beginning of an
ESCALATION reset (R33, R36, R628); nothing once it has stopped. -/
def Core.manageChip (c : Core) (region block : Nat) (v : Verdict) : Core :=
  if c.err.cemStopped then c
  else
    let c := c.chipSafe v.safe
    let c := if v.safe = .none then c else c.frRecord 1
    if v.reset then
      let c := c.frRecord 2
      match c.err.safeAt with
      | some _ => c
      | none => { c with err := { c.err with safeAt := some c.now, safeBlk := 256 * region + block, ledgerEnded := !c.ledgerOk
                                             ledgerLost := !c.ledgerOk } }
    else c

/-- A cell reports a cause (R28 to R40): `word` is the word index of a memory fault, 0 otherwise. What the block and its region do
of themselves happens whether or not the chip error manager runs. -/
def Core.cellFault (c : Core) (region block cause : Nat) (site : FaultSite) (word : Nat) : Core :=
  if c.faultMute region block then c
  else
    let program := match site with | .programStore => true | _ => false
    if region = 5 ∧ block = 9 then
      -- the chip error manager's own fault (R35)
      if c.err.cemStopped then c
      else if cause = 1 then { c with err := { c.err with corr := c.err.corr.upd 5 0 (· + 1) } }
      else if isolating cause || (cause = 2 && program) then
        { c with err := { c.err with cemStopped := true }
                 health := { c.health with hbCem := rtAdd c.now (-((rtDiff c.now c.health.hbCem) % 400000)) } }
      else c
    else
      let other := decide (region = 0) && decide (block < 8) && c.iso 0 (if block % 2 = 0 then block + 1 else block - 1)
      let v := verdict region block (site.ladder cause) program (c.err.lost.look (blkKey region block) 0) other
      let w := if region = 3 ∧ block = 29 then word / 4 else word
      let c := c.manageRecord region block cause v (site.detail cause w)
      let c := if v.lost then { c with err := c.err.countLost region block } else c
      let c := if v.isolate then { c with err := c.err.isolate region block } else c
      let c := c.faultSite site (v.lost || (v.isolate && cause = 2)) (cause = 5)
      let c := if v.isolate then c.leaveService region block else c
      c.manageChip region block v

end Sys2Proof.Machine
end

