-- ==== Sys2Proof/Machine/Load.lean ====
section
/-! DEFINITION. Machine/Load.lean: configuration words of an axis, lining targets, and the values that a write of a
register of Apply class cycle or epoch puts in force (R216, R256, R357, R554, R560, R589, R590). -/

namespace Sys2Proof.Machine

/-! ### Pages of BAR0 (R550) -/

/-- LINK segment pages begin here. -/
abbrev pgSeg : Nat := 0x10000
/-- LINK port pages. -/
abbrev pgPort : Nat := 0x18000
/-- TIME. -/
abbrev pgTime : Nat := 0x20000
/-- DISPATCH. -/
abbrev pgDisp : Nat := 0x30000
/-- ENGINE global. -/
abbrev pgEng : Nat := 0x40000
/-- SIGPROC. -/
abbrev pgSig : Nat := 0x50000
/-- COMMUTE. -/
abbrev pgCmt : Nat := 0x60000
/-- PROFILE. -/
abbrev pgProf : Nat := 0x70000
/-- CUFF. -/
abbrev pgCuff : Nat := 0x80000
/-- GAUNTLET. -/
abbrev pgGs : Nat := 0x90000
/-- VISOR. -/
abbrev pgVis : Nat := 0xA0000
/-- HOSTIF. -/
abbrev pgHost : Nat := 0xB0000
/-- BOOT. -/
abbrev pgBoot : Nat := 0x1000
/-- HEALTH. -/
abbrev pgHealth : Nat := 0x2000
/-- LEDGER. -/
abbrev pgLed : Nat := 0x3000
/-- EVENTS. -/
abbrev pgEv : Nat := 0x4000
/-- MAINT. -/
abbrev pgMaint : Nat := 0x5000
/-- Keys of staged BAR2 words lie above every BAR0 offset. -/
abbrev bar2Key : Nat := 0x10000000

/-! ### Lining (R589, R590) -/

/-- One lining entry replaces the image value of its target. -/
def Core.lineEntry (c : Core) (e : LinEntry) : Core :=
  let k := fld e.tgt 31 28
  if k = 1 then c.setCfgWord (fld e.tgt 27 20) (fld e.tgt 11 0) e.val
  else if k = 2 then
    let n := fld e.tgt 19 16
    let x := c.ch n
    if fld e.tgt 7 0 = 0x30 then c.putCh n { x with lin := e.val }
    else if fld e.tgt 7 0 = 0x34 then c.putCh n { x with lin2 := e.val } else c
  else if k = 3 then { c with pinOfs := c.pinOfs.put (fld e.tgt 7 0) e.val.toInt }
  else c

/-- The entries of the stored lining that R589 applies; none where the directory could not be rebuilt (R603). -/
def Core.liningNow (c : Core) : LinRes :=
  if c.led.badDir then { apply := [], skipped := 0, evs := [ev0 EvNo.liningRejected] }
  else linApply c.led.led.lining c.image.lin c.boot.head.inst (!c.ledgerOk)

/-- Configuration areas at the image's values, with the axis entries of the lining (R366, R589); PR_ORG takes PR_ORG0 (R466). -/
def Core.loadAxes (c : Core) : Core :=
  let c : Core := { c with cfg := c.image.axis.map (fun (e : Nat × ImgAxis) => (e.1, e.2.cfg))
                           raw := c.image.axis.map (fun (e : Nat × ImgAxis) => (e.1, e.2.raw)) }
  let c := ((c.liningNow.apply).filter fun e => fld e.tgt 31 28 = 1).foldl Core.lineEntry c
  let c := c.axes.foldl (fun (c : Core) a => c.updPa a fun x => { x with org := w32i (c.cf a .prOrg0) }) c
  { c with eng := { c.eng with cfgImg := true } }

/-! ### Values that staged writes put in force -/

/-- A Cuff configuration write at its boundary, with the second check of R256. -/
def Core.cuffCfg (c : Core) (n reg : Nat) (w : W32) : Core :=
  let ok := (c.fedBy n).all fun a => (c.ax a).state = .off || (c.ax a).state = .opened
  if ok then c.putCh n ((c.ch n).setCfg reg c.cycle.rtS w)
  else
    { c with cuff := { c.cuff with cfgref := c.cuff.cfgref ||| (1 <<< n) } }.raise [evChan EvNo.fbCfgRefused n]

/-- A BAR2 word takes effect: a configuration word, or host words of the per-cycle area (R357, R559). -/
def Core.bar2Now (c : Core) (k : Nat) (s : Staged) : Core :=
  let a := k / 0x10000
  let off := k % 0x10000
  if 0x800 ≤ off then c.setCfgWord a off s.val
  else
    let c := c.setWord a off s.val
    match s.hi with
    | some h => c.setWord a (off + 4) h
    | none => c

/-- A register of Apply class cycle or epoch takes its value. -/
def Core.regNow (c : Core) (addr : Nat) (w : W32) : Core :=
  let o := addr % 0x1000
  let page := addr - o
  if pgSeg ≤ page ∧ page < pgSeg + 0x4000 ∧ o = 0 then
    let s := (page - pgSeg) / 0x1000
    c.putSg s { (c.sg s) with ctl := fixSegCtl w }
  else if addr = pgTime + 4 then { c with time := { c.time with rtCtl := fixRtCtl w } }
  else if addr = pgTime + 8 then { c with time := { c.time with rtCtl2 := fixRtCtl2 w } }
  else if addr = pgDisp + 4 then { c with disp := { c.disp with slackThr := w } }
  else if addr = pgDisp + 0xA0 then { c with disp := { c.disp with trCtl := w } }
  else if addr = pgDisp + 0xA4 then { c with disp := { c.disp with trCyc := w } }
  else if page = pgCuff ∧ 0x400 ≤ o then c.cuffCfg ((o - 0x400) / 0x80) (o % 0x80) w
  else if page = pgVis then { c with vis := { c.vis with reg := c.vis.reg.put o (fixVis o w) } }
  else if addr = pgHealth + 0x18 then { c with health := { c.health with therm := fixTherm w } }
  else if addr = pgHealth + 0x34 then { c with health := { c.health with margin := w } }
  else c

/-- A staged write takes effect. -/
def Core.stagedNow (c : Core) (e : Nat × Staged) : Core :=
  if bar2Key ≤ e.1 then c.bar2Now (e.1 - bar2Key) e.2 else c.regNow e.1 e.2.val

/-- Every staged write of a class takes effect (R554), but for one that reached HOSTIF exactly at this S, which waits for the next
boundary (R664 row 2). -/
def Core.applyStaged (c : Core) (epoch : Bool) : Core :=
  let due := fun (w : Staged) => w.epoch = epoch && w.at' != c.cycle.rtS
  let now := c.host.stage.filter fun e => due e.2
  let c := { c with host := { c.host with stage := c.host.stage.filter fun e => !due e.2 } }
  now.foldl (fun c e => c.stagedNow e) c

end Sys2Proof.Machine
end

