-- ==== Sys2Proof/Machine/Tasks.lean ====
section
/-! DEFINITION. Machine/Tasks.lean: what the tasks of an axis's chain do when they complete, and the PROFILE task
(R245, R255, R268 to R291, R302, R347 to R363, R400 to R402, R434 to R449). -/

namespace Sys2Proof.Machine

/-! ### The sense record and images -/

/-- The axis's sense record of the cycle, as bytes (zero where none was accepted). -/
def Core.senseBytes (c : Core) (a : Nat) : List Byte := (forN 8 fun k => leBytes (c.word a (oSense + 4 * k))).flatten

/-- The completed image of a cycle, where it is held (R77). -/
def Core.imageOf (c : Core) (n : W32) : Option CycleImage := c.cycle.images.find? fun i => i.cycle = n

/-- A word of another axis in the image of cycle c − 1 (R338). -/
def Core.prevWord (c : Core) (a off : Nat) : Option W32 :=
  (c.imageOf (c.cycle.cycle - 1)).map fun i => (i.words.look a []).look off 0

/-- Phase currents of the sense record with the axis's Clarke transform (R269). -/
def Core.clarkeOf (c : Core) (a : Nat) : Int × Int × Bool :=
  let b := c.senseBytes a
  clarke (c.cf a .cmtNph) (recS16 b 4) (recS16 b 6) (recS16 b 8)

/-! ### Chain steps -/

/-- A task of the axis completes and its successor is posted (R411). -/
def Core.taskEnds (c : Core) (r : Running) (t : Task) : Core :=
  let c := c.complete r
  match (c.chainOf r.r.key).after t with
  | some n => c.postNext r.r.key n
  | none => c

/-- A processor's task sets sticky flags (R402): `mask` holds S, HS, DZ; `place` is 0 FEEDBACK, 1 FILTER, 2 OBSERVE. -/
def Core.spSticky (c : Core) (a place mask : Nat) : Core :=
  if mask = 0 then c
  else
    let c := c.setWord a oSpFlags (c.word a oSpFlags ||| w32 (mask * 16 ^ place))
    let c := if place = 0 && mask % 4 != 0 then c.setWord a oFlags (c.word a oFlags ||| 0x80) else c
    ({ c with sig := { c.sig with satCnt := c.sig.satCnt + 1 } }).raise [(evAxis EvNo.spSat a).limited a]

/-! ### FLT (R361, R362, R396, R397) -/

/-- A running task ends in FLT with a code. -/
def Core.taskFlt (c : Core) (r : Running) (code : Nat) : Core :=
  let a := r.r.key
  match r.r.task with
  | .law =>
    let e := c.eng.eng.look r.unit {}
    if e.paired then
      -- the ending goes to the comparator
      let copy : PairCopy := { engine := r.unit, writes := e.buf, sticky := e.sticky, ending := .flt code }
      { (c.complete r) with eng := { (c.complete r).eng with copies := (c.complete r).eng.copies.upd a [] (· ++ [copy]) } }
    else
      let c := { c with eng := { c.eng with lawFlt := c.eng.lawFlt + 1 } }.raise [evAxis EvNo.lawFault a code]
      (c.axisFault a 5 code).cancelEmpty a 5
  | .feedback | .filter | .observe | .measure =>
    if r.cls = .sp then
      let info := w32 (a % 256 + 256 * r.r.task.code + 4096 * r.unit + 65536 * code + 2147483648)
      let c := { c with sig := { c.sig with fltCnt := c.sig.fltCnt + 1, fltInfo := info } }
      if r.r.task = .measure then
        let c := c.raise [{ num := EvNo.spFlt, code := code }]
        let c := c.tr { (c.trOf 5 r.r) with unit := r.unit, reason := 5 }
        let c := { (c.freeUnit r) with disp := (c.freeUnit r).disp.tallied r.r.due (·.ended (.cancelled 5)) }
        (c.measEnd r.r.key 8).place .sp
      else
        let c := c.raise [evAxis EvNo.spFlt a code]
        (c.axisFault a 5 code).cancelEmpty a 5
    else c
  | .commuteIn | .commuteOut | .pack | .profile => c

/-! ### FEEDBACK (R245, R255) -/

/-- The checks of R245 that follow any FEEDBACK task, on the words it has written: the JUMP check, the bad run, and the
events and reactions of SUSPECT. `local?` is the channel of a local source. -/
def Core.feedbackChecks (c : Core) (a : Nat) (bad rise fall : Bool) (local? : Option Nat) : Core :=
  let fb := c.cuff.axis.look a {}
  let pos := c.word a oPos
  let jump := jumped fb.last pos c.cycle.cycle (c.cf a .fbcMaxstep).toNat
  let was := c.susp a
  let c := if jump then
      let c := c.setWord a oFlags (c.word a oFlags ||| 0x140)
      match local? with
      | some n =>
        let x := c.ch n
        (c.putCh n { (x.setFlag fJump true) with suspect := true, errAnom := incWrap 16 x.errAnom }).raise [fbEv EvNo.fbJump (some a) n]
      | none =>
        let s := (c.imgAx a).seg
        let cu := c.cuff
        let cu := { cu with axis := cu.axis.upd a {} fun (y : AxisFb) => { y with remote := { y.remote with suspect := true, flags := y.remote.flags ||| 0x40 } }
                            rfdAnom := cu.rfdAnom.upd s 0 (incWrap 16) }
        ({ c with cuff := cu }).raise [fbEv EvNo.fbJump (some a) 0]
    else c
  let run := if bad then fb.badRun + 1 else 0
  let c := { c with cuff := { c.cuff with axis := c.cuff.axis.upd a {} fun (y : AxisFb) => { y with last := some (pos, c.cycle.cycle), badRun := run } } }
  let c := if fall then c.suspFell a else c
  let c := if rise || (jump && !was) then c.suspRose a else c
  if bad && (run : Int) = c.cf a .fbcBad then (c.raise [evAxis EvNo.fbAxisFault a]).axisFault a 1 else c

/-- The library's FEEDBACK task on the axis's source. -/
def Core.feedbackTask (c : Core) (a : Nat) : Core :=
  let i := c.imgAx a
  let write := fun (c : Core) (r : FbResult) =>
    (c.setWords a [(oPos, r.pos), (oVel, w32i r.vel), (oTedge, r.tedge), (oIdx, r.idx), (oFlags, r.flags)]).raise r.evs
  let vsat := fun (r : FbResult) => if bit r.flags 7 && c.spFeedback a then 1 else 0
  match c.source a with
  | .channel n =>
    let (x, r) := (c.ch n).feedback n a c.cycle.rtS c.len
    let bad := r.bad || c.sig.dead.getLsbD n
    ((write (c.putCh n x) r).spSticky a 0 (vsat r)).feedbackChecks a bad r.rise r.fall (some n)
  | .remote t =>
    let b := c.senseBytes (c.srcAxis a)
    let m := (c.cuff.axis.look a {}).remote
    let tol := (c.cf a .fbcIdxtol).toNat
    let cpr := w32i (c.cf a .fbcCpr)
    let (m', r, dbl, anom) :=
      if t = 0x22 then m.rec22 a (c.cf a .fbcInterp).toNat b
      else if t = 0x23 then m.rec23 a b
      else m.rec21 a cpr tol (cpr != 0) c.cycle.rtS c.len b
    let cu := c.cuff
    let cu := { cu with axis := cu.axis.upd a {} fun (y : AxisFb) => { y with remote := m' }
                        rfdDbl := cu.rfdDbl.upd i.seg 0 fun n => (n + dbl) % 65536
                        rfdAnom := cu.rfdAnom.upd i.seg 0 fun n => (n + anom) % 65536 }
    ((write { c with cuff := cu } r).spSticky a 0 (vsat r)).feedbackChecks a r.bad r.rise r.fall none

/-- FEEDBACK_TASK_DONE. -/
def Core.feedbackDone (c : Core) (a : Nat) : Core :=
  match c.runningTask .feedback a with
  | none => c
  | some r => (c.feedbackTask a).taskEnds r .feedback

/-! ### FILTER and OBSERVE -/

/-- FILTER_TASK_DONE (R400). -/
def Core.filterDone (c : Core) (a : Nat) : Core :=
  match c.runningTask .filter a with
  | none => c
  | some r =>
    let (ws, sat) := filterTask (c.cf a) (c.word a)
    ((c.setWords a ws).spSticky a 1 (b2n sat)).taskEnds r .filter

/-- Write the observer's words (R302). -/
def Core.obsWords (c : Core) (a : Nat) : Core :=
  let x := c.ob a
  c.setWords a [(oTheta, w32 x.theta), (oOmega, wF16 (x.wh / 256)),
    (oThout, w32 (obsThout (c.cf a) x.theta x.wh c.modeI.tU c.tcyc)), (oConf, w32 x.conf)]

/-- The transitions that follow an estimate (R309, R313 to R315, R318). -/
def Core.obsTransitions (c : Core) (a : Nat) : Core :=
  let x := c.ob a
  let cf := c.cf a
  let before := x.sub
  let (y, evs) := x.holdStep cf a
  let c := ((c.updOb a fun _ => { y with holdDue := false }).raise evs).followSub a before
  let y := c.ob a
  let code := y.failCode cf
  if code != 0 then c.putObs a (y.fail cf a code)
  else if y.rampReady cf then
    let c := c.presetHandoff a
    c.followSub a before
  else c

/-- The library's OBSERVE task. -/
def Core.observeTask (c : Core) (a : Nat) : Core :=
  let cf := c.cf a
  let (al, be, _) := c.clarkeOf a
  let x := c.ob a
  let sat := match x.interval with
    | some v => x.sub != .preset && (x.raw cf v.1 v.2 al be).sat
    | none => false
  let y := if c.parked then x.blind cf else x.estimate cf al be
  let c := c.updOb a fun _ => { y with seen := some c.cycle.cycle }
  let c := (c.obsWords a).spSticky a 2 (b2n (sat && !c.parked))
  if c.parked then c else c.obsTransitions a

/-- OBSERVE_TASK_DONE. -/
def Core.observeDone (c : Core) (a : Nat) : Core :=
  match c.runningTask .observe a with
  | none => c
  | some r => (c.observeTask a).taskEnds r .observe

/-! ### COMMUTE_IN (R268 to R275, R287, R306) -/

/-- Count a pass of a commutation unit. -/
def Core.passed (c : Core) (u : Nat) : Core :=
  { c with field := { c.field with pass := c.field.pass.upd u 0 (· + 1) } }

/-- A probe of the running sequence acts in this cycle, or its current is sampled (`late` = 1). -/
def ObsAxis.probeAt (x : ObsAxis) (c : Cf → Int) (late : Nat) : Bool :=
  let g := (c .obsPrbG).toNat
  (x.sub = .probe || x.sub = .detect) && (x.cyc = 1 + late || x.cyc = 1 + late + g || x.cyc = 1 + late + 2 * g)

/-- The angles of the pass: θ and θ_out (R270, R271, R286, R302, R312). -/
def Core.angles (c : Core) (a : Nat) : Nat × Nat :=
  let cf := c.cf a
  let x := c.fa a
  let o := c.ob a
  if (c.ax a).state = .align then (ang16 x.align.theta, ang16 x.align.theta)
  else if c.isObs a then
    let th := ang16 o.angle
    if o.sub = .align ∨ o.sub = .ramp then (th, th) else (th, obsThout cf th o.wh c.modeI.tU c.tcyc)
  else
    let th := x.angle cf
    (th, ang16 ((th : Int) + thetaAdvance cf (c.word a oVel).toInt c.modeI.tU c.tcyc))

/-- A failing check of R268 in an axis not yet in AX_FAULT. -/
def Core.cinFault (c : Core) (a : Nat) (k : CinCheck) : Core :=
  if (c.ax a).state = .fault then c
  else
    let n := match k with
      | .trip => EvNo.axNodeTrip | .past => EvNo.axOvercurrent | .isum => EvNo.axIsum | .pass => 0
    let c := c.updFa a fun x =>
      match k with
      | .trip => { x with sumTrip := x.sumTrip + 1 }
      | .past => { x with sumOver := x.sumOver + 1 }
      | .isum => { x with sumIsum := x.sumIsum + 1 }
      | .pass => x
    (c.raise [evAxis n a]).axisFault a 2

/-- The electrical phase of an encoder axis with its index rules (R270, R273, R274). -/
def Core.cinPhase (c : Core) (a : Nat) : Core :=
  if c.isObs a then c
  else
    let cf := c.cf a
    let pos := c.word a oPos
    let idx := c.word a oIdx
    let x := ((c.fa a).phase cf pos idx).rebaseStep
    if bit (c.word a oFlags) 15 then
      let (y, mism) := x.takeIndex cf pos idx
      let c := c.updFa a fun _ => y
      if mism then
        let c := c.raise [evAxis EvNo.cmtOffsetMismatch a]
        let s := (c.ax a).state
        if s = .off ∨ s = .opened ∨ s = .fault then c else c.axisFault a 2
      else c
    else c.updFa a fun _ => x

/-- The pass of COMMUTE_IN once its checks hold. -/
def Core.cinPass (c : Core) (a : Nat) : Core :=
  let c := c.cinPhase a
  let cf := c.cf a
  let b := c.senseBytes a
  let stat := rec16 b 24
  let udc := rec16 b 10
  let (al, be, s1) := c.clarkeOf a
  -- the offset search advances with the cycle
  let c := if (c.ax a).state = .align then c.updFa a fun x => { x with align := x.align.cycle cf c.now (c.word a oPos) } else c
  -- a probe current is kept
  let c := if (c.ob a).probeAt cf 1 then c.updOb a fun x => { x with prb := (x.prb ++ [(al, be)]).take 3 } else c
  let (th, thout) := c.angles a
  let (id, iq, s2) := park al be (cosT th) (sinT th)
  let (w, s3) := if c.isObs a then ((c.ob a).wh / 256, false) else omegaOf cf (c.word a oVel).toInt
  let c := c.updFa a fun x =>
    { (x.flag cSat (s1 || s2 || s3)) with uv := uvOf cf stat udc, thetaOut := thout }
  let warn := natBit stat 2 || natBit stat 4
  let c := c.setWords a [(oId, wF16 id), (oIq, wF16 iq), (oOmega, wF16 w), (oTheta, w32 th), (oThout, w32 thout),
    (oUdc, wF16 (udc / 2)), (oCmtFlags, ((c.fa a).flagsWord warn).zeroExtend 32)]
  -- reason 0x4 of R315
  let s := (c.ax a).state
  if (c.fa a).uv && (s = .start || s = .catching) && (c.ob a).sub != .wait && (c.ob a).sub != .other then
    c.putObs a ((c.ob a).fail cf a 4)
  else c

/-- COMMUTE_IN_DONE. -/
def Core.commuteInDone (c : Core) (a : Nat) : Core :=
  match c.runningTask .commuteIn a with
  | none => c
  | some r =>
    let b := c.senseBytes a
    let c := (c.passed r.unit).updFa a fun x => { x with flags := 0 }
    let (x, k, past) := (c.fa a).checks (c.cf a) (recS16 b 4) (recS16 b 6) (recS16 b 8) (rec16 b 24)
    let c := c.updFa a fun _ => x
    let c := if past then { c with field := { c.field with isumCnt := c.field.isumCnt + 1 } } else c
    match k with
    | .pass => (c.cinPass a).taskEnds r .commuteIn
    | .trip | .past | .isum =>
      let c := c.cinFault a k
      c.cancelChain a 6 (c.inhibit a)

/-! ### LAW (R337, R343 to R352, R363) -/

/-- The axis releases duties this cycle under the table of R283. -/
def Core.dutyNow (c : Core) (a : Nat) : Bool :=
  let s := (c.ax a).state
  let x := c.fa a
  let o := (c.ob a).sub
  hasOutputs s c.parked && !x.uv && decide (0 < rF16 (c.word a oUdc)) && !(s = .run && x.curve = .stopped)
    && o != .idle && o != .inhibit && o != .probe && o != .detect && o != .wait

/-- The curve input (R290): the host word, or another axis's word of cycle c − 1, named axis × 4096 + offset. -/
def Core.curveIn (c : Core) (a : Nat) : Int :=
  let s := (c.cf a .crvSrc).toNat
  if s = 0 then rF16 (c.word a oCrvHost) else rF16 ((c.prevWord (s / 4096) (s % 4096)).getD 0)

/-- The curve module runs in this cycle's LAW. -/
def Core.curveRuns (c : Core) (a : Nat) : Bool :=
  c.cf a .cmtSrc = 2 && !c.parked && ((c.ax a).state = .run || (c.ax a).state = .degraded)

/-- One step of the curve for the axis (R291). -/
def Core.curveNow (c : Core) (a : Nat) : FieldAxis × Int × Bool × List Ev :=
  (c.fa a).curveStep (c.cf a) a c.cycle.rtS (c.curveIn a)

/-- Inputs of the LAW task of an axis. -/
def Core.lawIn (c : Core) (a : Nat) : LawIn :=
  { c := c.cf a, cycle := c.cycle.cycle, state := (c.ax a).state, sub := (c.ob a).sub
    curveN := if c.curveRuns a then (c.curveNow a).2.1 else 0
    hasOut := c.dutyNow a, parked := c.parked, safety := c.safetyRated a
    idSeq := if (c.ax a).state = .align then (c.fa a).align.idref else (c.ob a).idStar (c.cf a) c.tcyc
    w := c.word a }

/-- The curve's outcome after a committed LAW. -/
def Core.curveCommit (c : Core) (a : Nat) : Core :=
  if c.curveRuns a then
    let (x, _, start, evs) := c.curveNow a
    let c := (c.updFa a fun _ => x).raise evs
    if start then
      let before := (c.ob a).sub
      (c.updOb a fun o => o.startDetect (rF16 (c.word a oNref))).followSub a before
    else c
  else c

/-- IDLE to DETECT and the low-speed rule, on the guarded set-point (R309, R317). -/
def Core.lowSpeedRules (c : Core) (a : Nat) : Core :=
  if c.parked || !c.isObs a then c
  else
    let x := c.ob a
    let n := rF16 (c.word a oNref)
    let cf := c.cf a
    if x.sub = .idle then
      if c.cf a .cmtSrc = 1 && decide (cf .obsWHandoff ≤ (n.natAbs : Int)) then
        (c.updOb a fun o => o.startDetect n).followSub a .idle
      else c
    else
      let y := x.lowSpeed cf n
      (c.updOb a fun _ => y).followSub a x.sub

/-- The flags of a committed LAW task, those its modules stored among them: counters, the guard run and the following error (R347, R349, R363). -/
def Core.lawFlags (c : Core) (a : Nat) (modules : Nat) (sticky : Nat) (paired : Bool) : Core :=
  let fl := modules ||| sticky ||| (256 * b2n paired)
  let c := c.setWord a oLawFlags (wF16 fl)
  let x := c.ax a
  let active := natBit fl 3 || natBit fl 4 || natBit fl 5
  let ferr := natBit fl 7
  let run := if active then x.guardRun + 1 else 0
  let newF := ferr && !x.ferr
  -- a cycle in which the position loop does not run neither begins nor ends a following error
  let idle := c.cf a .lawMode = 2 && !loopDue (c.cf a) c.cycle.cycle (c.cf a .divP)
  let c := c.updAx a fun y => { y with flags := fl, guardRun := run, ferr := ferr || idle && y.ferr }
  let c := { c with eng := { c.eng with
    satCnt := if fl % 8 != 0 then c.eng.satCnt + 1 else c.eng.satCnt
    guardCnt := if active then c.eng.guardCnt + 1 else c.eng.guardCnt
    feCnt := if ferr then c.eng.feCnt + 1 else c.eng.feCnt } }
  let c := if fl % 8 != 0 then c.raise [(evAxis EvNo.lawSat a).limited a] else c
  let c := if active && (run : Int) = c.cf a .gdN then
      (c.raise [(evAxis EvNo.guardActive a).limited a]).react a (c.cf a .gdReact).toNat dgGd 6
    else c
  let c := if active then c.updGa a fun g => { g with gdQuiet := 0 } else c
  let c := if newF then c.raise [(evAxis EvNo.followError a).limited a] else c
  if ferr then c.react a (c.cf a .feReact).toNat dgFe 6 else c

/-- A LAW result is committed: the buffer as one unit, then what follows from it (R337, R363). -/
def Core.lawCommit (c : Core) (a : Nat) (buf : List WEnt) (sticky : Nat) (paired : Bool) : Core :=
  let cur := c.curveRuns a
  let c' := c.curveCommit a
  -- the curve's step takes the words as the task read them
  let c := (if cur then c' else c).commitBuf a buf
  let c := c.updFa a fun x => { x with flags := x.flags ||| ((c.word a oCmtFlags).toNat % 16 : Nat) }
  let modules := if buf.any fun e => e.off = oLawFlags then (c.word a oLawFlags).toNat % 1024 else 0
  (c.lawFlags a modules sticky paired).lowSpeedRules a

/-- A copy of a LAW task ends with END (R337, R360). -/
def Core.lawEnd (c : Core) (r : Running) : Core :=
  let a := r.r.key
  let e := c.eng.eng.look r.unit {}
  let c := c.updAx a fun x => { x with beats := e.beats }
  if e.paired then
    let copy : PairCopy := { engine := r.unit, writes := e.buf, sticky := e.sticky, ending := .fin }
    let c := { c with eng := { c.eng with copies := c.eng.copies.upd a [] (· ++ [copy]) } }
    c.complete r
  else (c.lawCommit a e.buf e.sticky false).taskEnds r .law

/-- LAW_TASK_END: the library's program computes its whole write sequence here; any other program has executed its
instructions. -/
def Core.lawTaskEnd (c : Core) (a : Nat) (copyB : Bool) : Core :=
  match c.runningTask .law a copyB with
  | none => c
  | some r =>
    let c := if c.cf a .lawProg = (c.image.leLib : Int) then
        let o := lawTask (c.lawIn a)
        { c with eng := { c.eng with eng := c.eng.eng.upd r.unit {} fun e =>
            { e with buf := o.writes, s := e.s || o.sat, beats := o.beats, total := e.total + w32 o.beats } } }
      else c
    c.lawEnd r

/-- PAIR_COMPARE: both copies have ended (R361). -/
def Core.pairCompare (c : Core) (a : Nat) : Core :=
  match c.eng.copies.look a [] with
  | [x, y] =>
    let c := { c with eng := { c.eng with copies := c.eng.copies.del a } }
    if x.writes = y.writes ∧ x.sticky = y.sticky ∧ x.ending = y.ending then
      match x.ending with
      | .fin =>
        let c := (c.lawCommit a x.writes x.sticky true).updAx a fun z => { z with plate := 0 }
        match (c.chainOf a).after .law with
        | some n => if c.chainLive a then c.postNext a n else c
        | none => c
      | .flt k =>
        let c := { c with eng := { c.eng with lawFlt := c.eng.lawFlt + 2 } }.raise [evAxis EvNo.lawFault a k]
        (c.axisFault a 5 k).cancelEmpty a 5
    else
      let bump := fun (e : Engine) => { e with mism := e.mism + 1 }
      let flts := b2n (x.ending != .fin) + b2n (y.ending != .fin)
      let c := { c with eng := { c.eng with misms := c.eng.misms + 1, lawFlt := c.eng.lawFlt + w32 flts
                                            eng := (c.eng.eng.upd x.engine {} bump).upd y.engine {} bump } }
      ((c.raise [evAxis EvNo.pairMismatch a]).axisFault a 4).cancelEmpty a 4
  | _ => c

/-! ### COMMUTE_OUT and PACK (R278 to R284, R301, R321) -/

/-- v_α and v_β of R278. -/
def abOf (d q co si : Int) : Int × Int := (roundShift 15 (d * co - q * si), roundShift 15 (d * si + q * co))

/-- A valid cycle of the back-EMF check (R321). -/
def Core.keCycle (c : Core) (a : Nat) : Core :=
  let cf := c.cf a
  let w := if c.isObs a then (c.ob a).wh else rF16 (c.word a oOmega) * 256
  let x := c.fa a
  if cf .keChk = 1 && (c.ax a).state = .run && (!c.isObs a || (c.ob a).sub = .track)
      && decide (cf .obsWmin * 256 ≤ (w.natAbs : Int)) && !x.flags.getLsbD cClamp && !x.flags.getLsbD cOvm then
    let e := if c.isObs a then (c.ob a).emfQ
      else keEmf cf (rF16 (c.word a oVq)) (rF16 (c.word a oIq)) (rF16 (c.word a oId)) (rF16 (c.word a oOmega)) * 256
    c.updOb a fun o => o.keAdd cf w e
  else c

/-- The pass of COMMUTE_OUT. -/
def Core.coutPass (c : Core) (a : Nat) : Core :=
  if c.dutyNow a then
    let cf := c.cf a
    let udc := rF16 (c.word a oUdc)
    let th := (c.word a oThout).toNat % 65536
    let vd := rF16 (c.word a oVd)
    let vq := rF16 (c.word a oVq)
    let (id, iq) := if cf .cmtDtsrc = 1 then (rF16 (c.word a oIdref), rF16 (c.word a oIqref))
      else (rF16 (c.word a oId), rF16 (c.word a oIq))
    let r := commuteOut cf udc th vd vq id iq
    let (va, vb) := abOf vd vq (cosT th) (sinT th)
    let p := invPark vd vq (cosT th) (sinT th)
    let (num, den) := ovmScale (cf .cmtMod) udc p.1 p.2.1 p.2.2
    let c := c.updFa a fun x =>
      { ((x.flag cOvm r.ovm).flag cDsat r.dsat) with duty := r.duty, vab := (va * num / den, vb * num / den) }
    let c := c.setWord a oCmtFlags (c.word a oCmtFlags ||| w32 (4 * b2n r.ovm + 8 * b2n r.dsat))
    let c := { c with field := { c.field with
      ovmCnt := if r.scaled then c.field.ovmCnt + 1 else c.field.ovmCnt
      dsatCnt := if r.dsat then c.field.dsatCnt + 1 else c.field.dsatCnt } }
    c.keCycle a
  else c

/-- COMMUTE_OUT_DONE. -/
def Core.commuteOutDone (c : Core) (a : Nat) : Core :=
  match c.runningTask .commuteOut a with
  | none => c
  | some r => ((c.passed r.unit).coutPass a).taskEnds r .commuteOut

/-- The record of R283 with the states and flags in force when PACK runs. -/
def Core.packRecord (c : Core) (a : Nat) : Drive :=
  let (en, d) := c.brake a
  let x := c.fa a
  let o := c.ob a
  let s := (c.ax a).state
  if !hasOutputs s c.parked || !(c.chainOf a).released .commuteOut || x.uv || !o.prb.isEmpty && !o.probeAt (c.cf a) 0 then .inhibit en d
  else if o.probeAt (c.cf a) 0 then .duties en 0 0 0 d
  else if c.dutyNow a then .duties en x.duty.1 x.duty.2.1 x.duty.2.2 d
  else .inhibit en d

/-- PACK_DONE (R415): the slot's entry is filled and the pointer advances. -/
def Core.packDone (c : Core) (a : Nat) : Core :=
  match c.runningTask .pack a with
  | none => c
  | some r =>
    let d := c.packRecord a
    let c := c.updFa a fun x => { x with flagsLast := (c.word a oCmtFlags).setWidth 8 }
    ((c.complete r).updChain a fun (x : Chain) => { x with endc := 0 }).fillSlot a d (some c.now)

/-! ### PROFILE (R434 to R465) -/

/-- Master sample of an axis's GR_MSRC; a channel's sample is its count at the last S as the result stage has written
it, with what a conversion or a read at that S has shown (R434, R449). -/
def Core.masterOf (c : Core) (a : Nat) : Master :=
  let k := (c.cf a .grMsrc).toNat
  let m := c.prof.master.look k {}
  if k < 4 then
    let x := c.ch k
    { m with count := m.count + (x.pos - m.raw).toInt, vel := x.sp.v, susp := m.susp || x.suspect, lost := m.lost || x.badS }
  else m

/-- Position and level of a switch after polarity: active. -/
def Core.swActive (c : Core) (input : Int) (pol : Bool) : Bool :=
  decide (0 ≤ input) && decide (input < 16) && ((c.prof.sw.look input.toNat {}).level != pol)

/-- Inputs of the PROFILE task for a cycle. -/
def Core.profIn (c : Core) (a : Nat) (cycle : W32) : ProfIn :=
  let cf := c.cf a
  let m := c.masterOf a
  let img := c.imageOf (c.cycle.cycle - 1)
  let idx := img.bind fun i =>
    let w := i.words.look a []
    -- an index before the state's entry is ignored (R460)
    if bit (w.look oFlags 0) 15 && decide (0 < rtDiff i.rtS (c.pa a).hm.entry) then some (w.look oIdx 0) else none
  { c := cf, axis := a, cycle := cycle, rtS := rtAdd c.cycle.rtS c.len, state := (c.ax a).state, parked := c.parked
    fbPos := c.word a oPos, m := (m.ref (cf .prLeadk)).1, vm := m.vel, lost := m.lost, susp := m.susp
    hmActive := c.swActive (cf .hmSw) (natBit (cf .hmPol).toNat 0), idx := idx, badCyc := c.badCyc a
    segs := fun d => c.prof.segs (c.prof.descOf d), cyclic := fun d => (c.prof.descOf d).cyclic }

/-- CLR_SUSPECT on the source of an axis (R246, R461). -/
def Core.clearSusp (c : Core) (a : Nat) : Core :=
  match c.source a with
  | .channel n =>
    let o := (c.ch n).clearSuspect n (some a)
    let c := (c.putCh n o.ch).raise o.evs
    if o.fall then c.suspFell a else c
  | .remote _ =>
    let was := c.susp a
    let c := { c with cuff := { c.cuff with axis := c.cuff.axis.upd a {} fun y => { y with remote := { y.remote with suspect := false } } } }
    if was then (c.raise [evAxis EvNo.fbSuspectCleared a]).suspFell a else c

/-- The captured index becomes the drift reference of the axis's source (R461). -/
def Core.takeRef (c : Core) (a : Nat) (idx : W32) : Core :=
  match c.source a with
  | .channel n =>
    let x := c.ch n
    if x.idxMode = 2 then c.putCh n { x with drift := { x.drift with e := idx, idxref := true, dev := 0 } } else c
  | .remote _ =>
    if c.cf a .fbcCpr = 0 then c
    else { c with cuff := { c.cuff with axis := c.cuff.axis.upd a {} fun y =>
      { y with remote := { y.remote with drift := { y.remote.drift with e := idx, idxref := true, dev := 0 } } } } }

/-- PROFILE_TASK_DONE: the result is held for the commit at S_c (R418). -/
def Core.profileDone (c : Core) (a : Nat) : Core :=
  match c.runningTask .profile a with
  | none => c
  | some r =>
    let i := c.profIn a r.r.cycle
    let x := c.pa a
    let had := x.pend.isSome
    let res := x.task i
    let lead := ((c.masterOf a).ref (c.cf a .prLeadk)).2
    let c := (c.updPa a fun _ => { res.x with lead := lead }).raise res.evs
    let c := { c with prof := { c.prof with
      knCnt := c.prof.knCnt + w32 res.kn
      mlostCnt := if res.mlost then c.prof.mlostCnt + 1 else c.prof.mlostCnt
      -- a command that took effect is done
      cmdStat := if had && (res.x.pend).isNone && fld c.prof.cmdStat 7 0 = a && fld c.prof.cmdStat 13 12 = 1
        then (c.prof.cmdStat &&& ~~~0x3000) ||| 0x2000 else c.prof.cmdStat } }
    let c := if res.clearSuspect then c.clearSusp a else c
    let c := if res.newRef then (match i.idx with | some v => c.takeRef a v | none => c) else c
    let c := if res.mlost then c.react a (c.cf a .mlostReact).toNat dgMlost 6 else c
    c.complete r

/-! ### Overruns and lost copies -/

/-- TASK_OVERRUN: a loop engine or signal processor's task exceeds its proven worst path (R340, R397). -/
def Core.taskOverrun (c : Core) (t : Task) (a : Nat) (copyB : Bool) : Core :=
  match c.runningTask t a copyB with
  | none => c
  | some r => c.taskFlt r 0xFD

end Sys2Proof.Machine
end

