-- ==== Sys2Proof/Machine/Boundary.lean ====
section
/-! DEFINITION. Machine/Boundary.lean: the boundary of a cycle S_c: what ends with the old cycle, profile commits, epoch
actions, staged writes, the schedule mode, state and low-power commands, and the chains of the new cycle (R58, R69 to
R76, R80 to R82, R89, R90, R325, R366, R410, R418, R447, R515, R599, R664). -/

namespace Sys2Proof.Machine

/-! ### The sequencer (R72 to R82) -/

/-- A global operation completes. -/
def Core.gopDone (c : Core) : Core :=
  { c with cycle := { c.cycle with gopState := .done, gopReason := 0, gopCyc := if c.cycle.gopOp = GopOp.barrier then c.cycle.cycle else c.cycle.gopCyc } }.raise [ev0 EvNo.gopDone]

/-- A maintenance activity of the sequencer ends. -/
def Core.gopUnlock (c : Core) (ok : Bool) : Core :=
  let a : Option Act := match c.cycle.gopOp with | .snapshot => some .snapshot | .netreset => some .netreset | .mode | .barrier => none
  match a with
  | none => c
  | some a =>
    let (m, evs) := c.maint.finishAct a ok
    { c with maint := m }.raise evs

/-- A running operation fails with a reason; a mode change takes its own path (R74). -/
def Core.gopFail (c : Core) (reason missing : Nat) : Core :=
  ({ (c.gopUnlock false) with cycle := { (c.gopUnlock false).cycle with
      gopState := .failed, gopReason := reason, gopMissing := missing, netreset := false } }).raise [ev0 EvNo.gopFailed reason]

/-- Nodes of the operation that have not answered. -/
def Core.gopOpen (c : Core) : List Nat := c.cycle.gopNodes.filter fun k => !c.cycle.gopAcked.contains k

/-- The sequencer is busy (R72). -/
def Core.gopBusy (c : Core) : Bool := c.cycle.gopState = GopState.running || c.cycle.change.isSome

/-- Every admitted node has answered: a barrier completes, and so does a snapshot's upload (R80). -/
def Core.gopCheck (c : Core) : Core :=
  if c.cycle.gopState = GopState.running && c.gopOpen.isEmpty
      && (c.cycle.gopOp = GopOp.barrier || c.cycle.gopOp = GopOp.snapshot) then
    (c.gopUnlock true).gopDone
  else c

/-- Admitted nodes that have not confirmed a change, as keys segment × 64 + position. -/
def Core.unconfirmed (c : Core) (m : ModeChange) : List Nat :=
  c.admittedAll.filter fun k => !(m.confirmed.look (k / 64) 0).getLsbD (k % 64)

/-- A node-table entry by key. -/
def Core.nodeImg (c : Core) (k : Nat) : ImgNode := (c.is (k / 64)).nodes.look (k % 64) {}

/-- A node that its table entry marks essential has not confirmed, admitted or not (R74). -/
def Core.essentialOpen (c : Core) (m : ModeChange) : Bool :=
  c.segs.any fun s => (c.is s).nodes.any fun e => e.2.essential && !(m.confirmed.look s 0).getLsbD e.1

/-- The decision at the commit point (R74). -/
def Core.decideMode (c : Core) : Core :=
  match c.cycle.change with
  | none => c
  | some m =>
    if m.decision.isSome then c
    else
      let un := c.unconfirmed m
      let abort := m.cancelled || !c.time.locked || c.essentialOpen m || c.gs.transition c.image.gs c.tcyc
      let c := { c with cycle := { c.cycle with change := some { m with decision := some (!abort) }, gopMissing := un.length } }
      if abort then
        let why := if m.cancelled then 7 else if !c.time.locked then 3 else 9
        { c with cycle := { c.cycle with gopState := .failed, gopReason := why } }.raise [ev0 EvNo.modeAborted why]
      else c

/-- The commit decision of this cycle, where its point falls in it. -/
def Core.commitPoint (c : Core) : Core :=
  match c.cycle.change with
  | some m => if m.cEff = c.cycle.cycle + 2 then c.decideMode else c
  | none => c

/-- The new mode at S_{c_eff} (R75, R76); a change whose commit point found no decision is decided now. -/
def Core.modeEffect (c : Core) : Core :=
  match c.cycle.change with
  | none => c
  | some m =>
    if m.cEff != c.cycle.cycle then c
    else
      let c := c.decideMode
      let yes := match c.cycle.change with | some x => decide (x.decision = some true) | none => false
      let c := { c with cycle := { c.cycle with change := none } }
      if yes then
        let c := { c with cycle := { c.cycle with mode := m.target, gopState := .done, gopReason := 0 } }.raise [ev0 EvNo.modeChanged m.target]
        (c.unconfirmed m).foldl (fun (c : Core) k => c.loseNode (k / 64) (k % 64)) c
      else c

/-- Largest node count of a segment: admitted nodes. -/
def Core.nMax (c : Core) : Nat := c.segs.foldl (fun n s => max n (c.admitted s).length) 0

/-- NETRESET begins: each segment goes DOWN and links again (R80), and the start mode's hatband runs (R121). The nodes at both
ports reset, so the ports lose link (DEDUCED, log entry 67). -/
def Core.netresetBegin (c : Core) : Core :=
  let c := { c with cycle := { c.cycle with netreset := true, mode := c.image.startMode } }
  c.segs.foldl (fun (c : Core) s => ((c.putSg s { (c.sg s) with phase := .down, cnt := 0 }).portDown (2 * s)).portDown (2 * s + 1)) c

/-- The running operation at a boundary: time limits, and the course of NETRESET (R80 to R83). -/
def Core.gopBoundary (c : Core) : Core :=
  if c.cycle.gopState != GopState.running then c
  else
    let n := (c.cycle.cycle - c.cycle.gopStart).toInt
    match c.cycle.gopOp with
    | .mode => c
    | .barrier => if 16 ≤ n then c.gopFail 6 c.gopOpen.length else if 1 ≤ n then c.gopCheck else c
    | .snapshot =>
      if ((12 + (64 * c.nMax + 159) / 160 : Nat) : Int) ≤ n then c.gopFail 6 c.gopOpen.length else if 4 ≤ n then c.gopCheck else c
    | .netreset =>
      if !c.cycle.netreset then (if 1 ≤ n then c.netresetBegin else c)
      else if c.segs.all fun s => (c.sg s).phase = .formed ∨ (c.sg s).phase = .refused ∨ (c.sg s).dead then
        let gone := c.cycle.gopNodes.filter fun k => !c.admittedAll.contains k
        let c := gone.foldl (fun (c : Core) k => c.faultNode (k / 64) (k % 64)) c
        ({ (c.gopUnlock true) with cycle := { (c.gopUnlock true).cycle with netreset := false, gopMissing := gone.length } }).gopDone
      else c

/-! ### The end of the old cycle -/

/-- The segment's part: the suspect, breaks, reachability, formation (R102, R104, R121, R169). -/
def Core.endSegment (c : Core) (s : Nat) : Core :=
  let g := c.sg s
  let q := c.sl s
  let adm := c.admitted s
  let need := fun (p : Nat) => (c.nodeImg (s * 64 + p)).axes + b2n (c.nodeImg (s * 64 + p)).safety
  let hold := match c.cycle.change with
    | some m => decide (m.decision = some true) && decide (m.cEff = c.cycle.cycle + 2)
    | none => false
  let (g, e1) := g.countSilence.updateBreaks s (c.is s).len (c.po (2 * s)).link (c.po (2 * s + 1)).link
  let both := g.a.known && !g.a.closed && g.b.known && !g.b.closed && g.breaks.isEmpty
  let bs := if (c.po (2 * s)).lock && (c.po (2 * s + 1)).lock then
      boundarySuspect adm (fun p => decide (need p ≤ (q.rxOf p).good 0)) (fun p => decide (need p ≤ (q.rxOf p).good 1))
    else none
  let sus := ({ q.suspect with ind := q.suspect.ind || both }).endCycle bs
  let isOpen := g.anyOpen
  let g := { g with nodes := g.nodes.each fun p k => { k with
    tOut := if need p ≤ (q.rxOf p).good 0 && need p ≤ (q.rxOf p).good 1 then k.tOut else 0
    dev := k.dev && decide (need p ≤ (q.rxOf p).good 0) && decide (need p ≤ (q.rxOf p).good 1)
    unreach := if isOpen && k.st = NodeSt.admitted && !k.heardA && !k.heardB then k.unreach + 1 else 0
    answered := k.answered || ((k.st = NodeSt.lost || k.st = NodeSt.refused) && (k.heardA || k.heardB)) } }
  let timed := adm.filter fun p => decide (2 ≤ (g.node p).rev)
  let good := timed.all fun p => c.time.reported.contains (s * 64 + p)
  let g := { g with lockRun := if g.phase = SegPhase.lock && good then g.lockRun + 1 else 0 }
  let (g, e2) := if c.role.role = .crown then g.phaseStep (c.is s) s hold else (g, [])
  let g := { g with nodes := g.nodes.each fun _ k => { k with heardA := false, heardB := false } }
  ((c.putSg s g).putSl s { q with suspect := sus }.newCycle).raise (e1 ++ e2)

/-- The end of a spare's cycle: its S is steered by the reference copy, or by the other one where that is missing, and its lock counts
the cycles with |S_other − S| ≤ 8 rt, of the only copy if just one arrived (R210, R211, R213). -/
def TimeState.spareCycle (t : TimeState) : TimeState :=
  let t := match t.spareRef.orElse fun _ => t.spareOther with
    | some e => t.follow e
    | none => t
  let ok := match t.spareOther.orElse fun _ => t.spareRef with
    | some e => decide (e.natAbs ≤ 8)
    | none => false
  { t with spareRun := if ok then min 256 (t.spareRun + 1) else 0, spareRef := none, spareOther := none }

/-- Lock over the whole network (R52): every admitted Finzo 2 or 3 node reported within the window. -/
def Core.endLock (c : Core) : Core :=
  if c.role.role = .spare then { c with time := c.time.spareCycle }
  else
  let timed := c.admittedAll.filter fun k => decide (2 ≤ ((c.sg (k / 64)).node (k % 64)).rev)
  { c with time := c.time.lockCycle (timed.all fun k => c.time.reported.contains k) }

/-- The observer's part of an axis: a blind cycle where no OBSERVE completed, an OBS_HOLD expiry that waited for it, PRESET, and the moves
of the sub-states (R303, R310, R313, R314, R318, R323). -/
def Core.endObs (c : Core) (a : Nat) : Core :=
  let cf := c.cf a
  let c := if c.isObs a && (c.ob a).seen != some c.cycle.cycle && !((c.ob a).sub = .preset && (c.ob a).cyc != 0) then
      c.updOb a fun x => x.blind cf
    else c
  if c.parked then c
  else if (c.ob a).holdDue && (c.ob a).sub = .hold then
    ((c.updOb a fun x => { (x.enter .inhibit) with thUse := none }).raise [evAxis EvNo.obsLost a]).followSub a .hold
  else
    match (c.ob a).sub with
    | .preset =>
      if (c.ob a).cyc = 0 then (c.updOb a fun x => { x with cyc := 1 }).presetBegin a
      else { (c.putObs a ((c.ob a).presetDone cf a (c.isObs a))) with obsCnt := halfInc (c.putObs a ((c.ob a).presetDone cf a (c.isObs a))).obsCnt 1 }
    | .other => c
    | .track | .hold | .idle | .inhibit | .probe | .detect | .align | .ramp | .handoff | .wait =>
      c.updOb a fun x => { ({ x with cyc := x.cyc + 1, prb := if x.sub = ObsSub.probe ∨ x.sub = ObsSub.detect then x.prb else [] }).move cf c.tcyc with holdDue := false }

/-- The rest of an axis's old cycle: the phase starts anew after a cancelled FEEDBACK (R270), causes, quiet counts (R499), the
cycle's words. -/
def Core.endAxis (c : Core) (a : Nat) : Core :=
  let x := c.chainOf a
  let fbOk := x.tasks.isEmpty || x.released .feedback
  let c := if fbOk then c else c.updFa a fun y => { y with started := false }
  let c := c.updAx a fun y => { y with causesNow := [] }
  let quiet := fun (n : Nat) (on : Bool) => if on then n + 1 else 0
  let c := c.updGa a fun g =>
    let fq := quiet g.feQuiet (natBit g.deg 2)
    let gq := quiet g.gdQuiet (natBit g.deg 3)
    { g with feQuiet := fq, gdQuiet := gq
             deg := (g.deg &&& (if 1024 ≤ fq then 63 - dgFe else 63)) &&& (if 1024 ≤ gq then 63 - dgGd else 63) }
  c.setWords a ((forN 8 fun k => (oSense + 4 * k, (0 : W32))) ++ [(oSpFlags, 0)])

/-- The channels' result stages at the boundary; in STANDBY only the digital counters go on (R230, R237, R258). -/
def Core.chanBoundary (c : Core) (oldS : Rt) (oldLen : Nat) : Core :=
  let newS := rtAdd oldS oldLen
  { c with cuff := { c.cuff with chan := c.cuff.chan.each fun n x => if c.standby then x.asleep newS else x.boundary n oldS oldLen newS } }

/-- The SSI masters begin their transfers at S, the first falling clock edge at S itself: the clock leaves early by the shell's
output latency (R251). They stop in STANDBY (R258). -/
def Core.ssiStart (c : Core) : Core :=
  if c.standby then c
  else c.cuff.chan.keys.foldl (fun (c : Core) n =>
    if (c.ch n).type = 5 && !c.iso 3 n then
      (c.putCh n (c.ch n).ssiStart).out (.ssiClock n (rtAdd c.cycle.rtS (-(roundShift 8 (c.boot.cal.ssi.look n 0)))))
    else c) c

/-- What ends with the old cycle; `oldS` and `oldLen` are its S and its length, the new S is in force. -/
def Core.endCycle (c : Core) (oldS : Rt) (oldLen : Nat) : Core :=
  let c := match c.role.yieldTo with | some r => c.demote r | none => c
  let c := c.segs.foldl Core.endSegment c
  let c := { c with role := c.role.countCycle }.endLock
  let c := { c with gs := { c.gs with node := c.gs.node.each fun k n => if ((c.sg (k / 64)).node (k % 64)).st = NodeSt.admitted then n.endCycle else n } }
  let c := c.chanBoundary oldS oldLen
  let c := c.axes.foldl (fun (c : Core) a => (c.endObs a).endAxis a) c
  { c with disp := { c.disp with last := c.disp.chain, depthLast := c.disp.depth, depth := (0, 0, 0, 0) }, host := { c.host with low := [] } }

/-! ### PROFILE results (R418) -/

/-- PROFILE tasks that have not completed are stopped, and the held results are committed. -/
def Core.commitProfiles (c : Core) : Core :=
  let late := c.disp.running.filter fun r => r.r.task = .profile
  let wait := c.disp.pu.flatMap fun e => e.2
  let c := late.foldl (fun (c : Core) r => c.freeUnit r) c
  let c := { c with disp := { c.disp with pu := [] } }
  let c := late.foldl (fun (c : Core) r => c.tr { (c.trOf 4 r.r) with unit := r.unit }) c
  let c := (late.map (·.r) ++ wait).foldl (fun (c : Core) r =>
    c.profileEmpty r) c
  c.axes.foldl (fun (c : Core) a =>
    match (c.pa a).held with
    | none => c
    | some o =>
      let (lo, hi) := wPair 48 o.pin
      let c := c.setWords a [(oPin, lo), (oPin + 4, hi), (oNin, w32i o.nin), (oAin, w32i o.ain), (oPrStat, o.stat)]
      c.updPa a fun x => { x with held := none, nin := o.nin, ain := o.ain }) c

/-- Set-points of the Gauntlet take effect (R476). -/
def Core.commitSafe (c : Core) : Core := { c with gs := c.gs.commitWords }

/-! ### The epoch (R69, R70, R90) -/

/-- Orders 4 to 6 begin; a pass of the last epoch that has not completed is abandoned. In STANDBY re-verification does not
run. -/
def Core.epochWork (c : Core) : Core :=
  let ab := fun (c : Core) (run : Bool) (k : Nat) =>
    if run then
      let (h, evs) := c.health.abandoned k
      { c with health := h }.raise evs
    else c
  let y := c.cycle
  let c := ab (ab (ab c y.scrubRun 1) y.reverRun 2) y.ledgRun 3
  { c with cycle := { c.cycle with scrubDone := false, reverDone := false, ledgDone := false
                                   scrubRun := true, reverRun := !c.standby, ledgRun := true } }

/-- The entry of the completed epoch of a channel in drift mode (R243), and its statistics. -/
def Core.driftEpoch (c : Core) (n : Nat) : Core :=
  let x := c.ch n
  let c := if n < 4 ∧ x.idxMode = 2 ∧ c.ledgerOk then
      c.updLed fun l => l.driftAdd n ((c.cycle.cycle - 1).toNat / 1048576) x.epMax x.drift.dev x.epN
    else c
  c.putCh n { x with lastMax := x.epMax, lastN := x.epN, epMax := 0, epN := 0 }

/-- The epoch actions in the order of R69. -/
def Core.epoch (c : Core) : Core :=
  let c := c.applyStaged true
  let c := c.cuff.chan.keys.foldl (fun (c : Core) n => c.driftEpoch n) c
  let c := { c with
    disp := if c.standby then c.disp else { c.disp with flow := c.disp.flow.each fun _ f => f.rollover }, health := c.health.rollover, err := c.err.epoch
    maint := { c.maint with count := [] }
    gs := { c.gs with axis := c.gs.axis.each fun _ g => { g with degN := 0 } } }
  let c := c.raise [ev0 EvNo.epoch]
  let c := if c.standby then c else c.segs.foldl (fun (c : Core) s => c.putSg s (c.sg s).autoReadmit) c
  c.epochWork

/-! ### State and low-power commands (R355, R496, R500, R598, R599) -/

/-- An axis in AX_DEGRADED whose cause bits have all cleared returns to AX_RUN. -/
def Core.undegrade (c : Core) (a : Nat) : Core :=
  if (c.ax a).state = .degraded && (c.ga a).deg = 0 then
    ((c.endDegraded a).updAx a fun x => { x with state := .run }).raise [evAxis EvNo.gsDegradedLeft a]
  else c

/-- State actions of an axis at the boundary: a reset edge, the end of AX_DEGRADED, a pending command. -/
def Core.axisBoundary (c : Core) (a : Nat) : Core :=
  let c := if (c.ax a).openDue then
      if (c.ax a).state = .halt then c.axisOpen a else c.updAx a fun x => { x with openDue := false }
    else c
  (c.undegrade a).takeCommand a

/-- Leaving PARKED (R325, R352, R366, R515). -/
def Core.unparkAxis (c : Core) (a : Nat) (dt : Int) : Core :=
  let s := (c.ax a).state
  let c := c.updGa a fun g => { g with degDue := g.degDue.map fun t => rtAdd t dt }
  if c.isObs a then
    let before := (c.ob a).sub
    (c.updOb a fun x => x.unpark (rF16 (c.word a oNref))).followSub a before
  else if s = .run ∧ c.cf a .obsWcatch ≤ ((rF16 (c.word a oOmega)).natAbs : Int) then
    let c := (c.updAx a fun x => { x with state := .catching }).updOb a fun x => { (x.enter .preset) with cyc := 1 }
    c.presetBegin a
  else if s = .run ∨ s = .degraded then (c.presetCur a 0 0).presetLaw a
  else c

/-- Axes before STANDBY: those with outputs go to AX_OPEN (R366). -/
def Core.standbyAxes (c : Core) : Core :=
  c.axes.foldl (fun (c : Core) a =>
    let s := (c.ax a).state
    if s = .align ∨ s = .catching ∨ s = .start ∨ s = .run ∨ s = .degraded then c.axisOpen a else c) c

/-- S_{c+5} of a STANDBY command (R90, R599, R601): frames stop, LINK and COMPUTE are powered down. The ports lose
power, not link: no EV_PORT_DOWN and no LINK_PORT_DOWNS count, DESIGN CHOICE (log entry 66). -/
def Core.enterStandby (c : Core) : Core :=
  let unpowered := fun (k : Nat) =>
    decide (bar2Key ≤ k) || decide (pgSeg ≤ k) && decide (k < pgTime) || decide (pgDisp ≤ k) && decide (k < pgCuff)
  let c := c.segs.foldl (fun (c : Core) s => (c.putSg s { (c.sg s) with phase := .down, cnt := 0, pos := 0, sub := 0, a := {}, b := {}, breaks := [], cut := false, split := false, nodes := [], lockRun := 0 }).putSl s
      { (c.sl s).standby with port := [], rx := [], suspect := {} }) c
  { c with
    boot := { c.boot with lp := .standby, standbyAt := none, lpDue := none }
    port := c.port.each fun _ p => { p with link := false, lock := false, trained := false, training := .none }
    host := { c.host with stage := c.host.stage.filter (fun e => !unpowered e.1)
                          posted := c.host.posted.filter (fun e => !unpowered e.1)
                          guard := c.host.guard.filter (fun e => !unpowered e.2.addr)
                          plink := c.host.plink && bit c.image.hostCfg 8 }
    cycle := { c.cycle with images := [], snap := [], snapNode := [] }
    role := { c.role with role := .standby, notices := 0 }
    obs := [], field := {}, words := [], evsum := [], dnOut := []
    eng := { c.eng with eng := c.eng.eng.each (fun _ e => { e with run := false, buf := [] }), copies := []
                        axis := c.eng.axis.each fun _ x => { x with pend := none, openDue := false } }
    disp := { c.disp with chain := [], last := [], eng := [], sp := [], cu := [], pu := [], running := [], tally := []
                          flow := c.disp.flow.each (fun _ x => x.asleep)
                          trace := [], trRun := false, trWord := 0, meas := [] }
    prof := { c.prof with axis := [], vm := [], master := [], sw := [], stage := [], upd := false, updAt := none
                          refused := false, arg := [], tblAddr := 0, cmdStat := 0, knCnt := 0, mlostCnt := 0, load := 0 }
    time := { c.time with locked := false, lockRun := 0, caps := [] }
    vis := { c.vis with st := .idle, fill := none, closed := [], armDue := false, done := 0, mem := [], covEnd := none, shareDue := [] }
    cuff := { c.cuff with chan := c.cuff.chan.each fun _ x => { x with latch := [] } }
    gs := { c.gs with glob := if c.gs.glob = GsGlobal.run then GsGlobal.safe else c.gs.glob
                      out := c.gs.out.each (fun _ o => o.want false)
                      group := c.gs.group.each fun _ g => { g with released := false, edge := false } } }.raise
      ([ev0 EvNo.lowpower 3] ++ (if c.gs.glob = GsGlobal.run then [ev0 EvNo.gsState 3] else []) ++ if c.host.plink && !bit c.image.hostCfg 8 then [ev0 EvNo.pcieLinkDown] else [])

/-- A low-power command takes effect (R598); a mode change past its commit point completes before a STANDBY (R602). -/
def Core.lowPower (c : Core) : Core :=
  let c := match c.boot.standbyAt with
    | some n => if c.cycle.cycle = n + 5 then c.enterStandby else c
    | none => c
  match c.boot.lpDue with
  | none => c
  | some .parked => { c with boot := { c.boot with lp := .parked, lpDue := none, parkAt := c.cycle.rtS } }.raise [ev0 EvNo.lowpower 1]
  | some .run =>
    let dt := rtDiff c.cycle.rtS c.boot.parkAt
    let c := { c with boot := { c.boot with lp := .run, lpDue := none } }
    (c.axes.foldl (fun (c : Core) a => c.unparkAxis a dt) c).raise [ev0 EvNo.lowpower 2]
  | some .standby =>
    let pend := match c.cycle.change with | some m => decide (m.decision = some true) | none => false
    if pend then c
    else
      let c := { c with boot := { c.boot with lpDue := none, standbyAt := some (c.cycle.cycle - 1) }, role := { c.role with notices := 4 } }
      let c := if c.gopBusy then { (c.gopFail 7 0) with cycle := { (c.gopFail 7 0).cycle with change := none } } else c
      c.standbyAxes
  | some .waking => { c with boot := { c.boot with lp := .waking, lpDue := none } }

/-! ### The master stage and the new chains (R410, R411, R434, R447) -/

/-- Update a master. -/
def Core.updMaster (c : Core) (k : Nat) (f : Master → Master) : Core :=
  { c with prof := { c.prof with master := c.prof.master.upd k {} f } }

/-- Masters that axes name. -/
def Core.masters (c : Core) : List Nat := (c.axes.map fun a => (c.cf a .grMsrc).toNat).eraseDups

/-- One master of the stage. -/
def Core.masterStage (c : Core) (k : Nat) : Core :=
  if k < 4 then
    let x := c.ch k
    c.updMaster k fun m => { (m.extend x.pos) with vel := x.sp.v, age := 1, susp := x.suspect, lost := c.iso 3 k || x.badS }
  else if 0x10 ≤ k ∧ k < 0x18 then
    let v := c.prof.vm.look (k - 0x10) {}
    c.updMaster k fun m => { m with count := v.pos / 65536, vel := v.vel, age := 0, seen := true }
  else if 0x200 ≤ k ∧ k < 0x300 then
    let b := k - 0x200
    let lost := (c.ax b).state = .fault || (c.ax b).state = .off || c.badCyc b
    match c.imageOf (c.cycle.cycle - 1) with
    | none => c.updMaster k fun m => { m with age := 2, lost := lost, susp := c.susp b }
    | some i =>
      let w := i.words.look b []
      c.updMaster k fun m => { (m.extend (w.look oPos 0)) with vel := (w.look oVel 0).toInt, age := 2, lost := lost, susp := c.susp b }
  else c.updMaster k fun m => { m with lost := true }

/-- The master stage at S_{c−1}: virtual masters advance to S_c, then every named master is sampled; an axis whose master is
no longer lost clears MLOST (R499). -/
def Core.masterStages (c : Core) : Core :=
  let c := { c with prof := { c.prof with vm := c.prof.vm.each fun _ v => v.advance (c.cycle.cycle + 1) c.image.vmAmax c.image.vmJmax } }
  let c := c.masters.foldl Core.masterStage c
  c.axes.foldl (fun (c : Core) a =>
    if (c.masterOf a).lost then c else c.updGa a fun g => { g with deg := g.deg &&& (63 - dgMlost) }) c

/-- In Host mode base follows the committed set-point words, so that a command starts from them (R438, R443). -/
def Core.hostSetPoint (c : Core) (a : Nat) : Core :=
  if (c.imgAx a).prof && (c.pa a).mode = .host then
    let nin := (c.word a oNin).toInt
    let ain := (c.word a oAin).toInt
    c.updPa a fun x => { x with
      base := rPair 48 (c.word a oPin) (c.word a (oPin + 4)), vBase := nin, aBase := ain, nin := nin, ain := ain }
  else c

/-- PROFILE for the next cycle is posted (R411, R418). -/
def Core.postProfile (c : Core) (a : Nat) : Core :=
  if (c.imgAx a).prof then
    let n := c.cycle.cycle + 1
    { c with disp := c.disp.tallied n Tally.made }.post .profile a false n
  else c

/-- The chain of an axis with a drive slot (R410); an axis in AX_OFF gets its inhibit entry. -/
def Core.makeChain (c : Core) (a : Nat) : Core :=
  match c.slotOf a with
  | none => { c with disp := { c.disp with chain := c.disp.chain.del a } }
  | some s =>
    let f := (c.imgAx a).seg
    if (c.ax a).state = .off then
      ({ c with disp := { c.disp with chain := c.disp.chain.put a { slot := s, flow := f } } }).fillSlot a (c.inhibit a) none
    else
      let i := c.imgAx a
      let paired := c.cf a .lawPaired = 1
      let ts := chainShape (hasOutputs (c.ax a).state c.parked) i.flt i.obs paired
      let x : Chain := { tasks := ts, slot := s, flow := f, prio := (c.cf a .dspPrio).toNat % 16, paired := paired }
      let c := { c with disp := ts.foldl (fun (d : DispState) _ => d.tallied c.cycle.cycle Tally.made) { c.disp with chain := c.disp.chain.put a x } }
      if c.remoteFeedback a then c else c.post .feedback a false c.cycle.cycle

/-- The flows of the cycle start and the chains are created, in ascending axis order. -/
def Core.makeChains (c : Core) : Core :=
  let c := c.segs.foldl (fun (c : Core) s =>
    { c with disp := { c.disp with flow := c.disp.flow.upd s {} fun f => f.start (c.is s).driveMap.length } }) c
  let c := (c.disp.running.filter fun r => r.r.task != .measure).foldl (fun (c : Core) r => c.freeUnit r) c
  let c := { c with disp := { c.disp with eng := [], cu := [], sp := c.disp.sp.filter fun r => r.task = Task.measure } }
  c.axes.foldl Core.makeChain c

/-! ### Blocks that return (R41, R626) -/

/-- A block returns to service (R41, R477, R626). -/
def Core.restoreBlock (c : Core) (key : Nat) : Core :=
  let region := key / 64
  let block := key % 64
  let c := { c with err := c.err.restore region block }
  match region with
  | 0 => if 8 ≤ block ∧ block < 12 then c.putSg (block - 8) { (c.sg (block - 8)) with dead := false } else c
  | 2 =>
    if 1 ≤ block ∧ block ≤ 32 then { c with eng := { c.eng with eng := c.eng.eng.upd (block - 1) {} fun e => { e with iso := false } } }
    else if 33 ≤ block ∧ block ≤ 40 then { c with sig := { c.sig with proc := c.sig.proc.upd (block - 33) {} fun q => { q with iso := false } } }
    else if 49 ≤ block ∧ block ≤ 52 then { c with prof := { c.prof with iso := c.prof.iso &&& ~~~(1#4 <<< (block - 49)) } }
    else c
  | 3 =>
    if block = 28 then { c with vis := { c.vis with iso := false } }
    else if block = 29 then { c with vis := { c.vis with memIso := false } } else c
  | 4 =>
    if c.gs.glob = .lost ∧ (List.range 5).all fun b => !c.iso 4 b then
      { c with gs := { c.gs with glob := .safe, group := c.gs.group.each fun _ g => { g with released := false, edge := false } } }.raise [ev0 EvNo.gsState 3]
    else c
  | _ => if region = 5 ∧ block = 8 then { c with maint := { c.maint with iso := false } } else c

/-- Blocks whose re-test has passed return at the boundary (R626). -/
def Core.restoreBlocks (c : Core) : Core :=
  c.err.back.foldl Core.restoreBlock { c with err := { c.err with back := [] } }

/-- The snapshot of cycle c_s is taken at S of that cycle, when the nodes latch theirs (R80). -/
def Core.takeSnap (c : Core) : Core :=
  if c.cycle.gopState = GopState.running && c.cycle.gopOp = GopOp.snapshot && c.cycle.gopCyc = c.cycle.cycle then
    { c with cycle := { c.cycle with snap := c.words } }
  else c

/-! ### S_c -/

/-- The boundary work of a cycle that is computed (R664 row 1). -/
def Core.boundaryWork (c : Core) : Core :=
  let c := c.ssiStart.restoreBlocks.commitProfiles.commitSafe
  let c := if c.cycle.cycle.toNat % 1048576 = 0 then c.epoch else c
  let c := ((c.applyStaged false).modeEffect.gopBoundary).lowPower
  if c.standby then c
  else
    let c := c.axes.foldl Core.axisBoundary c
    let c := c.makeChains
    let c := c.axes.foldl Core.hostSetPoint c
    let c := c.axes.foldl Core.postProfile c.masterStages
    { c.takeSnap with disp := c.disp.trBoundary c.cycle.cycle, vis := c.vis.boundary c.vcfg c.cycle.rtS }

/-- A boundary at which no cycle is computed: in STANDBY, and while a chip that keeps its cycle count holds no ring. The cycle
number advances, and epoch boundaries occur (R90, R116). -/
def Core.standbyBoundary (c : Core) : Core :=
  let c := c.ssiStart.restoreBlocks
  let c := { c with disp := { c.disp with chain := [], last := [], eng := [], sp := [], cu := [], pu := [], running := [] } }
  let c := if c.cycle.cycle.toNat % 1048576 = 0 then c.epoch else c
  (c.applyStaged false).lowPower

/-- CYCLE_BOUNDARY. The first boundary after a ring start is that of the cycle number in force; from then on the count goes on,
through STANDBY and through the arbitration after a wake. -/
def Core.cycleBoundary (c : Core) : Core :=
  if !c.running || !(c.computes || c.cycle.running) then c
  else if !c.cycle.running then
    let c := { c with cycle := { c.cycle with running := true, rtS := c.time.now } }
    c.boundaryWork
  else
    let s := c.cycle.rtS
    let n := c.len
    let c := c.at (rtAdd s n)
    let c := if c.computes then c.endCycle s n else c.chanBoundary s n
    let c := { c with cycle := { c.cycle with cycle := c.cycle.cycle + 1, rtS := rtAdd s n } }
    if c.computes then c.boundaryWork else c.standbyBoundary

end Sys2Proof.Machine
end

