-- ==== Sys2Proof/Machine/VisCmd.lean ====
section
/-! DEFINITION. Machine/VisCmd.lean: the Visor on the chip: rows from the image, closing, measurement and bursts, and the
triggers (R521 to R543, R419). -/

namespace Sys2Proof.Machine

/-- Put the Visor back with its events. -/
def Core.putVis (c : Core) (r : VisorState × List Ev) : Core := { c with vis := r.1 }.raise r.2

/-- The Visor and its memory are in service. -/
def Core.visOk (c : Core) : Bool := !c.vis.iso && !c.vis.memIso && !c.standby

/-- A MEASURE task is posted for a closed record, or dropped where 64 are pending (R419, R532). -/
def Core.postMeasure (c : Core) (area : Nat) : Core :=
  if 64 ≤ c.disp.meas.length then
    (({ c with disp := { c.disp with measDrop := c.disp.measDrop + 1 } }).raise [(ev0 EvNo.measureDropped).limited 0]).measEnd area 8
  else
    let d := { (c.disp.tallied (c.cycle.cycle + 1) Tally.made) with meas := c.disp.meas ++ [area] }
    { c with disp := d }.post .measure area false c.cycle.cycle

/-- Status of a burst when it is requested (R536, R537, R539). -/
def Core.burstImg (c : Core) (b : VBurst) : VBurst :=
  let n := (c.sg b.seg).node b.pos
  if n.st != .admitted || n.rev != 3 then { b with stat := 2, past := true }
  else if c.vis.allBursts.any fun x => x.seg = b.seg && x.pos = b.pos && !x.past then { b with stat := 3, past := true }
  else b

/-- A record that reached POST asks for its bursts. -/
def Core.askBursts (c : Core) : Core :=
  { c with vis := { c.vis with fill := c.vis.fill.map fun r => r.ask c.vcfg c.burstImg } }

/-- A record whose last row is written closes (R523); a measurement is posted. -/
def Core.visClose (c : Core) : Core :=
  match c.vis.fill with
  | none => c
  | some r =>
    if r.isDone c.vcfg then
      let c := { c with vis := c.vis.close c.vcfg }
      if bit c.vcfg.meas 31 then c.postMeasure r.area else c
    else c

/-- The word a cycle channel takes from the completed image (R524). -/
def Core.chanWord (c : Core) (i : CycleImage) (w : W32) : W32 :=
  let a := fld w 7 0
  let off := fld w 19 8
  if off < 0x800 then (i.words.look a []).look off 0 else c.cfgWord a off

/-- The row of a cycle, taken from its image at S + t_rel. -/
def Core.visRow (c : Core) (i : CycleImage) : Core :=
  if c.visOk then
    let row : VRow := { cycle := i.cycle, rtS := i.rtS, len := c.len, vals := c.vcfg.chans.map fun w => c.chanWord i w }
    ((c.putVis (c.vis.row c.vcfg row c.now)).askBursts).visClose
  else c

/-- S of a cycle near the present one (R58, R194). -/
def Core.sOf (c : Core) (n : W32) : Rt :=
  let k := (c.cycle.cycle - n).toInt
  if 0 ≤ k then (List.range (min 65536 k.toNat)).foldl (fun (t : Rt) i => rtAdd t (-(cycleLen c.tcyc (c.cycle.cycle - 1 - w32 i) : Int))) c.cycle.rtS
  else c.cycle.rtS

/-- VISOR_RECORD_COMPLETE. -/
def Core.visComplete (c : Core) : Core :=
  if c.visOk then c.putVis (c.vis.complete c.vcfg fun b => b.t0 c.sOf) else c

/-! ### Measurement (R419, R532) -/

/-- The interval of R419 opens at S + t_rel. -/
def Core.measOpen (c : Core) : Core := { c with disp := { c.disp with measWin := true } }.place .sp

/-- MEASURE_WINDOW_END: MEASURE tasks that have not started are cancelled with reason 0x8. -/
def Core.measWindowEnd (c : Core) : Core :=
  let w := c.disp.sp.filter fun r => r.task = .measure && r.cycle != c.cycle.cycle || r.task = .measure && c.disp.measWin
  let c := { c with disp := { c.disp with measWin := false, sp := c.disp.sp.filter fun r => !w.contains r } }
  w.foldl (fun (c : Core) r =>
    let c := c.tr { (c.trOf 5 r) with reason := 8 }
    { c with disp := c.disp.tallied r.due (·.ended (.cancelled 8)) }.measEnd r.key 8) c

/-- MEASURE_TASK_DONE: the task writes up to 16 words of MRES and sets MEASDONE. -/
def Core.measureDone (c : Core) (area : Nat) (words : List W32) : Core :=
  match c.disp.running.find? fun r => r.r.task = .measure && r.r.key = area with
  | none => c
  | some r =>
    let at' := area * c.vcfg.areaSize + 576
    let c := { c with vis := { c.vis with mem := memSetBytes 0 c.vis.mem at' (wordsBytes (words.take 16)) } }
    (c.measEnd area 4).complete r

/-! ### Triggers (R525, R527, R528, R534, R535) -/

/-- Unit u is enabled with a type. -/
def Core.visUnit (c : Core) (u type : Nat) : Bool :=
  natBit c.vcfg.uen u && fld (c.vcfg.tu.getD u (0, 0, 0)).1 3 0 = type && decide (u < 4)

/-- A firing. -/
def Core.visFire (c : Core) (f : VFire) : Core := if c.visOk then c.putVis (c.vis.fire c.vcfg f) else c

/-- VISOR_EVENT_TRIGGER: a type-2 unit fires on the last raise of its event that it has not used. -/
def Core.visEventTrigger (c : Core) (u : Nat) : Core :=
  let n := fld (c.vcfg.tu.getD u (0, 0, 0)).1 23 16
  match c.vis.evLast.look? n with
  | none => c
  | some t =>
    if c.visUnit u 2 && c.vis.evUsed.look? u != some t then
      ({ c with vis := { c.vis with evUsed := c.vis.evUsed.put u t } }).visFire { t := t, unit := u, type := 2 }
    else c

/-- VISOR_PIN_TRIGGER: an edge on a unit's TRG_IO pin, its timestamp compensated (R216) and corrected where the pin is the
shared input. -/
def Core.visPinTrigger (c : Core) (u : Nat) (t : Rt) (rising : Bool) : Core :=
  let c := c.at t
  let w := (c.vcfg.tu.getD u (0, 0, 0)).1
  let pin := fld w 25 24
  let t := c.pinTime pin t
  let e := fld w 27 26
  let sel := e = 3 || rising && e != 2 || !rising && e = 2
  let shared := bit c.vcfg.share 6 && fld c.vcfg.share 5 4 = pin
  if c.visUnit u 3 && c.time.pinMode pin = 7 && sel && (!shared || rising) then
    c.visFire { t := if shared then rtAdd t (-((c.vcfg.txlead : Int) + c.vcfg.xcab)) else t, unit := u, type := 3, shared := shared }
  else c

/-- VISOR_TIME_TRIGGER: ring time reaches a type-4 instant. -/
def Core.visTimeTrigger (c : Core) (u : Nat) : Core :=
  let (_, l, h) := c.vcfg.tu.getD u (0, 0, 0)
  let t : Rt := h ++ l
  if c.visUnit u 4 && c.vis.evUsed.look? u != some t then
    let c := c.at t
    if rtGe c.now t then ({ c with vis := { c.vis with evUsed := c.vis.evUsed.put u t } }).visFire { t := t, unit := u, type := 4 } else c
  else c

/-- VISOR_SHARE_OUTPUT: the shared trigger pulse is driven on OUTPIN. -/
def Core.visShareOut (c : Core) : Core :=
  match c.vis.shareDue with
  | [] => c
  | t :: rest =>
    let c := c.at t
    let c := { c with vis := { c.vis with shareDue := rest, shareLast := some t } }
    if c.time.pinMode (fld c.vcfg.share 1 0) = 7 then c.out (.share (fld c.vcfg.share 1 0)) else c

/-- VISOR_HOLDOFF_EXPIRY: HOLDOFF has ended and an area is free, so the Visor arms at the next boundary (R523). -/
def Core.visHoldoff (c : Core) : Core :=
  if c.visOk && c.vis.st = .wait && c.vis.holdoff = 0 then
    match c.vis.free c.vcfg with
    | some _ => { c with vis := { c.vis with armDue := true } }
    | none => c
  else c

/-- NB_TIMEOUT: bursts whose first GRANT lies NBTMO cycles back end incomplete. -/
def Core.nbTimeout (c : Core) : Core :=
  { c with vis := c.vis.mapBursts fun (b : VBurst) =>
      match b.grant with
      | some g => if !b.past && decide (c.vcfg.nbTmo ≤ (c.cycle.cycle - g).toNat) then { b with past := true, stat := 1 } else b
      | none => b }

/-! ### Host commands (R521 to R523, R539, R543) -/

/-- A refusal. -/
def Core.visRefuse (c : Core) (reason : Nat) : Core :=
  { c with vis := { c.vis with reason := reason } }.raise [ev0 EvNo.visorCmdRefused reason]

/-- ARM; an isolated engine does nothing (log entry 52). -/
def Core.visArm (c : Core) : Core :=
  let v := c.vcfg
  if c.vis.iso then c
  else if c.vis.st != .idle ∨ c.vis.armDue then c.visRefuse 1
  else if !v.fits c.tcyc then c.visRefuse 2
  else if !v.sourcesOk c.hasAx (fun p => c.time.pinMode p = 7) then c.visRefuse 3
  else if c.standby then c.visRefuse 4
  else if c.vis.memIso then c.visRefuse 5
  else { c with vis := { c.vis with armDue := true, covEnd := none } }

/-- DISARM. -/
def Core.visDisarm (c : Core) : Core :=
  match c.vis.st with
  | .idle => { c with vis := { c.vis with armDue := false } }
  | .armed => { c with vis := { c.vis with st := .idle, fill := none } }
  | .post => { c with vis := { c.vis with fill := c.vis.fill.map fun r => { r with stopped := true } } }
  | .wait => { c with vis := { c.vis with st := .idle, armDue := false } }

/-- FORCE. -/
def Core.visForce (c : Core) : Core :=
  if c.vis.st = .armed then c.visFire { t := c.now, unit := 4, type := 0 } else c.visRefuse 6

/-- CLR_STATS. -/
def Core.visClr (c : Core) : Core := { c with vis := { c.vis with missed := 0, deadMax := 0 } }

/-- VISOR_DONE: writing 1 frees complete areas. -/
def Core.visFree (c : Core) (w : W32) (high : Bool) : Core :=
  let m : BitVec 64 := if high then w ++ (0 : W32) else w.zeroExtend 64
  { c with vis := { c.vis with done := c.vis.done &&& ~~~m } }

end Sys2Proof.Machine
end

