-- ==== Sys2Proof/Machine/RingCmd.lean ====
section
/-! DEFINITION. Machine/RingCmd.lean: the events of the ring outside the cycle's course: ports, training, arbitration, the
spare crown, loss of nodes, suspects, and the mailbox records that come up (R91 to R131, R168 to R178, R211 to R214). -/

namespace Sys2Proof.Machine

/-! ### Ports (R91, R94, R121) -/

/-- TRAINING_TIMEOUT: Clause 72 training of a KR port has not completed in 500 ms. -/
def Core.trainTimeout (c : Core) (p : Nat) : Core :=
  if (c.is (p / 2)).phy = .kr && c.mayLink p && !(c.po p).link then
    (c.updPort p fun x => { x with training := .retryWait, trained := false }).raise [evPort EvNo.trainingFailed p]
  else c

/-- TRAINING_RETRY: one second later training restarts. -/
def Core.trainRetry (c : Core) (p : Nat) : Core :=
  if (c.po p).training = .retryWait then c.updPort p fun x => { x with training := .running } else c

/-- ONE_PORT_LINK_TIMEOUT: a segment with one port linked for 2 ms forms as after a single break. -/
def Core.onePort (c : Core) (s : Nat) : Core := if c.links s = 1 then c.tryForm s true else c

/-! ### Arbitration (R112 to R120, R131) -/

/-- The chip takes part in arbitration: it runs and its ports are powered. -/
def Core.ringUp (c : Core) : Bool := c.running && !c.standby

/-- Put the role machine back; a chip that became SPARE follows the crown. -/
def Core.putRole (c : Core) (r : RoleState × List Ev) : Core :=
  let was := c.role.role
  let c := { c with role := r.1 }.raise r.2
  if r.1.role = .spare ∧ was != .spare then c.toSpare else c

/-- LISTEN_EXPIRY: t_listen passes with nothing heard. -/
def Core.listenExpiry (c : Core) : Core :=
  if c.ringUp && c.role.role = .listen && c.role.listening then
    let c := c.at (rtAdd c.role.listenAt (tListen c.tcyc))
    { c with role := c.role.enterClaim }
  else c

/-- CLAIM_RECEIVED at a port. A chip in CLAIM that the claim refuses answers with its own, the reply claim that refuses the sender
(R115). -/
def Core.claimIn (c : Core) (p : Nat) (m : RoleRec) : Core :=
  if c.ringUp && (c.po p).link then
    let c := c.countFrame p true
    let was := c.role.role
    let c := c.putRole (c.role.claimReceived c.own c.now m)
    if was = .claim && c.role.role = .refused then c.sendClaim (p / 2) else c
  else c

/-- d(P) of the spare's SLOTCFG; 0 before it (R210, R211). -/
def TimeState.spareDelay (t : TimeState) (side : Nat) : Int :=
  match t.spareCfg with | some (a, b) => if side = 0 then a else b | none => 0

/-- The spare's reference port: the one with the smaller delay, An where they are equal (R210). -/
def TimeState.spareSide (t : TimeState) : Nat := if t.spareDelay 1 < t.spareDelay 0 then 1 else 0

/-- S_P − S of a sense-frame copy that arrived at `a` with a schedule mode in its header (R209, R210). -/
def Core.spareErr (c : Core) (side mode : Nat) (a : Rt) : Int :=
  rtDiff (rtAdd a (-((c.image.mode.look mode {}).tSf : Int) - c.time.spareDelay side)) c.cycle.rtS

/-- A copy of the crown's sense frame, as a spare measures it. Before the first SLOTCFG its S follows the reference copy with any
step; after it the errors are kept for the end of the cycle (R211). -/
def Core.spareCopy (c : Core) (side mode : Nat) (a : Rt) : Core :=
  let e := c.spareErr side mode a
  if c.time.spareCfg.isNone then
    if side = c.time.spareSide then { c with cycle := { c.cycle with rtS := rtAdd c.cycle.rtS e, running := true } } else c
  else if side = c.time.spareSide then { c with time := { c.time with spareRef := some e } }
  else { c with time := { c.time with spareOther := some e } }

/-- CROWN_RECORD_RECEIVED at a port: the role record of a sense frame, the mode in the frame's header, and the local time at which its
first block arrived. -/
def Core.crownIn (c : Core) (p : Nat) (m : RoleRec) (mode : Nat) (a : Rt) : Core :=
  if !c.ringUp || !(c.po p).link then c
  else
    let c := (c.countFrame p true).putRole (c.role.crownReceived c.own m)
    if c.role.role = .spare && m.crcOk then c.spareCopy (p % 2) mode a else c

/-- STANDBY_NOTICE_RECEIVED: the spare enters STANDBY with its crown. -/
def Core.standbyIn (c : Core) (p : Nat) (m : RoleRec) : Core :=
  if c.ringUp && (c.po p).link && c.role.role = .spare && m.crcOk then
    ({ (c.countFrame p true) with role := c.role.seen m } : Core).enterStandby
  else c

/-- SLOTCFG_RECEIVED, in a frame of a schedule mode whose reference copy arrived at `a`: on the first one the spare's S steps once to
S_P; a fresh one gives it new delays (R210 to R213). -/
def Core.slotCfgIn (c : Core) (a : Rt) (mode : Nat) (dA dB : Int) : Core :=
  if c.ringUp && c.role.role = .spare then
    let first := c.time.spareCfg.isNone
    let c := { c with time := { c.time with spareCfg := some (dA, dB) } }
    if first then { c with cycle := { c.cycle with rtS := rtAdd c.cycle.rtS (c.spareErr c.time.spareSide mode a), running := true } } else c
  else c

/-- RTSYNC_RECEIVED: ring time of S of a cycle, in the frame of that cycle. The first after entering SPARE gives the cycle number, and
the single step of R193 unless it has been used; another difference is reported above 8 rt, and the rate term removes it (R193, R214). -/
def Core.rtsyncIn (c : Core) (s : Nat) (n : W32) (v : Rt) : Core :=
  if !(c.ringUp && c.role.role = .spare) then c
  else if !c.time.rtsyncSeen && !c.time.stepped then
    let d := rtDiff v c.cycle.rtS
    { c with time := { c.time with ring := c.time.ring.step d, rtsyncSeen := true, stepped := true }
             cycle := { c.cycle with cycle := n, rtS := v, running := true } }
  else
    let c := if c.time.rtsyncSeen then c else
      { c with time := { c.time with rtsyncSeen := true }, cycle := { c.cycle with cycle := n, running := true } }
    let d := rtDiff (c.sOf n) v
    let c := { c with time := c.time.follow d }
    if 8 < d.natAbs then c.raise [evNode EvNo.nodeTimeDev s (c.image.sparePos.look s 0)] else c

/-! ### Nodes (R104, R110, R168 to R170, R212) -/

/-- NODE_LOSS: an admitted node has been unreachable for LOSS_CYC cycles. The first loss between two breaks is a split. -/
def Core.nodeLoss (c : Core) (s p : Nat) : Core :=
  let g := c.sg s
  if (g.node p).st = .admitted ∧ g.lossCyc ≤ (g.node p).unreach then
    let c := c.loseNode s p
    if g.between p && !g.split then
      (c.putSg s { (c.sg s) with split := true }).raise [evSeg EvNo.ringSplit s]
    else c
  else c

/-- TOUT_PERSIST: a node has set TOUT in 16 consecutive cycles. -/
def Core.toutPersist (c : Core) (s p : Nat) : Core :=
  let k := (c.sg s).node p
  if k.st = .admitted && decide (16 ≤ k.tOut) && !k.dev then
    let c := c.putSg s ((c.sg s).updNode p fun k => { k with dev := true })
    { c with time := { c.time with nodeDev := w32 (p % 64 + 256 * (s % 4) + 2147483648) } }.raise [evNode EvNo.nodeTimeDev s p]
  else c

/-- BABBLE_CONFIRMED: the suspect has been named in BABBLE_CYC consecutive cycles with an indication. -/
def Core.babble (c : Core) (s : Nat) : Core :=
  let q := c.sl s
  let u := q.suspect
  if !u.valid && decide (0 < u.cycles) && decide ((c.is s).babbleCyc ≤ u.cycles) then
    (((c.putSl s { q with suspect := { u with valid := true, clean := 0 } }).raise [evNode EvNo.babbleSuspect s u.pos])).faultNode s u.pos
  else c

/-- BABBLE_CLEARED: 256 cycles without an indication. -/
def Core.babbleClear (c : Core) (s : Nat) : Core :=
  let q := c.sl s
  let u := q.suspect
  if u.valid && decide (256 ≤ u.clean) then
    (c.putSl s { q with suspect := { u with valid := false, cycles := 0, clean := 0, basis := 0 } }).raise [evNode EvNo.babbleCleared s u.pos]
  else c

/-! ### Mailbox records from nodes (R172 to R178) -/

/-- A segment's mailbox is served. -/
def Core.mbxUp (c : Core) (s : Nat) : Bool :=
  c.ringUp && c.role.role = .crown && c.cycle.running && (c.sg s).phase != .down && !(c.sg s).dead

/-- A record that spends credit `n` of generation `gen`: the record's effect where the credit returns; a second copy that differs
is counted (R99). -/
def Core.spend (c : Core) (s p n gen : Nat) (r : List Byte) (f : Core → Core) : Core :=
  if !c.mbxUp s then c
  else
    let (q, k) := (c.sl s).receiveCredit n gen p r
    let c := c.putSl s q
    match k with
    | .first => f c
    | .second true => c.putSg s { (c.sg s) with dupmis := (c.sg s).dupmis + 1 }
    | .second false | .stale => c

/-- MBX_DATA: the credit returns; the fragment is the host software's. -/
def Core.mbxData (c : Core) (s p n gen : Nat) (data : List Byte) : Core := c.spend s p n gen data id

/-- MBX_ACK. -/
def Core.mbxAck (c : Core) (s p mseq : Nat) : Core :=
  if c.mbxUp s then c.putSl s ((c.sl s).receiveAck p mseq) else c

/-- MBX_DELAY: Δ_k and f_k of a node, in rt (R107, R108, R110). -/
def Core.mbxDelay (c : Core) (s p n gen : Nat) (delta f : Int) : Core :=
  c.spend s p n gen (be32 delta ++ be16 f) fun c =>
    let (g, evs) := (c.sg s).delayRound (c.is s) s p delta f
    (c.putSg s g).raise evs

/-- MBX_SNAP: c_s, then 52 bytes of node state; the whole 64-byte record is kept (R80). -/
def Core.mbxSnap (c : Core) (s p n gen : Nat) (r : List Byte) : Core :=
  c.spend s p n gen r fun c =>
    let y := c.cycle
    if y.gopState = .running ∧ y.gopOp = .snapshot ∧ rec32 r 4 = y.gopCyc then
      { c with cycle := { y with snapNode := y.snapNode.put (s * 64 + p) r, gopAcked := insertNat (s * 64 + p) y.gopAcked } }.gopCheck
    else c

/-- MBX_IDENT: the capability record of the node under admission, which needs no credit (R123, R173). The first good copy stands
(R99). -/
def Core.mbxIdent (c : Core) (s p : Nat) (d : Ident) : Core :=
  if !c.mbxUp s then c
  else
    let g := c.sg s
    let turn := g.phase = .admission && g.pos = p && g.sub = 1 || (g.node p).readmit = 3
    if turn then
      c.putSg s (g.updNode p fun k => if (k.ident.map (·.good)).getD false then k else { k with ident := some d, caps := d.caps, st := if k.st = NodeSt.absent ∨ k.st = NodeSt.lost then NodeSt.present else k.st })
    else c

/-- MBX_VBURST: a fragment of a Visor burst (R537). -/
def Core.mbxVburst (c : Core) (s p n gen bid frag ofs : Nat) (data : List Byte) : Core :=
  c.spend s p n gen ([byte bid, byte frag] ++ be16 (ofs : Int) ++ data) fun c =>
    { c with vis := c.vis.mapBursts fun (b : VBurst) =>
        if b.seg = s && b.pos = p && b.grant.isSome then b.frag bid frag ofs data else b }

/-- CREDIT_TIMEOUT: every credit whose time has passed returns (R176, R177). -/
def Core.creditTimeout (c : Core) (s : Nat) : Core :=
  if !c.mbxUp s then c
  else
    let t := (c.is s).credTmo
    let (q, e1) := (c.sl s).timeoutPool s t c.cycle.cycle
    let (q, e2) := q.timeoutImplied s t c.cycle.cycle
    (c.putSl s q).raise (e1 ++ e2)

/-! ### The area of a returned copy (R171 to R173) -/

/-- The capability record in an IDENT record (R173). -/
def identOf (r : List Byte) : Ident :=
  let b := fun (i : Nat) => (r.getD i 0).toNat
  { part := rec32 r 12, identity := rec32 r 4 ++ rec32 r 8, axes := b 17, caps := b 16 % 8, tRdy := rec16 r 18, tLoad := rec16 r 20
    good := crcGood [] r && decide (1 ≤ b 17) && decide (b 17 ≤ 4) && decide (2 ≤ b 22) && decide (b 22 ≤ 8) && decide (b 16 < 8) && b 23 = 0
    missMax := b 22, firmware := rec32 r 24 }

/-- One uplink record; downlink records are passed over. -/
def Core.mbxRecord (c : Core) (s : Nat) (r : List Byte) : Core :=
  let t := (r.getD 0 0).toNat
  let p := (r.getD 1 0).toNat % 64
  let g := (r.getD 3 0).toNat / 16
  let n := (r.getD 3 0).toNat % 16
  if t = 0x06 then c.mbxIdent s p (identOf r)
  else if !(crcGood [] r) then c
  else if t = 0x01 then c.mbxData s p n g ((r.drop 4).take (r.length - 8))
  else if t = 0x03 then c.mbxAck s p ((r.getD 3 0).toNat % 128)
  else if t = 0x04 then c.mbxDelay s p n g (rec32 r 4).toInt (rec16 r 8)
  else if t = 0x05 then c.mbxSnap s p n g r
  else if t = 0x10 then
    c.mbxVburst s p n g (r.getD 4 0).toNat (r.getD 5 0).toNat (rec16 r 6) ((r.drop 8).take (r.length - 12))
  else c

/-- The record types of R173, the role record among them. -/
def mbxKnown (t : Nat) : Bool := decide (t ≤ 0x0C) || decide (t = 0x10) || decide (t = 0x51)

/-- Parse an area from byte `at'`, in at most `fuel` steps of 8 bytes. An unknown type, or a length outside the area, ends it. -/
def Core.mbxParse : Nat → Core → Nat → List Byte → Core
  | 0, c, _, _ => c
  | fuel + 1, c, s, bs =>
    match bs with
    | [] => c
    | t :: _ =>
      if t = 0 then Core.mbxParse fuel c s (bs.drop 8)
      else
        let n := if t = 0x51 then 32 else 8 * (bs.getD 2 0).toNat
        if !mbxKnown t.toNat || decide (n = 0) || decide (96 < n) || decide (bs.length < n) then c
        else Core.mbxParse fuel (c.mbxRecord s (bs.take n)) s (bs.drop n)

/-- The mailbox area of a good copy. -/
def Core.mbxArea (c : Core) (s : Nat) (bs : List Byte) : Core := Core.mbxParse 12 c s bs

/-- DRIVE_COPY_RETURN: a drive-frame copy returns at a port (R147, R168, R171). -/
def Core.driveReturn (c : Core) (s side : Nat) (good : Bool) (area : List Byte) : Core :=
  if !c.mbxUp s || !(c.po (2 * s + side)).link then c
  else
    let c := c.countFrame (2 * s + side) good
    if good then c.mbxArea s (area.take 96) else
    let q := c.sl s
    c.putSl s { q with frmret := halfInc q.frmret side
                       suspect := if side = 0 then { q.suspect with dbadA := true } else { q.suspect with dbadB := true } }

/-! ### Limits of operations (R82) -/

/-- BARRIER_TIMEOUT: a barrier fails 16 cycles after its announcement. -/
def Core.barrierTimeout (c : Core) : Core :=
  if c.cycle.gopOp = .barrier then c.gopBoundary else c

/-- SNAPSHOT_UPLOAD_TIMEOUT. -/
def Core.snapTimeout (c : Core) : Core :=
  if c.cycle.gopOp = .snapshot then c.gopBoundary else c

end Sys2Proof.Machine
end

