-- ==== Sys2Proof/Machine/CycleCmd.lean ====
section
/-! DEFINITION. Machine/CycleCmd.lean: the events of a cycle: frames, returns, uplink runs, the compute window, release
deadlines and the drive frame (R77, R80, R98 to R105, R141 to R166, R171 to R175, R283, R301, R361, R416, R476, R501). -/

namespace Sys2Proof.Machine

/-! ### What the head sends (R73, R80, R144 to R146, R171 to R175) -/

/-- The chip sends frames: it holds the crown and the ring network runs. -/
def Core.sends (c : Core) : Bool := c.running && c.role.role = .crown && c.cycle.running && !c.standby

/-- A segment carries frames. -/
def Core.segLive (c : Core) (s : Nat) : Bool := (c.sg s).phase != .down && !(c.sg s).dead

/-- A frame's announcements in this cycle. -/
def Core.frame (c : Core) (s : Nat) (kind : FrameKind) : FrameOut :=
  let y := c.cycle
  let last := match y.change with | some m => decide (m.cEff = y.cycle + 1) | none => false
  let left : Int := match y.change with | some m => (m.cEff - y.cycle).toInt | none => 0
  let phase : Nat := match y.change with
    | none => 0
    | some m =>
      if left = 1 then (match m.decision with | some true => 2 | some false => 3 | none => 0)
      else if 2 ≤ left ∧ left ≤ c.image.aLead then 1 else 0
  let snap := y.gopState = GopState.running && y.gopOp = GopOp.snapshot && decide (0 ≤ (y.cycle - y.gopStart).toInt)
  { seg := s, kind := kind, cycle := y.cycle, inForce := y.mode, phase := phase
    cdn := if phase = 1 ∨ phase = 2 then left.toNat else if snap then (y.gopCyc - y.cycle).toInt.toNat else 0
    mode := y.change.map fun m => (m.target, m.cEff)
    commit := match y.change with
      | some m => if last then some (if m.decision = some true then some (m.confirmed.look s 0) else none) else none
      | none => none
    gop := if y.gopState = GopState.running && decide (0 ≤ (y.cycle - y.gopStart).toInt) then
        (match y.gopOp with | .mode => none | .barrier => some 1 | .snapshot => some 2 | .netreset => some 3) else none }

/-- Placeholders of the Finzo 1 axes of a segment, in position order (R144, R156). -/
def Core.holders (c : Core) (s : Nat) : List (Nat × Nat) :=
  (c.is s).nodes.flatMap fun e => if ((c.sg s).node e.1).rev = 1 then (List.range e.2.axes).map fun i => (e.1, i) else []

/-- L_sf in bytes (R144). -/
def Core.senseLen (c : Core) (s : Nat) : Nat := 112 + 32 * (c.holders s).length

/-- Nodes of a segment that carry a safety-rated axis, as keys. -/
def Core.safeNodes (c : Core) (s : Nat) : List Nat := ((c.is s).nodes.filter fun e => e.2.safety).map fun e => s * 64 + e.1

/-- L_df in bytes (R144). -/
def Core.driveLen (c : Core) (s : Nat) : Nat := 112 + 16 * (c.flow s).slots + 24 * (c.safeNodes s).length

/-- SLOTCFG of a node for a schedule mode (R173). -/
def Core.slotCfg (c : Core) (s p mode : Nat) : DownRec :=
  let e := (c.is s).nodes.look p {}
  let o := e.slots.look mode (0, 0)
  let n := (c.sg s).node p
  { mtype := 0x08, addr := p, len := 3, body := be32 (16777216 * mode) ++ be32 o.1 ++ be32 o.2 ++ be32 n.dA.rt ++ be32 n.dB.rt }

/-- ADMIT or REFUSE (R173). -/
def admitRec (p verdict reason rev : Nat) : DownRec :=
  { mtype := 0x07, addr := p, len := 1, body := [BitVec.ofNat 8 verdict, BitVec.ofNat 8 reason, BitVec.ofNat 8 rev, 0] }

/-- RTSYNC for the spare crown (R214). -/
def Core.rtSync (c : Core) (p : Nat) : DownRec :=
  { mtype := 0x0C, addr := p, len := 2, body := beBytes (hi32 c.cycle.rtS) ++ beBytes (lo32 c.cycle.rtS) ++ [0, 0, 0, 0] }

/-- Queue a GRANT unless one of its class waits for the node. -/
def SlotSeg.want (q : SlotSeg) (cls node purpose : Nat) : SlotSeg :=
  if (q.queue.look cls []).contains (grantReq node purpose) then q else q.enqueue cls (grantReq node purpose)

/-- What admission sends to one node: ADMIT or REFUSE in its CHECK cycle; once it is admitted, a_k = 0 (not for Finzo 1, R156) and SLOTCFG of
every mode, and its axes' next records start new references (R162, R173, R238, R249). -/
def Core.tellNode (c : Core) (s p : Nat) : Core :=
  let g := c.sg s
  let n := g.node p
  let c := match n.tell with
    | some (r, rev) =>
      (c.putSg s (g.updNode p fun k => { k with tell := none })).putSl s ((c.sl s).enqueue 3 (admitRec p (b2n (r != 0)) r rev))
    | none => c
  if n.st = .admitted && !n.cfgSent then
    let q := ((c.sl s).updPort p 0 fun k => { k with adj := 0 }).updPort p 1 fun k => { k with adj := 0 }
    let q := if n.rev = 1 then q else q.enqueue 6 (q.slotAdj p)
    let q := ((c.image.mode.filter fun e => e.2.present).map (·.1)).foldl (fun (q : SlotSeg) m => q.enqueue 3 (c.slotCfg s p m)) q
    let c := (c.putSg s ((c.sg s).updNode p fun k => { k with cfgSent := true })).putSl s q
    { c with cuff := { c.cuff with axis := c.cuff.axis.each fun a y =>
        if (c.nodeAxes s p).contains a then { y with remote := { y.remote with dblBase := none, ref := none } } else y } }
  else if n.st = .absent || n.st = .lost then c.putSg s ((c.sg s).updNode p fun k => { k with cfgSent := false })
  else c

/-- The head's own mailbox traffic of a cycle: formation, DELAY rounds, the spare crown, snapshot and burst GRANTs (R80, R174,
R213, R214, R536). -/
def Core.headTraffic (c : Core) (s : Nat) : Core :=
  let g := c.sg s
  let here := g.nodes.filter fun e => e.2.st != NodeSt.absent || e.2.heardA || e.2.heardB
  let c := here.foldl (fun (c : Core) e => c.tellNode s e.1) c
  let q := c.sl s
  let q := if g.phase = .discover ∨ g.phase = .admission then here.foldl (fun (q : SlotSeg) e => q.want 3 e.1 1) q else q
  let adm := c.admitted s
  let q := if (g.phase = .lock ∨ g.phase = .formed) ∧ !g.anyOpen ∧ !adm.isEmpty ∧ (q.queue.look 9 []).isEmpty then
      let p := adm.getD (q.poll % adm.length) 0
      { (q.want 9 p 1) with poll := (q.poll + 1) % adm.length }
    else q
  let q := match c.image.sparePos.look? s with
    | some p =>
      -- the spare's SLOTCFG and first RTSYNC at the end of DISCOVER, then one RTSYNC in every epoch
      if g.phase = .admission ∧ g.pos = 0 ∧ g.sub = 1 then (q.enqueue 3 (c.slotCfg s p c.cycle.mode)).enqueue 3 (c.rtSync p)
      else if c.cycle.cycle.toNat % 1048576 = 0 then q.enqueue 3 (c.rtSync p) else q
    | none => q
  let snap := c.cycle.gopState = GopState.running && c.cycle.gopOp = GopOp.snapshot && decide (0 < (c.cycle.cycle - c.cycle.gopCyc).toInt)
  let q := if snap then
      (c.gopOpen.filter fun k => k / 64 = s).foldl (fun (q : SlotSeg) k =>
        if q.credits.any fun e => e.2.out && e.2.node = k % 64 && e.2.purpose = 2 then q else q.want 7 (k % 64) 2) q
    else q
  let q := (c.vis.allBursts.filter fun b => b.seg = s && !b.past && decide (0 ≤ (c.cycle.cycle - b.due).toInt)).foldl (fun (q : SlotSeg) b =>
      let out := countP' (fun (e : Nat × Credit) => e.2.out && e.2.node = b.pos && e.2.purpose = 3) q.credits
      if out < fld c.vcfg.nbcfg 17 16 + 1 then q.want 7 b.pos 3 else q) q
  c.putSl s q

/-- The GRANTs of a frame start the windows of bursts (R536). -/
def Core.grantsLeft (c : Core) (s : Nat) (rs : List DownRec) : Core :=
  { c with vis := c.vis.mapBursts fun (b : VBurst) =>
      if b.seg = s && !b.past && b.grant.isNone && rs.any (fun r => r.mtype = 2 && r.addr = b.pos && r.body.getD 1 0 = 3) then
        { b with grant := some c.cycle.cycle, shifted := c.cycle.cycle != b.due }
      else b }

/-- The COMMIT record of cycle c_eff − 1 (R73, R146). -/
def Core.commitRec (c : Core) (s : Nat) : List DownRec :=
  match (c.frame s .sense).commit with
  | some (some m) =>
    [{ mtype := 0x0A, addr := 0xFF, len := 2, body := be16 (m.toNat / 2 ^ 32 : Nat) ++ be32 (m.toNat % 2 ^ 32 : Nat) ++ List.replicate 6 0 }]
  | _ => []

/-- Fill one frame's area. -/
def Core.fillFrame (c : Core) (s space : Nat) : Core × List DownRec :=
  let cm := c.commitRec s
  let (q, rs) := (c.sl s).fillArea (c.is s).pool (c.admitted s) c.cycle.cycle (space - 16 * cm.length)
  ((c.putSl s q).grantsLeft s rs, cm ++ rs)

/-- The sense frame of a segment. -/
def Core.senseFrame (c : Core) (s : Nat) : Core :=
  if !c.segLive s then c
  else
    let g := c.sg s
    let c := c.putSg s { g with a := g.a.launch, b := g.b.launch }
    let c := c.headTraffic s
    let (c, rs) := c.fillFrame s 64
    let (c, r) := c.nextRole
    c.launch { (c.frame s .sense) with role := some r, holders := (c.holders s).length, mbx := rs }

/-- SENSE_FRAME_LAUNCH (R61, R98, R113, R131). -/
def Core.senseLaunch (c : Core) : Core :=
  if !c.sends then c
  else
    let c := c.at (c.instant c.modeI.tSf)
    let c := c.segs.foldl Core.senseFrame c
    { c with role := { c.role with notices := c.role.notices - 1 } }

/-! ### Returns (R99, R101, R105, R107) -/

/-- The words of a sense record (R558). -/
def senseWords (r : List Byte) : List (Nat × W32) :=
  let m := r.zipIdx.map fun (e : Byte × Nat) => (e.2, e.1)
  forN 8 fun k => (oSense + 4 * k, memWord 0 m (4 * k))

/-- The axes whose remote feedback is the sense record of axis `a` (R227). -/
def Core.readers (c : Core) (a : Nat) : List Nat := c.axes.filter fun b => c.remoteFeedback b && c.srcAxis b = a

/-- A sense record is accepted for an axis (R99, R558): its words are written, its DC bus voltage gives the brake chopper's duty
(R284), and its remote FEEDBACK is posted. -/
def Core.acceptAxis (c : Core) (a : Nat) (r : List Byte) : Core :=
  let c := (c.setWords a (senseWords r)).updFa a fun x => { x with dbrk := brakeDuty (c.cf a) (rec16 r 10) }
  let first := !(c.chainOf a).fed
  let c := c.updChain a fun (x : Chain) => { x with fed := true }
  if first then
    (c.readers a).foldl (fun (c : Core) b =>
      if (c.chainOf b).tasks.any fun t => t.task = .feedback && t.st = .waiting then c.post .feedback b false c.cycle.cycle else c) c
  else c

/-- What a sense record gave an axis is withdrawn, since its run turned out to be out of slot (R157): its words, and the FEEDBACK task
if it has not completed (DEDUCED, log entry 67). -/
def Core.unfeed (c : Core) (a : Nat) : Core :=
  let c := (c.setWords a (forN 8 fun k => (oSense + 4 * k, (0 : W32)))).updChain a fun (x : Chain) => { x with fed := false }
  (c.readers a).foldl (fun (c : Core) b =>
    let c := (c.disp.running.filter fun r => r.r.task = Task.feedback && r.r.key = b).foldl (fun (c : Core) r => c.freeUnit r) c
    c.updChain b fun x => x.mark (fun t => t.task = .feedback && t.live) .waiting) c

/-- A mode change is confirmed in the cycles c_eff − A_lead + 1 to c_eff − 2 (R73). -/
def Core.confirmWindow (c : Core) (m : ModeChange) : Bool :=
  let left := (m.cEff - c.cycle.cycle).toInt
  decide (2 ≤ left) && decide (left ≤ (c.image.aLead : Int) - 1) && m.decision.isNone

/-- NSTAT of the first record accepted from a node in a cycle (R73, R80, R102, R149, R179, R212). -/
def Core.nodeStatus (c : Core) (s p : Nat) (r : List Byte) : Core :=
  let st := (r.getD 2 0).toNat
  let toff := recS16 r 26
  let key := s * 64 + p
  let g := (c.sg s).updNode p fun k =>
    { k with status := w32 st, lockA := natBit st 0, lockB := natBit st 1, tOut := if natBit st 5 then k.tOut + 1 else 0, dev := k.dev && natBit st 5 }
  let c := c.putSg s g
  let c := if natBit st 4 then c.putSl s { (c.sl s) with dlmiss := (c.sl s).dlmiss + 1 } else c
  let note := fun (m : ModeChange) => if c.confirmWindow m then { m with confirmed := m.confirmed.upd s 0 fun b => b ||| (1 <<< p) } else m
  let c := if natBit st 2 then { c with cycle := { c.cycle with change := c.cycle.change.map note } } else c
  let c := if natBit st 3 && c.cycle.gopOp = GopOp.barrier && c.cycle.gopState = GopState.running && decide (0 ≤ (c.cycle.cycle - c.cycle.gopStart).toInt) then
      ({ c with cycle := { c.cycle with gopAcked := insertNat key c.cycle.gopAcked } }).gopCheck
    else c
  if ((c.sg s).node p).rev < 2 then c
  else if toff.natAbs ≤ 8 then { c with time := { c.time with reported := insertNat key c.time.reported } }
  else
    let (t, evs) := c.time.lockLose
    { c with time := t }.raise evs

/-- The record type an axis's feedback takes, 0 where any decoded record will do. -/
def Core.fbType (c : Core) (a : Nat) : Nat :=
  match c.source a with | .remote t => t | .channel _ => 0

/-- A copy of a sense record arrives for a place of a node's slot; after the outcomes are fixed nothing is accepted. NSTAT is read
from the first sense record accepted from the node (R149). -/
def Core.senseRecord (c : Core) (s p side i : Nat) (r : List Byte) : Core :=
  let q := c.sl s
  let ax := c.axisAt s p i
  let chk := checkSense ((c.sg s).node p).rev (match ax with | some a => c.fbType a | none => 0) p i c.cycle.cycle r
  if q.barred p side then c
  else
    let none' := !((q.rxOf p).got.any fun e => decide (e.1 < 4))
    let (q, acc, mis) := q.takeRecord p side i r chk
    let c := c.putSl s q
    let c := if mis then c.putSg s { (c.sg s) with dupmis := (c.sg s).dupmis + 1 } else c
    if acc then
      let c := if none' then c.nodeStatus s p r else c
      match ax with
      | some a => c.acceptAxis a r
      | none => c
    else c

/-- A copy of an uplink safety record: its slot's part; SAFETY_RECORD_RECEIVED gives it to the Gauntlet. -/
def Core.safetyCopy (c : Core) (s p side : Nat) (r : List Byte) : Core :=
  let q := c.sl s
  if q.barred p side then c
  else
    let (q, _, mis) := q.takeRecord p side 4 r (checkSafety ((c.is s).nodes.look p {}).connId p r)
    let c := c.putSl s q
    if mis then c.putSg s { (c.sg s) with dupmis := (c.sg s).dupmis + 1 } else c

/-- A node was heard at a port. -/
def Core.heard (c : Core) (s p side : Nat) : Core :=
  c.putSg s ((c.sg s).updNode p fun k => if side = 0 then { k.seen with heardA := true } else { k.seen with heardB := true })

/-- The placeholders of a good returning copy. -/
def Core.placeholders (c : Core) (s side : Nat) (recs : List (List Byte)) : Core :=
  ((c.holders s).zip recs).foldl (fun (c : Core) e =>
    let (p, i) := e.1
    if (e.2.getD 0 0) = 0 then c
    else
      let c := (c.heard s p side).putSl s ((c.sl s).updRx p fun x => { x with dirty := true })
      c.senseRecord s p side i e.2) c

/-- A copy returns too late: 0.1 µs, 400 rt, past D_loop, or after its deadline has passed (R101). L_sf is in the deadline because
a copy is complete L_sf after its first block; `t` is the time of that block, as D_loop is. While no D_loop has been measured no copy
is late (DEDUCED, log entry 67). -/
def Segment.tooLate (g : Segment) (ring : Nat) (t : Int) : Bool :=
  (if ring = 0 then g.a.late else g.b.late) || (decide (0 < g.dloop2) && decide (g.dloop2 + 800 < 2 * t))

/-- A position answers in DISCOVER (R121, R124): counted from An along ring A, or from Bn along ring B. -/
def Core.discover (c : Core) (s ring hop : Nat) : Core :=
  let n := (c.is s).len
  if (c.sg s).phase = .discover then
    c.putSg s ((List.range (min hop 48)).foldl (fun (g : Segment) h =>
      if ring = 0 then g.updNode h Node.seen else if h < n then g.updNode (n - 1 - h) Node.seen else g) (c.sg s))
  else c

/-- SENSE_COPY_RETURN: ring 0 (A) returns at Bn, ring 1 (B) at An, `t` rt after launch (R101, R107, R168). In
DISCOVER the HOP count of the copy says how many positions answer (R121, R179). -/
def Core.senseReturn (c : Core) (s ring : Nat) (t : Int) (good : Bool) (recs : List (List Byte)) (area : List Byte) (hop : Nat) : Core :=
  let side := if ring = 0 then 1 else 0
  if !c.sends || !c.segLive s || !(c.po (2 * s + side)).link then c
  else
    let c := (c.at (rtAdd (c.instant c.modeI.tSf) t)).countFrame (2 * s + side) good
    let q := c.sl s
    if !good then
      let sus := if side = 0 then { q.suspect with badA := true } else { q.suspect with badB := true }
      c.putSl s { q with frmret := halfInc q.frmret side, suspect := sus }
    else
      let g := c.sg s
      let g := if g.tooLate ring t then g
        else if ring = 0 then { g with a := g.a.returned t } else { g with b := g.b.returned t }
      let g := match g.a.last, g.b.last with
        | some x, some y => { g with dloop2 := x + y }
        | _, _ => g
      ((((c.putSg s g).discover s 0 hop)).placeholders s side recs).mbxArea s (area.take 64)

/-- SENSE_RETURN_DEADLINE: a copy of the cycle that has not returned is missed (R101). In DISCOVER, `hop` positions have reported
that they heard it (R124). -/
def Core.senseDeadline (c : Core) (s ring hop : Nat) : Core :=
  if !c.sends || !c.segLive s then c
  else
    let g := c.sg s
    let late := (if ring = 0 then g.a else g.b).last.isNone
    if !late then c
    else (c.putSg s (if ring = 0 then { g with a := g.a.missed } else { g with b := g.b.missed })).discover s ring hop

/-- RING_CLOSE: an open ring closes after 16 returns (R101, R105). -/
def Core.ringClose (c : Core) (s ring : Nat) : Core :=
  let g := c.sg s
  let (d, yes) := (if ring = 0 then g.a else g.b).close
  if yes && !g.cut then
    (c.putSg s (if ring = 0 then { g with a := d } else { g with b := d })).raise [evSeg EvNo.ringClosed s ring]
  else c

/-! ### Uplink runs (R157 to R163) -/

/-- SRC of the first record of a run that passes CRC-32C. -/
def runSrc (recs : List (List Byte)) : Option Nat :=
  (recs.find? fun r => r.length = 32 && crcGood [] r).map fun r => (r.getD 1 0).toNat % 64

/-- An out-of-slot run: counted; an immediate correction where its records name an admitted node, else a babble indication
(R161, R168, R169). -/
def Core.outOfSlot (c : Core) (s side : Nat) (off : Int) (src : Option Nat) : Core :=
  let q := c.sl s
  let q := { q with outslot := halfInc q.outslot side }
  match src with
  | none => c.putSl s { q with suspect := { q.suspect with ind := true } }
  | some p =>
    let q := { q with suspect := { q.suspect with src := q.suspect.src.orElse fun _ => some p } }
    let c := c.heard s p side
    match ((c.is s).nodes.look p {}).slotStart c.cycle.mode side with
    | some o =>
      if ((c.sg s).node p).st = .admitted then
        let (q, evs) := q.immediate (c.is s) s p side (off - o)
        (c.putSl s q).raise evs
      else c.putSl s { q with suspect := { q.suspect with ind := true } }
    | none => c.putSl s { q with suspect := { q.suspect with ind := true } }

/-- The copies that a slot had accepted from a port are out of slot after all: the other port's copies stand in for them, and an axis
without one is no longer fed (R157). -/
def Core.dropCopies (c : Core) (s p side : Nat) : Core :=
  let x := (c.sl s).rxOf p
  let c := c.putSl s ((c.sl s).updRx p fun x => { x with got := x.got.filter fun e => e.2.1 != side })
  (List.range 4).foldl (fun (c : Core) i =>
    match c.axisAt s p i, x.copy i with
    | some a, some old =>
      match ((c.sl s).rxOf p).copy i with
      | some r => if r = old then c else c.setWords a (senseWords r)
      | none => c.unfeed a
    | _, _ => c) c

/-- Another run comes to a slot at a port: both are out of slot (R157), and so the first one too, unless it already was. An
outer-brim copy has had its correction. -/
def Core.dropFirst (c : Core) (s p side : Nat) : Core :=
  match ((c.sl s).portOf p side).first with
  | some (off, src) =>
    let c := (c.putSl s ((c.sl s).updPort p side fun k => { k with first := none })).dropCopies s p side
    let eps := off - (((c.is s).nodes.look p {}).slotStart c.cycle.mode side).getD 0
    if band (c.is s).phy eps = .outer && src = some p then c.putSl s { (c.sl s) with outslot := halfInc (c.sl s).outslot side }
    else c.outOfSlot s side off src
  | none => c

/-- The records of an attributed copy, in place order: sense records, then the safety record. -/
def Core.runRecords (c : Core) (s p side : Nat) (recs : List (List Byte)) : Core :=
  let n := ((c.is s).nodes.look p {}).axes
  recs.zipIdx.foldl (fun (c : Core) e => if e.2 < n then c.senseRecord s p side e.2 e.1 else c.safetyCopy s p side e.1) c

/-- A merged run (R157, R159, R163, R168): counted once, its copies discarded; the slot that it is nearest to has had a run. -/
def Core.mergedRun (c : Core) (u : UplinkRun) (slot : Option Nat) : Core :=
  let q := c.sl u.seg
  let c := (c.putSl u.seg { q with merged := halfInc q.merged u.side
                                   suspect := { q.suspect with ind := true, src := q.suspect.src.orElse fun _ => runSrc u.records } }).raise
    [(evSeg EvNo.slotMerged u.seg).limited u.seg]
  match slot with
  | some p =>
    let c := c.dropFirst u.seg p u.side
    c.putSl u.seg ((c.sl u.seg).updPort p u.side fun k => { k with runs := k.runs + 1 })
  | none => c

/-- A run that lies in its slot's bands (R158, R160, R161). -/
def Core.inSlot (c : Core) (u : UplinkRun) (p : Nat) (off eps : Int) : Core :=
  let b := band (c.is u.seg).phy eps
  let q := (c.sl u.seg).updPort p u.side fun k => { k with runs := 1, first := some (off, runSrc u.records) }
  let q := if b = .inner then { q with brimIn := halfInc q.brimIn u.side } else q
  let (q, evs) := if b = .outer then
      let (q, e) := ({ q with brimOut := halfInc q.brimOut u.side }).immediate (c.is u.seg) u.seg p u.side eps
      (q, evDrift u.seg :: e)
    else (q.countEps p u.side eps, [])
  (((c.putSl u.seg q).raise evs).heard u.seg p u.side).runRecords u.seg p u.side u.records

/-- UPLINK_RUN_RECEIVED, at a linked port (R132, R157 to R163). -/
def Core.uplinkRun (c : Core) (u : UplinkRun) : Core :=
  if !c.sends || !c.segLive u.seg || !(c.po (2 * u.seg + u.side)).link then c
  else
    let c := c.at u.stamp
    let off := rtDiff u.stamp c.cycle.rtS
    let near := ((c.is u.seg).nearest c.cycle.mode u.side off).filter fun e => ((c.sg u.seg).node e.1).st = .admitted
    if u.merged then c.mergedRun u (near.map (·.1))
    else
      match near with
      | none => c.outOfSlot u.seg u.side off (runSrc u.records)
      | some (p, eps) =>
        let runs := ((c.sl u.seg).portOf p u.side).runs
        if 0 < runs || band (c.is u.seg).phy eps = .out then
          let c := c.dropFirst u.seg p u.side
          (c.putSl u.seg ((c.sl u.seg).updPort p u.side fun k => { k with runs := k.runs + 1 })).outOfSlot u.seg u.side off (runSrc u.records)
        else c.inSlot u p off eps

/-- SLOT_MEAN_UPDATE: every 16 cycles, every slot and port (R160). -/
def Core.slotMeans (c : Core) : Core :=
  c.segs.foldl (fun (c : Core) s =>
    (c.admitted s).foldl (fun (c : Core) p =>
      (List.range 2).foldl (fun (c : Core) side =>
        let (q, evs) := (c.sl s).meanUpdate (c.is s) s p side
        (c.putSl s q).raise evs) c) c) c

/-- RT_LOCK_GAINED: 256 consecutive cycles in the window (R52, R212). EV_SPARE_READY is raised once per reset (R140): DESIGN CHOICE
(log entry 66). -/
def Core.lockGained (c : Core) : Core :=
  if c.role.role = .crown && !c.time.locked && decide (256 ≤ c.time.lockRun) then
    { c with time := { c.time with locked := true } }.raise [ev0 EvNo.rtLocked]
  else if c.role.role = .spare && !c.role.readyRaised && decide (256 ≤ c.time.spareRun) then
    { c with role := { c.role with readyRaised := true } }.raise [ev0 EvNo.spareReady]
  else c

/-! ### The compute window (R163, R166, R476) -/

/-- The positions of a segment that hold uplink slots: not the spare crown's (R97, R163). -/
def Core.slotNodes (c : Core) (s : Nat) : Tab ImgNode := (c.is s).nodes.filter fun e => !e.2.spare

/-- Fix the uplink outcomes of a segment. -/
def Core.fixSlots (c : Core) (s : Nat) : Core :=
  (c.slotNodes s).foldl (fun (c : Core) e =>
    let n := (c.sg s).node e.1
    let o := (c.sl s).outcomeOf e.1 (n.st = .admitted) n.rev (e.2.axes + b2n e.2.safety)
    c.putSl s ((c.sl s).updRx e.1 fun x => if x.outcome.isSome then x else { x with outcome := some o })) c

/-- An axis at S + t_cw0: its miss count, and the end of a chain without a sense record (R166, R415). -/
def Core.windowAxis (c : Core) (a : Nat) : Core :=
  let x := c.chainOf a
  if x.fed && (!c.remoteFeedback a || (c.chainOf (c.srcAxis a)).fed) then c.updAx a fun y => { y with miss := 0 }
  else
    let c := match c.source a with
      | .remote _ => { c with cuff := { c.cuff with axis := c.cuff.axis.upd a {} fun y => { y with remote := { y.remote with gap := y.remote.gap + 1 } } } }
      | .channel _ => c
    if x.tasks.isEmpty then c.updAx a fun y => { y with miss := 0 }
    else
      let counts := (c.ax a).state != .fault && c.nodeAdm a && c.segFormed a
      let c := c.updAx a fun y => { y with miss := if counts then y.miss + 1 else 0 }
      let c := c.cancelChain a 1 .marker
      if counts && decide ((c.imgAx a).mMiss ≤ (c.ax a).miss) then c.axisFault a 0xB else c

/-- What an evaluation reads of an axis. -/
def Core.gsIn (c : Core) (a : Nat) : GsAxIn :=
  { axis := a, state := (c.ax a).state, pos := c.word a oPos, vel := (c.word a oVel).toInt, res := c.word a oSafeRes
    bad := c.badCyc a, safety := c.safetyRated a, sfWd := (c.nodeImg (c.gnKey a)).sfWd, fbcReact := (c.cf a .fbcReact).toNat
    nodeOk := c.laneOk a
    unk := c.isObs a && ((c.ob a).sub = .hold || (c.ob a).sub = .idle || (c.ax a).state = .catching || (c.ax a).state = .start) }

/-- What the Gauntlet orders. -/
def Core.gsAct (c : Core) (x : GsAct) : Core :=
  match x with
  | .halt a => c.axisHalt a
  | .open' a => c.updAx a fun y => { y with openDue := true }
  | .degrade a => c.degrade a dgSusp
  | .fault a k => c.gauntletFault a k

/-- The Gauntlet evaluation (R476); in a maker test mode every SOUT pair stays off (R630). -/
def Core.gsEvaluate (c : Core) : Core :=
  let r := c.gs.evaluate c.image.gs (c.axes.map c.gsIn) c.tcyc c.cycle.cycle c.now
  let g := if c.boot.maker then { r.s with out := r.s.out.each fun _ o => o.want false } else r.s
  r.acts.foldl Core.gsAct ({ c with gs := g }.raise r.evs)

/-- COMPUTE_WINDOW_OPEN. -/
def Core.computeWindow (c : Core) : Core :=
  if !c.running || !c.cycle.running || !c.computes then c
  else
    let c := c.at (c.instant c.modeI.tCw0)
    let c := c.segs.foldl Core.fixSlots c
    let c := c.axes.foldl Core.windowAxis c
    c.gsEvaluate.commitPoint

/-! ### Release deadlines (R301, R361, R416) -/

/-- The voltage that the cycle's record applies (R179 row 9, R301). -/
def Core.applied (c : Core) (a : Nat) (d : Drive) : Core :=
  let mk := fun (v : Option (Int × Int)) => ({ v := v, tU := c.modeI.tU, tcyc := c.tcyc } : Applied)
  let missMax := match (c.nodeOf a).ident with | some i => i.missMax | none => 2
  c.updOb a fun o =>
    match d with
    | .duties _ x y z _ =>
      { (o.applied (mk (some (if x = 0 && y = 0 && z = 0 && o.probeAt (c.cf a) 0 then (0, 0) else (c.fa a).vab)))) with markRun := 0 }
    | .inhibit _ _ => { (o.applied (mk none)) with markRun := 0 }
    | .marker | .errMarker =>
      let n := o.markRun + 1
      let prev := match o.va with | p :: _ => p.v | [] => none
      { (o.applied (mk (if missMax ≤ n then none else if n = 1 then prev else some (0, 0)))) with markRun := n }

/-- An incomplete pair at the deadline (R361). -/
def Core.pairLate (c : Core) (a : Nat) : Core :=
  let x := c.chainOf a
  if x.paired && x.tasks.any (fun t => t.task = .law && t.live) && x.tasks.any (fun t => t.task = .law && (t.st = .running || t.st = .ended .released || t.st = .ready)) then
    let c := (({ c with eng := { c.eng with plates := c.eng.plates + 1 } }).updAx a fun y => { y with plate := y.plate + 1 }).raise [(evAxis EvNo.pairIncomplete a).limited a]
    if (c.imgAx a).mMiss ≤ (c.ax a).plate then c.axisFault a 4 else c
  else c

/-- One axis of a flow at D_f: what has not completed ends as released-empty. -/
def Core.deadlineAxis (c : Core) (a : Nat) : Core :=
  if c.chainLive a then (c.pairLate a).endChainTasks a .empty 1 0 else c

/-- RELEASE_DEADLINE of flow f. -/
def Core.releaseDeadline (c : Core) (f : Nat) : Core :=
  if !c.running || !c.cycle.running || !c.computes || !(c.disp.flow.look? f).isSome || (c.flow f).closed then c
  else
    let d := c.instant (c.modeI.tRel - 128)
    let c := c.at d
    let m := (c.is f).driveMap
    let holes := (c.flow f).unfilled
    let c := holes.foldl (fun (c : Core) s => c.tr { kind := 7, axis := m.getD s 0, flow := f, cls := 7, slot := s }) c
    let c := m.foldl Core.deadlineAxis c
    let x := c.flow f
    let (y, _) := x.close d
    let c := { c with disp := { c.disp with flow := c.disp.flow.put f y } }
    let c := (List.range' x.ptr (y.ptr - x.ptr)).foldl (fun (c : Core) s => c.tr { kind := 6, axis := m.getD s 0, flow := f, cls := 7, slot := s }) c
    let c := c.tr { kind := 8, flow := f, cls := 7 }
    let c := c.raise (y.events f c.disp.slackThr)
    let c := if y.late && c.health.braced then { c with health := c.health.lateClose } else c
    let (h, evs) := c.health.slackCheck c.image.health.proof c.cycle.mode f (if y.slack = 0xFFFF_FFFF then none else some (if y.late then -1 else (y.slack.toNat : Int)))
    let c := { c with health := h }.raise evs
    m.zipIdx.foldl (fun (c : Core) e => if c.isObs e.1 then c.applied e.1 ((y.entries.look? e.2).getD .marker) else c) c

/-! ### The drive frame and the image (R77, R80, R164, R165, R422, R501) -/

/-- Torque and brake bits of a node, per axis index (R501, R515). -/
def Core.nodeBits (c : Core) (k : Nat) : Nat × Nat :=
  let axs := c.nodeAxes (k / 64) (k % 64)
  let off := c.boot.standbyAt.isSome && decide (c.cycle.cycle = (c.boot.standbyAt.getD 0) + 4)
  axs.foldl (fun (t : Nat × Nat) a =>
    let i := 2 ^ (c.imgAx a).idx
    if off then t
    else (t.1 + (if c.gs.torque c.image.gs a (c.laneOk a) then i else 0),
          t.2 + (if c.gs.brakeFree c.image.gs a (c.laneOk a) (c.ax a).state then i else 0))) (0, 0)

/-- The safety record of a node: the head's counter advances, and the wait for its STO feedback counts from the clearing of a
torque bit (R501, R504). -/
def Core.safetySend (c : Core) (k : Nat) : Core × SafetyOut :=
  let (t, b) := c.nodeBits k
  let n := c.gs.node.look k {}
  let i := c.nodeImg k
  let wait := (List.range 4).map fun i => (i, if natBit t i then 0 else n.wait.look i 0 + 1)
  let n := { n with head := n.head + 1, torque := t, brake := b, wait := wait }
  ({ c with gs := { c.gs with node := c.gs.node.put k n } },
    { pos := k % 64, scnt := n.head, torque := t, brake := b, wd := i.sfWd, echo := n.scnt, conn := i.connId })

/-- DST of an axis's drive record (R151). -/
def Core.dst (c : Core) (a : Nat) : Nat := (c.imgAx a).pos % 64 + 64 * ((c.imgAx a).idx % 4)

/-- The drive frame of a segment. -/
def Core.driveFrame (c : Core) (s : Nat) : Core :=
  if !c.segLive s then c
  else
    let x := c.flow s
    let m := (c.is s).driveMap
    let recs := (List.range x.slots).map fun i => (c.dst (m.getD i 0), (x.entries.look? i).getD .marker)
    let (c, sr) := (c.safeNodes s).foldl (fun (r : Core × List SafetyOut) k => let (c, e) := r.1.safetySend k; (c, r.2 ++ [e])) (c, [])
    let ident := (c.sg s).phase = .admission && (c.sg s).sub = 1 || (c.sg s).nodes.any fun e => e.2.readmit = 3
    let gap := if ident then 32 else 0
    let (c, rs) := c.fillFrame s (96 - gap)
    c.launch { (c.frame s .drive) with recs := recs, safety := sr, gap := gap, mbx := rs }

/-- Slot counters of a segment update together (R165); those of an isolated frame engine stand (R182). -/
def Core.countSlots (c : Core) (s : Nat) : Core :=
  if (c.sg s).dead then c
  else
    let q := c.sl s
    let ups := (c.slotNodes s).map fun e => (q.rxOf e.1).outcome.getD 1
    let x := c.flow s
    let rts := (List.range x.slots).map fun i => ((x.entries.look? i).getD .marker).rtype
    c.putSl s ((q.countUp ups).countDown rts)

/-- Downlink outcome of an axis's slot (R164). -/
def Core.downOutcome (c : Core) (a : Nat) : Nat :=
  match c.slotOf a with
  | none => 1
  | some i =>
    match ((c.flow (c.imgAx a).seg).entries.look? i).getD .marker with
    | .duties _ _ _ _ _ | .inhibit _ _ => 0
    | .marker => 1
    | .errMarker => 2

/-- AX_STATE to AX_SLOT of an axis (R558). -/
def Core.axWords (c : Core) (a : Nat) : Core :=
  let x := c.ax a
  let i := c.imgAx a
  let up := (((c.sl i.seg).rxOf i.pos).outcome).getD 1
  c.setWords a
    [(oState, w32 (x.state.code + 16 * (x.cause % 16) + 256 * (x.pcode % 256) + 65536 * (c.ob a).sub.code)),
     (oEvsum, w32 (c.evsum.look a 0)), (oCycle, c.cycle.cycle),
     (oSlot, w32 (up + 4 * c.downOutcome a + 16 * (c.chainOf a).endc))]

/-- LINK words of a segment that belong to the image (R183, R556). -/
def SlotSeg.word (q : SlotSeg) (o : Nat) : W32 :=
  if o = 0x100 then lo32 q.upSched else if o = 0x104 then hi32 q.upSched else if o = 0x108 then lo32 q.upGood
  else if o = 0x10C then hi32 q.upGood else if o = 0x110 then lo32 q.upEmpty else if o = 0x114 then hi32 q.upEmpty
  else if o = 0x118 then lo32 q.upErr else if o = 0x11C then hi32 q.upErr else if o = 0x120 then lo32 q.dnSched
  else if o = 0x124 then hi32 q.dnSched else if o = 0x128 then lo32 q.dnGood else if o = 0x12C then hi32 q.dnGood
  else if o = 0x130 then lo32 q.dnEmpty else if o = 0x134 then hi32 q.dnEmpty else if o = 0x138 then lo32 q.dnErr
  else if o = 0x13C then hi32 q.dnErr else if o = 0x140 then q.brimIn else if o = 0x144 then q.brimOut
  else if o = 0x148 then q.outslot else if o = 0x14C then q.merged else if o = 0x150 then q.srcmis
  else if o = 0x154 then q.reccrc else if o = 0x158 then q.dlmiss else if o = 0x15C then q.frmret else 0

/-- DISPATCH words that belong to the image: the task counters and the slack of each flow (R422, R424, R430, R556). -/
def DispState.imageWord (d : DispState) (o : Nat) : W32 :=
  if o = 0x010 then lo32 d.disp else if o = 0x014 then hi32 d.disp else if o = 0x018 then lo32 d.rel
  else if o = 0x01C then hi32 d.rel else if o = 0x020 then lo32 d.empty else if o = 0x024 then hi32 d.empty
  else if o = 0x028 then lo32 d.canc else if o = 0x02C then hi32 d.canc else if 0x040 ≤ o ∧ o < 0x080 then (d.flow.look ((o - 0x040) / 0x10) {}).slack else 0

/-- The completed image of the cycle (R77). -/
def Core.completeImage (c : Core) : Core :=
  let c := c.axes.foldl Core.axWords c
  let link := c.segs.flatMap fun s => (List.range 24).map fun i => (s * 0x1000 + 0x100 + 4 * i, (c.sl s).word (0x100 + 4 * i))
  let disp := (List.range 8).map (fun i => (0x010 + 4 * i, c.disp.imageWord (0x010 + 4 * i)))
    ++ (List.range 4).map fun i => (0x040 + 0x10 * i, c.disp.imageWord (0x040 + 0x10 * i))
  let im : CycleImage := { cycle := c.cycle.cycle, rtS := c.cycle.rtS, words := c.words, link := link, disp := disp }
  { c with cycle := { c.cycle with images := (im :: c.cycle.images).take 8 }, evsum := [] }

/-- DRIVE_FRAME_LAUNCH (R664 row 8). -/
def Core.driveLaunch (c : Core) : Core :=
  if !c.running || !c.cycle.running || !c.computes then c
  else
    let c := c.at (c.instant c.modeI.tRel)
    let c := if c.sends then c.segs.foldl Core.driveFrame c else c
    let c := c.segs.foldl Core.countSlots c
    let c := { c with disp := c.disp.update c.cycle.cycle }
    let c := c.completeImage
    let c := c.axes.foldl (fun (c : Core) a => c.updPa a fun x => { x with hist := ((c.cycle.rtS, c.word a oPos) :: x.hist).take 2 }) c
    let c := match c.cycle.images.head? with
      | some i => c.visRow i
      | none => c
    c.measOpen

end Sys2Proof.Machine
end

