-- ==== Sys2Proof/Machine/TimeCmd.lean ====
section
/-! DEFINITION. Machine/TimeCmd.lean: PTP messages and timers, the ring-time source, and the pins of the trigger bus, as
events of the chip (R197 to R208, R215 to R217). -/

namespace Sys2Proof.Machine

/-! ### PTP (R203 to R208) -/

/-- The PTP engine of a plant port is in service. -/
def Core.ptpUp (c : Core) (port : Nat) : Bool := c.running && decide (port < 2) && !c.iso 1 (3 + port) && !c.iso 0 (12 + port) && !c.boot.maker

/-- What a domain operation gives. -/
def Core.putTime (c : Core) (r : TimeState × List Ev × List PtpTx) : Core :=
  let c := { c with time := r.1 }.raise r.2.1
  r.2.2.foldl (fun (c : Core) m => c.out (.ptp m)) c

/-- A received message runs an operation of the domain it addresses; one that fails its checks is counted. -/
def Core.ptpRx (c : Core) (m : PtpMsg) (f : PtpDomain → TimeBase → W32 → Nat → DomOut) : Core :=
  if c.ptpUp m.port then c.putTime (c.time.ptpRx c.image.time m (fun n => !c.iso 1 n) c.cycle.running f) else c

/-- PTP_SYNC. -/
def Core.ptpSync (c : Core) (m : PtpMsg) : Core :=
  c.ptpRx m fun d b w n => domOnSync d b w n c.time.validThr c.now (c.image.time.latIn m.port) (c.image.time.asymOf m.port) m

/-- PTP_FOLLOW_UP. -/
def Core.ptpFollowUp (c : Core) (m : PtpMsg) : Core :=
  c.ptpRx m fun d b _ n => domOnFollowUp d b n c.time.validThr c.now m

/-- PTP_DELAY_REQ. -/
def Core.ptpDelayReq (c : Core) (m : PtpMsg) : Core :=
  c.ptpRx m fun d b w _ => domOnDelayReq d b w (c.image.time.latIn m.port) m

/-- PTP_DELAY_RESP. -/
def Core.ptpDelayResp (c : Core) (m : PtpMsg) : Core := c.ptpRx m fun d b _ _ => domOnDelayResp d b m

/-- PTP_PDELAY_REQ; the response leaves `turn` rt later. -/
def Core.ptpPdelayReq (c : Core) (m : PtpMsg) (turn : Nat) : Core :=
  c.ptpRx m fun d b w _ => domOnPdelayReq d b w (c.image.time.latIn m.port) (c.image.time.latOut m.port) turn m

/-- PTP_PDELAY_RESP. -/
def Core.ptpPdelayResp (c : Core) (m : PtpMsg) : Core :=
  c.ptpRx m fun d b w _ => domOnPdelayResp d b w (c.image.time.latIn m.port) (c.image.time.asymOf m.port) m

/-- PTP_PDELAY_RESP_FOLLOW_UP. -/
def Core.ptpPdelayFup (c : Core) (m : PtpMsg) : Core := c.ptpRx m fun d b w _ => domOnPdelayFup d b w m

/-- PTP_ANNOUNCE. -/
def Core.ptpAnnounce (c : Core) (m : PtpMsg) : Core :=
  c.ptpRx m fun d b w n => domOnAnnounce d b w n c.image.time.own c.now m

/-- PTP_OTHER_DISCARD: Signaling and Management go without a reply, a message that fails its checks is counted. -/
def Core.ptpOther (c : Core) (port : Nat) (failed : Bool) : Core :=
  if c.ptpUp port && failed then { c with time := c.time.ptpDiscard port } else c

/-- A timer of a domain runs only where an instance serves it. -/
def Core.domTimer (c : Core) (n : Nat) (f : PtpDomain → TimeBase → W32 → DomOut) : Core :=
  if c.running && (n = 1 || n = 2) && domRole (c.image.time.cfg n) != 0 && !c.iso 1 n then
    let o := f (c.time.ptp n) (c.time.domBase n) (c.image.time.cfg n)
    c.putTime (c.time.putDom n o, o.evs, o.tx)
  else c

/-- SYNC_RECEIPT_TIMEOUT: three sync intervals have passed since the last Sync of the domain. -/
def Core.syncTimeout (c : Core) (n : Nat) : Core :=
  let due := rtAdd (c.time.ptp n).lastSync (3 * logInterval (fld (c.image.time.cfg n) 19 16))
  (if (c.time.ptp n).valid then c.at due else c).domTimer n fun d b _ => domSyncTimeout d b n

/-- ANNOUNCE_RECEIPT_TIMEOUT: ANNTMO announce intervals have passed since the parent's last Announce. -/
def Core.annTimeout (c : Core) (n : Nat) : Core :=
  let w := c.image.time.cfg n
  let due := rtAdd (c.time.ptp n).lastAnn (fld w 27 24 * logInterval (fld w 23 20))
  (if (c.time.ptp n).parent.isSome then c.at due else c).domTimer n fun d b w => domAnnTimeout d b w n

/-- PTP_MESSAGE_INTERVAL: 0 Sync, 1 Delay_Req, 2 Pdelay_Req, 0xB Announce of a domain leaves a port. -/
def Core.ptpInterval (c : Core) (n port mtype : Nat) : Core :=
  if c.ptpUp port then
    c.domTimer n fun d b w => domInterval d b w c.image.time.own (c.image.time.latOut port) (c.image.time.asymOf port) port mtype
  else c

/-! ### The ring-time source (R199 to R201) -/

/-- Ring-time base operations that raise events. -/
def Core.putRing (c : Core) (r : TimeState × List Ev) : Core := { c with time := r.1 }.raise r.2

/-- SOURCE_SELECTION, every 1 ms. -/
def Core.sourceSelect (c : Core) : Core := if c.running then c.putRing (c.time.selectSource c.image.time) else c

/-- HOLD_MAX_EXPIRY. -/
def Core.holdMax (c : Core) : Core :=
  if c.running && c.time.rtState = .holdover && !c.time.manual then
    let c := c.at (rtAdd c.time.holdAt (c.time.holdMax * secRt : Nat))
    c.putRing c.time.holdExpire
  else c

/-- SLEW_DONE. -/
def Core.slewDone (c : Core) : Core := if c.running then c.putRing c.time.slewDone else c

/-! ### Pins (R215 to R217, R535) -/

/-- The TDC bank and the trigger bus are in service. -/
def Core.trgUp (c : Core) : Bool := c.running && !c.iso 1 6 && !c.iso 1 5

/-- TRG_CAPTURE_EDGE: an edge on TRG_IO pin n. -/
def Core.trgEdge (c : Core) (n : Nat) (rising : Bool) (t : Rt) : Core :=
  if c.trgUp && decide (n < 4) then
    let c := c.at t
    c.putRing (c.time.capture n rising (c.pinTime n t))
  else c

/-- PPS_EDGE: the rise at the next whole second of the pin's timescale, advanced by the pin's output latency, the fall 10 µs
later. -/
def Core.ppsEdge (c : Core) (n : Nat) (rising : Bool) : Core :=
  if !(c.trgUp && decide (n < 4)) then c
  else
    match c.time.ppsBase (c.time.pinMode n) with
    | none => c
    | some b =>
      let v := b.now.toNat + (c.outLatency n).toNat
      let wait : Int := if rising then ((secRt - v % secRt) % secRt : Nat) else
        match c.time.pps.look? n with
        | some t => rtDiff (rtAdd t 40000) c.time.now
        | none => 0
      if !rising && !(c.time.pps.look? n).isSome then c
      else
        let c := c.at (rtAdd c.time.now wait)
        { c with time := c.time.ppsEdge n rising }.out (.pps n (rising != c.time.pinInv n))

end Sys2Proof.Machine
end

