-- ==== Sys2Proof/Machine/CuffCmd.lean ====
section
/-! DEFINITION. Machine/CuffCmd.lean: events of the feedback front end, of the switches, of the offset search and of the
observer's timers (R229 to R254, R287, R306 to R322, R390, R458, R459). -/

namespace Sys2Proof.Machine

/-! ### Channels (R229 to R251) -/

/-- A channel's front end runs: it samples every input, whatever the channel's type (R229). -/
def Core.chanUp (c : Core) (n : Nat) : Bool := c.running && decide (n < 16) && !c.iso 3 n

/-- An ADC pair is in service; it stops in STANDBY (R258). -/
def Core.adcUp (c : Core) (n : Nat) : Bool := c.chanUp n && (c.ch n).type != 0 && decide (n < 8) && !c.iso 3 (16 + n) && !c.standby

/-- Latch entries of channels whose LATSRC is `n` follow what the source has come to know (R254). -/
def Core.latched (c : Core) (n : Nat) (f : Chan → Chan) : Core :=
  { c with cuff := { c.cuff with chan := c.cuff.chan.each fun _ x => if fld x.cfg 19 16 = n then f x else x } }

/-- Put back what a channel operation gives; SUSPECT acts on the axis the channel feeds (R246). -/
def Core.putChan (c : Core) (n : Nat) (o : ChanOut) : Core :=
  let c := (c.putCh n o.ch).raise o.evs
  match c.chanAxis n with
  | none => c
  | some a =>
    let c := if o.fall then c.suspFell a else c
    if o.rise then c.suspRose a else c

/-- The newest stamp of a group of changes. -/
def newestStamp (t0 : Rt) (cs : List LineChange) : Rt := cs.foldl (fun t x => rtMax t x.stamp) t0

/-- CUFF_LEVEL_CHANGE: the changes that the filter accepted at one sample. -/
def Core.levelChange (c : Core) (n : Nat) (cs : List LineChange) : Core :=
  if !c.chanUp n then c
  else
    let cs := cs.map fun (x : LineChange) => { x with stamp := c.pinTime (0x10 + 4 * n + x.line) x.stamp }
    let c := c.at (newestStamp c.time.now cs)
    let x := c.ch n
    (c.putChan n (x.levelChange n (c.chanAxis n) c.cycle.rtS cs)).latched n fun y => y.latchLate x.digital (x.decode cs)

/-- CUFF_PULSE_REJECTED. -/
def Core.pulseRejected (c : Core) (n : Nat) : Core :=
  if c.chanUp n then c.putCh n { (c.ch n) with glitch := (c.ch n).glitch + 1 } else c

/-- LINE_FAULT. -/
def Core.lineFault (c : Core) (n : Nat) (begins : Bool) : Core :=
  if c.chanUp n then c.putChan n ((c.ch n).lineFault n (c.chanAxis n) begins) else c

/-- A 14-bit result of an ADC in Q15 with the shell's offset and gain (R247, R587); `k` is 2n for sine and 2n + 1 for cosine. The
shell's units are the model's: offset Q15, gain UQ1.15 and 1 where the shell lists none (DESIGN CHOICE, log entry 1). -/
def Core.adcCal (c : Core) (k : Nat) (raw : Int) : Int :=
  let p := c.boot.cal.adc.look k (0, 32768)
  satS 16 ((4 * clampI (-8192) 8191 raw - p.1) * p.2 / 32768)

/-- ADC_CONVERSION k of pair n in the cycle, 500 ns after the one before; conversion 0 is at S (R247, R522). -/
def Core.adcConversion (c : Core) (n k : Nat) (xs xc : Int) : Core :=
  if !c.adcUp n then c
  else
    let t := rtAdd c.cycle.rtS (2000 * k)
    let c := c.at t
    let x := c.ch n
    let xs := c.adcCal (2 * n) xs
    let xc := c.adcCal (2 * n + 1) xc
    let (s, co, _, _) := scCorrect x.lin x.lin2 xs xc
    let c := if x.type = 4 then c.putChan n (x.convert n (c.chanAxis n) (decide (k = 0)) t xs xc) else c
    let c := c.latched n fun y => y.latchResolve (c.ch n)
    if c.visOk then { c with vis := c.vis.sample c.vcfg n k t s co c.tcyc } else c

/-- EXCITATION_PEAK of a resolver pair: the corrected sample waits in the pair's FIFO and requests PEAK (R250, R390,
R396). -/
def Core.excitationPeak (c : Core) (n : Nat) (t : Rt) (xs xc : Int) : Core :=
  if !(c.adcUp n && (c.ch n).type = 6) then c
  else
    let c := c.at t
    let x := c.ch n
    let xs := c.adcCal (2 * n) xs
    let xc := c.adcCal (2 * n + 1) xc
    let (s, co, _, _) := scCorrect x.lin x.lin2 xs xc
    let c := c.putChan n (x.convert n (c.chanAxis n) false t xs xc)
    let q := c.sig.fifo.look n []
    if 2 ≤ q.length then
      { c with sig := { c.sig with peakOvf := c.sig.peakOvf + 1, lost := c.sig.lost ||| (1 <<< n) } }.raise [evPair EvNo.spPeakLost n]
    else { c with sig := { c.sig with fifo := c.sig.fifo.put n (q ++ [(s, co, t)]) } }.peakRequest n

/-- The library handler's effect on its pair: R250 on the entry, or a tracking error after a lost peak (R396). -/
def Core.peakTaken (c : Core) (n : Nat) (e : Int × Int × Rt) : Core :=
  let x := c.ch n
  if c.sig.lost.getLsbD n then
    let c := { c with sig := { c.sig with lost := c.sig.lost &&& ~~~(1#8 <<< n) } }
    c.putChan n (x.peakError n (c.chanAxis n) e.2.2)
  else c.putChan n (x.peak n (c.chanAxis n) e.2.2 (fbAngle e.1 e.2.1))

/-- SSI_TRANSFER_DONE: the line's level before the first clock, the data bits, the parity and the stop bit (R251). No transfer, no end. -/
def Core.ssiDone (c : Core) (n : Nat) (low : Bool) (data : Nat) (par stop : Bool) : Core :=
  if c.chanUp n && (c.ch n).type = 5 && (c.ch n).ssiBusy && !c.standby then
    c.putChan n ((c.ch n).ssiDone n (c.chanAxis n) low (data % 2 ^ fld (c.ch n).ssiCfg 13 8) par stop)
  else c

/-! ### Latches and switches (R254, R458, R459) -/

/-- LATCH_EVENT: an edge of CFn_L. -/
def Core.latchEvent (c : Core) (n : Nat) (rising : Bool) (t : Rt) : Core :=
  if !(c.running && decide (n < 16) && !c.iso 3 n && !c.standby) then c
  else
    let t := c.pinTime (0x13 + 4 * n) t
    let c := c.at t
    let x := { (c.ch n) with l := rising }
    let c := c.putCh n x
    if x.latSelects rising then
      let s := c.ch (fld x.cfg 19 16)
      let o := x.latchEvent n s t
      let axis := c.chanAxis n
      (c.putCh n o.ch).raise (o.evs.map fun e => fbEv e.num axis n)
    else c

/-- A limit switch of an axis follows its input: `neg` names the switch (R459, R499). -/
def Core.limitInput (c : Core) (a n : Nat) (neg level : Bool) : Core :=
  let cf := c.cf a
  let inp := if neg then cf .limNegIn else cf .limPosIn
  if inp != (n : Int) then c
  else
    let active := level != natBit (cf .limPol).toNat (if neg then 0 else 1)
    let c := c.updPa a fun x => if neg then { x with limN := active } else { x with limP := active }
    if active then
      let (x, evs, r) := (c.pa a).limitHit cf a neg (c.cycle.cycle + 1) (cf .hmSw = (n : Int))
      ((c.updPa a fun _ => x).raise evs).react a r dgLim 6
    else if !(c.pa a).limN && !(c.pa a).limP then c.updGa a fun g => { g with deg := g.deg &&& (63 - dgLim) }
    else c

/-- An axis that homes on the input sees its edge (R458, R460). -/
def Core.homeInput (c : Core) (a n : Nat) (level : Bool) (t : Rt) : Core :=
  let cf := c.cf a
  if cf .hmSw = (n : Int) then
    let pos := if c.source a = .channel n then some ((c.ch n).posAt t) else none
    let e : HmEdge := { active := level != natBit (cf .hmPol).toNat 0, ts := t, pos := pos }
    c.updPa a fun x => { x with hm := { x.hm with edges := (e :: x.hm.edges).take 8 } }
  else c

/-- LIMIT_SWITCH_CHANGE: input n has held a new level for 1 µs since `t`. -/
def Core.switchChange (c : Core) (n : Nat) (level : Bool) (t : Rt) : Core :=
  if !(c.running && decide (n < 16) && !c.standby) || (c.prof.sw.look n {}).level = level then c
  else
    let t := c.pinTime (0x13 + 4 * n) t
    let c := c.at (rtAdd t 4000)
    let c := { c with prof := { c.prof with sw := c.prof.sw.put n { level := level, ts := t } } }
    c.axes.foldl (fun (c : Core) a => ((c.limitInput a n true level).limitInput a n false level).homeInput a n level t) c

/-! ### The offset search (R287) -/

/-- Change the search of an axis. -/
def Core.updAlign (c : Core) (a : Nat) (f : AlignSt → AlignSt) : Core := c.updFa a fun x => { x with align := f x.align }

/-- A ramp or hold time of a step has passed: ring time moves to its end. -/
def Core.alignAt (c : Core) (a : Nat) (ms : Int) : Core := c.at (rtAdd (c.fa a).align.start (ms * 4000000))

/-- ALIGN_STEP_ADVANCE: the running step is complete. -/
def Core.alignAdvance (c : Core) (a : Nat) : Core :=
  let cf := c.cf a
  let s := (c.fa a).align
  if (c.ax a).state != .align then c
  else
    match s.step with
    | .idle => c
    | .check =>
      if c.susp a || c.badCyc a || (c.fa a).uv then c.updAlign a fun x => x.fail 0x4 c.now
      else c.updAlign a fun x => { (x.enter .ramp1 c.now) with theta := 0x4000, idref := 0 }
    | .ramp1 =>
      let c := c.alignAt a (cf .cmtAlnRamp)
      c.updAlign a fun x => { (x.enter .hold1 c.now) with idref := cf .cmtAlnI }
    | .hold1 =>
      if s.still cf then c.updAlign a fun x => { (x.enter .step c.now) with th1 := rawAngle cf (c.fa a).p } else c
    | .step => if s.theta = 0 then c.updAlign a fun x => x.enter .hold2 c.now else c
    | .hold2 =>
      if s.still cf then c.updAlign a fun x => { (x.enter .eval c.now) with th2 := rawAngle cf (c.fa a).p } else c
    | .eval =>
      let r := alignEval cf s.th1 s.th2
      if r = 0 then c.updAlign a fun x => { (x.enter .rampdn c.now) with failed := false, idTop := x.idref }
      else c.updAlign a fun x => x.fail r c.now
    | .rampdn =>
      let c := c.alignAt a (cf .cmtAlnRamp)
      if s.failed then c.alignFailed a else c.alignDone a

/-- ALIGN_HOLD_TIMEOUT: the rotor is not still within CMT_ALN_HOLD. -/
def Core.alignTimeout (c : Core) (a : Nat) : Core :=
  let s := (c.fa a).align
  if (c.ax a).state = .align ∧ (s.step = .hold1 ∨ s.step = .hold2) then
    let c := c.alignAt a (c.cf a .cmtAlnHold)
    c.updAlign a fun x => x.fail 0x5 c.now
  else c

/-! ### The observer's timers (R306, R309, R312 to R315, R319, R321) -/

/-- A timer of a sub-state has passed: `f` is its outcome. -/
def Core.obsTimer (c : Core) (a : Nat) (sub : ObsSub) (ms : Cf) (f : Core → Core) : Core :=
  if (c.ob a).sub = sub ∧ c.parked = false ∧ msCycles (c.cf a ms) c.tcyc ≤ (c.ob a).cyc then f c else c

/-- Enter a sub-state. -/
def Core.obsEnter (c : Core) (a : Nat) (f : ObsAxis → ObsAxis) : Core :=
  let before := (c.ob a).sub
  (c.updOb a f).followSub a before

/-- PROBE_SEQUENCE_DONE: the third probe current is in. -/
def Core.probeSeqDone (c : Core) (a : Nat) : Core :=
  let x := c.ob a
  if (x.sub = .probe ∨ x.sub = .detect) ∧ x.prb.length = 3 then
    -- t_U and T_cyc of probe 3's mode (R323)
    let (tU, tcyc) := match x.va with | v :: _ => (v.tU, v.tcyc) | [] => (c.modeI.tU, c.tcyc)
    c.putObs a (x.probeDone (c.cf a) a tU tcyc (rF16 (c.word a oNref)))
  else c

/-- OBS_HOLD_EXPIRY. -/
def Core.obsHoldExpiry (c : Core) (a : Nat) : Core :=
  if c.parked then c
  else
    let before := (c.ob a).sub
    let (x, evs) := (c.ob a).holdExpire (c.cf a) a c.tcyc c.cycle.cycle
    ((c.updOb a fun _ => x).raise evs).followSub a before

/-- OBS_INH_EXPIRY. -/
def Core.obsInhExpiry (c : Core) (a : Nat) : Core :=
  c.obsTimer a .inhibit .obsInh fun c => c.obsEnter a fun x => { (x.enter .probe) with prb := [] }

/-- OBS_ST_ALN_EXPIRY. -/
def Core.obsAlnExpiry (c : Core) (a : Nat) : Core :=
  c.obsTimer a .align .obsStAln fun c => c.obsEnter a fun x => { (x.enter .ramp) with wcmd := 0, thcmd := 0, atSpeed := 0 }

/-- OBS_MERGE_EXPIRY: the angle in use has reached θ̂, or the attempt fails. -/
def Core.obsMergeExpiry (c : Core) (a : Nat) : Core :=
  c.obsTimer a .handoff .obsMerge fun c =>
    if (c.ob a).thUse.isSome then c.putObs a ((c.ob a).fail (c.cf a) a 0x3)
    else (c.obsEnter a fun x => { (x.enter .track) with thUse := none, retries := 0 }).raise [evAxis EvNo.startDone a]

/-- OBS_ST_TMO_EXPIRY. -/
def Core.obsTmoExpiry (c : Core) (a : Nat) : Core :=
  let x := c.ob a
  if x.sub = .ramp ∧ c.parked = false ∧ msCycles (c.cf a .obsStTmo) c.tcyc ≤ x.atSpeed then c.putObs a (x.fail (c.cf a) a 0x1) else c

/-- OBS_RETRY_WAIT_EXPIRY. -/
def Core.obsRetryExpiry (c : Core) (a : Nat) : Core :=
  c.obsTimer a .wait .obsRetryWait fun c => c.obsEnter a fun x => x.startDetect (rF16 (c.word a oNref))

/-- KE_CHECK_WINDOW: 1,024 valid cycles are summed. The cause bit clears on a RATIO inside the thresholds (R499). -/
def Core.keCheck (c : Core) (a : Nat) : Core :=
  if (c.ob a).keN < 1024 then c
  else
    let c := c.putObs a ((c.ob a).keWindow (c.cf a) a)
    if (c.ob a).keLow || (c.ob a).keHigh then c else c.updGa a fun g => { g with deg := g.deg &&& (63 - dgKe) }

end Sys2Proof.Machine
end

