-- ==== Sys2Proof/Machine/GsCmd.lean ====
section
/-! DEFINITION. Machine/GsCmd.lean: events of the Gauntlet and its host requests (R475 to R520). -/

namespace Sys2Proof.Machine

/-- Put back a Gauntlet state with events. -/
def Core.putGs (c : Core) (r : GsState × List Ev) : Core := { c with gs := r.1 }.raise r.2

/-- A change of the global state (R477). -/
def Core.gsEnter (c : Core) (g : GsGlobal) : Core := c.putGs (c.gs.enter g)

/-- Parameters of a safe input. -/
def Core.sinCfg (c : Core) (n : Nat) : ImgSin := c.image.gs.sin.look n {}
/-- A safe input. -/
def Core.sin (c : Core) (n : Nat) : GsIn := c.gs.input.look n {}
/-- Put a safe input back. -/
def Core.putSin (c : Core) (n : Nat) (x : GsIn) : Core := { c with gs := { c.gs with input := c.gs.input.put n x } }

/-! ### Inputs (R482 to R486) -/

/-- SAFE_INPUT_LEVEL_CHANGE: the level has held for FILT × 0.5 ms from `ts` (R484). -/
def Core.safeLevel (c : Core) (n : Nat) (chB level : Bool) (ts : Rt) : Core :=
  if c.boot.held || !decide (n < 8) then c
  else
    let p := c.sinCfg n
    let c := c.at (rtAdd ts (p.filt * 2000000))
    let x := if p.type = 3 then (c.sin n).rstClear ts else c.sin n
    c.putSin n (x.change p chB level ts)

/-- DISCREPANCY_TIMEOUT. -/
def Core.discTimeout (c : Core) (n : Nat) : Core :=
  match (c.sin n).timer with
  | none => c
  | some t =>
    let c := c.at (rtAdd t ((c.sinCfg n).disc * 40000000))
    (c.putSin n (c.sin n).discExpire).raise [{ num := EvNo.gsDiscrepancy, obj := n }]

/-- RESET_EDGE: a spare's Gauntlet stays in SAFE (R517). -/
def Core.resetEdge (c : Core) (n : Nat) : Core :=
  if c.role.role = .spare || (c.sinCfg n).type != 3 then c else { c with gs := c.gs.resetEdge c.image.gs n }

/-- Latch a reset fault (R486). -/
def Core.resetFault (c : Core) (n : Nat) : Core :=
  if (c.sin n).rstF then c
  else (c.putSin n { (c.sin n) with rstF := true }).raise [{ num := EvNo.gsResetFault, obj := n }]

/-- The longest a reset or confirm input may stay high; none for a confirm input outside its window. -/
def Core.highLimit (c : Core) (n : Nat) : Option Nat :=
  if n = c.image.gs.confIn then
    (if c.gs.confDue.isSome then some 40000000000
     else if c.image.gs.group.any fun e => e.2.rstIn = some n then some 8000000000 else none)
  else some 8000000000

/-- RESET_HIGH_TIMEOUT of a channel. -/
def Core.resetHigh (c : Core) (n : Nat) (chB : Bool) : Core :=
  if (c.sinCfg n).type != 3 then c
  else
    let x := c.sin n
    match c.highLimit n, (if chB then x.b else x.a), (if chB then x.riseB else x.riseA) with
    | some l, true, some t => (c.at (rtAdd t l)).resetFault n
    | _, _, _ => c

/-- CONFIRM_PULSE: the record of R482 goes to the ledger and the Gauntlet enters SAFE. -/
def Core.confirmPulse (c : Core) : Core :=
  match c.gs.confDue with
  | none => c
  | some due =>
    let n := c.image.gs.confIn
    match (c.sin n).pulse 12000000000 40000000000 with
    | none => c
    | some (rise, fall) =>
      if rtGe rise (rtAdd due (-240000000000)) && rtGe due fall && c.gs.glob = .unconfirmed && c.ledgerOk then
        let k := (((c.led.led.conf.map fun x => x.2.1).getD 0) + 1) % 65536
        let ep := (c.cycle.cycle.toNat / 1048576) % 4096
        let c := c.updLed fun l => { l with conf := some (c.image.gs.schk, k, ep) }
        let c := c.putSin n (c.sin n).usePulse
        let c := { c with gs := { c.gs with confDue := none, cchk := c.image.gs.schk, confN := k, confEpoch := ep } }
        (c.raise [ev0 EvNo.gsConfirmed]).gsEnter .safe
      else c

/-- CONFIRM_WINDOW_EXPIRY. -/
def Core.confirmExpiry (c : Core) : Core :=
  match c.gs.confDue with
  | none => c
  | some due =>
    let c := c.at due
    { c with gs := { c.gs with confDue := none } }.raise [ev0 EvNo.gsConfFailed]

/-! ### Outputs (R506 to R509) -/

/-- The outputs of the Gauntlet are live. -/
def Core.gsLive (c : Core) (n : Nat) : Bool :=
  !c.boot.held && decide (n < 4) && (c.image.gs.sout.look n {}).use != 0 && c.gs.glob != .boot

/-- SOUT_TEST_PULSE. -/
def Core.soutPulse (c : Core) (n : Nat) (lowSide rbh rbl : Bool) : Core :=
  if c.gsLive n then c.putGs (c.gs.soutPulse c.image.gs n lowSide rbh rbl c.cycle.cycle c.now) else c

/-- SOUT_SWITCH_ON_STEP. -/
def Core.soutStep (c : Core) (n : Nat) (rbh rbl : Bool) : Core :=
  if c.gsLive n then c.putGs (c.gs.soutStep c.image.gs n rbh rbl c.cycle.cycle c.now) else c

/-- SOUT_READBACK_MISMATCH: a steady mismatch has lasted 1 ms (R508). -/
def Core.soutMismatch (c : Core) (n : Nat) (rbh rbl : Bool) : Core :=
  let o := c.gs.out.look n {}
  if c.gsLive n && (o.step = 0 || o.step = 4) && (rbh, rbl) != soutExpect o.step then
    let s := { c.gs with out := c.gs.out.put n { o with rbh := rbh, rbl := rbl } }
    c.putGs (s.pairFault c.image.gs n c.cycle.cycle c.now)
  else c

/-- PROOF_TEST_DONE: `pass` has a bit for each pair that read back right, `chan` says that the demand paths of the two
channels did (R509). -/
def Core.proofTestDone (c : Core) (pass : Nat) (chan : Bool) : Core :=
  if c.gs.glob != .test then c
  else
    let used := (List.range 4).filter fun n => (c.image.gs.sout.look n {}).use != 0
    let bad := used.filter fun n => !natBit pass n
    let c := used.foldl (fun (c : Core) n =>
      if natBit pass n then { c with gs := { c.gs with out := c.gs.out.upd n {} fun o => { o with fault := false } } }
      else if (c.gs.out.look n {}).fault then c
      else c.putGs (c.gs.pairFault c.image.gs n c.cycle.cycle c.now)) c
    let s := { c.gs with testFail := !bad.isEmpty || !chan
                         group := c.gs.group.each fun _ g => { g with released := false, edge := false } }
    { c with gs := s }.gsEnter .safe

/-! ### Safety records (R501 to R504) -/

/-- STO of an axis by a fault of its node's feedback (R504). -/
def Core.nodeSto (c : Core) (a : Nat) : Core :=
  let was := (c.ga a).stop
  let c := c.updGa a fun g => g.sto (c.image.gs.axis.look a {}) gcFb false c.now (c.word a oPos)
  let c := { c with gs := c.gs.note a ((c.image.gs.axis.look a {}).group.getD 0) gcFb c.cycle.cycle }
  let c := if was = 2 then c else c.raise [evAxis EvNo.gsDemand a gcFb]
  (c.axisHalt a).gauntletCancel a

/-- Cycles within which a node must show STO (R504). -/
def Core.stoLimit (c : Core) : Nat := (if c.tcyc = 0 then 0 else (400000 + c.tcyc - 1) / c.tcyc) + 2

/-- The STO feedback of an accepted record: groups that fail are latched, their pairs switched off. -/
def Core.stoFeedback (c : Core) (k sta stbC nst : Nat) : Core :=
  let n := c.gs.node.look k {}
  let bad := (List.range 4).filter fun i => stoFeedbackBad n i c.stoLimit sta stbC
  let axs := c.nodeAxes (k / 64) (k % 64)
  let grp := fun (i : Nat) => (axs.find? fun a => (c.imgAx a).idx = i).bind fun a => (c.image.gs.axis.look a {}).group
  let gs := ((bad.filterMap grp).eraseDups).filter fun g => !((c.gs.group.look g {}).fault && (c.gs.group.look g {}).cause = gcFb)
  let (s, evs) := c.gs.latchGroups c.image.gs gs gcFb c.cycle.cycle c.now
  let off := gs.foldl (fun m g => m ||| (c.image.gs.group.look g {}).stoMask) 0
  let wait := (List.range 4).map fun i =>
    (i, if !natBit n.torque i && natBit sta i && natBit stbC i then max (n.wait.look i 0) c.stoLimit else n.wait.look i 0)
  let s := { s with out := s.out.each fun j o => if natBit off j then o.want false else o
                    node := s.node.upd k {} fun x => { x with wait := wait } }
  let c := { c with gs := s }.raise ((if gs.isEmpty then [] else [evNode EvNo.gsStoFeedback (k / 64) (k % 64)]) ++ evs)
  let c := (gs.flatMap c.image.gs.members).foldl (fun (c : Core) a => (c.axisHalt a).gauntletCancel a) c
  if natBit nst 0 then (axs.filter fun a => (c.ga a).stop != 2 || (c.ga a).cause != gcFb).foldl Core.nodeSto c else c

/-- SAFETY_RECORD_RECEIVED: the first record of a node in the cycle that passes is accepted; a later copy of it is
not looked at (R503). A confirmed suspect's records are rejected before they reach the Gauntlet (R170). -/
def Core.safetyRecord (c : Core) (s p : Nat) (r : List Byte) : Core :=
  let k := s * 64 + p
  let e := c.nodeImg k
  let n := c.gs.node.look k {}
  if !c.running || !c.cycle.running || !e.safety || n.got || ((c.sg s).node p).st != NodeSt.admitted || c.role.role = .spare
      || ((c.sl s).suspect.valid && (c.sl s).suspect.pos = p) then c
  else
    let scnt : W16 := BitVec.ofNat 16 (rec16 r 2)
    let echo : W16 := BitVec.ofNat 16 (rec16 r 8)
    if checkSafety e.connId p r = .good && n.inWindow e.sfWd scnt echo n.head then
      let c := { c with gs := { c.gs with node := c.gs.node.put k (n.accept scnt) } }
      c.stoFeedback k (r.getD 4 0).toNat (255 - (r.getD 5 0).toNat) (r.getD 6 0).toNat
    else
      { c with gs := { c.gs with node := c.gs.node.put k n.rejected } }.raise [(evNode EvNo.gsRecordErr s p).limited k]

/-- SAFETY_WATCHDOG_EXPIRY: SF_WD cycles without an accepted record, the present one counting from t_cw0 (R503). -/
def Core.safetyWatchdog (c : Core) (s p : Nat) : Core :=
  let k := s * 64 + p
  let e := c.nodeImg k
  let n := c.gs.node.look k {}
  let missed := n.missed + (if !n.got && rtGe c.now (c.instant c.modeI.tCw0) then 1 else 0)
  if c.running && c.cycle.running && e.safety && !n.dead && ((c.sg s).node p).st = NodeSt.admitted && decide (e.sfWd ≤ missed) then
    let c := { c with gs := { c.gs with node := c.gs.node.put k { n with dead := true }, wdExp := incWrap 16 c.gs.wdExp } }
    let c := c.raise [evNode EvNo.gsWatchdog s p]
    (c.nodeAxes s p).foldl (fun (c : Core) a => (c.gauntletFault a 7).updGa a fun g => { g with react := some gcWd }) c
  else c

/-! ### Comparator, delays and boot (R475, R480, R495, R500) -/

/-- XCHAN_PERSIST: eight consecutive evaluations disagreed. -/
def Core.xchanPersist (c : Core) : Core :=
  if !c.running || c.iso 4 4 then c
  else
    let c := { c with gs := { c.gs with xcnt := c.gs.xcnt + 8 } }.raise [(ev0 EvNo.gsXchan).limited 0]
    c.cellFault 4 4 5 .plain 0

/-- SBC_DELAY_EXPIRY of an axis. -/
def Core.sbcExpiry (c : Core) (a : Nat) : Core :=
  match (c.ga a).sbcDue with
  | none => c
  | some t => (((c.at t).updGa a fun g => { g with sbcDue := none }).axisHalt a).gauntletCancel a

/-- DEG_T_EXPIRY of an axis; the timer is frozen in PARKED. -/
def Core.degExpiry (c : Core) (a : Nat) : Core :=
  match (c.ga a).degDue with
  | some t => if c.parked || (c.ax a).state != .degraded then c else (c.at t).updGa a fun g => { g with degDue := none, degNow := true }
  | none => c

/-- Inputs as BOOT ends: reset inputs found high latch a reset fault, the others are evaluated afresh (R486, R514). -/
def Core.bootInput (c : Core) (n : Nat) : Core :=
  let x := c.sin n
  let p := c.sinCfg n
  if p.type = 3 then (if x.a || x.b then c.resetFault n else c)
  else if p.type = 1 ∨ p.type = 2 then c.putSin n (x.logic p c.now)
  else c

/-- GAUNTLET_BOOT_DONE. -/
def Core.gauntletBoot (c : Core) : Core :=
  if c.running && c.gs.glob = .boot then
    let conf := if c.ledgerOk then c.led.led.conf else none
    let c := c.putGs (c.gs.bootDone c.image.gs (conf.map (·.1)))
    let c := match conf with
      | some x => { c with gs := { c.gs with cchk := x.1, confN := x.2.1, confEpoch := x.2.2 } }
      | none => c
    (List.range 8).foldl Core.bootInput c
  else c

/-! ### Host requests (R482, R509, R513) -/

/-- Some axis's outputs are permitted. -/
def Core.anyPermitted (c : Core) : Bool := c.axes.any c.permits

/-- A refused request. -/
def Core.gsRefuse (c : Core) (reason : Nat) : Core :=
  { c with gs := { c.gs with reqReason := reason } }.raise [ev0 EvNo.gsReqRefused reason]

/-- Groups of a mask. -/
def maskGroups (mask : Nat) : List Nat := (List.range 8).filter fun g => natBit mask g

/-- One group's host demand. -/
def GsState.hostDemand (s : GsState) (g : Nat) (now : Rt) (demand : Nat) : GsState :=
  { s with group := s.group.upd g {} fun x =>
      if demand = 0 then { x with host := 0, hostEnd := if x.host = 0 then x.hostEnd else some now }
      else { x with host := max x.host demand } }

/-- A host demand or its withdrawal: `demand` is 0 WITHDRAW, 1 SS1, 2 STO (R513). -/
def Core.gsRequest (c : Core) (mask demand : Nat) : Core :=
  if c.gs.glob != .run then c.gsRefuse 1
  else if (maskGroups mask).any fun g => !(c.image.gs.group.look g {}).hostReq then c.gsRefuse 3
  else
    { c with gs := (maskGroups mask).foldl (fun (s : GsState) g => s.hostDemand g c.now demand) c.gs }

/-- PROOF_TEST (R509); outside SAFE and RUN it would leave a state that R477 leaves otherwise. -/
def Core.proofTest (c : Core) : Core :=
  if c.anyPermitted then c.gsRefuse 4
  else if c.gs.glob = .safe ∨ c.gs.glob = .run then
    ({ c with gs := { c.gs with out := c.gs.out.each fun _ o => o.want false } }).gsEnter .test
  else c.gsRefuse 1

/-- GAUNTLET_CONF_CMD (R482). -/
def Core.confCmd (c : Core) (v : W32) : Core :=
  if c.gs.glob = .unconfirmed && v = c.image.gs.schk then
    { c with gs := { c.gs with confDue := some (rtAdd c.now (240000000000 : Nat)) } }
  else c.raise [ev0 EvNo.gsConfFailed]

end Sys2Proof.Machine
end

