-- ==== Sys2Proof/Machine/BootCmd.lean ====
section
/-! DEFINITION. Machine/BootCmd.lean: resets, the boot sequence, waking, and the flash, as events of the chip (R218,
R366, R576 to R603, R611, R628). -/

namespace Sys2Proof.Machine

/-! ### Resets (R218, R514, R570, R596, R597, R601, R611, R631) -/

/-- The time region after a reset: POR and SUPPLY restart the raw counters, the others leave the three bases running and
ring time in HOLDOVER where a source was held (R218). -/
def TimeState.reset (t : TimeState) (full : Bool) : TimeState :=
  if full then {}
  else
    let held := t.rtState = .track || t.rtState = .slew || t.rtState = .holdover || t.rtState = .freerun
    let h := if t.rtState = .track || t.rtState = .slew then t.holdover.1 else t
    { ring := h.ring, domA := t.domA, domB := t.domB, aligned := t.aligned, stepped := t.stepped, theta := h.theta
      theta0 := t.theta0, rates := t.rates, src := if held then t.src else 0, holdAt := h.holdAt
      rtState := if held then .holdover else .free }

/-- What the latch on VDD_IO holds of a reset (R611). -/
def Core.supLatch (c : Core) (k : ResetKind) (rail : Nat) : SupLatch :=
  { kind := k.code, rail := rail, mvMin := (c.health.rail.look rail {}).mvMin.getD 0, rt := c.now
    errs := forN 6 fun r => c.err.reg.look r 0
    owed := k = ResetKind.escalation && (c.err.ledgerLost || !c.err.ledgerEnded) }

/-- Assertion of a reset: everything returns to its reset value but what R601 keeps. A running flash operation stops. -/
def Core.resetTo (c : Core) (k : ResetKind) (detail : Nat) : Core :=
  let (b, _) := c.boot.assert k detail
  let t := c.time.reset (k = ResetKind.por || k = ResetKind.supply)
  let h := { c.health with latch := some (c.supLatch k (if k = ResetKind.supply then detail else 0)) }
  let led := if c.ledgerOk then { c.led.led with life := c.led.led.life.reset k } else c.led.led
  { time := t, freeCtr := c.freeCtr
    boot := { b.cleared with maker := c.boot.maker && k != ResetKind.por
                             torn := match c.boot.qop with | some q => q :: c.boot.torn | none => c.boot.torn }
    health := h.cleared (k = ResetKind.por) ({} : ImgHealth).therm 0 t.now
    led := { led := led } }

/-- RESET_RELEASE: the straps are sampled and boot begins; the first events after a reset (R37, R576, R577, R637). -/
def Core.release (c : Core) (strap : Nat) : Core :=
  if c.boot.held then
    let c := { c with boot := c.boot.release strap c.time.ring.raw, health := { c.health with hbCem := c.now, hbSup := c.now } }
    c.raise ([c.boot.causeEv] ++
      (if c.boot.kind = .escalation then [({ num := EvNo.escalationReset, kind := 9, obj := c.boot.detail } : Ev)] else []))
  else c

/-- POWER_ON_RESET. -/
def Core.porReset (c : Core) : Core := c.resetTo .por 0
/-- PIN_RESET. -/
def Core.pinReset (c : Core) : Core := c.resetTo .pin 0
/-- SUPPLY_RESET_LEVEL: a rail has stayed below its reset level for 0.2 µs (R610, R615). -/
def Core.supplyReset (c : Core) (rail mv : Nat) : Core :=
  if 7 ≤ rail then c else ({ c with health := c.health.measure rail mv }).resetTo .supply rail
/-- HEARTBEAT_MISSING: the independent watchdog (R35, R618). -/
def Core.watchdogReset (c : Core) : Core := c.resetTo .watchdog 0
/-- HOST_RESET_DELAY_EXPIRY: 10 µs after an accepted HOST_RESET (R596). -/
def Core.hostReset (c : Core) : Core :=
  match c.boot.hostDue with
  | some t => (c.at t).resetTo .host 0
  | none => c

/-- ESCALATION_RESET_START: the ledger write has ended and 10 µs have passed since CHIP_SAFE, or 100 µs have passed and the
record counts as lost (R36). -/
def Core.escalationReset (c : Core) : Core :=
  match c.err.safeAt with
  | none => c
  | some t =>
    let c := if c.err.ledgerEnded then c.at (rtAdd t 40000)
      else { (c.at (rtAdd t 400000)) with health := { (c.at (rtAdd t 400000)).health with lost := c.health.lost + 1 } }
    c.resetTo .escalation c.err.safeBlk

/-! ### Boot (R577 to R595) -/

/-- SELF_TEST_DONE. -/
def Core.selfTestDone (c : Core) : Core := { c with boot := c.boot.selfTested }

/-- SHELL_READ_DONE: per 1 KiB section, whether the CRC of the first and of the second copy holds. -/
def Core.shellDone (c : Core) (one two : List Bool) : Core := { c with boot := c.boot.shellRead one two }

/-- The field-return record of a WATCHDOG or SUPPLY reset, from the latch (R611, R628); and that of an ESCALATION reset whose
triggering record the ledger lost, as trigger 2 (R36; DEDUCED, log entry 57). -/
def Core.latchRecord (c : Core) : Core :=
  match c.health.latch with
  | none => c
  | some x =>
    if (x.kind = 1 || x.kind = 3 || x.owed) && c.ledgerOk then
      let h := if x.kind = 1 then { c.health with mvRec := c.health.mvRec.put x.rail x.mvMin } else c.health
      let f : FrIn := { rt := x.rt, cycle := 0, trigger := if x.kind = 3 then 3 else if x.kind = 1 then 4 else 2, kind := c.boot.kind.code, errs := x.errs
                        emin := forN 4 fun _ => 0xFFFF_FFFF }
      { (c.updLed fun l => l.frWrite f.trigger (frBody l h f)) with health := h.frTaken, boot := { c.boot with frDue := true } }
    else c

/-- LEDGER_READ_DONE: whether the directory could not be rebuilt, the words corrected, and the uncorrectable words and torn
records found (R593, R603). -/
def Core.ledgerDone (c : Core) (badDir : Bool) (cor unc : Nat) : Core :=
  if c.boot.st != .ledger then c
  else
    let (l, evs) := c.led.found cor unc
    let c := { c with led := { l with ready := true, badDir := badDir } }.raise evs
    let c := c.latchRecord
    { c with boot := c.boot.ledgerRead }

/-- The preferred copy that a read of BOOT_PREF shows: the pending value, or the one in force (R595). -/
def Core.prefNow (c : Core) : Nat :=
  match (if c.ledgerOk && !c.led.badDir then pendRegVal c.led.led.pending 0x1030 else none) with
  | some w => fld w 1 0
  | none => c.boot.pref

/-- A copy in which a reset stopped a flash operation fails its check (R602). -/
def Core.tornHead (c : Core) (copyB : Bool) (h : ImgHead) : ImgHead :=
  if c.boot.torn.any fun t => inCopy copyB t.2 then { h with crc := ~~~h.chk } else h

/-- A copy as the boot loader finds it: header and check values from the bytes of the flash, with what the stream shows beside
them: a loaded value out of its bound, and a read failure, at their byte offsets (R584 rows 0x8 and 0x9). -/
def Core.copyHead (c : Core) (copyB : Bool) (bad fail : Option Nat) : ImgHead :=
  c.tornHead copyB { (imageHead c.boot.flash (copyBase copyB)) with badValue := bad, readFail := fail }

/-- IMAGE_COPY_DONE: the copy tried has been streamed; `img` is what its sections hold (log entry 4). A rejected copy's blocks
are cleared (R583, R584). -/
def Core.imageDone (c : Core) (bad fail : Option Nat) (img : Image) : Core :=
  if c.boot.st != .image then c
  else
    let r := ({ c.boot with pref := c.prefNow } : BootState).copyDone (c.copyHead false bad fail) (c.copyHead true bad fail) 1
    { c with boot := { r.b with pref := c.boot.pref }, image := if r.loaded then img.masked else {} }.raise r.evs

/-- Pending boot-class writes take effect and leave the pending region (R595). -/
def Core.applyPending (c : Core) : Core :=
  if c.ledgerOk && !c.led.badDir then
    let p := c.led.led.pending
    let c := match pendRegVal p 0x1030 with
      | some w => { c with boot := { c.boot with pref := fld w 1 0 } }
      | none => c
    c.updLed fun l => { l with lining := (pendLin p).foldl linPut l.lining, pending := [] }
  else c

/-- A Cuff channel at its image values. -/
def ImgChan.chan (i : ImgChan) : Chan :=
  { cfg := i.cfg, cfg2 := i.cfg2, cpr := i.cpr, idxtol := i.idxtol, win := i.win, lin := i.lin, lin2 := i.lin2 }

/-- The loaded image reaches the blocks. -/
def Core.loadBlocks (c : Core) : Core :=
  let i := c.image
  let c : Core := { c with
    time := { c.time with
      rtCtl := i.time.rtCtl, rtCtl2 := i.time.rtCtl2, trgCtl := i.time.trgCtl
      ptpA := PtpDomain.start i.time.domA, ptpB := PtpDomain.start i.time.domB
      ring := if c.time.rtState = RtState.free then c.time.ring.setRate i.time.freeRate else c.time.ring }
    cycle := { c.cycle with mode := i.startMode }
    cuff := { c.cuff with chan := i.chan.map (fun (e : Nat × ImgChan) => (e.1, e.2.chan)) }
    health := { c.health with therm := i.health.therm, margin := i.health.margin }
    disp := { c.disp with slackThr := i.slackThr }
    prof := { c.prof with entry := i.prEntry, desc := i.prDesc, tblImg := true }
    port := (List.range 8).map fun (p : Nat) => (p, ({ (c.po p) with ctl := i.reg.look (pgPort + p * 0x1000) 0 &&& 0x30 } : Port)) }
  let c := c.raise (domStartEvs i.time.domA ++ domStartEvs i.time.domB)
  c.segs.foldl (fun (c : Core) s => c.putSg s { (c.sg s) with ctl := fixSegCtl (c.image.reg.look (pgSeg + s * 0x1000) 0) }) c

/-- APPLY up to the change of routing: the lining over the image, then the pending writes (R589, R595). -/
def Core.bootApply (c : Core) : Core :=
  let c := c.applyPending.loadBlocks.loadAxes
  let r := c.liningNow
  let c := (r.apply.filter fun e => fld e.tgt 31 28 != 1).foldl Core.lineEntry c
  let n := r.apply.length
  { c with led := { c.led with applied := n, skipped := r.skipped } }.raise (r.evs ++ [({ num := EvNo.liningApplied, obj := n } : Ev)])

/-- RUNNING is reached: role arbitration starts and the Gauntlet runs BOOT (R577); a field-return record of the reset is
reported after EV_BOOT_DONE (R628). -/
def Core.bootRun (c : Core) : Core :=
  let us := (c.time.ring.raw - c.boot.relAt).toNat / 4000
  let fr := c.boot.frDue
  let c := { c with boot := { c.boot with st := .running, time := w32 (min 0xFFFF_FFFF us), frDue := false } }
  let c := c.updLed fun l => { l with life := if c.boot.copyB then { l.life with bootsB := l.life.bootsB + 1 } else { l.life with bootsA := l.life.bootsA + 1 } }
  c.restartListen.raise ([ev0 EvNo.bootDone] ++ (if fr then [ev0 EvNo.fieldRecord 1] else []))

/-! ### Waking (R90, R131, R366, R600) -/

/-- Why the WAKE sections cannot be taken from the booted copy, as reason and offset of R584: its header no longer holds, it holds
another image, a section's CRC differs from the one recorded at boot, or the read fails (R600). -/
def Core.wakeReason (c : Core) (fail : Option Nat) : Option (Nat × Nat) :=
  let base := copyBase c.boot.copyB
  let h := imageHead c.boot.flash base
  match h.headReject 1 with
  | some r => some r
  | none =>
    if h.chk != c.boot.head.chk then some (7, 24)
    else match c.boot.head.secs.find? fun s => s.wake && sectionCrc c.boot.flash base s != s.scrc with
    | some s => some (6, s.off)
    | none => fail.map fun o => (9, o)

/-- The Gauntlet starts again in BOOT on wake from STANDBY; CHECK_FAIL and LOST are left only as R477 says. -/
def Core.gauntletWake (c : Core) : Core :=
  let c := if c.gs.glob = GsGlobal.lost || c.gs.glob = GsGlobal.checkFail then c else c.gsEnter .boot
  { c with gs := { c.gs with group := c.gs.group.each fun _ g => { g with edge := false } } }

/-- WAKE_LOAD_DONE: the WAKE sections have been read again, a read failure at the offset `fail`. -/
def Core.wakeDone (c : Core) (fail : Option Nat) : Core :=
  if c.boot.lp != .waking then c
  else
    let bad := c.wakeReason fail
    let (m, evs) := c.maint.finishAct .wake bad.isNone
    let c := { c with maint := m }.raise evs
    match bad with
    | some r => { c with boot := { (c.boot.setRej c.boot.copyB r) with lp := .standby } }.raise [ev0 EvNo.imageRejected]
    | none =>
      let c := { c with boot := { c.boot with lp := .run } }.gauntletWake.loadAxes
      let c := c.restartListen
      let firstS := rtAdd c.cycle.rtS c.len
      let c := { c with cuff := { c.cuff with chan := c.cuff.chan.each (fun _ x => x.wake firstS)
                                              axis := c.cuff.axis.each fun _ y => { y with remote := y.remote.wake, badRun := 0 } } }
      { c with cycle := { c.cycle with mode := c.image.startMode } }.raise [ev0 EvNo.lowpower 4]

/-! ### Flash (R586, R604) -/

/-- FLASH_OP_DONE. An erased sector no longer counts as torn. -/
def Core.flashOpDone (c : Core) : Core :=
  match c.boot.qop with
  | none => c
  | some (erase, a) =>
    let b := c.boot.flashDone
    let b := if erase then { b with torn := b.torn.filter fun t => t.2 / 0x10000 != a / 0x10000 } else { b with page := [] }
    let (m, evs) := c.maint.finishAct .flash true
    { c with boot := b, maint := m }.raise evs

end Sys2Proof.Machine
end

