-- ==== Sys2Proof/Machine/HealthCmd.lean ====
section
/-! DEFINITION. Machine/HealthCmd.lean: faults, scrubbing, supplies, temperature, margin and maintenance as events of the
chip, and the commands of HEALTH, LEDGER, BOOT and MAINT (R29 to R44, R69, R70, R586 to R636). -/

namespace Sys2Proof.Machine

/-! ### Faults (R29, R36, R44) -/

/-- CELL_FAULT. -/
def Core.cellFaultCmd (c : Core) (region block cause : Nat) (site : FaultSite) (word : Nat) : Core :=
  if c.boot.held then c else c.cellFault region block cause site word

/-- HANDSHAKE_WATCHDOG_EXPIRY: HSTO (R44). -/
def Core.handshake (c : Core) (region block : Nat) : Core := c.cellFaultCmd region block 3 .plain 0

/-- LEDGER_WRITE_DONE: the write of the record that ordered an ESCALATION reset has completed (R36, R593). -/
def Core.ledgerWritten (c : Core) : Core :=
  if c.err.safeAt.isSome then { c with err := { c.err with ledgerEnded := true } } else c

/-! ### Epoch passes (R69, R70, R593, R613, R621, R622) -/

/-- One word found: ECC1 is corrected, ECC2 escalates and raises EV_SCRUB_ERROR. -/
def Core.scrubFind (c : Core) (x : ScrubFind) : Core :=
  if x.ecc2 then (c.cellFault x.region x.block 2 x.site x.word).raise [evBlock EvNo.scrubError x.region x.block]
  else c.cellFault x.region x.block 1 x.site x.word

/-- SRAM_SCRUB_DONE. -/
def Core.scrubDone (c : Core) (finds : List ScrubFind) : Core :=
  if c.cycle.scrubRun && !c.health.braced then
    let c := finds.foldl Core.scrubFind c
    let bad := (finds.filter fun x => x.ecc2).length
    { c with cycle := { c.cycle with scrubRun := false, scrubDone := true }
             health := { c.health with scrubCor := (finds.length - bad) % 65536, scrubUnc := (c.health.scrubUnc + bad) % 65536 } }
  else c

/-- REVERIFY_DONE: a mismatch is PARC in the block that holds the word (R70). -/
def Core.reverifyDone (c : Core) (bad : Option (Nat × Nat × Nat)) : Core :=
  if c.cycle.reverRun && !c.health.braced then
    let c := match bad with
      | some x => c.cellFault x.1 x.2.1 5 .plain x.2.2
      | none => c
    { c with cycle := { c.cycle with reverRun := false, reverDone := true } }
  else c

/-- LEDGER_SCRUB_DONE: the epoch's 8 KiB part has been read (R622). -/
def Core.ledgerScrub (c : Core) (cor unc : Nat) : Core :=
  if c.cycle.ledgRun && !c.health.braced then
    let (l, evs) := c.led.found cor unc
    { c with cycle := { c.cycle with ledgRun := false, ledgDone := true }, led := { l with scrub := (l.scrub + 1) % 64 } }.raise evs
  else c

/-! ### Supplies (R609 to R615) -/

/-- The supervisors watch: not while a reset is asserted, nor once isolated. -/
def Core.supUp (c : Core) (rail : Nat) : Bool := !c.boot.held && !c.iso 5 6 && decide (rail < 7)

/-- A running re-test is aborted by the brace (R613). -/
def Core.abortRetest (c : Core) : Core :=
  if c.maint.running .retest then
    let (m, evs) := c.maint.finishAct .retest false
    { c with maint := { m with rstat := 0, reason := 3 } }.raise evs
  else c

/-- SUPPLY_WARNING. -/
def Core.supplyWarn (c : Core) (rail mv : Nat) : Core :=
  if !c.supUp rail then c
  else
    let (h, evs, br) := c.health.warnLow rail mv c.now
    let c := { c with health := h }.raise evs
    let c := c.updLed fun l => { l with life := { l.life with warnings := l.life.warnings + 1, braces := l.life.braces + b2n br } }
    if br then c.abortRetest else c

/-- OVERVOLTAGE_WARNING. -/
def Core.overWarn (c : Core) (rail mv : Nat) : Core :=
  if !c.supUp rail then c
  else
    let (h, evs) := c.health.warnHigh rail mv
    ({ c with health := h }.raise evs).updLed fun l => { l with life := { l.life with warnings := l.life.warnings + 1 } }

/-- SUPPLY_WARNING_CLEARED. -/
def Core.supplyClear (c : Core) (rail mv : Nat) (high : Bool) : Core :=
  if c.supUp rail then { c with health := c.health.warnClear rail mv high } else c

/-- BRACE_LEFT: both core rails have held above warning for 100 µs (R614). -/
def Core.braceLeft (c : Core) : Core :=
  if c.supUp 0 && !(c.health.rail.look 0 {}).low && !(c.health.rail.look 1 {}).low then
    let (h, evs) := c.health.braceLeave c.now
    { c with health := h }.raise evs
  else c

/-! ### Temperature and margin (R592, R616 to R620, R631) -/

/-- Refuse every pending RUN command with reason 0x7 (R356, R602). -/
def Core.refuseRuns (c : Core) : Core :=
  c.eng.axis.foldl (fun (c : Core) e =>
    if e.2.pend == some .run then
      ({ (c.updAx e.1 fun x => { x with pend := none }) with
          eng := { (c.updAx e.1 fun x => { x with pend := none }).eng with cmdStat := cmdStatWord e.1 2 3 7 } }).raise [evAxis EvNo.axCmdRefused e.1 7]
    else c) c

/-- TJ_UPDATE, every 1 ms; `tj` in 1/16 °C. HIGH enters PARKED at the next boundary as PARK
does (R602, R617); a STANDBY already due stays. -/
def Core.tjUpdate (c : Core) (tj : Int) : Core :=
  if c.boot.held || c.iso 5 7 then c
  else
    let (h, evs, hi) := c.health.report tj
    let (h, life) := lifeTick h c.led.led.life c.standby
    let c := ({ c with health := h }.raise evs).updLed fun l => { l with life := life }
    if hi then
      let c := if c.running && c.boot.lp = .run && c.boot.lpDue != some .standby then
        ({ c.refuseRuns with boot := { c.boot with lpDue := some .parked } } : Core) else c
      c.frRecord 5
    else c

/-- REPLICA_MEASURE, every 1 ms: the beat times of the four groups in ps. It stops in STANDBY. -/
def Core.replicaMeasure (c : Core) (beats : List Nat) : Core :=
  if c.boot.held || c.standby then c
  else
    let (h, evs) := c.health.replica beats
    { c with health := h }.raise evs

/-! ### Maintenance (R624 to R632) -/

/-- RETEST_DONE: the block returns at the next boundary, at once where no cycle runs. -/
def Core.retestDone (c : Core) (pass : Bool) : Core :=
  match c.maint.run.find? fun a => a.act == .retest with
  | none => c
  | some a =>
    let (m, evs) := c.maint.finish (fun x => x == a) pass
    let c := { c with maint := { m with rstat := if pass then 2 else 3 } }
    if pass then
      let c := c.raise ([evBlock EvNo.retestPassed a.region a.block] ++ evs)
      let c := { c with err := { c.err with back := insertNat (blkKey a.region a.block) c.err.back } }
      if c.cycle.running then c else c.restoreBlocks
    else (c.raise ([evBlock EvNo.retestFailed a.region a.block] ++ evs)).cellFault a.region a.block 9 .plain 0

/-- The bound of an activity passes: its lock is released (R624). -/
def Core.actTimeout (c : Core) (k : Act) : Core :=
  match c.maint.run.find? fun a => a.act == k with
  | none => c
  | some a =>
    let c := match a.due with | some t => c.at t | none => c
    let (m, evs) := c.maint.finishAct k false
    { c with maint := m }.raise evs

/-- QSPI_UPDATE_TIMEOUT. -/
def Core.qspiTimeout (c : Core) : Core := c.actTimeout .qspiUpdate
/-- FR_EXPORT_TIMEOUT. -/
def Core.frTimeout (c : Core) : Core := c.actTimeout .frExport

/-- MAKER_TEST_INSTRUCTION, in the order of R630. -/
def Core.makerTest (c : Core) : Core :=
  let c := c.chipSafe .all
  let c := { c with gs := { c.gs with out := c.gs.out.each fun _ o => o.want false }, boot := { c.boot with maker := true } }
  let c := (List.range 8).foldl Core.portDown c
  let c := c.frRecord 7
  c.updLed fun l => { l with tested := true }

/-! ### Admission of activities (R586, R600, R625, R626) -/

/-- Admit an activity; the events say how. -/
def Core.admitAct (c : Core) (a : Activity) : Core × Bool :=
  let (m, ok, evs) := c.maint.admitAct a
  ({ c with maint := m }.raise evs, ok)

/-- Loop engines out of service: isolated, or under re-test. -/
def Core.enginesOut (c : Core) : List Nat :=
  (List.range 32).filter fun u => c.iso 2 (u + 1) || c.maint.run.any fun a => a.act == .retest && a.region = 2 && a.block = u + 1

/-- The reasons that refuse an admissible RETEST, 0 where none holds (R626). -/
def Core.retestReason (c : Core) (region block : Nat) : Nat :=
  let isEng := region = 2 && decide (1 ≤ block) && decide (block ≤ 32)
  let out := c.enginesOut
  if c.health.braced then 3
  else if isEng && !out.contains (block - 1) && decide (c.image.reserve < out.length + 1) then 4
  else if 4 ≤ c.maint.count.look (blkKey region block) 0 then 5
  else if c.standby && (region = 0 || region = 2) then 6
  else if neverRetest region block || decide (blocksOf region ≤ block) || (!c.iso region block && !isEng && !c.parked) then 7
  else 0

/-- RETEST of MAINT_RETEST_TGT. -/
def Core.retestCmd (c : Core) (port : Nat) : Core :=
  let region := fld c.maint.target 10 8
  let block := fld c.maint.target 5 0
  let a : Activity := { act := .retest, port := port, region := region, block := block }
  let clash := c.maint.iso || c.maint.run.any a.conflicts
  let why := c.retestReason region block
  if !clash && why != 0 then
    { c with maint := c.maint.refuse 6 why }.raise [maintEv EvNo.maintFailed a]
  else
    let (c, ok) := c.admitAct a
    if ok then { c with maint := { c.maint with rstat := 1, count := c.maint.count.upd (blkKey region block) 0 (· + 1) } } else c

/-- QSPI_UPDATE start. -/
def Core.qspiUpdateCmd (c : Core) (port : Nat) : Core :=
  (c.admitAct { act := .qspiUpdate, port := port, due := some (rtAdd c.now 2400000000000) }).1

/-- FR_EXPORT start. -/
def Core.frExportCmd (c : Core) (port : Nat) : Core :=
  (c.admitAct { act := .frExport, port := port, due := some (rtAdd c.now 240000000000) }).1

/-- END of QSPI_UPDATE or FR_EXPORT. -/
def Core.maintEnd (c : Core) : Core :=
  let (m, evs) := c.maint.finish (fun a => a.act == .qspiUpdate || a.act == .frExport) true
  { c with maint := m }.raise evs

/-- An invalid MAINT_CMD code. -/
def Core.maintInvalid (c : Core) (code : Nat) : Core := { c with maint := c.maint.refuse code 1 }

/-! ### BOOT_CMD (R586, R596 to R600, R602, R603) -/

/-- A refusal of BOOT_CMD; a low-power command's raises EV_LOWPOWER. -/
def Core.bootRefuse (c : Core) (reason : Nat) (lp : Bool) : Core :=
  ({ c with boot := c.boot.refuse reason }).raise (if lp then lpRefused reason else [])

/-- HOST_RESET. -/
def Core.hostResetCmd (c : Core) : Core :=
  match c.boot.hostDue with
  | some _ => c
  | none => { c with boot := { c.boot with hostDue := some (rtAdd c.now 40000) } }

/-- Some axis has a RUN command pending (R602). -/
def Core.runPending (c : Core) : Bool := c.eng.axis.any fun e => e.2.pend == some .run

/-- A low-power command takes effect at the next boundary. -/
def Core.lpSet (c : Core) (s : LpState) : Core := { c with boot := { c.boot with lpDue := some s } }

/-- PARK. -/
def Core.parkCmd (c : Core) : Core :=
  if !c.running then c.bootRefuse 4 true
  else if c.boot.lp != .run then c.bootRefuse 1 true
  else c.refuseRuns.lpSet .parked

/-- UNPARK; refused while THOT is set (R617). -/
def Core.unparkCmd (c : Core) : Core :=
  if !c.running then c.bootRefuse 4 true
  else if c.boot.lp != .parked || c.health.thot then c.bootRefuse 1 true
  else c.lpSet .run

/-- STANDBY. -/
def Core.standbyCmd (c : Core) : Core :=
  if !c.running then c.bootRefuse 4 true
  else if c.boot.lp != .run && c.boot.lp != .parked then c.bootRefuse 1 true
  else if c.gs.glob = .test || c.gs.confDue.isSome then c.bootRefuse 3 true
  else if !c.maint.run.isEmpty then c.bootRefuse 2 true
  else c.refuseRuns.lpSet .standby

/-- WAKE takes the section load's lock; the load ends with WAKE_LOAD_DONE. -/
def Core.wakeCmd (c : Core) (port : Nat) : Core :=
  if !c.running then c.bootRefuse 4 true
  else if c.boot.lp != .standby then c.bootRefuse 1 true
  else if c.iso 5 4 then c.bootRefuse 4 true
  else
    let (c, ok) := c.admitAct { act := .wake, port := port }
    if ok then { c with boot := { c.boot with lp := .waking } } else c.bootRefuse 6 true

/-- A flash command: the address rules, then the lock, which an update of the same port already holds (R586, R624). While an
operation runs, a further command of that port, or one that finds the lock free, is refused too (DESIGN CHOICE, log entry 55). -/
def Core.flashCmd (c : Core) (port : Nat) (erase : Bool) : Core :=
  let a := c.boot.qspiAddr
  if c.iso 5 4 then c.bootRefuse 4 false
  else if c.boot.st != .bootfail && inCopy c.boot.copyB a then c.bootRefuse 5 false
  else
    let start := fun (c : Core) => { c with boot := { c.boot with qop := some (erase, a), qport := port } }
    let act : Activity := { act := .flash, port := port }
    let mine := c.maint.run.any fun x => x.act == .qspiUpdate && x.port = port
    let free := !c.maint.iso && !c.maint.run.any act.conflicts
    if c.boot.qop.isSome && (mine || free) then c.bootRefuse 6 false
    else if mine then start c
    else
      let (c, ok) := c.admitAct act
      if ok then start c else c.bootRefuse 6 false

/-- An invalid BOOT_CMD code. -/
def Core.bootInvalid (c : Core) : Core := c.bootRefuse 7 false

/-! ### LEDGER_CMD and boot-class writes (R591, R595, R603, R607) -/

/-- LIN_STORE. -/
def Core.linStoreCmd (c : Core) : Core :=
  if !c.ledgerOk then c
  else
    let (l, ok, full) := c.led.linStore (c.image.lin.getD []) c.boot.head.inst
    let c := { c with led := l, boot := { c.boot with pendFull := c.boot.pendFull || full } }
    if ok then c.raise [ev0 EvNo.bootWriteStored] else c

/-- LIN_DELETE. -/
def Core.linDeleteCmd (c : Core) : Core := if c.ledgerOk then { c with led := c.led.linDelete } else c
/-- LIN_CLEAR_ALL. -/
def Core.linClearCmd (c : Core) : Core := if c.ledgerOk then { c with led := c.led.linClear } else c
/-- PEND_CLEAR. -/
def Core.pendClearCmd (c : Core) : Core := if c.ledgerOk then { c with led := c.led.pendClear } else c

/-- A write to a field of Apply class boot (R595). -/
def Core.bootClassWrite (c : Core) (addr : Nat) (w : W32) : Core :=
  if !c.ledgerOk then c
  else match pendPut c.led.led.pending (.reg addr w) with
    | some p => (c.updLed fun l => { l with pending := p }).raise [ev0 EvNo.bootWriteStored]
    | none => { c with boot := { c.boot with pendFull := true } }

/-! ### HEALTH_CMD (R634) -/

/-- CLR_MIN. -/
def Core.clrMinCmd (c : Core) : Core := { c with health := c.health.clrMin }
/-- FR_SNAP. -/
def Core.frSnapCmd (c : Core) : Core := c.frRecord 6

end Sys2Proof.Machine
end

