-- ==== Sys2Proof/Machine/LeCmd.lean ====
section
/-! DEFINITION. Machine/LeCmd.lean: the instructions of the loop engines acting on the chip (R335 to R339, R361).
Each acts on engine `u` while that engine runs a LAW task (log entry 14). -/

namespace Sys2Proof.Machine

/-- A word of an axis's 4 KiB area (R337, R558, R560); off a word's boundary or beyond the area it is open. -/
def Core.areaWord (c : Core) (a off : Nat) : W32 :=
  if off % 4 != 0 || decide (0x1000 ≤ off) then Config.freeBits 32 c.freeCtr
  else if off < 0x800 then c.word a off else c.cfgWord a off

/-- The engine's record. -/
def Core.le (c : Core) (u : Nat) : Engine := c.eng.eng.look u {}

/-- The instruction that the program store spells at an engine's pc (R334, R340): the command that the engine gives next, where the
image lists its program's words (log entry 14). -/
def Core.leNext (c : Core) (u : Nat) : Option Instr := (c.image.leProg.look? (c.le u).pc).bind (leDecode u)

/-- An engine executes. An engine in isolation executes nothing (R30). -/
def Core.leOn (c : Core) (u : Nat) (f : Engine → Engine) : Core :=
  if (c.le u).run && !(c.le u).iso then
    { c with eng := { c.eng with eng := c.eng.eng.put u (f (c.le u)) }, freeCtr := c.freeCtr + 2 }
  else c

/-- The word of the task's own axis at an offset. -/
def Core.leWord (c : Core) (u off : Nat) : W32 := c.areaWord (c.le u).axis off

/-- The instruction ends the engine's task in FLT with a code (R336, R339, R361). -/
def Core.leTrap (c : Core) (u code : Nat) : Core :=
  if (c.le u).run && !(c.le u).iso then
    match c.disp.on .eng u with
    | some r => (c.leOn u fun e => e.op 1 id).taskFlt r (code % 256)
    | none => c
  else c

/-- A store: of a word that is not LAW-writable it executes as FLT #0xFE (R337). -/
def Core.leStore (c : Core) (u off : Nat) (f : Engine → Engine) : Core :=
  if lawWritable c.image.intWords off then c.leOn u f else c.leTrap u 0xFE

/-- The other axis's word of cycle c − 1 that LDR and LDRX read (R338). -/
def Core.leOther (c : Core) (u y off : Nat) : Option W32 := c.prevWord (((c.le u).d.getD y 0).toNat % 256) off

/-! ### Data operations -/

def Core.leNop (c : Core) (u : Nat) : Core := c.leOn u Engine.nop
def Core.leLdi (c : Core) (u x : Nat) (m : W16) : Core := c.leOn u fun e => e.ldi x m
def Core.leMov (c : Core) (u x y : Nat) : Core := c.leOn u fun e => e.mov x y
def Core.leAdd (c : Core) (u x y : Nat) : Core := c.leOn u fun e => e.add x y
def Core.leSub (c : Core) (u x y : Nat) : Core := c.leOn u fun e => e.sub x y
def Core.leNeg (c : Core) (u x y : Nat) : Core := c.leOn u fun e => e.neg x y
def Core.leAbs (c : Core) (u x y : Nat) : Core := c.leOn u fun e => e.abs x y
def Core.leMin (c : Core) (u x y : Nat) : Core := c.leOn u fun e => e.min x y
def Core.leMax (c : Core) (u x y : Nat) : Core := c.leOn u fun e => e.max x y
def Core.leCmp (c : Core) (u x y : Nat) : Core := c.leOn u fun e => e.cmp x y
def Core.leAsr (c : Core) (u x : Nat) (m : W16) : Core := c.leOn u fun e => e.asr x m
def Core.leAsl (c : Core) (u x : Nat) (m : W16) : Core := c.leOn u fun e => e.asl x m
def Core.leMpy (c : Core) (u A x y : Nat) : Core := c.leOn u fun e => e.mpy A x y
def Core.leMac (c : Core) (u A x y : Nat) : Core := c.leOn u fun e => e.mac A x y
def Core.leMsu (c : Core) (u A x y : Nat) : Core := c.leOn u fun e => e.msu A x y
def Core.leMaci (c : Core) (u A x : Nat) (m : W16) : Core := c.leOn u fun e => e.maci A x m
def Core.leLda (c : Core) (u A x : Nat) : Core := c.leOn u fun e => e.lda A x
def Core.leAdda (c : Core) (u A b : Nat) : Core := c.leOn u fun e => e.adda A b
def Core.leSuba (c : Core) (u A b : Nat) : Core := c.leOn u fun e => e.suba A b
def Core.leSha (c : Core) (u A : Nat) (m : W16) : Core := c.leOn u fun e => e.sha A m
def Core.leClmp (c : Core) (u A x y : Nat) : Core := c.leOn u fun e => e.clmp c.freeCtr A x y
def Core.leTsta (c : Core) (u A : Nat) : Core := c.leOn u fun e => e.tsta A
def Core.leSat (c : Core) (u x A : Nat) (m : W16) : Core := c.leOn u fun e => e.sat c.freeCtr x A m
def Core.leSqrt (c : Core) (u x A : Nat) : Core := c.leOn u fun e => e.sqrt x A
def Core.leDiv (c : Core) (u x A y : Nat) : Core := c.leOn u fun e => e.div x A y
def Core.leMova (c : Core) (u x A : Nat) : Core := c.leOn u fun e => e.mova x A

/-! ### Loads -/

def Core.leLd (c : Core) (u x off : Nat) : Core := c.leOn u fun e => e.ld x off (c.leWord u off)
def Core.leLdx (c : Core) (u x off : Nat) : Core := c.leOn u fun e => e.ldx x off (c.leWord u off)
def Core.leLdw (c : Core) (u A off : Nat) : Core := c.leOn u fun e => e.ldw A off (c.leWord u off)
def Core.leLdac (c : Core) (u A off : Nat) : Core :=
  c.leOn u fun e => e.ldac A off (c.leWord u off) (c.leWord u (off + 4))
def Core.leLdr (c : Core) (u x y off : Nat) : Core := c.leOn u fun e => e.ldr x (c.leOther u y off)
def Core.leLdrx (c : Core) (u x y off : Nat) : Core := c.leOn u fun e => e.ldrx x (c.leOther u y off)
def Core.leLdl (c : Core) (u x m : Nat) : Core := c.leOn u fun e => e.ldl c.freeCtr x m fun i => c.image.leConst.look i 0

/-! ### Stores -/

def Core.leSt (c : Core) (u x off : Nat) : Core := c.leStore u off fun e => e.st x off
def Core.leStx (c : Core) (u x off : Nat) : Core := c.leStore u off fun e => e.stx x off
def Core.leStw (c : Core) (u A off : Nat) : Core := c.leStore u off fun e => e.stw A off
/-- Both words of the pair must be LAW-writable. -/
def Core.leStac (c : Core) (u A off : Nat) : Core :=
  if lawWritable c.image.intWords (off + 4) then c.leStore u off fun e => e.stac A off else c.leTrap u 0xFE
def Core.leStl (c : Core) (u x m : Nat) : Core := if m < 512 then c.leTrap u 0xFE else c.leOn u fun e => e.stl x m
def Core.leSubw (c : Core) (u A off : Nat) : Core := c.leOn u fun e => e.subw A off (c.leWord u off)

/-! ### Control -/

def Core.leBr (c : Core) (u cc : Nat) (m : W16) : Core := c.leOn u fun e => e.br c.freeCtr cc m
def Core.leCall (c : Core) (u : Nat) (m : W16) : Core :=
  if 4 ≤ (c.le u).stack.length then c.leTrap u 0xFF else c.leOn u fun e => e.call m
def Core.leRet (c : Core) (u : Nat) : Core :=
  if (c.le u).stack.isEmpty then c.leTrap u 0xFF else c.leOn u Engine.ret
/-- END: the write buffer is handed on (R337). -/
def Core.leEnd (c : Core) (u : Nat) : Core :=
  if (c.le u).run && !(c.le u).iso then
    match c.disp.on .eng u with
    | some r => (c.leOn u fun e => e.op 1 id).lawEnd r
    | none => c
  else c
/-- FLT with its code, or an undefined OP with 0xFF. -/
def Core.leFlt (c : Core) (u code : Nat) : Core := c.leTrap u code

end Sys2Proof.Machine
end

