-- ==== Sys2Proof/Machine/SpCmd.lean ====
section
/-! DEFINITION. Machine/SpCmd.lean: the instructions of the signal processors acting on the chip, PEAK entry and the
return from a handler (R376 to R397). Each acts on processor `u` while it runs a task or a handler (log entry 14). -/

namespace Sys2Proof.Machine

/-- The processor's record. -/
def Core.sp (c : Core) (u : Nat) : Proc := c.sig.proc.look u {}

/-- Replace a processor. -/
def Core.putSp (c : Core) (u : Nat) (q : Proc) : Core := { c with sig := { c.sig with proc := c.sig.proc.put u q } }

/-- The instruction that the program memory spells at a processor's pc (R372, R380), where the image lists its words. -/
def Core.spNext (c : Core) (u : Nat) : Option Instr := (c.image.spProg.look? (c.sp u).pc).bind (spDecode u)

/-- ADC pair whose channel region the running task may write (R375). -/
def Core.spPair (c : Core) (u : Nat) : Option Nat :=
  match c.disp.on .sp u with
  | some r =>
    if r.r.task = .feedback then
      match c.source r.r.key with
      | .channel n => if (c.ch n).type = 6 && decide (c.pairHome n = u) then some n else none
      | .remote _ => none
    else none
  | none => none

/-- What the chip supplies to an instruction. -/
def Core.spEnv (c : Core) (u : Nat) : SpEnv :=
  { k := c.freeCtr, const := fun a => c.image.spConst.look a 0, pair := c.spPair u }

/-- The word that an axis-store load of the running task reads: of its axis, or of its Visor record for MEASURE. -/
def Core.spWord (c : Core) (u off : Nat) : W32 :=
  let q := c.sp u
  if q.task = some Task.measure.code then
    if off % 4 != 0 || decide (c.vcfg.areaSize ≤ off) then Config.freeBits 32 c.freeCtr
    else memWord 0 c.vis.mem (q.axis * c.vcfg.areaSize + off)
  else c.areaWord q.axis off

/-- The special registers of the handler's pair (R390); open where its FIFO is empty or no handler runs. -/
def Core.spPeak (c : Core) (u sr : Nat) : W24 :=
  match (c.sp u).hand with
  | some n =>
    match c.sig.fifo.look n [] with
    | (s, co, t) :: _ =>
      if sr = 0 then BitVec.ofInt 24 (s * 256) else if sr = 1 then BitVec.ofInt 24 (co * 256)
      else if sr = 2 then BitVec.ofNat 24 t.toNat else BitVec.ofNat 24 (t.toNat >>> 24)
    | [] => Config.freeBits 24 c.freeCtr
  | none => Config.freeBits 24 c.freeCtr

/-- Pop the oldest peak of a pair. -/
def Core.popPeak (c : Core) (n : Nat) : Core :=
  { c with sig := { c.sig with fifo := c.sig.fifo.upd n [] List.tail } }

/-- The handler of processor `u` ends and returns (R392): the pair's channel takes the peak (log entry 14), a sticky flag
counts in SIGPROC_HSAT, and a peak still queued keeps its request. -/
def Core.spReturn (c : Core) (u n : Nat) (fault : Bool) : Core :=
  let q := c.sp u
  let (q', st) := q.rti
  let c := c.putSp u { q' with handPk := none, total := q'.total + (if fault then 1 else 2) }
  let c := match q.handPk with
    | some e =>
      let c := if (c.sig.fifo.look n []).head? = some e then c.popPeak n else c
      if fault then c else c.peakTaken n e
    | none => c
  let c := if st then
      ({ c with sig := { c.sig with hSat := c.sig.hSat + 1 } }).raise
        [match c.chanAxis n with | some a => (evAxis EvNo.spSat a).limited a | none => evPair EvNo.spSat n]
    else c
  let c := if (c.sig.fifo.look n []).isEmpty then c else c.peakRequest n
  c.place .sp

/-- The running program ends in FLT: a task as R397 says, a handler as R396 says. -/
def Core.spFault (c : Core) (u code : Nat) : Core :=
  match (c.sp u).hand with
  | some n =>
    let info := w32 (n + 256 * 15 + 4096 * u + 65536 * code + 2147483648)
    let c := { c with sig := { c.sig with fltCnt := c.sig.fltCnt + 1, fltInfo := info, dead := c.sig.dead ||| (1#8 <<< n) } }
    (c.raise [evPair EvNo.spFlt n code]).spReturn u n true
  | none =>
    match c.disp.on .sp u with
    | some r => c.taskFlt r code
    | none => c

/-- A processor executes an instruction; one that executes as FLT ends its program (R380). -/
def Core.spOn (c : Core) (u : Nat) (f : Proc → Proc) : Core :=
  if (c.sp u).runs then
    let q := f (c.sp u)
    let c := { (c.putSp u q) with freeCtr := c.freeCtr + 4 }
    match q.trap with
    | some code => (c.putSp u { q with trap := none }).spFault u (code % 256)
    | none => c
  else c

/-- A parallel instruction. -/
def Core.spPar (c : Core) (u : Nat) (fa : Option SpFetch) (fb : Option SpXfer) (alu : Proc → Proc) : Core :=
  c.spOn u fun q => q.par (c.spEnv u) fa fb alu

/-! ### Parallel class (R382) -/

def Core.spNop (c : Core) (u : Nat) (fa : Option SpFetch) (fb : Option SpXfer) : Core := c.spPar u fa fb Proc.aluNop
def Core.spClr (c : Core) (u md : Nat) (fa : Option SpFetch) (fb : Option SpXfer) : Core := c.spPar u fa fb (Proc.aluClr md)
def Core.spMpy (c : Core) (u md s1 s2 : Nat) (fa : Option SpFetch) (fb : Option SpXfer) : Core :=
  c.spPar u fa fb (Proc.aluMpy md s1 s2)
def Core.spMac (c : Core) (u md s1 s2 : Nat) (fa : Option SpFetch) (fb : Option SpXfer) : Core :=
  c.spPar u fa fb (Proc.aluMac md s1 s2)
def Core.spMsu (c : Core) (u md s1 s2 : Nat) (fa : Option SpFetch) (fb : Option SpXfer) : Core :=
  c.spPar u fa fb (Proc.aluMsu md s1 s2)
def Core.spMpyr (c : Core) (u md s1 s2 : Nat) (fa : Option SpFetch) (fb : Option SpXfer) : Core :=
  c.spPar u fa fb (Proc.aluMpyr md s1 s2)
def Core.spMacr (c : Core) (u md s1 s2 : Nat) (fa : Option SpFetch) (fb : Option SpXfer) : Core :=
  c.spPar u fa fb (Proc.aluMacr md s1 s2)
def Core.spAdd (c : Core) (u md s1 : Nat) (fa : Option SpFetch) (fb : Option SpXfer) : Core := c.spPar u fa fb (Proc.aluAdd md s1)
def Core.spSub (c : Core) (u md s1 : Nat) (fa : Option SpFetch) (fb : Option SpXfer) : Core := c.spPar u fa fb (Proc.aluSub md s1)
def Core.spAddm (c : Core) (u md m2 : Nat) (fa : Option SpFetch) (fb : Option SpXfer) : Core := c.spPar u fa fb (Proc.aluAddm md m2)
def Core.spPutm (c : Core) (u md s1 : Nat) (fa : Option SpFetch) (fb : Option SpXfer) : Core := c.spPar u fa fb (Proc.aluPutm md s1)
def Core.spCpym (c : Core) (u md m2 : Nat) (fa : Option SpFetch) (fb : Option SpXfer) : Core := c.spPar u fa fb (Proc.aluCpym md m2)
def Core.spNegm (c : Core) (u md : Nat) (fa : Option SpFetch) (fb : Option SpXfer) : Core := c.spPar u fa fb (Proc.aluNegm md)
def Core.spAbsm (c : Core) (u md : Nat) (fa : Option SpFetch) (fb : Option SpXfer) : Core := c.spPar u fa fb (Proc.aluAbsm md)
def Core.spAslm (c : Core) (u md : Nat) (fa : Option SpFetch) (fb : Option SpXfer) : Core := c.spPar u fa fb (Proc.aluAslm md)
def Core.spAsrm (c : Core) (u md : Nat) (fa : Option SpFetch) (fb : Option SpXfer) : Core := c.spPar u fa fb (Proc.aluAsrm md)
def Core.spRnd (c : Core) (u md : Nat) (fa : Option SpFetch) (fb : Option SpXfer) : Core := c.spPar u fa fb (Proc.aluRnd md)
def Core.spCmpa (c : Core) (u md s1 : Nat) (fa : Option SpFetch) (fb : Option SpXfer) : Core := c.spPar u fa fb (Proc.aluCmpa md s1)
def Core.spMaxi (c : Core) (u md s1 : Nat) (fa : Option SpFetch) (fb : Option SpXfer) : Core := c.spPar u fa fb (Proc.aluMaxi md s1)
def Core.spMini (c : Core) (u md s1 : Nat) (fa : Option SpFetch) (fb : Option SpXfer) : Core := c.spPar u fa fb (Proc.aluMini md s1)

/-! ### Move and axis-store classes (R380, R390, R401) -/

/-- A move-class instruction; a read of PK_TH pops the pair's oldest peak. -/
def Core.spMoveIns (c : Core) (u : Nat) (mv : SpMove) : Core :=
  let pops := match mv with | .special _ sr => sr = 3 | _ => false
  let c' := c.spOn u fun q => q.moveIns (c.spEnv u) (c.spPeak u) mv
  match pops && (c.sp u).runs, (c.sp u).hand with
  | true, some n => c'.popPeak n
  | _, _ => c'

def Core.spMove (c : Core) (u : Nat) (mv : SpMove) : Core := c.spMoveIns u mv
def Core.spLds (c : Core) (u x off : Nat) (f24 : Bool) : Core := c.spOn u fun q => q.lds x off f24 (c.spWord u off)
def Core.spLdsm (c : Core) (u m off : Nat) : Core := c.spOn u fun q => q.ldsm m off (c.spWord u off)
def Core.spSts (c : Core) (u : Nat) (src : SpLoc) (off : Nat) (f24 : Bool) : Core := c.spOn u fun q => q.sts src off f24
def Core.spStsw (c : Core) (u m off : Nat) : Core := c.spOn u fun q => q.stsw m off

/-! ### Address and control classes -/

def Core.spSetp (c : Core) (u k : Nat) (v : SpVal) : Core := c.spOn u fun q => q.setp k v
def Core.spSetn (c : Core) (u k : Nat) (v : SpVal) : Core := c.spOn u fun q => q.setn k v
def Core.spAddp (c : Core) (u k : Nat) (s : Int) : Core := c.spOn u fun q => q.addp k s
def Core.spBr (c : Core) (u cc : Nat) (m : Int) : Core := c.spOn u fun q => q.br c.freeCtr cc m
def Core.spCall (c : Core) (u : Nat) (m : Int) : Core := c.spOn u fun q => q.call m
def Core.spRet (c : Core) (u : Nat) : Core := c.spOn u Proc.ret
def Core.spLoop (c : Core) (u : Nat) (n : SpVal) (len : Nat) : Core := c.spOn u fun q => q.loopIns n len
def Core.spDi (c : Core) (u : Nat) : Core := c.spOn u Proc.di
def Core.spEi (c : Core) (u : Nat) : Core := c.spOn u Proc.ei
def Core.spSavl (c : Core) (u : Nat) : Core := c.spOn u Proc.savl
def Core.spRstl (c : Core) (u : Nat) : Core := c.spOn u Proc.rstl

/-- The observer takes up the words that an OBSERVE program has written (log entry 14). -/
def Core.obsTake (c : Core) (a : Nat) : Core :=
  let c := c.updOb a fun y =>
    { y with theta := (c.word a oTheta).toNat % 65536, wh := rF16 (c.word a oOmega) * 256
             conf := (c.word a oConf).toNat % 256, seen := some c.cycle.cycle }
  if c.parked then c else c.obsTransitions a

/-- END of a task: its buffer is committed as one unit and its sticky flags are recorded (R397, R402); a FEEDBACK
program's words pass the checks of R245. -/
def Core.spEnd (c : Core) (u : Nat) : Core :=
  let q := c.sp u
  match c.disp.on .sp u, q.runs && q.hand.isNone with
  | some r, true =>
    let a := r.r.key
    let sticky := q.f.sticky
    let c := c.spOn u fun q => q.op 1 id
    match r.r.task with
    | .feedback =>
      let was := c.susp a
      let c := (c.commitBuf a q.buf).spSticky a 0 sticky
      let fl := c.word a oFlags
      let (local?, dead) := match c.source a with
        | .channel n => (some n, c.sig.dead.getLsbD n)
        | .remote _ => (none, false)
      let now := bit fl 8
      let bad := bit fl 3 || bit fl 5 || bit fl 10 || dead
      (c.feedbackChecks a bad (now && !was) (was && !now) local?).taskEnds r .feedback
    | .filter => ((c.commitBuf a q.buf).spSticky a 1 sticky).taskEnds r .filter
    | .observe => (((c.commitBuf a q.buf).spSticky a 2 sticky).obsTake a).taskEnds r .observe
    | .measure => c.measureDone a (forN 16 fun i => q.seen (4 * i) 0)
    | .commuteIn | .law | .commuteOut | .pack | .profile => c
  | _, _ => c

/-- FLT with its code, or an encoding not listed with 0xFF (R380, R396, R397). -/
def Core.spFlt (c : Core) (u code : Nat) : Core :=
  c.spOn u fun q => q.op 1 fun q => q.fltTrap (code % 256)

/-- RTI (R392). -/
def Core.spRti (c : Core) (u : Nat) : Core :=
  match (c.sp u).hand, (c.sp u).iso with
  | some n, false => c.spReturn u n false
  | _, _ => c

/-! ### Special class (R383) -/

def Core.spExp (c : Core) (u ra ma : Nat) : Core := c.spOn u fun q => q.exp ra ma
def Core.spNorm (c : Core) (u ma ra : Nat) : Core := c.spOn u fun q => q.norm ma ra
def Core.spNormi (c : Core) (u ma : Nat) (n : Int) : Core := c.spOn u fun q => q.normi ma n
def Core.spSqrt (c : Core) (u ma mb : Nat) : Core := c.spOn u fun q => q.sqrt ma mb
def Core.spDiv (c : Core) (u ma mb ra : Nat) : Core := c.spOn u fun q => q.div ma mb ra
def Core.spAtan2 (c : Core) (u ra rb : Nat) : Core := c.spOn u fun q => q.atan2 ra rb
def Core.spSincos (c : Core) (u ra : Nat) : Core := c.spOn u fun q => q.sincos ra
def Core.spClri (c : Core) (u : Nat) : Core := c.spOn u Proc.clri
def Core.spMovix (c : Core) (u ra : Nat) : Core := c.spOn u fun q => q.movix ra

/-- SP_PEAK_ENTRY (R390, R391): the lowest pair that requests at this home processor is taken. -/
def Core.spPeakEntry (c : Core) (u : Nat) : Core :=
  let q := c.sp u
  if !q.accepts then c
  else
    match (List.range 8).find? fun n => c.sig.req.contains n && decide (c.pairHome n = u) with
    | none => c
    | some n =>
      let q' := q.enter n (c.image.spVec.look n 0) (q.total - c.sig.reqAt.look n q.total).toNat
      let c := c.putSp u { q' with handPk := (c.sig.fifo.look n []).head? }
      { c with sig := { c.sig with req := c.sig.req.filter (fun k => k != n), reqAt := c.sig.reqAt.del n } }

end Sys2Proof.Machine
end

