-- ==== Sys2Proof/Machine/SeqCmd.lean ====
section
/-! DEFINITION. Machine/SeqCmd.lean: the requests to the sequencer, host views, and the role, node and dispatcher commands
(R72 to R82, R90, R115, R126, R137, R424, R431). -/

namespace Sys2Proof.Machine

/-! ### The sequencer (R72 to R74, R80, R81, R85, R90) -/

/-- A refused request: CHIP_GOP_STAT shows the reason unless the sequencer is busy (R85, R87). -/
def Core.gopRefuse (c : Core) (op : GopOp) (reason : Nat) : Core :=
  let c := c.raise [ev0 EvNo.gopRefused reason]
  if c.gopBusy then c
  else { c with cycle := { c.cycle with gopOp := op, gopState := .failed, gopReason := reason, gopMissing := 0 } }

/-- MODE_CHANGE: the announcement begins in the next cycle (R73). -/
def Core.modeChangeCmd (c : Core) (m : Nat) : Core :=
  if c.standby then c.gopRefuse .mode 5
  else if c.gopBusy then c.gopRefuse .mode 1
  else if !(c.image.mode.look m {}).present then c.gopRefuse .mode 2
  else if !c.cycle.running then c.gopRefuse .mode 3
  else
    let eff := c.cycle.cycle + 1 + w32 c.image.aLead
    { c with cycle := { c.cycle with
        change := some { target := m, cEff := eff }, modeEff := eff, gopOp := .mode, gopState := .running, gopReason := 0
        gopMissing := 0, gopStart := c.cycle.cycle + 1 } }

/-- MODE_CANCEL: the pending change aborts at its commit point (R74). -/
def Core.modeCancelCmd (c : Core) : Core :=
  if c.standby then c.gopRefuse .mode 5
  else match c.cycle.change with
    | some m =>
      if m.decision.isSome then c.gopRefuse .mode 2
      else { c with cycle := { c.cycle with change := some { m with cancelled := true } } }
    | none => c.gopRefuse .mode 2

/-- An accepted global operation is announced in the next cycle (R80). -/
def Core.gopStart (c : Core) (op : GopOp) : Core :=
  let start := c.cycle.cycle + 1
  { c with cycle := { c.cycle with
      gopOp := op, gopState := .running, gopReason := 0, gopMissing := 0, gopStart := start, gopNodes := c.admittedAll, gopAcked := []
      gopCyc := if op = GopOp.snapshot then start + 3 else c.cycle.gopCyc } }

/-- The reason that refuses an operation before its locks are asked for, 0 where none does. -/
def Core.gopReason (c : Core) (op : GopOp) : Nat :=
  let active := c.axes.any fun a => !((c.ax a).state = .off || (c.ax a).state = .opened || (c.ax a).state = .halt || (c.ax a).state = .fault)
  if c.standby then 5 else if c.gopBusy then 1 else if !c.cycle.running then 3
  else if op = .netreset && active then 8 else 0

/-- A global operation that takes locks (R81). -/
def Core.gopLocked (c : Core) (op : GopOp) (a : Act) (port : Nat) : Core :=
  let r := c.gopReason op
  if r != 0 then c.gopRefuse op r
  else
    let (c, ok) := c.admitAct { act := a, port := port }
    if ok then c.gopStart op else c.gopRefuse op 4

/-- BARRIER. -/
def Core.barrierCmd (c : Core) : Core :=
  let r := c.gopReason .barrier
  if r != 0 then c.gopRefuse .barrier r else c.gopStart .barrier

/-- SNAPSHOT. -/
def Core.snapshotCmd (c : Core) (port : Nat) : Core := c.gopLocked .snapshot .snapshot port

/-- NODECMD (R173): 1 reset, 2 deadmitted notice. -/
def nodeCmd (pos what : Nat) : DownRec := { mtype := 0x0B, addr := pos, len := 1, body := [byte what, 0, 0, 0] }

/-- NETRESET: every node is commanded to reset, by NODECMD besides the trailer (DEDUCED, log entry 67). -/
def Core.netresetCmd (c : Core) (port : Nat) : Core :=
  let d := c.gopLocked .netreset .netreset port
  if c.gopReason .netreset = 0 && d.cycle.gopState = GopState.running then
    d.segs.foldl (fun (d : Core) s => d.putSl s ((d.sl s).enqueue 4 (nodeCmd 0xFF 1))) d
  else d

/-- A request whose operation or command code is not defined (R85); CHIP_GOP_STAT.OP keeps its value. -/
def Core.gopInvalid (c : Core) : Core := c.gopRefuse c.cycle.gopOp (if c.standby then 5 else 2)

/-- CHIP_MODE_REQ. -/
def Core.modeReq (c : Core) (w : W32) : Core :=
  if fld w 31 30 = 1 then c.modeChangeCmd (fld w 2 0) else if fld w 31 30 = 2 then c.modeCancelCmd else c.gopInvalid

/-- CHIP_GOP_REQ. -/
def Core.gopReq (c : Core) (w : W32) (port : Nat) : Core :=
  if fld w 3 0 = 1 then c.barrierCmd
  else if fld w 3 0 = 2 then c.snapshotCmd port
  else if fld w 3 0 = 3 then c.netresetCmd port
  else c.gopInvalid

/-! ### Views (R78, R79, R85, R90) -/

/-- The view context of a path. -/
def Core.viewOf (c : Core) (p : Path) : ViewCtx := c.host.view.look p.key {}

/-- The image a view is open on, while it is held. -/
def Core.viewImage (c : Core) (p : Path) : Option CycleImage :=
  if (c.viewOf p).isOpen then c.imageOf (c.viewOf p).seq else none

/-- VIEW_OPEN. QMP has no view context (R549). -/
def Core.viewOpen (c : Core) (p : Path) (w : W32) : Core :=
  match p with
  | .qmp _ _ => c
  | .pcie | .spi =>
    let found := if c.standby then none else if w = 0xFFFF_FFFF then c.cycle.images.head? else c.imageOf w
    let v : ViewCtx := match found with
      | some i => { isOpen := true, seq := i.cycle, fail := false }
      | none => { isOpen := false, seq := (c.viewOf p).seq, fail := true }
    { c with host := { c.host with view := c.host.view.put p.key v } }

/-- CHIP_VIEW_STAT (R85). AGE counts from the newest image held, and with none held from the current cycle: DESIGN CHOICE (log
entry 68). -/
def Core.viewStat (c : Core) (p : Path) : W32 :=
  let v := c.viewOf p
  let held := (c.viewImage p).isSome
  let newest := match c.cycle.images.head? with | some i => i.cycle | none => c.cycle.cycle
  let age := if v.isOpen then min 15 (newest - v.seq).toNat else 0
  w32 (b2n v.isOpen + 2 * b2n held + 4 * b2n (v.fail || (v.isOpen && !held)) + 16 * age)

/-! ### Role and node commands (R115, R126, R137) -/

/-- RETRY, valid only in REFUSED. -/
def Core.retryCmd (c : Core) : Core := if c.role.role = .refused then c.restartListen else c

/-- READMIT of a refused or lost node (R126). A position refused as ABSENT is in neither state, so READMIT leaves it: DESIGN
CHOICE (log entry 66). -/
def Core.readmitCmd (c : Core) (s pos : Nat) : Core :=
  if (((c.sg s).node pos).st = .refused ∨ ((c.sg s).node pos).st = .lost) ∧ ((c.is s).nodes.look? pos).isSome then
    c.putSg s ((c.sg s).updNode pos fun k => { k with readmit := 4, answered := false })
  else c

/-- DEADMIT removes an admitted node as if it were lost, and the node is told so. -/
def Core.deadmitCmd (c : Core) (s pos : Nat) : Core :=
  if ((c.sg s).node pos).st = .admitted then (c.putSl s ((c.sl s).enqueue 4 (nodeCmd pos 2))).loseNode s pos else c

/-- LINK_SEG_CMD. -/
def Core.segCmd (c : Core) (s : Nat) (w : W32) : Core :=
  if fld w 31 30 = 1 then c.readmitCmd s (fld w 5 0) else if fld w 31 30 = 2 then c.deadmitCmd s (fld w 5 0) else c

/-- LINK_ROLE_CMD. -/
def Core.roleCmd (c : Core) (w : W32) : Core := if fld w 1 0 = 1 then c.retryCmd else c

/-- LINK_SEG_REFUSE: the oldest refusal, removed by the read. -/
def Core.refuseHead (c : Core) (s : Nat) : W32 :=
  match (c.sg s).refuse with
  | [] => 0
  | (p, r) :: _ => w32 (p % 64 + 256 * (r % 16) + 0x80000000)

/-- The read of LINK_SEG_REFUSE removes it. -/
def Core.refusePop (c : Core) (s : Nat) : Core := c.putSg s { (c.sg s) with refuse := (c.sg s).refuse.drop 1 }

/-! ### Dispatcher commands (R424, R431) -/

/-- CLR_SLACK_MIN. -/
def Core.clrSlackMin (c : Core) : Core :=
  { c with disp := { c.disp with flow := (forN 4 fun f => (f, { (c.flow f) with slackMin := 0xFFFF_FFFF })) } }

/-- TR_CLEAR. -/
def Core.trClearCmd (c : Core) : Core := { c with disp := c.disp.trClear }

/-- DISPATCH_CMD. -/
def Core.dispCmd (c : Core) (w : W32) : Core :=
  if fld w 3 0 = 1 then c.clrSlackMin else if fld w 3 0 = 2 then c.trClearCmd else c

end Sys2Proof.Machine
end

