-- ==== Sys2Proof/Machine/ProfCmd.lean ====
section
/-! DEFINITION. Machine/ProfCmd.lean: profile commands, virtual masters and table writes (R443 to R446, R450, R456, R457,
R463, R464, R467, R471). -/

namespace Sys2Proof.Machine

/-- PROFILE_ARGk. -/
def Core.prArg (c : Core) (k : Nat) : W32 := c.prof.arg.look k 0

/-- The source may home by method 6: SSI, a resolver, or an absolute remote record (R460). -/
def Core.absSrc (c : Core) (a : Nat) : Bool :=
  match c.source a with
  | .channel n => (c.ch n).type = 5 || (c.ch n).type = 6
  | .remote r => r != 0x22

/-- The table a command names. -/
def PrCmd.table : PrCmd → Option (Nat × Bool)
  | .tblTime d => some (d, false)
  | .tblCam d _ => some (d, true)
  | .move _ | .vel _ | .stop | .gearOn _ _ | .knuckle _ _ _ | .gearOff _ | .addOfs _ | .home _ | .clr => none

/-- The sums of a descriptor's table are being updated. -/
def ProfState.updating (f : ProfState) (d : Nat) : Bool :=
  f.upd && match f.updAt with
    | none => false
    | some (isDesc, i) => if isDesc then i = d else decide ((f.descOf d).first ≤ i) && decide (i < (f.descOf d).first + (f.descOf d).count)

/-- What the checks of R464 look at. -/
def Core.prCheck (c : Core) (a : Nat) (cmd : PrCmd) : PrCheck :=
  let m := c.masterOf a
  { c := c.cf a, state := (c.ax a).state, parked := c.parked || c.standby, valid := c.hasAx a && (c.imgAx a).prof
    lost := m.lost, m := (m.ref (c.cf a .prLeadk)).1
    tblOk := match cmd.table with | some (d, k) => c.prof.tableOk d k | none => true
    tblUpd := match cmd.table with | some (d, _) => c.prof.updating d | none => false
    absSrc := c.absSrc a }

/-- The cycle whose PROFILE task a command accepted now acts in (R463). -/
def Core.prDue (c : Core) : W32 :=
  if rtDiff c.now c.cycle.rtS < 2000 then c.cycle.cycle + 1 else c.cycle.cycle + 2

/-- A refused command (R464). -/
def Core.prRefuse (c : Core) (a code reason : Nat) : Core :=
  { c with prof := { c.prof with cmdStat := cmdStatWord a code 3 reason } }.raise [evMotionFault a 0x11]

/-- A command that fails a running homing by its receipt (R462). -/
def PrCmd.failsHoming : PrCmd → Bool
  | .move _ | .vel _ | .stop | .home _ => true
  | .tblTime _ | .tblCam _ _ | .gearOn _ _ | .knuckle _ _ _ | .gearOff _ | .addOfs _ | .clr => false

/-- A profile command of an axis, with its code of R463: checked, then pending until its task. -/
def Core.prCommand (c : Core) (a code : Nat) (cmd : PrCmd) : Core :=
  let k := c.prCheck a cmd
  let r := (c.pa a).refusal k cmd
  let c := if k.valid && cmd.failsHoming && (c.pa a).mode = .homing then c.updPa a fun x => { x with hm := { x.hm with abort := true } } else c
  if r != 0 then c.prRefuse a code r
  else
    let due := c.prDue
    let c := c.updPa a fun x => { x with pend := some (cmd, due) }
    { c with prof := { c.prof with cmdStat := cmdStatWord a code 1 0 } }

/-- MOVE to a machine position. -/
def Core.moveCmd (c : Core) (a : Nat) : Core := c.prCommand a 1 (.move (c.prArg 0).toInt)
/-- VEL. -/
def Core.velCmd (c : Core) (a : Nat) : Core := c.prCommand a 2 (.vel (c.prArg 0).toInt)
/-- STOP. -/
def Core.stopCmd (c : Core) (a : Nat) : Core := c.prCommand a 3 .stop
/-- TBL_TIME. -/
def Core.tblTimeCmd (c : Core) (a : Nat) : Core := c.prCommand a 4 (.tblTime (fld (c.prArg 0) 6 0))
/-- TBL_CAM. -/
def Core.tblCamCmd (c : Core) (a : Nat) : Core := c.prCommand a 5 (.tblCam (fld (c.prArg 0) 6 0) (rPair 64 (c.prArg 1) (c.prArg 2)))
/-- GEAR_ON. -/
def Core.gearOnCmd (c : Core) (a : Nat) : Core := c.prCommand a 6 (.gearOn (c.prArg 0).toInt (c.prArg 1).toNat)
/-- KNUCKLE. -/
def Core.knuckleCmd (c : Core) (a : Nat) : Core :=
  c.prCommand a 7 (.knuckle (rPair 64 (c.prArg 0) (c.prArg 1)) (c.prArg 2).toInt (c.prArg 3).toNat)
/-- GEAR_OFF. -/
def Core.gearOffCmd (c : Core) (a : Nat) : Core := c.prCommand a 8 (.gearOff (c.prArg 1).toNat)
/-- ADD_OFS of δ. -/
def Core.addOfs (c : Core) (a : Nat) (d : Int) : Core := c.prCommand a 9 (.addOfs d)
/-- ADD_OFS from PROFILE_ARG0. -/
def Core.addOfsCmd (c : Core) (a : Nat) : Core := c.addOfs a (c.prArg 0).toInt

/-- The total an axis's offset is heading for. -/
def ProfAxis.ofsGoal (x : ProfAxis) : Int := x.ofsMoves.foldl (fun s q => s + q.pEnd.getD 0) x.ofsDone

/-- SET_OFS to o_T: an ADD_OFS of the difference (R456). -/
def Core.setOfs (c : Core) (a : Nat) (o : Int) : Core := c.prCommand a 0xA (.addOfs (o - (c.pa a).ofsGoal))
/-- SET_OFS from PROFILE_ARG0 and PROFILE_ARG1. -/
def Core.setOfsCmd (c : Core) (a : Nat) : Core := c.setOfs a (rPair 48 (c.prArg 0) (c.prArg 1))
/-- HOME. -/
def Core.homeCmd (c : Core) (a : Nat) : Core := c.prCommand a 0xB (.home (fld (c.prArg 0) 2 0))
/-- CLR. -/
def Core.clrCmd (c : Core) (a : Nat) : Core := c.prCommand a 0xC .clr

/-- A virtual master's command: accepted in every state (R450, R463). -/
def Core.vmCommand (c : Core) (a code : Nat) (v : Int) : Core :=
  let due := c.prDue
  { c with prof := { c.prof with
      vm := c.prof.vm.upd (fld (c.prArg 0) 2 0) {} fun m => m.setVel due v c.image.vmAmax c.image.vmJmax
      cmdStat := cmdStatWord a code 2 0 } }

/-- VM_VEL. -/
def Core.vmVelCmd (c : Core) (a : Nat) : Core := c.vmCommand a 0xD (c.prArg 1).toInt
/-- VM_STOP. -/
def Core.vmStopCmd (c : Core) (a : Nat) : Core := c.vmCommand a 0xE 0

/-- PROFILE_CMD. -/
def Core.profCmd (c : Core) (w : W32) : Core :=
  let a := fld w 7 0
  match fld w 31 28 with
  | 1 => c.moveCmd a
  | 2 => c.velCmd a
  | 3 => c.stopCmd a
  | 4 => c.tblTimeCmd a
  | 5 => c.tblCamCmd a
  | 6 => c.gearOnCmd a
  | 7 => c.knuckleCmd a
  | 8 => c.gearOffCmd a
  | 9 => c.addOfsCmd a
  | 10 => c.setOfsCmd a
  | 11 => c.homeCmd a
  | 12 => c.clrCmd a
  | 13 => c.vmVelCmd a
  | 14 => c.vmStopCmd a
  | k => c.prRefuse a k 2

/-! ### Table data (R444, R465, R471) -/

/-- INDEX, WORD and DESC of PROFILE_TBL_ADDR. -/
def ProfState.tblAt (f : ProfState) : Nat × Nat × Bool := (fld f.tblAddr 13 0, fld f.tblAddr 17 16, bit f.tblAddr 31)

/-- The addressed place exists: descriptors are 128. -/
def ProfState.tblHere (f : ProfState) : Bool := !f.tblAt.2.2 || decide (f.tblAt.1 < 128)

/-- Key of a staged word. -/
def tblKey (isDesc : Bool) (i w : Nat) : Nat := b2n isDesc * 0x100000 + 4 * i + w

/-- The word at PROFILE_TBL_ADDR. -/
def ProfState.tblWord (f : ProfState) : W32 :=
  let (i, w, d) := f.tblAt
  if !f.tblHere then 0 else if d then f.desc.look (4 * i + w) 0 else f.entry.look (4 * i + w) 0

/-- The address after an access: the next word, and after word 3 word 0 of the next entry. -/
def ProfState.tblAdvance (f : ProfState) : ProfState :=
  let (i, w, d) := f.tblAt
  let n := if d then 128 else 16384
  let i' := if w = 3 then (i + 1) % n else i
  { f with tblAddr := w32 (i' + 65536 * ((w + 1) % 4) + 0x80000000 * b2n d) }

/-- The four words an entry would hold. -/
def ProfState.tblNew (f : ProfState) (i : Nat) (d : Bool) : List W32 :=
  forN 4 fun w => f.stage.look (tblKey d i w) (if d then f.desc.look (4 * i + w) 0 else f.entry.look (4 * i + w) 0)

/-- The check at word 3: not of a table in use, and within the bounds of R444 and R471. -/
def ProfState.tblCheck (f : ProfState) (i : Nat) (d : Bool) (ws : List W32) : Bool :=
  let w0 := (ws.getD 0 0).toNat
  let n := fld (ws.getD 1 0) 12 0
  f.tblHere && !f.inUse d i &&
    (if d then decide (1 ≤ n) && decide (n ≤ 4096) else decide (1 ≤ w0) && decide (w0 ≤ 0x1000000))

/-- A write of PROFILE_TBL_DATA. -/
def ProfState.tblWrite (f : ProfState) (v : W32) : ProfState :=
  let (i, w, d) := f.tblAt
  let f := { f with stage := f.stage.put (tblKey d i w) v }
  let g :=
    if w != 3 then f
    else
      let ws := f.tblNew i d
      let clear := { f with stage := f.stage.filter fun e => e.1 / 4 != tblKey d i 0 / 4 }
      if !f.tblCheck i d ws then { clear with refused := true }
      else
        let put := fun (t : Tab W32) => ((List.range 4).zip ws).foldl (fun t e => t.put (4 * i + e.1) e.2) t
        { clear with
          refused := false, upd := true, updAt := some (d, i), tblImg := false
          desc := if d then put clear.desc else clear.desc
          entry := if d then clear.entry else put clear.entry
          bad := if d then clear.bad else clear.bad.filter (· != i) }
  g.tblAdvance

/-- A read of PROFILE_TBL_DATA advances the address. -/
def Core.tblReadStep (c : Core) : Core := { c with prof := c.prof.tblAdvance }

/-- A write of PROFILE_TBL_DATA. -/
def Core.tblDataWrite (c : Core) (v : W32) : Core := { c with prof := c.prof.tblWrite v }

/-- TABLE_SUMS_UPDATED. -/
def Core.tableSums (c : Core) : Core := { c with prof := { c.prof with upd := false, updAt := none } }

end Sys2Proof.Machine
end

