-- ==== Sys2Proof/Machine/HostRead.lean ====
section
/-! DEFINITION. Machine/HostRead.lean: what a register or a word of the mirror reads as, by path (R84 to R90, R133 to R139,
R183, R184, R221, R222, R260, R261, R296, R297, R327, R328, R368 to R370, R406, R407, R430, R431, R470, R471, R518, R519,
R542, R543, R549 to R560, R570 to R575, R578, R604 to R607, R633 to R636). `none` is an open value. -/

namespace Sys2Proof.Machine

/-! ### Common -/

/-- Selection register of a path (R549). -/
def Core.selOf (c : Core) (p : Path) (addr : Nat) : W32 := c.host.sel.look (p.key * 0x100000 + addr) 0

/-- BUSY of a slow-domain block, by page (R552). -/
def Core.busy (c : Core) (page : Nat) : Bool := (c.host.posted.look? page).isSome

/-- WDROP of a slow-domain block. -/
def Core.wdropped (c : Core) (page : Nat) : Bool := c.host.wdrop.contains page

/-- BUSY and WDROP at bits 30 and 31. -/
def Core.postBits (c : Core) (page : Nat) : W32 := w32 (0x40000000 * b2n (c.busy page) + 0x80000000 * b2n (c.wdropped page))

/-- The staged value of a register while a write is pending, else the value in force (R554). -/
def Core.stagedOr (c : Core) (addr : Nat) (w : W32) : W32 :=
  match c.host.stage.look? addr with
  | some s => s.val
  | none => w

/-- A bit per index. -/
def bitsOf (n : Nat) (f : Nat → Bool) : Nat := (List.range n).foldl (fun a i => a + 2 ^ i * b2n (f i)) 0

/-- Two wrapping 16-bit counters. -/
def halves (lo hi : Nat) : W32 := w32 (lo % 65536 + 65536 * (hi % 65536))

/-- Pages that decode eight offset bits (R550, R551). -/
def narrowPage (page : Nat) : Bool := page = 0x14000 || (decide (pgPort ≤ page) && decide (page < pgPort + 0x8000))

/-- The offset an address decodes to: byte bits are not decoded, and a page of decode width 8 wraps at 1 KiB (R551). -/
def decodeAddr (addr : Nat) : Nat :=
  let a := addr % 0x100000 / 4 * 4
  let o := a % 0x1000
  if narrowPage (a - o) then a - o + o % 0x400 else a

/-- Reached before EV_BOOT_DONE and in BOOTFAIL: BOOT, LEDGER, EVENTS and HOSTIF (R578, R585). -/
def earlyPage (page : Nat) : Bool := page = pgBoot || page = pgLed || page = pgEv || page = pgHost

/-- Unpowered in STANDBY: LINK and COMPUTE (R90, R599); the role registers stay readable (R134). -/
def darkPage (page : Nat) : Bool :=
  (decide (pgSeg ≤ page) && decide (page < 0x14000)) || (decide (pgPort ≤ page) && decide (page < pgPort + 0x8000))
    || page = pgDisp || page = pgEng || page = pgEng + 0x1000 || page = pgSig || page = pgCmt || page = pgProf

/-- A block answers: reached in this boot state, and powered. -/
def Core.alive (c : Core) (page : Nat) : Bool := (c.running || earlyPage page) && !(c.standby && darkPage page)

/-! ### CHIP -/

/-- CHIP_HATBAND. -/
def Core.hatband (c : Core) : W32 :=
  let t := match c.cycle.change with
    | some m => 16 * (m.target % 8) + 0x100 + 0x200 * b2n (m.decision = some true)
    | none => 0
  w32 (c.cycle.mode % 8 + t + 0x10000 * bitsOf 8 fun n => (c.image.mode.look n {}).present)

/-- Code of CHIP_GOP_STAT.OP. -/
def GopOp.code : GopOp → Nat
  | .mode => 0 | .barrier => 1 | .snapshot => 2 | .netreset => 3
/-- Code of CHIP_GOP_STAT.STATE. -/
def GopState.code : GopState → Nat
  | .idle => 0 | .running => 1 | .done => 2 | .failed => 3

/-- CHIP_GOP_STAT. -/
def Core.gopStat (c : Core) : W32 :=
  w32 (c.cycle.gopOp.code + 16 * c.cycle.gopState.code + 256 * (c.cycle.gopReason % 256) + 65536 * (c.cycle.gopMissing % 256))

/-- S of the view's cycle, or of the current one; open where the view's image has been released. -/
def Core.viewS (c : Core) (p : Path) : Option Rt :=
  if (c.viewOf p).isOpen then (c.viewImage p).map (·.rtS) else some c.cycle.rtS

/-- CHIP. -/
def Core.rdChip (c : Core) (p : Path) (o : Nat) : Option W32 :=
  if o = 0x000 then some 0x02560001
  else if o = 0x004 then some (if (c.viewOf p).isOpen then (c.viewOf p).seq else c.cycle.cycle)
  else if o = 0x008 then (c.viewS p).map lo32
  else if o = 0x00C then (c.viewS p).map hi32
  else if o = 0x010 then some c.hatband
  else if o = 0x014 then some (w32 c.tcyc)
  else if o = 0x018 then some (w32 c.modeI.tSf)
  else if o = 0x01C then some (w32 c.modeI.tCw0)
  else if o = 0x020 then some (w32 c.modeI.tRel)
  else if o = 0x024 then some (w32 c.modeI.tU)
  else if o = 0x028 then some (w32 (c.image.aLead % 256))
  else if o = 0x030 then some (w32 (b2n c.cycle.scrubDone + 2 * b2n c.cycle.reverDone + 4 * b2n c.cycle.ledgDone))
  else if o = 0x110 then some c.cycle.modeEff
  else if o = 0x114 then some c.gopStat
  else if o = 0x118 then some c.cycle.gopCyc
  else if o = 0x200 then some (c.viewOf p).seq
  else if o = 0x204 then some (c.viewStat p)
  else some 0

/-! ### BOOT, HEALTH, LEDGER, MAINT -/

/-- A flash word whose erase or program a reset stopped (R602). -/
def Core.tornAt (c : Core) (a : Nat) : Bool :=
  c.boot.torn.any fun t => if t.1 then t.2 / 0x10000 = a / 0x10000 else t.2 / 256 = a / 256

/-- BOOT. -/
def Core.rdBoot (c : Core) (o : Nat) : Option W32 :=
  let b := c.boot
  if o = 0x000 then some b.statWord
  else if o = 0x004 then some (w32 (b.strap % 8))
  else if o = 0x008 then some b.causeWord
  else if o = 0x00C then some b.imgWord
  else if o = 0x010 then some b.head.gen
  else if o = 0x014 then some b.head.chk
  else if o = 0x018 then some (lo32 b.head.inst)
  else if o = 0x01C then some (hi32 b.head.inst)
  else if o = 0x020 then some (rejWord b.rejA)
  else if o = 0x024 then some (rejWord b.rejB)
  else if o = 0x028 then some b.time
  else if o = 0x02C then some b.shellInfo
  else if o = 0x030 then some (w32 (c.prefNow % 4))
  else if o = 0x034 then some (w32 b.lp.code)
  else if o = 0x038 then some (w32 b.shellAddr)
  else if o = 0x03C then some b.shellRead'.1
  else if o = 0x044 then some (w32 b.qspiAddr)
  else if o = 0x048 then (if c.tornAt b.qspiAddr then none else some b.qspiRead.1)
  else some 0

/-- Age of a heartbeat in µs: within its 100 µs while it beats, growing once it has stopped (R35). -/
def hbWord (beats : Bool) (last now : Rt) : Nat := if beats then (rtDiff now last).toNat % 400000 / 4000 else hbAge last now

/-- HEALTH. -/
def Core.rdHealth (c : Core) (o : Nat) : Option W32 :=
  let h := c.health
  if o = 0x000 then some (h.statWord c.led.led.tested ||| c.postBits pgHealth)
  else if o = 0x004 then some (h.supWord false)
  else if o = 0x008 then some (h.supWord true)
  else if o = 0x00C then some (w32 h.sel)
  else if o = 0x010 then some h.supV
  else if o = 0x014 then some h.tjWord
  else if o = 0x018 then some (c.stagedOr (pgHealth + 0x18) h.therm)
  else if o = 0x020 then some (halves h.braceN h.braceMax)
  else if o = 0x024 then some h.late
  else if o = 0x030 then some (halves h.rho h.rhoMax)
  else if o = 0x034 then some (c.stagedOr (pgHealth + 0x34) h.margin)
  else if o = 0x038 then some (w32 (h.below % 16 + 16 * (h.belowEp % 16)))
  else if 0x040 ≤ o ∧ o < 0x058 then some (c.err.reg.look ((o - 0x040) / 4) 0)
  else if 0x060 ≤ o ∧ o < 0x078 then some (w32 (c.err.corr.look ((o - 0x060) / 4) 0))
  else if o = 0x080 then
    some (w32 (h.abandon.look 0 0 % 256 + 256 * (h.abandon.look 1 0 % 256) + 65536 * (h.abandon.look 2 0 % 256)))
  else if o = 0x084 then some (halves h.scrubCor h.scrubUnc)
  else if o = 0x088 then some h.lost
  else if o = 0x08C then some (halves (hbWord (!c.err.cemStopped) h.hbCem c.now) (hbWord (!c.iso 5 6) h.hbSup c.now))
  else some 0

/-- The word at LEDGER_ADDR; the regions whose layout the manual does not state are open. -/
def Core.ledgerAt (c : Core) : Option W32 :=
  let a := c.led.addr
  if a < 0x2000 then none else some (c.led.led.word a 0)

/-- LEDGER. -/
def Core.rdLedger (c : Core) (o : Nat) : Option W32 :=
  let l := c.led
  if o = 0x000 then some (l.statWord ||| c.postBits pgLed)
  else if o = 0x004 then some (w32 l.addr)
  else if o = 0x008 then c.ledgerAt
  else if o = 0x00C then some l.fhWord
  else if o = 0x010 then some l.linTgt
  else if o = 0x014 then some l.linVal
  else if o = 0x018 then some l.linStat
  else if o = 0x01C then some (w32 l.led.pending.length)
  else if o = 0x020 then some l.errWord
  else if o = 0x024 then some (w32 (l.scrub % 64))
  else some 0

/-- MAINT. -/
def Core.rdMaint (c : Core) (o : Nat) : Option W32 :=
  let m := c.maint
  if o = 0x000 then some m.statWord
  else if o = 0x004 then some m.locksWord
  else if o = 0x008 then some m.target
  else if o = 0x00C then some m.retestWord
  else if o = 0x010 then some (w32 (c.led.led.frNext % 256 + 256 * (c.led.led.frHeld.length % 256) + 65536 * (m.frLost % 65536)))
  else some 0

/-! ### LINK -/

/-- A word of the per-cycle image, or of its equivalent outside a view: the newest complete cycle's, 0 before there is one
(R556). -/
def Core.imageRead (c : Core) (p : Path) (f : CycleImage → W32) : Option W32 :=
  if (c.viewOf p).isOpen then (c.viewImage p).map f
  else some (match c.cycle.images.head? with | some i => f i | none => 0)

/-- A LINK segment page. -/
def Core.rdSeg (c : Core) (p : Path) (s o : Nat) : Option W32 :=
  let g := c.sg s
  let q := c.sl s
  let base := pgSeg + 0x1000 * s
  let pos := fld (c.selOf p (base + 0x20)) 5 0
  let k := g.node pos
  if o = 0x000 then some (c.stagedOr base g.ctl)
  else if o = 0x004 then some g.statWord
  else if o = 0x008 then some g.breakWord
  else if o = 0x00C then some (w32i (g.dloop2 / 2))
  else if o = 0x010 then some (w32 g.admitMap)
  else if o = 0x014 then some (w32 (g.admitMap / 0x100000000))
  else if o = 0x018 then some (c.refuseHead s)
  else if o = 0x020 then some (c.selOf p (base + 0x20))
  else if o = 0x024 then some (w32i k.dA.rt)
  else if o = 0x028 then some (w32i k.dB.rt)
  else if o = 0x02C then some (w32i k.fk)
  else if o = 0x030 then some k.word
  else if o = 0x034 then some g.dupmis
  else if 0x100 ≤ o ∧ o < 0x160 then c.imageRead p fun i => i.link.look (s * 0x1000 + o) 0
  else if o = 0x160 then some (c.is s).brimCtl
  else if o = 0x164 then some (c.is s).mbxCtl
  else if o = 0x168 then some q.grant
  else if o = 0x16C then some q.ret
  else if o = 0x170 then some q.tmo
  else if o = 0x174 then some q.credStat
  else if o = 0x180 then some (w32i ((q.portOf pos 0).mean % 65536 + 65536 * ((q.portOf pos 1).mean % 65536)))
  else if o = 0x184 then some (w32i ((q.portOf pos 0).adj % 65536 + 65536 * ((q.portOf pos 1).adj % 65536)))
  else if o = 0x190 then some q.suspect.word
  else some 0

/-- LINK common. TAKEOVER_CYC 16 does not fit its field of 4 bits and reads 0: DESIGN CHOICE (R134; log entry 66). -/
def Core.rdRole (c : Core) (o : Nat) : Option W32 :=
  let r := c.role
  if o = 0x000 then some (w32 ((if c.standby then 6 else r.role.code) + 256 * b2n r.takenOver))
  else if o = 0x004 then some (w32 (c.image.role.prio % 16 + 16 * b2n c.image.role.capable + 256 * (c.image.role.takeoverCyc % 16)))
  else if o = 0x008 then some (lo32 c.boot.uid)
  else if o = 0x00C then some (hi32 c.boot.uid)
  else match r.peer with
    | none => some 0
    | some m =>
      if o = 0x010 then some (lo32 m.uid)
      else if o = 0x014 then some (hi32 m.uid)
      else if o = 0x018 then some m.chk
      else if o = 0x01C then some (w32 (m.prio % 16 + 16 * (m.state % 8) + 128 + 256 * (m.segs % 16)))
      else some 0

/-- A LINK port page; PRBSERR is open while its checker counts the line's errors (log entry 67). -/
def Core.rdPort (c : Core) (n o : Nat) : Option W32 :=
  let x := c.po n
  let page := pgPort + 0x1000 * n
  if o = 0x000 then some x.ctl
  else if o = 0x004 then some (w32 (c.is (n / 2)).phy.code)
  else if o = 0x008 then
    some (w32 (b2n x.link + 2 * b2n x.lock + 4 * b2n x.trained + 8 * b2n x.modPresent + 16 * b2n x.modLos
      + 256 * b2n (c.busy page) + 512 * b2n (c.wdropped page)))
  else if o = 0x00C then some x.downs
  else if o = 0x010 then some x.rxfrm
  else if o = 0x014 then some x.rxcrc
  else if o = 0x018 then some x.blkerr
  else if o = 0x01C then some x.txeq
  else if o = 0x020 then (if c.checking n then none else some x.prbserr)
  else some 0

/-! ### TIME -/

/-- TIME. -/
def Core.rdTime (c : Core) (o : Nat) : Option W32 :=
  let t := c.time
  let i := c.image.time
  let th := BitVec.ofInt 64 t.thetaNow
  if o = 0x000 then some (t.statWord ||| c.postBits pgTime)
  else if o = 0x004 then some (c.stagedOr (pgTime + 4) t.rtCtl)
  else if o = 0x008 then some (c.stagedOr (pgTime + 8) t.rtCtl2)
  else if o = 0x010 then some (lo32 t.ring.hostRead)
  else if o = 0x014 then some (hi32 t.ring.hostRead)
  else if o = 0x018 then some (w32i t.ring.rho)
  else if o = 0x01C then some (satReg t.residual)
  else if o = 0x020 then some (lo32 th)
  else if o = 0x024 then some (hi32 th)
  else if o = 0x028 then some (lo32 (t.domBase 1).hostRead)
  else if o = 0x02C then some (hi32 (t.domBase 1).hostRead)
  else if o = 0x030 then some (lo32 (t.domBase 2).hostRead)
  else if o = 0x034 then some (hi32 (t.domBase 2).hostRead)
  else if o = 0x040 then some i.domA
  else if o = 0x044 then some i.domB
  else if o = 0x048 then some t.ptpA.statWord
  else if o = 0x04C then some t.ptpB.statWord
  else if o = 0x050 then some (satReg t.ptpA.offset)
  else if o = 0x054 then some (satReg t.ptpB.offset)
  else if o = 0x058 then some (satReg t.ptpA.mpd)
  else if o = 0x05C then some (satReg t.ptpB.mpd)
  else if o = 0x060 then some i.latA
  else if o = 0x064 then some i.latB
  else if o = 0x068 then some (halves t.ptpErrA t.ptpErrB)
  else if o = 0x06C then some i.asym
  else if o = 0x070 then some t.capPop.2
  else if o = 0x074 then some t.capHi
  else if o = 0x078 then some t.capSrc
  else if o = 0x07C then some (w32 (t.caps.length % 128 + 65536 * (t.capOvf % 65536)))
  else if o = 0x080 then some t.trgCtl
  else if o = 0x084 then some t.nodeDev
  else some 0

/-! ### COMPUTE -/

/-- DISPATCH. -/
def Core.rdDisp (c : Core) (p : Path) (o : Nat) : Option W32 :=
  let d := c.disp
  if o = 0x000 then
    some (w32 (bitsOf 4 (fun f => (c.flow f).late) + 256 * b2n d.measWin + 65536 * (d.meas.length % 128)))
  else if o = 0x004 then some (c.stagedOr (pgDisp + 4) d.slackThr)
  else if 0x010 ≤ o ∧ o < 0x030 then c.imageRead p fun i => i.disp.look o 0
  else if o = 0x030 then some d.profLate
  else if o = 0x034 then some d.measDrop
  else if o = 0x038 then some d.depthWord
  else if 0x040 ≤ o ∧ o < 0x080 then
    let f := c.flow ((o - 0x040) / 0x10)
    if o % 0x10 = 0 then
      (if (c.viewOf p).isOpen then (c.viewImage p).map fun i => i.disp.look o 0xFFFF_FFFF
       else some (match c.cycle.images.head? with | some i => i.disp.look o 0xFFFF_FFFF | none => 0xFFFF_FFFF))
    else if o % 0x10 = 4 then some f.slackMin
    else if o % 0x10 = 8 then some f.slackEmin
    else some f.lates
  else if o = 0x090 then some (c.selOf p (pgDisp + 0x90))
  else if o = 0x094 then some (d.last.look (fld (c.selOf p (pgDisp + 0x90)) 7 0) {}).word
  else if o = 0x0A0 then some (c.stagedOr (pgDisp + 0xA0) d.trCtl)
  else if o = 0x0A4 then some (c.stagedOr (pgDisp + 0xA4) d.trCyc)
  else if o = 0x0A8 then some d.trStat
  else if o = 0x0AC then some d.trPop.2
  else some 0

/-- ENGINE, global page. -/
def Core.rdEng (c : Core) (p : Path) (o : Nat) : Option W32 :=
  let e := c.eng
  let a := fld (c.selOf p (pgEng + 0x10)) 7 0
  let x := c.ax a
  if o = 0x000 then some (w32 (bitsOf 32 fun u => c.iso 2 (u + 1)))
  else if o = 0x004 then some (w32 (c.image.reserve % 8 + 256 * (c.boot.head.libRev.toNat / 256)))
  else if o = 0x008 then some (w32 (b2n e.cfgImg + 256 * b2n (e.axis.any fun y => y.2.pend.isSome)))
  else if o = 0x010 then some (w32 a)
  else if o = 0x014 then
    some (w32 (x.state.code + 16 * (x.cause % 16) + 256 * (x.pcode % 256) + 65536 * (x.flags % 1024)
      + 0x10000000 * b2n (c.cf a .lawPaired = 1)))
  else if o = 0x018 then some (halves (c.imgAx a).worst x.beats)
  else if o = 0x01C then some e.cmdStat
  else if 0x020 ≤ o ∧ o < 0x040 then some (e.cfgRef.extractLsb' ((o - 0x020) * 8) 32)
  else if o = 0x044 then some e.refInfo
  else if o = 0x050 then some e.misms
  else if o = 0x054 then some e.plates
  else if o = 0x058 then some e.satCnt
  else if o = 0x05C then some e.guardCnt
  else if o = 0x060 then some e.feCnt
  else if o = 0x064 then some e.lawFlt
  else some 0

/-- ENGINE, per-engine page. -/
def Core.rdEngine (c : Core) (o : Nat) : Option W32 :=
  let u := o / 0x80
  let e := c.eng.eng.look u {}
  let r := o % 0x80
  if r = 0x00 then
    some (w32 ((if c.iso 2 (u + 1) then 2 else b2n e.run) + 4 * (u / 8) + 256 * (e.axis % 256)
      + 65536 * (b2n e.s + 2 * b2n e.hs + 4 * b2n e.dz) + 0x100000 * b2n e.paired))
  else if r = 0x04 then some e.tasks
  else if r = 0x08 then some e.total
  else if r = 0x0C then some e.mism
  else if r = 0x10 then some (halves e.eccProg e.eccData)
  else some 0

/-- SIGPROC. -/
def Core.rdSig (c : Core) (o : Nat) : Option W32 :=
  let s := c.sig
  if o = 0x000 then some (w32 (bitsOf 8 fun u => c.iso 2 (33 + u)))
  else if o = 0x004 then some (w32 (256 * (c.boot.head.libRev.toNat % 256)))
  else if o = 0x008 then some c.image.spHome
  else if o = 0x00C then some c.image.spBackup
  else if o = 0x010 then some s.satCnt
  else if o = 0x014 then some s.fltCnt
  else if o = 0x018 then some s.fltInfo
  else if o = 0x01C then some s.peakOvf
  else if o = 0x020 then some s.hSat
  else if o = 0x024 then some (s.moved.zeroExtend 32)
  else if 0x400 ≤ o ∧ o < 0x800 then
    let u := (o - 0x400) / 0x80
    let q := s.proc.look u {}
    let r := o % 0x80
    if r = 0x00 then some (w32 (q.statWord + 0x1000000 * bitsOf 8 fun n => c.pairHome n = u))
    else if r = 0x04 then some q.tasks
    else if r = 0x08 then some q.total
    else if r = 0x0C then some q.peaks
    else if r = 0x10 then some (w32 (q.lat % 65536))
    else if r = 0x14 then some (halves q.eccProg q.eccData)
    else some 0
  else some 0

/-- COMMUTE_AX_STAT (R297): CMT_FLAGS of the last computed cycle, the alignment and the curve sub-state. -/
def FieldAxis.statWord (x : FieldAxis) (curve : Bool) : W32 :=
  let sub := if curve then max 1 x.curve.code else 0
  w32 (x.flagsLast.toNat + 256 * x.align.step.code + 4096 * (x.align.reason % 16) + 65536 * sub + 0x1000000 * min 15 x.isumRun)

/-- COMMUTE. -/
def Core.rdCmt (c : Core) (p : Path) (o : Nat) : Option W32 :=
  let a := fld (c.selOf p (pgCmt + 0x10)) 7 0
  let x := c.fa a
  let y := c.ob a
  if o = 0x000 then some (w32 (bitsOf 8 fun u => c.iso 2 (41 + u)))
  else if o = 0x004 then some c.field.isumCnt
  else if o = 0x008 then some c.field.ovmCnt
  else if o = 0x00C then some c.field.dsatCnt
  else if o = 0x010 then some (w32 a)
  else if o = 0x014 then some (x.statWord (c.cf a .cmtSrc = 2))
  else if o = 0x018 then some (w32 (ang16 (x.offset (c.cf a)) + 65536 * (x.found % 65536)))
  else if o = 0x01C then some (match x.thidx with | some v => w32 (v % 65536 + 0x80000000) | none => 0)
  else if o = 0x020 then some y.obsWord
  else if o = 0x024 then some y.obswWord
  else if o = 0x028 then some y.keWord
  else if o = 0x02C then some c.obsCnt
  else if 0x100 ≤ o ∧ o < 0x120 then some (c.field.pass.look ((o - 0x100) / 4) 0)
  else some 0

/-- A virtual master runs: a plan is in progress, or its speed is not 0. -/
def Vm.runs (v : Vm) (c : W32) : Bool :=
  match v.plan with
  | some q => !q.past c || (v.eval c).2.1 != 0
  | none => false

/-- PROFILE. PROFILE_LOAD measures time that the model does not hold: an open value. -/
def Core.rdProf (c : Core) (p : Path) (o : Nat) : Option W32 :=
  let f := c.prof
  let x := c.pa (fld (c.selOf p (pgProf + 0x10)) 7 0)
  let ofs := BitVec.ofInt 64 (x.offsets c.cycle.cycle).2.1
  let g := BitVec.ofInt 64 x.gear.g
  let v := f.vm.look (fld (c.selOf p (pgProf + 0x60)) 2 0) {}
  let vp := v.eval c.cycle.cycle
  let pos := BitVec.ofInt 64 (vp.1 / 65536)
  if o = 0x000 then
    some (w32 (bitsOf 4 (fun u => c.iso 2 (49 + u)) + 256 * bitsOf 8 (fun n => (f.vm.look n {}).runs c.cycle.cycle) + 65536 * b2n f.tblImg))
  else if o = 0x004 then none
  else if o = 0x010 then some (c.selOf p (pgProf + 0x10))
  else if o = 0x014 then some (x.statWord c.cycle.cycle)
  else if o = 0x018 then some (w32i x.gear.n)
  else if o = 0x01C then some (w32 x.gear.r)
  else if o = 0x020 then some (lo32 g)
  else if o = 0x024 then some (hi32 g)
  else if o = 0x028 then some (lo32 ofs)
  else if o = 0x02C then some (hi32 ofs &&& 0xFFFF)
  else if o = 0x030 then some x.org
  else if o = 0x034 then some (w32i (satS 32 x.lead))
  else if o = 0x03C then some f.cmdStat
  else if 0x044 ≤ o ∧ o < 0x054 then some (f.arg.look ((o - 0x044) / 4) 0)
  else if o = 0x060 then some (c.selOf p (pgProf + 0x60))
  else if o = 0x064 then some (lo32 pos)
  else if o = 0x068 then some (hi32 pos)
  else if o = 0x06C then some (w32i vp.2.1)
  else if o = 0x070 then some f.knCnt
  else if o = 0x074 then some f.mlostCnt
  else if o = 0x080 then some f.tblAddr
  else if o = 0x084 then some f.tblWord
  else if o = 0x088 then some (w32 (b2n f.upd + 2 * b2n f.refused + 256 * b2n (!f.bad.isEmpty)))
  else some 0

/-! ### SENSE and GUARD -/

/-- CUFF. -/
def Core.rdCuff (c : Core) (o : Nat) : Option W32 :=
  let x := c.cuff
  if o = 0x000 then some (w32 (bitsOf 16 fun n => (c.ch n).suspect))
  else if o = 0x004 then some (w32 (bitsOf 16 fun n => (c.ch n).linef))
  else if o = 0x008 then some (x.cfgref.zeroExtend 32)
  else if 0x010 ≤ o ∧ o < 0x020 then
    some (halves (x.rfdDbl.look ((o - 0x010) / 4) 0) (x.rfdAnom.look ((o - 0x010) / 4) 0))
  else if 0x400 ≤ o ∧ o < 0xC00 then
    let n := (o - 0x400) / 0x80
    if o % 0x80 = 0x38 then some (c.ch n).latchPop.2
    else some (c.stagedOr (pgCuff + o) ((c.ch n).read (o % 0x80) c.cycle.rtS c.len))
  else some 0

/-- GAUNTLET. -/
def Core.rdGs (c : Core) (p : Path) (o : Nat) : Option W32 :=
  let g := c.gs
  let w := c.selOf p (pgGs + 0x20)
  let a := fld w 7 0
  if o = 0x000 then some (g.statWord (g.transition c.image.gs c.tcyc) ||| c.postBits pgGs)
  else if o = 0x004 then some c.image.gs.schk
  else if o = 0x008 then some g.cchk
  else if o = 0x00C then some (w32 (g.confN % 65536 + 65536 * (g.confEpoch % 4096)))
  else if o = 0x010 then some g.sinWord
  else if o = 0x014 then some g.sinFltWord
  else if o = 0x018 then some g.soutWord
  else if o = 0x01C then some (g.sgWord c.image.gs)
  else if o = 0x020 then some w
  else if o = 0x024 then some (g.axWord c.image.gs a (c.laneOk a) (c.ax a).state)
  else if o = 0x028 then some (g.node.look (fld w 25 24 * 64 + fld w 21 16) {}).word
  else if o = 0x02C then some g.last
  else if o = 0x030 then some (halves g.viol g.wdExp)
  else if o = 0x034 then some g.xcnt
  else some 0

/-- A host-written VISOR register's offset. -/
def visCfgOff (o : Nat) : Bool :=
  (decide (0x004 ≤ o) && decide (o < 0x02C)) || (decide (0x080 ≤ o) && decide (o < 0x0C0)) || (decide (0x100 ≤ o) && decide (o < 0x160))

/-- VISOR; a word of isolated capture memory is open. -/
def Core.rdVis (c : Core) (p : Path) (o : Nat) : Option W32 :=
  let v := c.vis
  let a := (c.selOf p (pgVis + 0x48)).toNat
  if o = 0x000 then some (v.statWord c.vcfg)
  else if visCfgOff o then some (c.stagedOr (pgVis + o) (v.cfg (fun o => c.image.visor.look o 0) o))
  else if o = 0x030 then some v.lastRec
  else if o = 0x034 then some v.missed
  else if o = 0x038 then some v.dead
  else if o = 0x03C then some v.deadMax
  else if o = 0x040 then some (lo32 v.done)
  else if o = 0x044 then some (hi32 v.done)
  else if o = 0x048 then some (c.selOf p (pgVis + 0x48))
  else if o = 0x04C then (if v.memIso then none else some (memWord 0 v.mem a))
  else some 0

/-! ### HOSTIF and EVENTS -/

/-- HOSTIF_CFG in force: the defaults of R585 until EV_BOOT_DONE (R578). -/
def Core.hostCfg (c : Core) : W32 := if c.running then c.image.hostCfg else 0x70

/-- Open sessions of a plant port. -/
def HostState.sessions (h : HostState) (port : Nat) : Nat := countP' (fun e => e.1 / 16 = port) h.qmp

/-- HOSTIF but for the MSI-X structures. -/
def Core.rdHost (c : Core) (p : Path) (o : Nat) : Option W32 :=
  let h := c.host
  if o = 0x000 then some (w32 (b2n h.plink + 2 * (h.pspeed % 4) + 8 * (h.pwidth % 4) + 32 * b2n h.d3))
  else if o = 0x004 then some c.hostCfg
  else if o = 0x008 then
    some (w32 (h.gfail.toNat + 256 * (h.grsn.1 % 16) + 4096 * (h.grsn.2 % 16) + 65536 * (h.gcount % 65536)))
  else if o = 0x00C then some (halves h.urs h.discards)
  else if o = 0x010 then some (halves h.frames h.lates)
  else if o = 0x014 then
    some (w32 (min 255 (countP' (fun e => !e.2.epoch) h.stage) + 256 * min 255 (countP' (fun e => e.2.epoch) h.stage)
      + 65536 * min 255 c.led.led.pending.length))
  else if o = 0x018 then some (w32 p.code)
  else if o = 0x020 then some (w32 (h.sessions 0 % 16 + 16 * (h.sessions 1 % 16)))
  else if o = 0x024 then some (halves h.rx.1 h.rx.2)
  else if o = 0x028 then some (halves h.auth.1 h.auth.2)
  else if o = 0x02C then some (halves h.drop.1 h.drop.2)
  else if o = 0x030 then some (if c.running then c.image.qmpCfg else 0)
  else some 0

/-- The log entry's INFO word (R573). -/
def LogEntry.info (e : LogEntry) : W32 := w32 (e.num % 256 + 65536 * e.seq.toNat + 0x80000000)

/-- EVENTS. -/
def Chip.rdEv (x : Chip) (p : Path) (o : Nat) : Option W32 :=
  let u := x.ev
  let sh := x.core.host.shadow.look p.key {}
  let iso := x.core.iso 5 2
  if o = 0x000 then some (w32 (u.log.length % 2048 + 65536 * b2n (u.ovf != 0)))
  else if o = 0x004 then some u.raised
  else if o = 0x008 then some u.logged
  else if o = 0x00C then some u.ovf
  else if o = 0x010 then some (match u.log with | e :: _ => lo32 e.rt | [] => 0)
  else if o = 0x014 then some sh.rthi
  else if o = 0x018 then some sh.info
  else if o = 0x01C then some sh.detail
  else if o = 0x020 then some (u.vec.zeroExtend 32)
  else if o = 0x024 then some (w32 (bitsOf 16 fun v => u.active v))
  else if o = 0x028 then some (w32 (if iso then 0 else bitsOf 4 fun n => u.pin n))
  else if 0x040 ≤ o ∧ o < 0x060 then some (u.pend.extractLsb' ((o - 0x040) * 8) 32)
  else if 0x400 ≤ o ∧ o < 0x800 then some (u.routeOf ((o - 0x400) / 4))
  else some 0

/-- HOSTIF with the MSI-X table and PBA. -/
def Chip.rdHostif (x : Chip) (p : Path) (o : Nat) : Option W32 :=
  if 0x800 ≤ o ∧ o < 0x900 then some (x.ev.msixWord ((o - 0x800) / 4))
  else if o = 0x900 then some (x.ev.pba.zeroExtend 32)
  else x.core.rdHost p o

/-! ### BAR0 and BAR2 -/

/-- The guarded registers, by BAR0 offset; each has its complement 0x80 above (R84 and the block maps). -/
def guarded (a : Nat) : Bool :=
  a = 0x100 || a = 0x104 || a = pgBoot + 0x40 || a = pgHealth + 0x100 || a = pgLed + 0x40 || a = pgEv + 0x100 || a = pgMaint + 0x40
    || a = pgSeg + 0x40 || a = pgSeg + 0x1040 || a = pgSeg + 0x2040 || a = pgSeg + 0x3040 || a = 0x14040
    || a = pgTime + 0x100 || a = pgDisp + 0x100 || a = pgEng + 0x40 || a = pgCmt + 0x40 || a = pgProf + 0x40 || a = pgCuff + 0x40
    || a = pgGs + 0x40 || a = pgGs + 0x44 || a = pgVis + 0x180

/-- The complement of a guarded register. -/
def guardTwin (a : Nat) : Bool := decide (0x80 ≤ a) && guarded (a - 0x80)

/-- A register as a path reads it, before any side effect of the read. -/
def Chip.rd (x : Chip) (p : Path) (addr : Nat) : Option W32 :=
  let c := x.core
  let a := decodeAddr addr
  let o := a % 0x1000
  let page := a - o
  if !c.alive page then some 0
  else if guarded a then some 0
  else if guardTwin a then some 0xFFFF_FFFF
  else if page = 0 then c.rdChip p o
  else if page = pgBoot then c.rdBoot o
  else if page = pgHealth then c.rdHealth o
  else if page = pgLed then c.rdLedger o
  else if page = pgEv then x.rdEv p o
  else if page = pgMaint then c.rdMaint o
  else if pgSeg ≤ page ∧ page < 0x14000 then c.rdSeg p ((page - pgSeg) / 0x1000) o
  else if page = 0x14000 then c.rdRole o
  else if pgPort ≤ page ∧ page < pgPort + 0x8000 then c.rdPort ((page - pgPort) / 0x1000) o
  else if page = pgTime then c.rdTime o
  else if page = pgDisp then c.rdDisp p o
  else if page = pgEng then c.rdEng p o
  else if page = pgEng + 0x1000 then c.rdEngine o
  else if page = pgSig then c.rdSig o
  else if page = pgCmt then c.rdCmt p o
  else if page = pgProf then c.rdProf p o
  else if page = pgCuff then c.rdCuff o
  else if page = pgGs then c.rdGs p o
  else if page = pgVis then c.rdVis p o
  else if page = pgHost then x.rdHostif p o
  else some 0

/-- A node snapshot word: segment and position by offset from 0x2000 (R557). -/
def Core.snapNodeWord (c : Core) (k : Nat) : W32 :=
  let bytes := c.cycle.snapNode.look (k / 0xC00 * 64 + k % 0xC00 / 0x40) []
  let b := fun (n : Nat) => bytes.getD (k % 0x40 / 4 * 4 + n) 0
  b 3 ++ b 2 ++ b 1 ++ b 0

/-- A word of a per-cycle area: 0x1A0 to 0x3FF read 0 (R558). -/
def areaOf (t : AxisWords) (a off : Nat) : W32 := if 0x1A0 ≤ off ∧ off < 0x400 then 0 else (t.look a []).look off 0

/-- A word of BAR2 (R557, R559, R560); open with the mirror isolated. -/
def Core.rdBar2 (c : Core) (p : Path) (addr : Nat) : Option W32 :=
  let k := addr % 0x1000000 / 4 * 4
  let a := k / 0x10000
  let o := k % 0x10000
  if c.standby || !c.running then some 0
  else if c.iso 5 3 then none
  else if o < 0x800 then c.imageRead p fun i => areaOf i.words a o
  else if o < 0x1000 then some (match c.host.stage.look? (bar2Key + k) with | some s => s.val | none => c.cfgWord a o)
  else if o < 0x1800 then some (areaOf c.cycle.snap a (o - 0x1000))
  else if o < 0x2000 then some (areaOf c.words a (o - 0x1800))
  else if a = 0 ∧ o < 0x5000 then some (c.snapNodeWord (o - 0x2000))
  else some 0

end Sys2Proof.Machine
end

