-- ==== Sys2Proof/Machine/HostWrite.lean ====
section
/-! DEFINITION. Machine/HostWrite.lean: host accesses: what a read does besides its value, writes by access and Apply class,
posted writes, guarded pairs, the mirror's writes, and the commands behind the guarded registers (R354, R357 to R360, R513,
R522, R545 to R560, R563 to R566, R569 to R575, R595, R604 to R607, R634, R636). -/

namespace Sys2Proof.Machine

/-! ### The chip as one: events and core commands -/

/-- Apply a function to the parts. -/
def Chip.onCore (x : Chip) (f : Core → Core) : Chip := { x with core := f x.core }

/-- One event reaches the event unit, and the Visor unless its rate limit suppresses it (R524, R561, R665). -/
def Chip.raise1 (x : Chip) (e : Ev) : Chip :=
  if x.ev.suppressed x.core.now x.core.tcyc e then x
  else
    { ev := x.ev.raise (x.core.iso 5 2) x.core.now x.core.tcyc e
      core := { x.core with vis := x.core.vis.event x.core.vcfg x.core.now e.num e.detail } }

/-- The end of a command: lost entries of the log are marked (R571), and the waiting events are raised, in ascending
number (R564). -/
def Chip.commit (x : Chip) : Chip :=
  (sortEv x.core.evq).foldl Chip.raise1
    { core := { x.core with evq := [], lostLog := [] }, ev := x.core.lostLog.foldl (fun u e => u.lose e.1 e.2) x.ev }

/-! ### Errors of the paths (R545 to R547, R563) -/

/-- EV_PCIE_ERROR or EV_SPI_ERROR of a path. -/
def pathError (p : Path) : List Ev :=
  match p with
  | .pcie => [(evHost EvNo.pcieError 0).limited 0]
  | .spi => [(evHost EvNo.spiError 1).limited 1]
  | .qmp _ _ => []

/-- An SPI frame error: counted and raised. -/
def Core.spiFrameErr (c : Core) : Core :=
  { c with host := { c.host with frames := incWrap 16 c.host.frames, spiFrame := true } }.raise (pathError .spi)

/-- A discarded PCIe write: counted and raised. -/
def Core.pcieDiscard (c : Core) : Core :=
  { c with host := { c.host with discards := incWrap 16 c.host.discards } }.raise (pathError .pcie)

/-- A PCIe read completed with UR: counted and raised. -/
def Core.pcieUr (c : Core) : Core :=
  ({ c with host := { c.host with urs := incWrap 16 c.host.urs } }.raise (pathError .pcie)).out .unsupported

/-! ### Axis commands behind the guarded registers -/

/-- GAUNTLET_REQ. -/
def Core.gsReq (c : Core) (w : W32) : Core :=
  let mask := fld w 7 0
  match fld w 11 8 with
  | 1 => c.gsRequest mask 2
  | 2 => c.gsRequest mask 1
  | 3 => c.gsRequest mask 0
  | 4 => c.proofTest
  | _ => c.gsRefuse 2

/-- VISOR_CMD. -/
def Core.visCmd (c : Core) (w : W32) : Core :=
  match fld w 3 0 with
  | 1 => c.visArm
  | 2 => c.visDisarm
  | 3 => c.visForce
  | 4 => c.visClr
  | _ => c

/-- COMMUTE_CMD. -/
def Core.cmtCmd (c : Core) (w : W32) : Core :=
  match fld w 31 28 with
  | 1 => c.alignCommand (fld w 7 0)
  | 2 => c.clrAlign (fld w 7 0)
  | _ => c

/-- CLR_SUSPECT of a channel, or of a remote axis (R246, R261). -/
def Core.clrSuspectCmd (c : Core) (target : Nat) (remote : Bool) : Core :=
  if remote then
    match c.source target with
    | .remote _ => if c.hasAx target then c.clearSusp target else c
    | .channel _ => c
  else if target < 16 then
    let o := (c.ch target).clearSuspect target (c.chanAxis target)
    let c := (c.putCh target o.ch).raise o.evs
    match c.chanAxis target with
    | some a => if o.fall then c.suspFell a else c
    | none => c
  else c

/-- SET_REF clears IDXREF (R243, R261). -/
def Core.setRefCmd (c : Core) (target : Nat) (remote : Bool) : Core :=
  if remote then
    match c.source target with
    | .remote _ =>
      if c.hasAx target then
        { c with cuff := { c.cuff with axis := c.cuff.axis.upd target {} fun y => { y with remote := { y.remote with drift := { y.remote.drift with idxref := false } } } } }
      else c
    | .channel _ => c
  else if target < 16 then c.putCh target { (c.ch target) with drift := { (c.ch target).drift with idxref := false } }
  else c

/-- CUFF_CMD. -/
def Core.cuffCmd (c : Core) (w : W32) : Core :=
  match fld w 31 28 with
  | 1 => c.clrSuspectCmd (fld w 7 0) (bit w 8)
  | 2 => c.setRefCmd (fld w 7 0) (bit w 8)
  | _ => c

/-- TIME_RT_CMD. -/
def Core.timeCmd (c : Core) (w : W32) : Core :=
  match fld w 2 0 with
  | 1 => c.putRing (c.time.cmdSelect 1)
  | 2 => c.putRing (c.time.cmdSelect 2)
  | 3 => c.putRing c.time.cmdHold
  | 4 => c.putRing (c.time.cmdRelease, [])
  | 5 => c.putRing c.time.cmdAlignNow
  | _ => c

/-- BOOT_CMD. -/
def Core.bootCmd (c : Core) (w : W32) (port : Nat) : Core :=
  match fld w 3 0 with
  | 1 => c.hostResetCmd
  | 2 => c.parkCmd
  | 3 => c.unparkCmd
  | 4 => c.standbyCmd
  | 5 => c.wakeCmd port
  | 6 => c.flashCmd port true
  | 7 => c.flashCmd port false
  | _ => c.bootInvalid

/-- LEDGER_CMD. -/
def Core.ledCmd (c : Core) (w : W32) : Core :=
  match fld w 3 0 with
  | 1 => c.linStoreCmd
  | 2 => c.linDeleteCmd
  | 3 => c.linClearCmd
  | 4 => c.pendClearCmd
  | _ => { c with led := { c.led with reason := 7 } }

/-- HEALTH_CMD. -/
def Core.healthCmd (c : Core) (w : W32) : Core :=
  match fld w 3 0 with
  | 1 => c.clrMinCmd
  | 2 => c.frSnapCmd
  | _ => c

/-- MAINT_CMD. -/
def Core.maintCmd (c : Core) (w : W32) (port : Nat) : Core :=
  match fld w 3 0 with
  | 3 => c.qspiUpdateCmd port
  | 6 => c.retestCmd port
  | 7 => c.frExportCmd port
  | 8 => c.maintEnd
  | k => c.maintInvalid k

/-- CLR_LOG (R573). -/
def EventUnit.clrLog (u : EventUnit) : EventUnit := { u with log := [], logged := u.raised - u.ovf }

/-- CLR_COUNT (R573). -/
def EventUnit.clrCount (u : EventUnit) : EventUnit := { u with raised := 0, logged := 0, ovf := 0, seq := 0 }

/-- EVENTS_CMD. -/
def Chip.evCmd (x : Chip) (w : W32) : Chip :=
  match fld w 3 0 with
  | 1 => { x with ev := x.ev.clrLog }
  | 2 => { x with ev := x.ev.clrCount }
  | _ => x

/-- The effect of a completed guarded write (R553). -/
def Chip.guardedEffect (x : Chip) (p : Path) (a : Nat) (w : W32) : Chip :=
  if a = pgEv + 0x100 then x.evCmd w
  else x.onCore fun c =>
    if a = 0x100 then c.modeReq w
    else if a = 0x104 then c.gopReq w p.code
    else if a = pgBoot + 0x40 then c.bootCmd w p.code
    else if a = pgHealth + 0x100 then c.healthCmd w
    else if a = pgLed + 0x40 then c.ledCmd w
    else if a = pgMaint + 0x40 then c.maintCmd w p.code
    else if a = 0x14040 then c.roleCmd w
    else if a = pgTime + 0x100 then c.timeCmd w
    else if a = pgDisp + 0x100 then c.dispCmd w
    else if a = pgEng + 0x40 then c.axCommand (fld w 7 0) (fld w 31 28)
    else if a = pgCmt + 0x40 then c.cmtCmd w
    else if a = pgProf + 0x40 then c.profCmd w
    else if a = pgCuff + 0x40 then c.cuffCmd w
    else if a = pgGs + 0x40 then c.gsReq w
    else if a = pgGs + 0x44 then c.confCmd w
    else if a = pgVis + 0x180 then c.visCmd w
    else c.segCmd ((a - pgSeg) / 0x1000) w

/-! ### Posted writes (R552) -/

/-- Slow-domain blocks (R550). -/
def slowPage (page : Nat) : Bool :=
  page = pgHealth || page = pgLed || page = pgTime || page = pgGs || (decide (pgPort ≤ page) && decide (page < pgPort + 0x8000))

/-- The block that EV_WDROP names (R563). -/
def slowBlock (page : Nat) : Nat × Nat :=
  if page = pgHealth then (5, 9) else if page = pgLed then (5, 5) else if page = pgTime then (1, 0)
  else if page = pgGs then (4, 4) else (0, (page - pgPort) / 0x1000)

/-- A write dropped while BUSY is 1. -/
def Core.dropWrite (c : Core) (p : Path) (page : Nat) : Core :=
  let (r, b) := slowBlock page
  { c with host := { c.host with wdrop := insertNat page c.host.wdrop } }.raise [(evBlock EvNo.wdrop r b).limited p.ev]

/-- A write to a WP register: posted, or dropped. -/
def Core.post' (c : Core) (p : Path) (a : Nat) (w : W32) : Core :=
  let page := a - a % 0x1000
  if c.busy page then c.dropWrite p page
  else { c with host := { c.host with posted := c.host.posted.put page { write := some (a, w), path := p } } }

/-- LINK_PORT_CTL: PRBS and LOOP are ignored unless the segment is DOWN (R139). -/
def portCtl (down : Bool) (old w : W32) : W32 := if down then w &&& 0x77 else (old &&& 0x47) ||| (w &&& 0x30)

/-- Stage a write (R554). -/
def Core.stage (c : Core) (p : Path) (a : Nat) (w : W32) (epoch : Bool) : Core :=
  { c with host := { c.host with stage := c.host.stage.put a { val := w, path := p, epoch := epoch, at' := c.time.now } } }

/-- A path's selection register takes a value (R549). -/
def Core.setSel (c : Core) (p : Path) (a : Nat) (w : W32) : Core :=
  { c with host := { c.host with sel := c.host.sel.put (p.key * 0x100000 + a) w } }

/-- A write of LINK_PORT_CTL. A port put under test loses its link (R93), and the count a test pattern leaves behind is what
its checker saw, a free value (log entry 67). -/
def Core.portCtlWrite (c : Core) (n : Nat) (w : W32) : Core :=
  let ran := c.checking n
  let c := c.updPort n fun q => { q with ctl := portCtl ((c.sg (n / 2)).phase = .down) q.ctl w }
  let c := if c.testing n then c.portDown n else c
  if ran then { (c.updPort n fun q => { q with prbserr := Config.freeBits 32 c.freeCtr }) with freeCtr := c.freeCtr + 1 } else c

/-- A posted write takes effect. -/
def Core.postedEffect (c : Core) (p : Path) (a : Nat) (w : W32) : Core :=
  if a = pgHealth + 0x0C then { c with health := { c.health with sel := fld w 2 0 } }
  else if a = pgHealth + 0x18 then c.stage p a (w &&& 0xFF) true
  else if a = pgHealth + 0x34 then c.stage p a (w &&& 0x1FFFF) true
  else if a = pgLed + 0x04 then { c with led := { c.led with addr := (w &&& 0x7FFFC).toNat } }
  else if a = pgLed + 0x08 then (if c.ledgerOk then { c with led := c.led.write w } else c)
  else if a = pgLed + 0x10 then { c with led := { c.led with linTgt := w } }
  else if a = pgLed + 0x14 then { c with led := { c.led with linVal := w } }
  else if a = pgTime + 0x04 then c.stage p a (w &&& 0xFFFFFF1F) true
  else if a = pgTime + 0x08 then c.stage p a (w &&& 0xFFFFFF) true
  else if a = pgTime + 0x80 then { c with time := { c.time with trgCtl := w &&& 0xFFFF } }
  else if a = pgGs + 0x20 then c.setSel p a (w &&& 0x033F00FF)
  else
    let n := (a - pgPort) / 0x1000
    c.portCtlWrite n w

/-- POSTED_WRITE_DONE of a block: the write takes effect, and BUSY clears. -/
def Core.postedDone (c : Core) (page : Nat) : Core :=
  match c.host.posted.look? page with
  | none => c
  | some q =>
    let c := { c with host := { c.host with posted := c.host.posted.del page } }
    match q.write with
    | some (a, w) => c.postedEffect q.path a w
    | none => c

/-! ### Guarded pairs (R553) -/

/-- The window of a guarded pair. -/
abbrev guardWindow : Nat := 400000

/-- GUARDFAIL of a port, with its reason. -/
def Core.guardFail (c : Core) (p : Path) (reason : Nat) : Core :=
  let h := c.host
  { c with host := { h with
      gfail := h.gfail ||| (if p.key = 0 then 1 else 2)
      grsn := if p.key = 0 then (reason, h.grsn.2) else (h.grsn.1, reason)
      gcount := incWrap 16 h.gcount } }.raise [(evHost EvNo.guardfail p.ev reason).limited p.ev]

/-- The pending value of a port is discarded. -/
def Core.guardDrop (c : Core) (p : Path) : Core := { c with host := { c.host with guard := c.host.guard.del p.key } }

/-- A pending value whose window has passed is discarded with reason 1. -/
def Core.guardExpire (c : Core) (p : Path) : Core :=
  match c.host.guard.look? p.key with
  | none => c
  | some g => if guardWindow < rtDiff c.now g.at' then (c.guardDrop p).guardFail p 1 else c

/-- GUARD_WINDOW_EXPIRY: 100 µs pass without the complement. -/
def Core.guardTimeout (c : Core) (p : Path) : Core :=
  match c.host.guard.look? p.key with
  | none => c
  | some g =>
    let c := c.at (rtAdd g.at' guardWindow)
    (c.guardDrop p).guardFail p 1

/-- GUARDED_VALUE_WRITE at X. -/
def Core.guardValue (c : Core) (p : Path) (a : Nat) (w : W32) : Core :=
  let page := a - a % 0x1000
  if slowPage page && c.busy page then c.dropWrite p page
  else
    let c := c.guardExpire p
    let c := if (c.host.guard.look? p.key).isSome then c.guardFail p 4 else c
    { c with host := { c.host with guard := c.host.guard.put p.key { addr := a, val := w, at' := c.now } } }

/-- A completed pair takes effect; a slow-domain block is BUSY until its write is done (R552, R553). -/
def Chip.guardedNow (x : Chip) (p : Path) (a : Nat) (w : W32) : Chip :=
  let page := a - a % 0x1000
  let x := if slowPage page then
      x.onCore fun c => { c with host := { c.host with posted := c.host.posted.put page { write := none, path := p } } }
    else x
  x.guardedEffect p a w

/-- The complement write at X + 0x80. -/
def Chip.guardComplement (x : Chip) (p : Path) (a : Nat) (n : W32) : Chip :=
  let page := a - a % 0x1000
  let x := x.onCore fun c => c.guardExpire p
  match x.core.host.guard.look? p.key with
  | none =>
    if slowPage page && x.core.busy page then x.onCore fun c => c.dropWrite p page else x.onCore fun c => c.guardFail p 3
  | some g =>
    if slowPage page && x.core.busy page then
      x.onCore fun c => (if g.addr = a then c.guardDrop p else c).dropWrite p page
    else if g.addr != a then x.onCore fun c => c.guardFail p 3
    else
      let x := x.onCore fun c => c.guardDrop p
      if n = ~~~g.val then x.guardedNow p a g.val else x.onCore fun c => c.guardFail p 2

/-! ### The mirror (R357 to R360, R557 to R560) -/

/-- A refused write of an axis word (R358). -/
def Core.refuseCfg (c : Core) (p : Path) (a off reason : Nat) : Core :=
  { c with eng := { c.eng with
      cfgRef := c.eng.cfgRef ||| (1#256 <<< a)
      refInfo := w32 (a % 256 + 256 * (off % 4096) + 0x100000 * p.code + 0x1000000 * reason + 0x80000000) } }.raise
    [(evAxis EvNo.coefRefused a reason).limited a]

/-- Fields no host write reaches (R353, R359, R560). -/
def Cf.imageOnly (f : Cf) : Bool := f = .lawPaired || f = .dspPrio || f = .prUnit || f = .grDen

/-- A configuration word may be written by the host: it holds a field or an integrator's word, below the Gauntlet's words. -/
def Core.cfgWritable (c : Core) (off : Nat) : Bool :=
  decide (off < 0xF00) &&
    ((!(c.image.fieldsAt off).isEmpty && (c.image.fieldsAt off).all fun e => !e.field.imageOnly)
      || (decide (0xA80 ≤ off) && c.image.intWords.contains off))

/-- A word names a LAW_PROG address outside the entry table (R340, R359). -/
def Core.badProg (c : Core) (off : Nat) (w : W32) : Bool :=
  (c.image.fieldsAt off).any fun e => e.field = .lawProg && !c.image.leEntry.contains (e.get w).toNat

/-- The reason that refuses a configuration write, 0 where it is accepted (R357, R359). -/
def Core.cfgReason (c : Core) (a off : Nat) (w : W32) : Nat :=
  if !c.cfgWritable off then 2
  else if (c.ax a).state != .opened || (c.ax a).pend.isSome then 1
  else if c.badProg off w then 3
  else 0

/-- A write to a configuration area (R357). -/
def Core.cfgWrite (c : Core) (p : Path) (a off : Nat) (w : W32) : Core :=
  let r := c.cfgReason a off w
  if r != 0 then c.refuseCfg p a off r
  else { (c.stage p (bar2Key + a * 0x10000 + off) w false) with eng := { c.eng with cfgImg := false } }

/-- The reason that refuses a write to a per-cycle word (R559). -/
def Core.wordReason (c : Core) (a off : Nat) : Nat :=
  if !c.hasAx a then 2
  else if off = oTqIn || off = oCrvHost then 0
  else if (off = oPin || off = oPin + 4 || off = oNin || off = oAin) && (c.pa a).mode = .host then 0
  else 2

/-- A write to a per-cycle word: staged, held as a low half, or refused (R559). -/
def Core.wordWrite (c : Core) (p : Path) (a off : Nat) (w : W32) : Core :=
  let r := c.wordReason a off
  let k := a * 0x10000 + off
  if r != 0 then c.refuseCfg p a off r
  else if off = oPin then { c with host := { c.host with low := c.host.low.put (p.key * 0x10000000 + k) w } }
  else if off = oPin + 4 then
    let key := p.key * 0x10000000 + (k - 4)
    let lo := match c.host.low.look? key with | some v => v | none => c.word a oPin
    { c with host := { c.host with
        low := c.host.low.del key
        stage := c.host.stage.put (bar2Key + (k - 4)) { val := lo, path := p, hi := some w, at' := c.time.now } } }
  else c.stage p (bar2Key + k) w false

/-- A write of one word of BAR2. -/
def Core.bar2Write (c : Core) (p : Path) (addr : Nat) (w : W32) : Core :=
  let k := addr % 0x1000000 / 4 * 4
  let a := k / 0x10000
  let o := k % 0x10000
  if !c.running then c
  else if c.standby then c.raise (pathError p)
  else if c.iso 5 3 then c
  else if o < 0x800 then c.wordWrite p a o w
  else if o < 0x1000 then c.cfgWrite p a o w
  else c

/-! ### Registers -/

/-- A Cuff configuration write: the checks of its arrival, then staged (R256). -/
def Core.cuffWrite (c : Core) (p : Path) (n reg : Nat) (w : W32) : Core :=
  let ok := (c.fedBy n).all fun a => (c.ax a).state = .off || (c.ax a).state = .opened
  if ok && cuffValueOk n reg w then c.stage p (pgCuff + 0x400 + 0x80 * n + reg) w false
  else
    { c with cuff := { c.cuff with cfgref := c.cuff.cfgref ||| (1 <<< n) } }.raise [evChan EvNo.fbCfgRefused n]

/-- A VISOR configuration write: refused in any state but IDLE (R522). -/
def Core.visWrite (c : Core) (p : Path) (o : Nat) (w : W32) : Core :=
  if c.vis.st = .idle then c.stage p (pgVis + o) (w &&& visMask o) false
  else { c with vis := { c.vis with cfgRef := true } }.raise [ev0 EvNo.visorCmdRefused]

/-- W1C of WDROP. -/
def Core.clrWdrop (c : Core) (page : Nat) (on : Bool) : Core :=
  if on then { c with host := { c.host with wdrop := c.host.wdrop.filter (· != page) } } else c

/-- A selection register and its writable bits, by BAR0 offset (R549); GAUNTLET_SEL is written by a posted write. -/
def selMask (a : Nat) : Option W32 :=
  if pgSeg ≤ a ∧ a < 0x14000 ∧ a % 0x1000 = 0x20 then some 0x3F
  else if a = pgCmt + 0x10 ∨ a = pgEng + 0x10 ∨ a = pgDisp + 0x90 ∨ a = pgProf + 0x10 then some 0xFF
  else if a = pgProf + 0x60 then some 7
  else if a = pgVis + 0x48 then some 0x3FFFFC
  else none

/-- Registers of write class WP (the block maps). -/
def postedReg (a : Nat) : Bool :=
  a = pgHealth + 0x0C || a = pgHealth + 0x18 || a = pgHealth + 0x34 || a = pgLed + 0x04 || a = pgLed + 0x08 || a = pgLed + 0x10
    || a = pgLed + 0x14 || a = pgTime + 0x04 || a = pgTime + 0x08 || a = pgTime + 0x80 || a = pgGs + 0x20
    || (decide (pgPort ≤ a) && decide (a < pgPort + 0x8000) && a % 0x1000 = 0)

/-- A write to a plain register of the parts: RW or W1C (R551, R554). Anything else is ignored. -/
def Core.plainWrite (c : Core) (p : Path) (a : Nat) (w : W32) : Core :=
  let o := a % 0x1000
  let page := a - o
  if a = 0x200 then c.viewOpen p w
  else if a = pgBoot + 0x30 then c.bootClassWrite a (w &&& 3)
  else if a = pgBoot + 0x38 then { c with boot := { c.boot with shellAddr := (w &&& 0x1FFC).toNat } }
  else if a = pgBoot + 0x44 then { c with boot := { c.boot with qspiAddr := (w &&& 0x3FFFFFC).toNat } }
  else if a = pgBoot + 0x48 then { c with boot := c.boot.qspiWrite w }
  else if a = pgHealth ∨ a = pgTime ∨ a = pgGs then c.clrWdrop page (bit w 31)
  else if a = pgHealth + 0x08 then { c with health := c.health.supClear w }
  else if page = pgHealth ∧ 0x040 ≤ o ∧ o < 0x058 then
    (if bit w 31 then { c with err := { c.err with reg := c.err.reg.del ((o - 0x040) / 4) } } else c)
  else if a = pgLed then ({ c with led := { c.led with areaErr := c.led.areaErr && !bit w 2 } }).clrWdrop page (bit w 31)
  else if a = pgMaint + 0x08 then { c with maint := { c.maint with target := w &&& 0x73F } }
  else if pgSeg ≤ page ∧ page < 0x14000 ∧ o = 0 then c.stage p a (w &&& 0x1F) true
  else if pgPort ≤ page ∧ page < pgPort + 0x8000 ∧ o = 8 then c.clrWdrop page (bit w 9)
  else if a = pgCuff + 0x08 then { c with cuff := { c.cuff with cfgref := c.cuff.cfgref &&& ~~~(w.extractLsb' 0 16) } }
  else if page = pgCuff ∧ 0x400 ≤ o ∧ o < 0xC00 then
    let n := (o - 0x400) / 0x80
    match cuffMask (o % 0x80) with
    | some m => c.cuffWrite p n (o % 0x80) (w &&& m)
    | none => if o % 0x80 = 0x20 then c.putCh n { (c.ch n) with flags := (c.ch n).flags &&& ~~~(w.extractLsb' 0 8) } else c
  else if page = pgEng ∧ 0x020 ≤ o ∧ o < 0x040 then
    { c with eng := { c.eng with cfgRef := c.eng.cfgRef &&& ~~~((w.zeroExtend 256) <<< ((o - 0x020) * 8)) } }
  else if a = pgDisp + 0x04 ∨ a = pgDisp + 0xA4 then c.stage p a w false
  else if a = pgDisp + 0xA0 then c.stage p a (w &&& 0xFF07FFF7) false
  else if page = pgProf ∧ 0x044 ≤ o ∧ o < 0x054 then { c with prof := { c.prof with arg := c.prof.arg.put ((o - 0x044) / 4) w } }
  else if a = pgProf + 0x80 then { c with prof := { c.prof with tblAddr := w &&& 0x80033FFF } }
  else if a = pgProf + 0x84 then c.tblDataWrite w
  else if a = pgVis then { c with vis := { c.vis with cfgRef := c.vis.cfgRef && !bit w 16 } }
  else if a = pgVis + 0x40 then c.visFree w false
  else if a = pgVis + 0x44 then c.visFree w true
  else if page = pgVis ∧ visCfgOff o then c.visWrite p o w
  else if a = pgHost + 0x08 then { c with host := { c.host with gfail := c.host.gfail &&& ~~~(w.extractLsb' 0 2) } }
  else c

/-- VECTOR_ACK: acknowledged vectors that are still active send a further message (R566); nothing while isolated (R571). -/
def Chip.vectorAck (x : Chip) (w : W32) : Chip :=
  if x.core.iso 5 2 then x
  else
    let u := { x.ev with vec := x.ev.vec &&& ~~~(w.extractLsb' 0 16) }
    { x with ev := (List.range 16).foldl (fun (u : EventUnit) v => if bit w v && x.ev.vec.getLsbD v && u.active v then u.signal v else u) u }

/-- EVENTS_PEND_k, W1C. -/
def Chip.pendClear (x : Chip) (k : Nat) (w : W32) : Chip :=
  if x.core.iso 5 2 then x else { x with ev := { x.ev with pend := x.ev.pend &&& ~~~((w.zeroExtend 256) <<< (32 * k)) } }

/-- EVENTS_ROUTE_n: routing changes at once, and a vector it makes active is signalled (R566). -/
def Chip.setRoute (x : Chip) (n : Nat) (w : W32) : Chip :=
  let table := if x.ev.routeDef then forN 256 fun i => (i, (0x8010 : W32)) else x.ev.route
  let u := { x.ev with route := Tab.put table n (w &&& 0x8F1F), routeDef := false }
  { x with ev := if x.core.iso 5 2 then u else EventUnit.signalNew x.ev u }

/-- A write of the MSI-X table, from PCIe alone (R548). -/
def Chip.msixWrite (x : Chip) (p : Path) (i : Nat) (w : W32) : Chip :=
  match p with
  | .pcie =>
    let m : W32 := if i % 4 = 0 then 0xFFFF_FFFC else if i % 4 = 3 then 1 else 0xFFFF_FFFF
    let u := { x.ev with msix := x.ev.msix.put i (w &&& m) }
    { x with ev := if x.core.iso 5 2 then u else u.flushPba }
  | .spi | .qmp _ _ => x

/-- A write of a register that has reached its block. -/
def Chip.regWrite (x : Chip) (p : Path) (addr : Nat) (w : W32) : Chip :=
  let a := decodeAddr addr
  let o := a % 0x1000
  let page := a - o
  if !x.core.alive page then
    if x.core.running && x.core.standby then x.onCore fun c => c.raise (pathError p) else x
  else if guarded a then x.onCore fun c => c.guardValue p a w
  else if guardTwin a then x.guardComplement p (a - 0x80) w
  else if a = pgEv + 0x20 then x.vectorAck w
  else if page = pgEv ∧ 0x040 ≤ o ∧ o < 0x060 then x.pendClear ((o - 0x040) / 4) w
  else if page = pgEv ∧ 0x400 ≤ o ∧ o < 0x800 then x.setRoute ((o - 0x400) / 4) w
  else if page = pgHost ∧ 0x800 ≤ o ∧ o < 0x900 then x.msixWrite p ((o - 0x800) / 4) w
  else if postedReg a then x.onCore fun c => c.post' p a w
  else match selMask a with
    | some m => x.onCore fun c => c.setSel p a (w &&& m)
    | none => x.onCore fun c => c.plainWrite p a w

/-! ### Accesses of the host ports -/

/-- The host interface answers: the chip is out of reset and the path's block is in service; PCIe also needs its link. -/
def Core.pathUp (c : Core) (p : Path) : Bool :=
  !c.boot.held && match p with
    | .pcie => c.host.plink && !c.iso 5 0
    | .spi => !c.iso 5 1
    | .qmp port _ => c.running && !c.iso 0 (12 + port) && !c.boot.maker

/-- The port is read-only: SPI with SPIRO = 1 (R547). -/
def Core.readOnly (c : Core) (p : Path) : Bool := p = .spi && bit c.hostCfg 0

/-- A write that arrives from a host port: BAR0, or BAR2. -/
def Chip.hostWrite (x : Chip) (p : Path) (bar2 : Bool) (addr : Nat) (w : W32) : Chip :=
  if !x.core.pathUp p then x
  else if x.core.readOnly p then x.onCore Core.spiFrameErr
  else if bar2 then x.onCore fun c => c.bar2Write p addr w
  else x.regWrite p addr w

/-- The pop of the event log: the entry's words go to the path's shadows (R565). -/
def Chip.logPop (x : Chip) (p : Path) : Chip :=
  let sh : Shadow := match x.ev.log with
    | e :: _ => { rthi := hi32 e.rt, info := e.info, detail := e.detail }
    | [] => {}
  { core := { x.core with host := { x.core.host with shadow := x.core.host.shadow.put p.key sh } }
    ev := { x.ev with log := x.ev.log.drop 1 } }

/-- VISOR_MADDR after a read of VISOR_MDATA (R542). -/
def Core.mdataStep (c : Core) (p : Path) : Core :=
  c.setSel p (pgVis + 0x48) (w32 (((c.selOf p (pgVis + 0x48)).toNat + 4) % 4194304))

/-- What a read changes: pops and address steps of the block maps. -/
def Chip.readEffect (x : Chip) (p : Path) (addr : Nat) : Chip :=
  let a := decodeAddr addr
  let o := a % 0x1000
  let page := a - o
  if !x.core.alive page then x
  else if a = pgEv + 0x10 then x.logPop p
  else x.onCore fun c =>
    if pgSeg ≤ page ∧ page < 0x14000 ∧ o = 0x18 then c.refusePop ((page - pgSeg) / 0x1000)
    else if a = pgTime + 0x70 then { c with time := c.time.capPop.1 }
    else if page = pgCuff ∧ 0x400 ≤ o ∧ o < 0xC00 ∧ o % 0x80 = 0x38 then c.putCh ((o - 0x400) / 0x80) (c.ch ((o - 0x400) / 0x80)).latchPop.1
    else if a = pgDisp + 0xAC then { c with disp := c.disp.trPop.1 }
    else if a = pgVis + 0x4C then c.mdataStep p
    else if a = pgBoot + 0x3C then { c with boot := c.boot.shellRead'.2 }
    else if a = pgBoot + 0x48 then { c with boot := c.boot.qspiRead.2 }
    else if a = pgLed + 0x08 then { c with led := c.led.advance }
    else if a = pgProf + 0x84 then c.tblReadStep
    else c

/-- An open value becomes a free one. -/
def Core.value (c : Core) (v : Option W32) : Core × W32 :=
  match v with
  | some w => (c, w)
  | none => ({ c with freeCtr := c.freeCtr + 1 }, Config.freeBits 32 c.freeCtr)

/-- A read: its value, and what it changes. -/
def Chip.readWord (x : Chip) (p : Path) (bar2 : Bool) (addr : Nat) : Chip × W32 :=
  let v := if bar2 then x.core.rdBar2 p addr else x.rd p addr
  let (c, w) := x.core.value v
  let x : Chip := { x with core := c }
  (if bar2 then x else x.readEffect p addr, w)

/-- A read that a host port makes; its data leave on that port. -/
def Chip.hostRead (x : Chip) (p : Path) (bar2 : Bool) (addr : Nat) : Chip :=
  if !x.core.pathUp p then x
  else
    let (x, w) := x.readWord p bar2 addr
    x.onCore fun c => c.out (.data p w)

/-- The row of a guarded command: the complement write where the port's pending value is this command's, else the value
write and its complement together (log entry on the guarded rows). -/
def Chip.guardCmd (x : Chip) (p : Path) (a : Nat) (w : W32) : Chip :=
  match x.core.host.guard.look? p.key with
  | some g =>
    if g.addr = a ∧ g.val = w ∧ rtDiff x.core.now g.at' ≤ guardWindow then x.hostWrite p false (a + 0x80) (~~~w)
    else (x.hostWrite p false a w).hostWrite p false (a + 0x80) (~~~w)
  | none => (x.hostWrite p false a w).hostWrite p false (a + 0x80) (~~~w)

end Sys2Proof.Machine
end

