-- ==== Sys2Proof/Machine/PortCmd.lean ====
section
/-! DEFINITION. Machine/PortCmd.lean: the PCIe endpoint, the SPI host port and QMP (R545 to R549, R563, R566 to R569). -/

namespace Sys2Proof.Machine

/-! ### PCIe (R545, R569) -/

/-- The endpoint receives requests. -/
def Core.pcieUp (c : Core) : Bool := c.pathUp .pcie

/-- A request within the limits of R545: BAR0 one aligned double word, BAR2 1 to 32 within one axis window. -/
def pcieFits (bar2 : Bool) (addr n : Nat) : Bool :=
  addr % 4 = 0 && if bar2 then decide (1 ≤ n) && decide (n ≤ 32) && decide (addr % 0x10000 + 4 * n ≤ 0x10000) else n = 1

/-- PCIE_MEM_WRITE; `be` says that every byte enable is set. -/
def Chip.pcieWrite (x : Chip) (bar2 : Bool) (addr : Nat) (ws : List W32) (be : Bool) : Chip :=
  if !x.core.pcieUp then x
  else if x.core.host.d3 || !be || !pcieFits bar2 addr ws.length then x.onCore Core.pcieDiscard
  else ((List.range ws.length).zip ws).foldl (fun (x : Chip) e => x.hostWrite .pcie bar2 (addr + 4 * e.1) e.2) x

/-- PCIE_MEM_READ of `n` double words; a read of BAR0 needs every byte enable. -/
def Chip.pcieRead (x : Chip) (bar2 : Bool) (addr n : Nat) (be : Bool) : Chip :=
  if !x.core.pcieUp then x
  else if x.core.host.d3 || !pcieFits bar2 addr n || !bar2 && !be then x.onCore Core.pcieUr
  else (List.range n).foldl (fun (x : Chip) i => x.hostRead .pcie bar2 (addr + 4 * i)) x

/-- PCIE_FLR: the endpoint's own state returns to reset (R569). -/
def Chip.pcieFlr (x : Chip) : Chip :=
  if !x.core.pcieUp then x
  else
    let c := x.core
    { core := { c with host := { c.host with
        view := c.host.view.del 0, guard := c.host.guard.del 0, shadow := c.host.shadow.del 0, d3 := false, cfgSpace := [] } }.raise
          [ev0 EvNo.flr]
      ev := { x.ev with msix := [], msixEn := false, msixMask := false, pba := 0 } }

/-- PCIE_LINK_UP at a speed and width (codes of HOSTIF_STAT). -/
def Core.pcieLinkUp (c : Core) (speed width : Nat) : Core :=
  if c.boot.held || c.iso 5 0 || c.host.plink || (c.standby && !bit c.image.hostCfg 8) then c
  else { c with host := { c.host with plink := true, pspeed := speed, pwidth := width } }.raise [ev0 EvNo.pcieLinkUp]

/-- PCIE_LINK_DOWN. -/
def Core.pcieLinkDown (c : Core) : Core :=
  if c.host.plink then
    { c with host := { c.host with plink := false, pspeed := 0, pwidth := 0 } }.raise [ev0 EvNo.pcieLinkDown]
  else c

/-- PCIE_CONFIG_REQUEST. A configuration register that the manual does not describe reads as last written, or open. -/
def Chip.pcieConfig (x : Chip) (r : CfgReq) : Chip :=
  if !x.core.pcieUp then x
  else match r with
    | .msix e m =>
      let u := { x.ev with msixEn := e, msixMask := m }
      { x with ev := if x.core.iso 5 2 then u else u.flushPba }
    | .power d => x.onCore fun c => { c with host := { c.host with d3 := d } }
    | .write i w => x.onCore fun c => { c with host := { c.host with cfgSpace := c.host.cfgSpace.put i w } }
    | .read i =>
      x.onCore fun c =>
        let (c, w) := c.value (c.host.cfgSpace.look? i)
        c.out (.data .pcie w)

/-! ### SPI (R546, R547) -/

/-- The address space of an SPI or QMP address: BAR0 (false) or BAR2 (true) with its offset, or neither. -/
def spaceOf (addr : W32) : Option (Bool × Nat) :=
  if fld addr 31 28 = 0 then some (false, fld addr 19 0)
  else if fld addr 31 28 = 1 then some (true, fld addr 23 0)
  else none

/-- The SPI transaction in progress. -/
def Core.setSpi (c : Core) (t : SpiTx) : Core := { c with host := { c.host with spi := t } }

/-- One word of an SPI WRITE. -/
def Chip.spiWord (x : Chip) (addr : W32) (w : W32) : Chip :=
  match spaceOf addr with
  | some (b, o) => x.hostWrite .spi b o w
  | none => if x.core.readOnly .spi then x.onCore Core.spiFrameErr else x

/-- SPI_WRITE: each word as its 32nd bit arrives. -/
def Chip.spiWrite (x : Chip) (addr : W32) (ws : List W32) : Chip :=
  if !x.core.pathUp .spi then x
  else
    let x := ((List.range ws.length).zip ws).foldl (fun (x : Chip) e => x.spiWord (addr + w32 (4 * e.1)) e.2) x
    x.onCore fun c => c.setSpi (.write ((addr + w32 (4 * ws.length)).toNat))

/-- One word of an SPI READ: a LATE word has no effect on its register (R547). -/
def Chip.spiReadWord (x : Chip) (addr : W32) (late : Bool) : Chip :=
  if late then
    x.onCore fun c =>
      ({ c with host := { c.host with lates := incWrap 16 c.host.lates, spiLate := true } }.raise (pathError .spi)).out (.data .spi 0xFFFF_FFFF)
  else
    let x := match spaceOf addr with
      | some (b, o) => x.hostRead .spi b o
      | none => x.onCore fun c => c.out (.data .spi 0xFFFF_FFFF)
    x.onCore fun c => { c with host := { c.host with spiLate := false } }

/-- SPI_READ of as many words as `late` lists; a listed true is a word that was not ready in time. -/
def Chip.spiRead (x : Chip) (addr : W32) (late : List Bool) : Chip :=
  if !x.core.pathUp .spi then x
  else
    let x := ((List.range late.length).zip late).foldl (fun (x : Chip) e => x.spiReadWord (addr + w32 (4 * e.1)) e.2) x
    x.onCore fun c => c.setSpi (.read ((addr + w32 (4 * late.length)).toNat))

/-- SPI_STATUS. -/
def Chip.spiStatus (x : Chip) : Chip :=
  if !x.core.pathUp .spi then x
  else
    let h := x.core.host
    let b := b2n (h.gfail.getLsbD 1) + 2 * b2n (!x.ev.log.isEmpty) + 4 * b2n h.spiLate + 8 * b2n h.spiFrame
    x.onCore fun c => ({ c with host := { c.host with spiLate := false, spiFrame := false, spi := .other } } : Core).out (.spiByte b)

/-- SPI_ID. -/
def Core.spiId (c : Core) : Core := if c.pathUp .spi then (c.setSpi .other).out (.data .spi 0x02560001) else c

/-- SPI_CS_RISE; `cut` says that a word of a WRITE was cut off. -/
def Core.spiEnd (c : Core) (cut : Bool) : Core :=
  let t := c.host.spi
  let c := c.setSpi .idle
  match t with
  | .write _ => if cut then c.spiFrameErr else c
  | .idle | .read _ | .other => c

/-! ### QMP: admission of a request (R567) -/

/-- Header and payload that the tag covers. -/
def QmpMsg.bytes (m : QmpMsg) (type : Nat) : List Byte :=
  [0x51, 0x4D, BitVec.ofNat 8 m.ver, BitVec.ofNat 8 type, BitVec.ofNat 8 m.keyId, 0] ++ be16 (m.payload.length : Nat)
    ++ beBytes (w32 m.session) ++ beBytes m.seq ++ m.payload

/-- The tag holds under the named key. -/
def Core.tagOk (c : Core) (m : QmpMsg) (type : Nat) : Bool :=
  if m.keyId = 0 then m.tag = Config.hmacTag c.image.key0 (m.bytes type)
  else if m.keyId = 1 then m.tag = Config.hmacTag c.image.key1 (m.bytes type)
  else false

/-- One half of a counter of both plant ports. -/
def incHalf (n : Nat × Nat) (port : Nat) : Nat × Nat := if port = 0 then (incWrap 16 n.1, n.2) else (n.1, incWrap 16 n.2)

/-- QMP is enabled on the port. -/
def Core.qmpOn (c : Core) (port : Nat) : Bool := bit c.image.qmpCfg (16 + port)

/-- A frame or request discarded and counted in HOSTIF_QMP_DROP. -/
def Core.qmpDrop (c : Core) (port : Nat) : Core := { c with host := { c.host with drop := incHalf c.host.drop port } }

/-- The request is within the rate of the port, 2,000 in a second; the second starts with a request. -/
def Core.qmpRate (c : Core) (port : Nat) : Core × Bool :=
  let (start, n) := c.host.rate.look port (c.now, 0)
  let (start, n) := if rtDiff c.now start < secRt then (start, n) else (c.now, 0)
  if n < 2000 then ({ c with host := { c.host with rate := c.host.rate.put port (start, n + 1) } }, true)
  else ((c.qmpDrop port).raise [(evHost EvNo.qmpDropped (2 + port)).limited (2 + port)], false)

/-- Key of a session by port and identifier 1 to 8. -/
def sessionKey (port id : Nat) : Nat := 16 * port + (id - 1)

/-- The path of a session. -/
def sessionPath (port id : Nat) : Path := .qmp port (id - 1)

/-- A response leaves; a status other than Done is an event (R563). -/
def Core.qmpAnswer (c : Core) (port : Nat) (r : QmpResp) : Core :=
  let c := if r.status = 0 then c else c.raise [evHost EvNo.qmpRefused (2 + port) r.status]
  c.out (.qmp port r)

/-- A frame whose tag holds on a port where QMP runs, counted against the rate of the port. -/
def Core.qmpIn (c : Core) (m : QmpMsg) (type : Nat) : Core × Bool :=
  if !decide (m.port < 2) || !c.pathUp (.qmp m.port 0) then (c, false)
  else if !c.qmpOn m.port then (c.qmpDrop m.port, false)
  else if !c.tagOk m type then
    ({ c with host := { c.host with auth := incHalf c.host.auth m.port } }.raise
      [(evHost EvNo.qmpAuthFail (2 + m.port)).limited (2 + m.port)], false)
  else (c, true)

/-- A request of a session: by its SEQ answered again, discarded, or accepted and answered by `f`, which gives status and
values (R567). A VER that is not the session's is answered with status 1 (R568). -/
def Chip.qmpRequest (x : Chip) (m : QmpMsg) (type : Nat) (f : Chip → Session → Chip × Nat × List W32) : Chip :=
  let (c, ok) := x.core.qmpIn m type
  let x : Chip := { x with core := c }
  if !ok then x
  else match x.core.host.qmp.look? (sessionKey m.port m.session) with
    | none => x
    | some s =>
      if m.session = 0 then x
      else if m.seq = s.seq then x.onCore fun c => c.out (.qmp m.port s.last)
      else if m.seq.toNat < s.seq.toNat then x
      else
        let (c, ok) := x.core.qmpRate m.port
        let x : Chip := { x with core := c }
        if !ok then x
        else
          let x := x.onCore fun c => { c with host := { c.host with rx := incHalf c.host.rx m.port } }
          let (x, status, vals) := if m.ver != s.ver then (x, 1, []) else f x s
          let r : QmpResp := { type := type, status := status, vals := vals }
          x.onCore fun c =>
            let s : Session := { s with seq := m.seq, last := r, at' := c.now }
            ({ c with host := { c.host with qmp := c.host.qmp.put (sessionKey m.port m.session) s } } : Core).qmpAnswer m.port r

/-! ### QMP operations (R568) -/

/-- The highest version in common with QMP versions 1 and 2. -/
def qmpVersion (lo hi : Nat) : Option Nat :=
  if lo ≤ 2 ∧ 2 ≤ hi then some 2 else if lo ≤ 1 ∧ 1 ≤ hi then some 1 else none

/-- A free session number of a port, 1 to 8. -/
def HostState.freeSession (h : HostState) (port : Nat) : Option Nat :=
  ((List.range 8).find? fun n => (h.qmp.look? (16 * port + n)).isNone).map (· + 1)

/-- QMP_HELLO with the client's lowest and highest version. -/
def Core.qmpHello (c : Core) (m : QmpMsg) (lo hi : Nat) : Core :=
  let (c, ok) := c.qmpIn m 1
  if !ok then c
  else
    let (c, ok) := c.qmpRate m.port
    if !ok then c
    else
      let c := { c with host := { c.host with rx := incHalf c.host.rx m.port } }
      match qmpVersion lo hi with
      | none => c.qmpAnswer m.port { type := 1, status := 1 }
      | some v =>
        match c.host.freeSession m.port with
        | none => c.qmpAnswer m.port { type := 1, status := 8 }
        | some id =>
          let (k, c) := c.draw
          let nonce := Config.freeBits 64 k
          let r : QmpResp := { type := 1, status := 0, vals :=
            [w32 v, w32 id, lo32 c.boot.uid, hi32 c.boot.uid, c.boot.head.chk, hi32 nonce, lo32 nonce] }
          let s : Session := { ver := v, seq := m.seq, last := r, at' := c.now }
          ({ c with host := { c.host with qmp := c.host.qmp.put (sessionKey m.port id) s } }.raise
            [evHost EvNo.qmpSession (2 + m.port) 1]).qmpAnswer m.port r

/-- Big-endian words of a payload. -/
def beWords : List Byte → List W32
  | a :: b :: c :: d :: t => (a ++ b ++ c ++ d) :: beWords t
  | _ => []

/-- An address that READ may name: not a per-cycle area, and not the MSI-X structures (R548). -/
def qmpReadable (addr : W32) : Bool :=
  match spaceOf addr with
  | some (true, o) => decide (0x800 ≤ o % 0x10000)
  | some (false, o) => !(decide (pgHost + 0x800 ≤ decodeAddr o) && decide (decodeAddr o < pgHost + 0x908))
  | none => true

/-- The words at several addresses, read in order. -/
def Chip.qmpWords (x : Chip) (p : Path) : List W32 → Chip × List W32
  | [] => (x, [])
  | a :: t =>
    let (y, w) := match spaceOf a with
      | some (b, o) => x.readWord p b o
      | none => (x, 0xFFFF_FFFF)
    let (z, ws) := y.qmpWords p t
    (z, w :: ws)

/-- QMP_READ. -/
def Chip.qmpRead (x : Chip) (m : QmpMsg) : Chip :=
  x.qmpRequest m 2 fun x _ =>
    let as := beWords m.payload
    if m.payload.length % 4 != 0 || decide (64 < as.length) then (x, 2, [])
    else if !as.all qmpReadable then (x, 3, [])
    else
      let (y, ws) := x.qmpWords (sessionPath m.port m.session) as
      (y, 0, ws)

/-- WMASK allows a command. -/
def Core.wmask (c : Core) (i : Nat) : Bool := bit c.image.qmpCfg (24 + i)

/-- One pair of a QMP WRITE, with its status. -/
def Chip.qmpPair (x : Chip) (p : Path) (addr w : W32) : Chip × Nat :=
  match spaceOf addr with
  | none => (x, 3)
  | some (true, k) =>
    let a := k / 0x10000
    let o := k % 0x10000 / 4 * 4
    if x.core.standby ∨ x.core.iso 5 3 ∨ 0x1000 ≤ o then (x, 3)
    else
      let r := if o < 0x800 then x.core.wordReason a o else x.core.cfgReason a o w
      (x.onCore fun c => c.bar2Write p k w, if r = 0 then 0 else 4)
  | some (false, k) =>
    let a := decodeAddr k
    if !x.core.alive (a - a % 0x1000) then (x, 3)
    else if pgEv + 0x040 ≤ a ∧ a < pgEv + 0x060 ∧ x.core.wmask 4 then (x.regWrite p a w, 0)
    else if (selMask a).isSome then (x.regWrite p a w, 0)
    else (x, 3)

/-- The pairs of a QMP WRITE in order. -/
def Chip.qmpPairs (x : Chip) (p : Path) : List W32 → Chip × List Nat
  | a :: w :: t =>
    let (y, s) := x.qmpPair p a w
    let (z, ss) := y.qmpPairs p t
    (z, s :: ss)
  | _ => (x, [])

/-- QMP_WRITE: one status per pair; a refused pair is an event. -/
def Chip.qmpWrite (x : Chip) (m : QmpMsg) : Chip :=
  x.qmpRequest m 3 fun x _ =>
    let ws := beWords m.payload
    if m.payload.length % 8 != 0 || decide (64 < ws.length) then (x, 2, [])
    else
      let (y, ss) := x.qmpPairs (sessionPath m.port m.session) ws
      let bad := ss.filter (· != 0)
      (y.onCore fun c => c.raise (bad.map fun s => evHost EvNo.qmpRefused (2 + m.port) s), 0, ss.map w32)

/-- QMP_OFS: ADD_OFS or SET_OFS on the path of R457. -/
def Chip.qmpOfs (x : Chip) (m : QmpMsg) : Chip :=
  x.qmpRequest m 4 fun x _ =>
    let b := fun (i : Nat) => (m.payload.getD i 0).toNat
    if m.payload.length != 12 || decide (1 < b 0) || b 1 != 0 || b 10 != 0 || b 11 != 0 then (x, 2, [])
    else if x.core.standby then (x, 4, [8])
    else
      let a := 256 * b 2 + b 3
      let lo := w32 (beNat ((m.payload.drop 4).take 4))
      let hi := w32 (beNat ((m.payload.drop 8).take 2))
      let y := x.onCore fun c => if b 0 = 0 then c.addOfs a lo.toInt else c.setOfs a (rPair 48 lo hi)
      if fld y.core.prof.cmdStat 13 12 = 3 then (y, 4, [w32 (fld y.core.prof.cmdStat 19 16)]) else (y, 0, [])

/-- QMP_VIEWREAD of a cycle's image, 0xFFFF_FFFF for the newest: (axis, offset) pairs. -/
def Chip.qmpViewread (x : Chip) (m : QmpMsg) (cyc : W32) (pairs : List (Nat × Nat)) : Chip :=
  x.qmpRequest m 5 fun x s =>
    if s.ver = 1 then (x, 1, [])
    else if decide (64 < pairs.length) || pairs.any (fun e => decide (0x800 ≤ e.2) || e.2 % 4 != 0) then (x, 2, [])
    else
      match (if cyc = 0xFFFF_FFFF then x.core.cycle.images.head? else x.core.imageOf cyc) with
      | none => (x, 5, [])
      | some i => (x, 0, i.cycle :: pairs.map fun e => areaOf i.words e.1 e.2)

/-- The WMASK bit that admits a guarded register. -/
def wmaskOf (a : Nat) : Option Nat :=
  if a = 0x100 then some 0 else if a = 0x104 then some 1 else if a = pgEng + 0x40 then some 2
  else if a = pgVis + 0x180 then some 3 else none

/-- The reason of a refusal raised among events, for the registers of WMASK. -/
def refusalIn (es : List Ev) : Option Nat :=
  (es.find? fun e => e.num = EvNo.gopRefused || e.num = EvNo.axCmdRefused || e.num = EvNo.visorCmdRefused).map (·.code)

/-- QMP_GUARDED: the chip performs both writes of the pair itself. -/
def Chip.qmpGuarded (x : Chip) (m : QmpMsg) (off : Nat) (w : W32) : Chip :=
  x.qmpRequest m 6 fun x s =>
    let a := decodeAddr off
    let page := a - a % 0x1000
    if s.ver = 1 then (x, 1, [])
    else match wmaskOf a with
      | none => (x, 3, [])
      | some i =>
        if !x.core.wmask i || !x.core.alive page then (x, 3, [])
        else if slowPage page && x.core.busy page then (x, 6, [])
        else
          let y := x.guardedNow (sessionPath m.port m.session) a w
          match refusalIn (y.core.evq.drop x.core.evq.length) with
          | some r => (y, 4, [w32 r])
          | none => (y, 0, [])

/-- QMP_UNKNOWN_TYPE. -/
def Chip.qmpUnknown (x : Chip) (m : QmpMsg) (type : Nat) : Chip :=
  x.qmpRequest m type fun x s => (x, if (type = 5 ∨ type = 6) ∧ s.ver = 1 then 1 else 2, [])

/-- A session ends: its own copies are discarded (R549). -/
def Core.endSession (c : Core) (port id code : Nat) : Core :=
  let p := (sessionPath port id).key
  { c with host := { c.host with
      qmp := c.host.qmp.del (sessionKey port id), shadow := c.host.shadow.del p
      sel := c.host.sel.filter fun e => e.1 / 0x100000 != p
      low := c.host.low.filter fun e => e.1 / 0x10000000 != p } }.raise [evHost EvNo.qmpSession (2 + port) code]

/-- QMP_CLOSE. -/
def Chip.qmpClose (x : Chip) (m : QmpMsg) : Chip :=
  let open' := fun (y : Chip) => (y.core.host.qmp.look? (sessionKey m.port m.session))
  let y := x.qmpRequest m 0xF fun x _ => (x, 0, [])
  match open' x, open' y with
  | some s, some t => if t.seq != s.seq && t.ver = m.ver then y.onCore fun c => c.endSession m.port m.session 2 else y
  | _, _ => y

/-- QMP_SESSION_TIMEOUT: 10 s without an accepted request. -/
def Core.qmpTimeout (c : Core) (port id : Nat) : Core :=
  match c.host.qmp.look? (sessionKey port id) with
  | some s => if id = 0 then c else (c.at (rtAdd s.at' ((10 * secRt : Nat) : Int))).endSession port id 3
  | none => c

/-- PLANT_FRAME_RECEIVED. -/
def Core.plantFrame (c : Core) (port : Nat) (f : PlantFrame) : Core :=
  if !decide (port < 2) || !c.pathUp (.qmp port 0) then c
  else match f with
    | .arp => c.out (.arp port)
    | .icmp => c.out (.icmp port)
    | .other => c.qmpDrop port

end Sys2Proof.Machine
end

