-- ==== Sys2Proof/Machine/Run.lean ====
section
/-! DEFINITION. Machine/Run.lean: what the commands' meanings share: how one command begins and ends, a reset of the whole
chip, the end of boot, a port's access to a data register, and the clock between commands. -/

namespace Sys2Proof.Machine

/-- A command begins: what the one before put on the pins and links is gone. -/
def Chip.fresh (x : Chip) : Chip := { core := { x.core with outs := [] }, ev := { x.ev with sent := [] } }

/-- One command from its beginning to its end, where its events are raised (R564). -/
def Chip.run (x : Chip) (f : Chip → Chip) : Chip := (f x.fresh).commit

/-- One command that acts on the parts. -/
def Chip.runCore (x : Chip) (f : Core → Core) : Chip := x.run fun y => y.onCore f

/-- One command that may assert a reset: the event unit returns to its reset state with the chip (R570, R601). -/
def Chip.runReset (x : Chip) (f : Core → Core) : Chip :=
  x.run fun y => let c := f y.core; { core := c, ev := if c.boot.held then {} else y.ev }

/-- BOOT_APPLY_DONE: the events of APPLY are still routed by the default, then routing follows the image and the chip reaches
RUNNING (R577, R585, R589). -/
def Chip.applyDone (x : Chip) : Chip :=
  if x.core.boot.st = .apply then
    let y := (x.onCore Core.bootApply).commit
    { core := y.core.bootRun, ev := { y.ev with route := y.core.image.route, routeDef := false } }
  else x

/-- An access to a data register: a read, or a write of the word given. -/
def Chip.access (x : Chip) (p : Path) (a : Nat) (w : Option W32) : Chip :=
  match w with
  | some w => x.hostWrite p false a w
  | none => x.hostRead p false a

/-- A PLL clock passes with no command waiting: the raw counters advance, but for a reset that holds them at 0 (R187, R188,
R218). -/
def Chip.tick (x : Chip) : Chip :=
  if x.core.boot.held && (x.core.boot.kind = .por || x.core.boot.kind = .supply) then x
  else x.onCore fun c => { c with time := c.time.advance 8 }

end Sys2Proof.Machine

namespace Sys2Proof

open Machine

/-- The access path of a host port (R548). -/
def HostPort.path : HostPort → Path
  | .pcie => .pcie
  | .spi => .spi

/-- BAR0 offset of a slow-domain block's page (R550). -/
def SlowBlock.page : SlowBlock → Nat
  | .health => pgHealth
  | .ledger => pgLed
  | .time => pgTime
  | .gauntlet => pgGs
  | .port n => pgPort + 0x1000 * n

end Sys2Proof
end

