-- ==== Sys2Proof/Machine/State.lean ====
section
/-! DEFINITION. Machine/State.lean: the state of the block: the chip and the commands that wait. -/

namespace Sys2Proof.Machine

/-- Why the machine stops. Nothing raises a fault: every error the manual describes has an effect there, and is modelled
as that effect. An empty type is safe: no claim can lean on a stop. -/
inductive Fault where
  deriving DecidableEq, Repr

/-- Why a command has no meaning. -/
inductive Refusal where
  /-- Raised by an arm of Dispatch.lean whose meaning is not written. Safe: the machine does nothing. -/
  | notModelled (mnemonic : String)
  deriving DecidableEq, Repr

/-- The chip, and the commands that wait, first in, first out. -/
structure State where
  chip    : Chip := {}
  pending : List Instr := []
  deriving DecidableEq, Repr

/-- Right after the assertion of a power-on reset (R37, R576, R601): the reset is still asserted, nothing is loaded. -/
def State.reset : State := { chip := {}, pending := [] }

end Sys2Proof.Machine
end

