-- ==== Sys2Proof/Machine/Exec.lean ====
section
/-! DEFINITION. Machine/Exec.lean: the outcome of a command on a state. -/

namespace Sys2Proof.Machine

/-- What a command answers. -/
abbrev Out := Host.Outcome State Fault Refusal

/-- The next state, its queue untouched. -/
def State.to (s : State) (x : Chip) : Out := .next { s with chip := x }

end Sys2Proof.Machine
end

