-- ==== Sys2Proof/Machine/ExecBoot.lean ====
section
/-! DEFINITION. Machine/ExecBoot.lean: the meanings of the commands of resets, boot and flash. -/

namespace Sys2Proof.Machine

/-- ESCALATION_RESET_START. -/
def execEscalationResetStart (s : State) : Out := s.to (s.chip.runReset Core.escalationReset)

/-- SUPPLY_RESET_LEVEL. -/
def execSupplyResetLevel (rail : Nat) (mv : Nat) (s : State) : Out := s.to (s.chip.runReset (fun c => c.supplyReset rail mv))

/-- POWER_ON_RESET. -/
def execPowerOnReset (s : State) : Out := s.to (s.chip.runReset Core.porReset)

/-- PIN_RESET. -/
def execPinReset (s : State) : Out := s.to (s.chip.runReset Core.pinReset)

/-- HEARTBEAT_MISSING. -/
def execHeartbeatMissing (s : State) : Out := s.to (s.chip.runReset Core.watchdogReset)

/-- RESET_RELEASE. -/
def execResetRelease (strap : Nat) (s : State) : Out := s.to (s.chip.runCore fun c => c.release strap)

/-- SHELL_READ_DONE. -/
def execShellReadDone (one : List Bool) (two : List Bool) (s : State) : Out := s.to (s.chip.runCore fun c => c.shellDone one two)

/-- LEDGER_READ_DONE. -/
def execLedgerReadDone (badDir : Bool) (cor : Nat) (unc : Nat) (s : State) : Out :=
  s.to (s.chip.runCore fun c => c.ledgerDone badDir cor unc)

/-- IMAGE_COPY_DONE. -/
def execImageCopyDone (bad : Option Nat) (fail : Option Nat) (img : Image) (s : State) : Out :=
  s.to (s.chip.runCore fun c => c.imageDone bad fail img)

/-- BOOT_APPLY_DONE. -/
def execBootApplyDone (s : State) : Out := s.to (s.chip.run Chip.applyDone)

/-- FLASH_OP_DONE. -/
def execFlashOpDone (s : State) : Out := s.to (s.chip.runCore fun c => c.flashOpDone)

/-- WAKE_LOAD_DONE. -/
def execWakeLoadDone (fail : Option Nat) (s : State) : Out := s.to (s.chip.runCore fun c => c.wakeDone fail)

/-- SELF_TEST_DONE. -/
def execSelfTestDone (s : State) : Out := s.to (s.chip.runCore fun c => c.selfTestDone)

/-- HOST_RESET_DELAY_EXPIRY. -/
def execHostResetDelayExpiry (s : State) : Out := s.to (s.chip.runReset Core.hostReset)

end Sys2Proof.Machine
end

