-- ==== Sys2Proof/Machine/ExecCuff.lean ====
section
/-! DEFINITION. Machine/ExecCuff.lean: the meanings of the commands of feedback channels, alignment and the observer's timers. -/

namespace Sys2Proof.Machine

/-- EXCITATION_PEAK. -/
def execExcitationPeak (n : Nat) (t : Rt) (xs : Int) (xc : Int) (s : State) : Out :=
  s.to (s.chip.runCore fun c => c.excitationPeak n t xs xc)

/-- ADC_CONVERSION. -/
def execAdcConversion (n : Nat) (k : Nat) (xs : Int) (xc : Int) (s : State) : Out :=
  s.to (s.chip.runCore fun c => c.adcConversion n k xs xc)

/-- CUFF_LEVEL_CHANGE. -/
def execCuffLevelChange (n : Nat) (cs : List LineChange) (s : State) : Out := s.to (s.chip.runCore fun c => c.levelChange n cs)

/-- CUFF_PULSE_REJECTED. -/
def execCuffPulseRejected (n : Nat) (s : State) : Out := s.to (s.chip.runCore fun c => c.pulseRejected n)

/-- LINE_FAULT. -/
def execLineFault (n : Nat) (begins : Bool) (s : State) : Out := s.to (s.chip.runCore fun c => c.lineFault n begins)

/-- LATCH_EVENT. -/
def execLatchEvent (n : Nat) (rising : Bool) (t : Rt) (s : State) : Out := s.to (s.chip.runCore fun c => c.latchEvent n rising t)

/-- SSI_TRANSFER_DONE. -/
def execSsiTransferDone (n : Nat) (low : Bool) (data : Nat) (par : Bool) (stop : Bool) (s : State) : Out :=
  s.to (s.chip.runCore fun c => c.ssiDone n low data par stop)

/-- LIMIT_SWITCH_CHANGE. -/
def execLimitSwitchChange (n : Nat) (level : Bool) (t : Rt) (s : State) : Out := s.to (s.chip.runCore fun c => c.switchChange n level t)

/-- ALIGN_STEP_ADVANCE. -/
def execAlignStepAdvance (a : Nat) (s : State) : Out := s.to (s.chip.runCore fun c => c.alignAdvance a)

/-- ALIGN_HOLD_TIMEOUT. -/
def execAlignHoldTimeout (a : Nat) (s : State) : Out := s.to (s.chip.runCore fun c => c.alignTimeout a)

/-- PROBE_SEQUENCE_DONE. -/
def execProbeSequenceDone (a : Nat) (s : State) : Out := s.to (s.chip.runCore fun c => c.probeSeqDone a)

/-- OBS_HOLD_EXPIRY. -/
def execObsHoldExpiry (a : Nat) (s : State) : Out := s.to (s.chip.runCore fun c => c.obsHoldExpiry a)

/-- OBS_INH_EXPIRY. -/
def execObsInhExpiry (a : Nat) (s : State) : Out := s.to (s.chip.runCore fun c => c.obsInhExpiry a)

/-- OBS_ST_ALN_EXPIRY. -/
def execObsStAlnExpiry (a : Nat) (s : State) : Out := s.to (s.chip.runCore fun c => c.obsAlnExpiry a)

/-- OBS_MERGE_EXPIRY. -/
def execObsMergeExpiry (a : Nat) (s : State) : Out := s.to (s.chip.runCore fun c => c.obsMergeExpiry a)

/-- OBS_ST_TMO_EXPIRY. -/
def execObsStTmoExpiry (a : Nat) (s : State) : Out := s.to (s.chip.runCore fun c => c.obsTmoExpiry a)

/-- OBS_RETRY_WAIT_EXPIRY. -/
def execObsRetryWaitExpiry (a : Nat) (s : State) : Out := s.to (s.chip.runCore fun c => c.obsRetryExpiry a)

/-- KE_CHECK_WINDOW. -/
def execKeCheckWindow (a : Nat) (s : State) : Out := s.to (s.chip.runCore fun c => c.keCheck a)

end Sys2Proof.Machine
end

