-- ==== Sys2Proof/Machine/ExecCycle.lean ====
section
/-! DEFINITION. Machine/ExecCycle.lean: the meanings of the commands of the cycle, the slots, the tasks and their ends. -/

namespace Sys2Proof.Machine

/-- CYCLE_BOUNDARY. -/
def execCycleBoundary (s : State) : Out := s.to (s.chip.runCore fun c => c.cycleBoundary)

/-- SENSE_FRAME_LAUNCH. -/
def execSenseFrameLaunch (s : State) : Out := s.to (s.chip.runCore fun c => c.senseLaunch)

/-- SENSE_COPY_RETURN. -/
def execSenseCopyReturn (seg : Nat) (ring : Nat) (t : Int) (good : Bool) (recs : List (List Byte)) (area : List Byte) (hop : Nat) (s : State) : Out :=
  s.to (s.chip.runCore fun c => c.senseReturn seg ring t good recs area hop)

/-- SENSE_RETURN_DEADLINE. -/
def execSenseReturnDeadline (seg : Nat) (r : ReturnDue) (s : State) : Out := s.to (s.chip.runCore fun c => c.senseDeadline seg r.ring r.hop)

/-- RING_CLOSE. -/
def execRingClose (seg : Nat) (ring : Nat) (s : State) : Out := s.to (s.chip.runCore fun c => c.ringClose seg ring)

/-- UPLINK_RUN_RECEIVED. -/
def execUplinkRunReceived (r : UplinkRun) (s : State) : Out := s.to (s.chip.runCore fun c => c.uplinkRun r)

/-- RT_LOCK_GAINED. -/
def execRtLockGained (s : State) : Out := s.to (s.chip.runCore fun c => c.lockGained)

/-- SLOT_MEAN_UPDATE. -/
def execSlotMeanUpdate (s : State) : Out := s.to (s.chip.runCore fun c => c.slotMeans)

/-- COMPUTE_WINDOW_OPEN. -/
def execComputeWindowOpen (s : State) : Out := s.to (s.chip.runCore fun c => c.computeWindow)

/-- RELEASE_DEADLINE. -/
def execReleaseDeadline (f : Nat) (s : State) : Out := s.to (s.chip.runCore fun c => c.releaseDeadline f)

/-- DRIVE_FRAME_LAUNCH. -/
def execDriveFrameLaunch (s : State) : Out := s.to (s.chip.runCore fun c => c.driveLaunch)

/-- FEEDBACK_TASK_DONE. -/
def execFeedbackTaskDone (a : Nat) (s : State) : Out := s.to (s.chip.runCore fun c => c.feedbackDone a)

/-- FILTER_TASK_DONE. -/
def execFilterTaskDone (a : Nat) (s : State) : Out := s.to (s.chip.runCore fun c => c.filterDone a)

/-- OBSERVE_TASK_DONE. -/
def execObserveTaskDone (a : Nat) (s : State) : Out := s.to (s.chip.runCore fun c => c.observeDone a)

/-- COMMUTE_IN_DONE. -/
def execCommuteInDone (a : Nat) (s : State) : Out := s.to (s.chip.runCore fun c => c.commuteInDone a)

/-- LAW_TASK_END. -/
def execLawTaskEnd (a : Nat) (copyB : Bool) (s : State) : Out := s.to (s.chip.runCore fun c => c.lawTaskEnd a copyB)

/-- PAIR_COMPARE. -/
def execPairCompare (a : Nat) (s : State) : Out := s.to (s.chip.runCore fun c => c.pairCompare a)

/-- COMMUTE_OUT_DONE. -/
def execCommuteOutDone (a : Nat) (s : State) : Out := s.to (s.chip.runCore fun c => c.commuteOutDone a)

/-- PACK_DONE. -/
def execPackDone (a : Nat) (s : State) : Out := s.to (s.chip.runCore fun c => c.packDone a)

/-- PROFILE_TASK_DONE. -/
def execProfileTaskDone (a : Nat) (s : State) : Out := s.to (s.chip.runCore fun c => c.profileDone a)

/-- MEASURE_TASK_DONE. -/
def execMeasureTaskDone (area : Nat) (ws : List W32) (s : State) : Out := s.to (s.chip.runCore fun c => c.measureDone area ws)

/-- MEASURE_WINDOW_END. -/
def execMeasureWindowEnd (s : State) : Out := s.to (s.chip.runCore fun c => c.measWindowEnd)

/-- TASK_OVERRUN. -/
def execTaskOverrun (t : Task) (a : Nat) (copyB : Bool) (s : State) : Out := s.to (s.chip.runCore fun c => c.taskOverrun t a copyB)

end Sys2Proof.Machine
end

