-- ==== Sys2Proof/Machine/ExecErr.lean ====
section
/-! DEFINITION. Machine/ExecErr.lean: the meanings of the commands of cell faults, epoch passes, supervisors and maintenance. -/

namespace Sys2Proof.Machine

/-- CELL_FAULT. -/
def execCellFault (region : Nat) (block : Nat) (cause : Nat) (site : FaultSite) (word : Nat) (s : State) : Out :=
  s.to (s.chip.runCore fun c => c.cellFaultCmd region block cause site word)

/-- HANDSHAKE_WATCHDOG_EXPIRY. -/
def execHandshakeWatchdogExpiry (region : Nat) (block : Nat) (s : State) : Out := s.to (s.chip.runCore fun c => c.handshake region block)

/-- LEDGER_WRITE_DONE. -/
def execLedgerWriteDone (s : State) : Out := s.to (s.chip.runCore fun c => c.ledgerWritten)

/-- SRAM_SCRUB_DONE. -/
def execSramScrubDone (finds : List ScrubFind) (s : State) : Out := s.to (s.chip.runCore fun c => c.scrubDone finds)

/-- REVERIFY_DONE. -/
def execReverifyDone (bad : Option (Nat × Nat × Nat)) (s : State) : Out := s.to (s.chip.runCore fun c => c.reverifyDone bad)

/-- LEDGER_SCRUB_DONE. -/
def execLedgerScrubDone (cor : Nat) (unc : Nat) (s : State) : Out := s.to (s.chip.runCore fun c => c.ledgerScrub cor unc)

/-- SUPPLY_WARNING. -/
def execSupplyWarning (rail : Nat) (mv : Nat) (s : State) : Out := s.to (s.chip.runCore fun c => c.supplyWarn rail mv)

/-- OVERVOLTAGE_WARNING. -/
def execOvervoltageWarning (rail : Nat) (mv : Nat) (s : State) : Out := s.to (s.chip.runCore fun c => c.overWarn rail mv)

/-- BRACE_LEFT. -/
def execBraceLeft (s : State) : Out := s.to (s.chip.runCore fun c => c.braceLeft)

/-- TJ_UPDATE. -/
def execTjUpdate (tj : Int) (s : State) : Out := s.to (s.chip.runCore fun c => c.tjUpdate tj)

/-- REPLICA_MEASURE. -/
def execReplicaMeasure (beats : List Nat) (s : State) : Out := s.to (s.chip.runCore fun c => c.replicaMeasure beats)

/-- RETEST_DONE. -/
def execRetestDone (pass : Bool) (s : State) : Out := s.to (s.chip.runCore fun c => c.retestDone pass)

/-- QSPI_UPDATE_TIMEOUT. -/
def execQspiUpdateTimeout (s : State) : Out := s.to (s.chip.runCore fun c => c.qspiTimeout)

/-- FR_EXPORT_TIMEOUT. -/
def execFrExportTimeout (s : State) : Out := s.to (s.chip.runCore fun c => c.frTimeout)

/-- MAKER_TEST_INSTRUCTION. -/
def execMakerTestInstruction (s : State) : Out := s.to (s.chip.runCore fun c => c.makerTest)

/-- SUPPLY_WARNING_CLEARED. -/
def execSupplyWarningCleared (rail : Nat) (mv : Nat) (high : Bool) (s : State) : Out :=
  s.to (s.chip.runCore fun c => c.supplyClear rail mv high)

end Sys2Proof.Machine
end

