-- ==== Sys2Proof/Machine/ExecGs.lean ====
section
/-! DEFINITION. Machine/ExecGs.lean: the meanings of the commands of the Gauntlet. -/

namespace Sys2Proof.Machine

/-- SAFE_INPUT_LEVEL_CHANGE. -/
def execSafeInputLevelChange (n : Nat) (chB : Bool) (level : Bool) (ts : Rt) (s : State) : Out :=
  s.to (s.chip.runCore fun c => c.safeLevel n chB level ts)

/-- DISCREPANCY_TIMEOUT. -/
def execDiscrepancyTimeout (n : Nat) (s : State) : Out := s.to (s.chip.runCore fun c => c.discTimeout n)

/-- RESET_EDGE. -/
def execResetEdge (n : Nat) (s : State) : Out := s.to (s.chip.runCore fun c => c.resetEdge n)

/-- RESET_HIGH_TIMEOUT. -/
def execResetHighTimeout (n : Nat) (chB : Bool) (s : State) : Out := s.to (s.chip.runCore fun c => c.resetHigh n chB)

/-- CONFIRM_PULSE. -/
def execConfirmPulse (s : State) : Out := s.to (s.chip.runCore fun c => c.confirmPulse)

/-- CONFIRM_WINDOW_EXPIRY. -/
def execConfirmWindowExpiry (s : State) : Out := s.to (s.chip.runCore fun c => c.confirmExpiry)

/-- SOUT_TEST_PULSE. -/
def execSoutTestPulse (n : Nat) (lowSide : Bool) (rbh : Bool) (rbl : Bool) (s : State) : Out :=
  s.to (s.chip.runCore fun c => c.soutPulse n lowSide rbh rbl)

/-- SOUT_SWITCH_ON_STEP. -/
def execSoutSwitchOnStep (n : Nat) (rbh : Bool) (rbl : Bool) (s : State) : Out := s.to (s.chip.runCore fun c => c.soutStep n rbh rbl)

/-- SOUT_READBACK_MISMATCH. -/
def execSoutReadbackMismatch (n : Nat) (rbh : Bool) (rbl : Bool) (s : State) : Out :=
  s.to (s.chip.runCore fun c => c.soutMismatch n rbh rbl)

/-- PROOF_TEST_DONE. -/
def execProofTestDone (pass : Nat) (chan : Bool) (s : State) : Out := s.to (s.chip.runCore fun c => c.proofTestDone pass chan)

/-- SAFETY_RECORD_RECEIVED. -/
def execSafetyRecordReceived (seg : Nat) (p : Nat) (r : List Byte) (s : State) : Out :=
  s.to (s.chip.runCore fun c => c.safetyRecord seg p r)

/-- SAFETY_WATCHDOG_EXPIRY. -/
def execSafetyWatchdogExpiry (seg : Nat) (p : Nat) (s : State) : Out := s.to (s.chip.runCore fun c => c.safetyWatchdog seg p)

/-- XCHAN_PERSIST. -/
def execXchanPersist (s : State) : Out := s.to (s.chip.runCore fun c => c.xchanPersist)

/-- SBC_DELAY_EXPIRY. -/
def execSbcDelayExpiry (a : Nat) (s : State) : Out := s.to (s.chip.runCore fun c => c.sbcExpiry a)

/-- DEG_T_EXPIRY. -/
def execDegTExpiry (a : Nat) (s : State) : Out := s.to (s.chip.runCore fun c => c.degExpiry a)

/-- GAUNTLET_BOOT_DONE. -/
def execGauntletBootDone (s : State) : Out := s.to (s.chip.runCore fun c => c.gauntletBoot)

end Sys2Proof.Machine
end

