-- ==== Sys2Proof/Machine/ExecHost.lean ====
section
/-! DEFINITION. Machine/ExecHost.lean: the meanings of the commands of writes, reads and guarded commands of the host ports. -/

namespace Sys2Proof.Machine

/-- REGISTER_WRITE. -/
def execRegisterWrite (p : HostPort) (addr : Nat) (w : W32) (s : State) : Out := s.to (s.chip.run fun x => x.hostWrite p.path false addr w)

/-- GUARDED_VALUE_WRITE. -/
def execGuardedValueWrite (p : HostPort) (addr : Nat) (w : W32) (s : State) : Out :=
  s.to (s.chip.run fun x => if guarded (decodeAddr addr) then x.hostWrite p.path false addr w else x)

/-- GUARD_WINDOW_EXPIRY. -/
def execGuardWindowExpiry (p : HostPort) (s : State) : Out := s.to (s.chip.runCore fun c => c.guardTimeout p.path)

/-- POSTED_WRITE_DONE. -/
def execPostedWriteDone (b : SlowBlock) (s : State) : Out := s.to (s.chip.runCore fun c => c.postedDone b.page)

/-- VIEW_OPEN. -/
def execViewOpen (p : HostPort) (w : W32) (s : State) : Out := s.to (s.chip.run fun x => x.hostWrite p.path false 0x200 w)

/-- MODE_CHANGE. -/
def execModeChange (p : HostPort) (mode : Nat) (s : State) : Out :=
  s.to (s.chip.run fun x => x.guardCmd p.path (0x100) (w32 (0x40000000 + mode % 8)))

/-- MODE_CANCEL. -/
def execModeCancel (p : HostPort) (s : State) : Out := s.to (s.chip.run fun x => x.guardCmd p.path (0x100) (0x80000000))

/-- BARRIER. -/
def execBarrier (p : HostPort) (s : State) : Out := s.to (s.chip.run fun x => x.guardCmd p.path (0x104) (1))

/-- SNAPSHOT. -/
def execSnapshot (p : HostPort) (s : State) : Out := s.to (s.chip.run fun x => x.guardCmd p.path (0x104) (2))

/-- NETRESET. -/
def execNetreset (p : HostPort) (s : State) : Out := s.to (s.chip.run fun x => x.guardCmd p.path (0x104) (3))

/-- RETRY. -/
def execRetry (p : HostPort) (s : State) : Out := s.to (s.chip.run fun x => x.guardCmd p.path (0x14040) (1))

/-- READMIT. -/
def execReadmit (p : HostPort) (seg : Nat) (pos : Nat) (s : State) : Out :=
  s.to (s.chip.run fun x => x.guardCmd p.path (pgSeg + 0x1000 * seg + 0x40) (w32 (0x40000000 + pos % 64)))

/-- DEADMIT. -/
def execDeadmit (p : HostPort) (seg : Nat) (pos : Nat) (s : State) : Out :=
  s.to (s.chip.run fun x => x.guardCmd p.path (pgSeg + 0x1000 * seg + 0x40) (w32 (0x80000000 + pos % 64)))

/-- LINK_SEG_REFUSE_POP. -/
def execLinkSegRefusePop (p : HostPort) (seg : Nat) (s : State) : Out :=
  s.to (s.chip.run fun x => x.hostRead p.path false (pgSeg + 0x1000 * seg + 0x18))

/-- SELECT_A. -/
def execSelectA (p : HostPort) (s : State) : Out := s.to (s.chip.run fun x => x.guardCmd p.path (pgTime + 0x100) (1))

/-- SELECT_B. -/
def execSelectB (p : HostPort) (s : State) : Out := s.to (s.chip.run fun x => x.guardCmd p.path (pgTime + 0x100) (2))

/-- HOLD. -/
def execHold (p : HostPort) (s : State) : Out := s.to (s.chip.run fun x => x.guardCmd p.path (pgTime + 0x100) (3))

/-- RELEASE. -/
def execRelease (p : HostPort) (s : State) : Out := s.to (s.chip.run fun x => x.guardCmd p.path (pgTime + 0x100) (4))

/-- ALIGN_NOW. -/
def execAlignNow (p : HostPort) (s : State) : Out := s.to (s.chip.run fun x => x.guardCmd p.path (pgTime + 0x100) (5))

/-- TIME_CAP_POP. -/
def execTimeCapPop (p : HostPort) (s : State) : Out := s.to (s.chip.run fun x => x.hostRead p.path false (pgTime + 0x70))

/-- CUFF_CFG_WRITE. -/
def execCuffCfgWrite (p : HostPort) (n : Nat) (reg : Nat) (w : W32) (s : State) : Out :=
  s.to (s.chip.run fun x => x.hostWrite p.path false (pgCuff + 0x400 + 0x80 * n + reg) w)

/-- CLR_SUSPECT. -/
def execClrSuspect (p : HostPort) (target : Nat) (remote : Bool) (s : State) : Out :=
  s.to (s.chip.run fun x => x.guardCmd p.path (pgCuff + 0x40) (w32 (0x10000000 + 256 * b2n remote + target % 256)))

/-- SET_REF. -/
def execSetRef (p : HostPort) (target : Nat) (remote : Bool) (s : State) : Out :=
  s.to (s.chip.run fun x => x.guardCmd p.path (pgCuff + 0x40) (w32 (0x20000000 + 256 * b2n remote + target % 256)))

/-- CUFF_LATCH_POP. -/
def execCuffLatchPop (p : HostPort) (n : Nat) (s : State) : Out :=
  s.to (s.chip.run fun x => x.hostRead p.path false (pgCuff + 0x400 + 0x80 * n + 0x38))

/-- ALIGN. -/
def execAlign (p : HostPort) (a : Nat) (s : State) : Out :=
  s.to (s.chip.run fun x => x.guardCmd p.path (pgCmt + 0x40) (w32 (0x10000000 + a % 256)))

/-- CLR_ALIGN. -/
def execClrAlign (p : HostPort) (a : Nat) (s : State) : Out :=
  s.to (s.chip.run fun x => x.guardCmd p.path (pgCmt + 0x40) (w32 (0x20000000 + a % 256)))

/-- OPEN. -/
def execAxOpen (p : HostPort) (a : Nat) (s : State) : Out :=
  s.to (s.chip.run fun x => x.guardCmd p.path (pgEng + 0x40) (w32 (0x10000000 + a % 256)))

/-- RUN. -/
def execAxRun (p : HostPort) (a : Nat) (s : State) : Out :=
  s.to (s.chip.run fun x => x.guardCmd p.path (pgEng + 0x40) (w32 (0x20000000 + a % 256)))

/-- OFF. -/
def execAxOff (p : HostPort) (a : Nat) (s : State) : Out :=
  s.to (s.chip.run fun x => x.guardCmd p.path (pgEng + 0x40) (w32 (0x30000000 + a % 256)))

/-- CLEAR_FAULT. -/
def execClearFault (p : HostPort) (a : Nat) (s : State) : Out :=
  s.to (s.chip.run fun x => x.guardCmd p.path (pgEng + 0x40) (w32 (0x40000000 + a % 256)))

/-- AXIS_CONFIG_WRITE. -/
def execAxisConfigWrite (p : HostPort) (a : Nat) (off : Nat) (w : W32) (s : State) : Out :=
  s.to (s.chip.run fun x => x.hostWrite p.path true (0x10000 * a + off) w)

/-- PER_CYCLE_WORD_WRITE. -/
def execPerCycleWordWrite (p : HostPort) (a : Nat) (off : Nat) (w : W32) (s : State) : Out :=
  s.to (s.chip.run fun x => x.hostWrite p.path true (0x10000 * a + off) w)

/-- CLR_SLACK_MIN. -/
def execClrSlackMin (p : HostPort) (s : State) : Out := s.to (s.chip.run fun x => x.guardCmd p.path (pgDisp + 0x100) (1))

/-- TR_CLEAR. -/
def execTrClear (p : HostPort) (s : State) : Out := s.to (s.chip.run fun x => x.guardCmd p.path (pgDisp + 0x100) (2))

/-- DISPATCH_TR_POP. -/
def execDispatchTrPop (p : HostPort) (s : State) : Out := s.to (s.chip.run fun x => x.hostRead p.path false (pgDisp + 0xAC))

/-- MOVE. -/
def execMove (p : HostPort) (a : Nat) (s : State) : Out :=
  s.to (s.chip.run fun x => x.guardCmd p.path (pgProf + 0x40) (w32 (0x10000000 + a % 256)))

/-- VEL. -/
def execVel (p : HostPort) (a : Nat) (s : State) : Out :=
  s.to (s.chip.run fun x => x.guardCmd p.path (pgProf + 0x40) (w32 (0x20000000 + a % 256)))

/-- STOP. -/
def execStop (p : HostPort) (a : Nat) (s : State) : Out :=
  s.to (s.chip.run fun x => x.guardCmd p.path (pgProf + 0x40) (w32 (0x30000000 + a % 256)))

/-- TBL_TIME. -/
def execTblTime (p : HostPort) (a : Nat) (s : State) : Out :=
  s.to (s.chip.run fun x => x.guardCmd p.path (pgProf + 0x40) (w32 (0x40000000 + a % 256)))

/-- TBL_CAM. -/
def execTblCam (p : HostPort) (a : Nat) (s : State) : Out :=
  s.to (s.chip.run fun x => x.guardCmd p.path (pgProf + 0x40) (w32 (0x50000000 + a % 256)))

/-- GEAR_ON. -/
def execGearOn (p : HostPort) (a : Nat) (s : State) : Out :=
  s.to (s.chip.run fun x => x.guardCmd p.path (pgProf + 0x40) (w32 (0x60000000 + a % 256)))

/-- KNUCKLE. -/
def execKnuckle (p : HostPort) (a : Nat) (s : State) : Out :=
  s.to (s.chip.run fun x => x.guardCmd p.path (pgProf + 0x40) (w32 (0x70000000 + a % 256)))

/-- GEAR_OFF. -/
def execGearOff (p : HostPort) (a : Nat) (s : State) : Out :=
  s.to (s.chip.run fun x => x.guardCmd p.path (pgProf + 0x40) (w32 (0x80000000 + a % 256)))

/-- ADD_OFS. -/
def execAddOfs (p : HostPort) (a : Nat) (s : State) : Out :=
  s.to (s.chip.run fun x => x.guardCmd p.path (pgProf + 0x40) (w32 (0x90000000 + a % 256)))

/-- SET_OFS. -/
def execSetOfs (p : HostPort) (a : Nat) (s : State) : Out :=
  s.to (s.chip.run fun x => x.guardCmd p.path (pgProf + 0x40) (w32 (0xA0000000 + a % 256)))

/-- HOME. -/
def execHome (p : HostPort) (a : Nat) (s : State) : Out :=
  s.to (s.chip.run fun x => x.guardCmd p.path (pgProf + 0x40) (w32 (0xB0000000 + a % 256)))

/-- CLR. -/
def execClr (p : HostPort) (a : Nat) (s : State) : Out :=
  s.to (s.chip.run fun x => x.guardCmd p.path (pgProf + 0x40) (w32 (0xC0000000 + a % 256)))

/-- VM_VEL. -/
def execVmVel (p : HostPort) (s : State) : Out := s.to (s.chip.run fun x => x.guardCmd p.path (pgProf + 0x40) (0xD0000000))

/-- VM_STOP. -/
def execVmStop (p : HostPort) (s : State) : Out := s.to (s.chip.run fun x => x.guardCmd p.path (pgProf + 0x40) (0xE0000000))

/-- PROFILE_TBL_DATA_ACCESS. -/
def execProfileTblDataAccess (p : HostPort) (w : Option W32) (s : State) : Out :=
  s.to (s.chip.run fun x => x.access p.path (pgProf + 0x84) w)

/-- STO. -/
def execSto (p : HostPort) (mask : Nat) (s : State) : Out :=
  s.to (s.chip.run fun x => x.guardCmd p.path (pgGs + 0x40) (w32 (0x100 + mask % 256)))

/-- SS1. -/
def execSs1 (p : HostPort) (mask : Nat) (s : State) : Out :=
  s.to (s.chip.run fun x => x.guardCmd p.path (pgGs + 0x40) (w32 (0x200 + mask % 256)))

/-- WITHDRAW. -/
def execWithdraw (p : HostPort) (mask : Nat) (s : State) : Out :=
  s.to (s.chip.run fun x => x.guardCmd p.path (pgGs + 0x40) (w32 (0x300 + mask % 256)))

/-- PROOF_TEST. -/
def execProofTest (p : HostPort) (s : State) : Out := s.to (s.chip.run fun x => x.guardCmd p.path (pgGs + 0x40) (0x400))

/-- GAUNTLET_CONF_CMD. -/
def execGauntletConfCmd (p : HostPort) (w : W32) (s : State) : Out := s.to (s.chip.run fun x => x.guardCmd p.path (pgGs + 0x44) (w))

/-- ARM. -/
def execArm (p : HostPort) (s : State) : Out := s.to (s.chip.run fun x => x.guardCmd p.path (pgVis + 0x180) (1))

/-- DISARM. -/
def execDisarm (p : HostPort) (s : State) : Out := s.to (s.chip.run fun x => x.guardCmd p.path (pgVis + 0x180) (2))

/-- FORCE. -/
def execForce (p : HostPort) (s : State) : Out := s.to (s.chip.run fun x => x.guardCmd p.path (pgVis + 0x180) (3))

/-- CLR_STATS. -/
def execClrStats (p : HostPort) (s : State) : Out := s.to (s.chip.run fun x => x.guardCmd p.path (pgVis + 0x180) (4))

/-- VISOR_DONE_FREE. -/
def execVisorDoneFree (p : HostPort) (high : Bool) (w : W32) (s : State) : Out :=
  s.to (s.chip.run fun x => x.hostWrite p.path false (if high then pgVis + 0x44 else pgVis + 0x40) w)

/-- VISOR_MDATA_READ. -/
def execVisorMdataRead (p : HostPort) (s : State) : Out := s.to (s.chip.run fun x => x.hostRead p.path false (pgVis + 0x4C))

/-- EVENTS_LOG_POP. -/
def execEventsLogPop (p : HostPort) (s : State) : Out := s.to (s.chip.run fun x => x.hostRead p.path false (pgEv + 0x10))

/-- VECTOR_ACK. -/
def execVectorAck (p : HostPort) (w : W32) (s : State) : Out := s.to (s.chip.run fun x => x.hostWrite p.path false (pgEv + 0x20) w)

/-- CLR_LOG. -/
def execClrLog (p : HostPort) (s : State) : Out := s.to (s.chip.run fun x => x.guardCmd p.path (pgEv + 0x100) (1))

/-- CLR_COUNT. -/
def execClrCount (p : HostPort) (s : State) : Out := s.to (s.chip.run fun x => x.guardCmd p.path (pgEv + 0x100) (2))

/-- HOST_RESET. -/
def execHostReset (p : HostPort) (s : State) : Out := s.to (s.chip.run fun x => x.guardCmd p.path (pgBoot + 0x40) (1))

/-- PARK. -/
def execPark (p : HostPort) (s : State) : Out := s.to (s.chip.run fun x => x.guardCmd p.path (pgBoot + 0x40) (2))

/-- UNPARK. -/
def execUnpark (p : HostPort) (s : State) : Out := s.to (s.chip.run fun x => x.guardCmd p.path (pgBoot + 0x40) (3))

/-- STANDBY. -/
def execStandby (p : HostPort) (s : State) : Out := s.to (s.chip.run fun x => x.guardCmd p.path (pgBoot + 0x40) (4))

/-- WAKE. -/
def execWake (p : HostPort) (s : State) : Out := s.to (s.chip.run fun x => x.guardCmd p.path (pgBoot + 0x40) (5))

/-- QSPI_ERASE. -/
def execQspiErase (p : HostPort) (s : State) : Out := s.to (s.chip.run fun x => x.guardCmd p.path (pgBoot + 0x40) (6))

/-- QSPI_PROG. -/
def execQspiProg (p : HostPort) (s : State) : Out := s.to (s.chip.run fun x => x.guardCmd p.path (pgBoot + 0x40) (7))

/-- BOOT_SHELL_DATA_READ. -/
def execBootShellDataRead (p : HostPort) (s : State) : Out := s.to (s.chip.run fun x => x.hostRead p.path false (pgBoot + 0x3C))

/-- BOOT_QSPI_DATA_ACCESS. -/
def execBootQspiDataAccess (p : HostPort) (w : Option W32) (s : State) : Out := s.to (s.chip.run fun x => x.access p.path (pgBoot + 0x48) w)

/-- LIN_STORE. -/
def execLinStore (p : HostPort) (s : State) : Out := s.to (s.chip.run fun x => x.guardCmd p.path (pgLed + 0x40) (1))

/-- LIN_DELETE. -/
def execLinDelete (p : HostPort) (s : State) : Out := s.to (s.chip.run fun x => x.guardCmd p.path (pgLed + 0x40) (2))

/-- LIN_CLEAR_ALL. -/
def execLinClearAll (p : HostPort) (s : State) : Out := s.to (s.chip.run fun x => x.guardCmd p.path (pgLed + 0x40) (3))

/-- PEND_CLEAR. -/
def execPendClear (p : HostPort) (s : State) : Out := s.to (s.chip.run fun x => x.guardCmd p.path (pgLed + 0x40) (4))

/-- LEDGER_DATA_ACCESS. -/
def execLedgerDataAccess (p : HostPort) (w : Option W32) (s : State) : Out := s.to (s.chip.run fun x => x.access p.path (pgLed + 0x08) w)

/-- BOOT_CLASS_WRITE. -/
def execBootClassWrite (p : HostPort) (w : W32) (s : State) : Out := s.to (s.chip.run fun x => x.hostWrite p.path false (pgBoot + 0x30) w)

/-- CLR_MIN. -/
def execClrMin (p : HostPort) (s : State) : Out := s.to (s.chip.run fun x => x.guardCmd p.path (pgHealth + 0x100) (1))

/-- FR_SNAP. -/
def execFrSnap (p : HostPort) (s : State) : Out := s.to (s.chip.run fun x => x.guardCmd p.path (pgHealth + 0x100) (2))

/-- QSPI_UPDATE. -/
def execQspiUpdate (p : HostPort) (s : State) : Out := s.to (s.chip.run fun x => x.guardCmd p.path (pgMaint + 0x40) (3))

/-- RETEST. -/
def execRetest (p : HostPort) (s : State) : Out := s.to (s.chip.run fun x => x.guardCmd p.path (pgMaint + 0x40) (6))

/-- FR_EXPORT. -/
def execFrExport (p : HostPort) (s : State) : Out := s.to (s.chip.run fun x => x.guardCmd p.path (pgMaint + 0x40) (7))

/-- MAINT_END. -/
def execMaintEnd (p : HostPort) (s : State) : Out := s.to (s.chip.run fun x => x.guardCmd p.path (pgMaint + 0x40) (8))

/-- TABLE_SUMS_UPDATED. -/
def execTableSumsUpdated (s : State) : Out := s.to (s.chip.runCore fun c => c.tableSums)

end Sys2Proof.Machine
end

