-- ==== Sys2Proof/Machine/ExecLe.lean ====
section
/-! DEFINITION. Machine/ExecLe.lean: the meanings of the commands of the instructions of the loop engines. -/

namespace Sys2Proof.Machine

/-- LE_NOP. -/
def execLeNop (u : Nat) (s : State) : Out := s.to (s.chip.runCore fun c => c.leNop u)

/-- LE_LDI. -/
def execLeLdi (u : Nat) (x : Nat) (m : W16) (s : State) : Out := s.to (s.chip.runCore fun c => c.leLdi u x m)

/-- LE_MOV. -/
def execLeMov (u : Nat) (x : Nat) (y : Nat) (s : State) : Out := s.to (s.chip.runCore fun c => c.leMov u x y)

/-- LE_ADD. -/
def execLeAdd (u : Nat) (x : Nat) (y : Nat) (s : State) : Out := s.to (s.chip.runCore fun c => c.leAdd u x y)

/-- LE_SUB. -/
def execLeSub (u : Nat) (x : Nat) (y : Nat) (s : State) : Out := s.to (s.chip.runCore fun c => c.leSub u x y)

/-- LE_NEG. -/
def execLeNeg (u : Nat) (x : Nat) (y : Nat) (s : State) : Out := s.to (s.chip.runCore fun c => c.leNeg u x y)

/-- LE_ABS. -/
def execLeAbs (u : Nat) (x : Nat) (y : Nat) (s : State) : Out := s.to (s.chip.runCore fun c => c.leAbs u x y)

/-- LE_MIN. -/
def execLeMin (u : Nat) (x : Nat) (y : Nat) (s : State) : Out := s.to (s.chip.runCore fun c => c.leMin u x y)

/-- LE_MAX. -/
def execLeMax (u : Nat) (x : Nat) (y : Nat) (s : State) : Out := s.to (s.chip.runCore fun c => c.leMax u x y)

/-- LE_CMP. -/
def execLeCmp (u : Nat) (x : Nat) (y : Nat) (s : State) : Out := s.to (s.chip.runCore fun c => c.leCmp u x y)

/-- LE_ASR. -/
def execLeAsr (u : Nat) (x : Nat) (m : W16) (s : State) : Out := s.to (s.chip.runCore fun c => c.leAsr u x m)

/-- LE_ASL. -/
def execLeAsl (u : Nat) (x : Nat) (m : W16) (s : State) : Out := s.to (s.chip.runCore fun c => c.leAsl u x m)

/-- LE_MPY. -/
def execLeMpy (u : Nat) (A : Nat) (x : Nat) (y : Nat) (s : State) : Out := s.to (s.chip.runCore fun c => c.leMpy u A x y)

/-- LE_MAC. -/
def execLeMac (u : Nat) (A : Nat) (x : Nat) (y : Nat) (s : State) : Out := s.to (s.chip.runCore fun c => c.leMac u A x y)

/-- LE_MSU. -/
def execLeMsu (u : Nat) (A : Nat) (x : Nat) (y : Nat) (s : State) : Out := s.to (s.chip.runCore fun c => c.leMsu u A x y)

/-- LE_MACI. -/
def execLeMaci (u : Nat) (A : Nat) (x : Nat) (m : W16) (s : State) : Out := s.to (s.chip.runCore fun c => c.leMaci u A x m)

/-- LE_LDA. -/
def execLeLda (u : Nat) (A : Nat) (x : Nat) (s : State) : Out := s.to (s.chip.runCore fun c => c.leLda u A x)

/-- LE_ADDA. -/
def execLeAdda (u : Nat) (A : Nat) (b : Nat) (s : State) : Out := s.to (s.chip.runCore fun c => c.leAdda u A b)

/-- LE_SUBA. -/
def execLeSuba (u : Nat) (A : Nat) (b : Nat) (s : State) : Out := s.to (s.chip.runCore fun c => c.leSuba u A b)

/-- LE_SHA. -/
def execLeSha (u : Nat) (A : Nat) (m : W16) (s : State) : Out := s.to (s.chip.runCore fun c => c.leSha u A m)

/-- LE_CLMP. -/
def execLeClmp (u : Nat) (A : Nat) (x : Nat) (y : Nat) (s : State) : Out := s.to (s.chip.runCore fun c => c.leClmp u A x y)

/-- LE_TSTA. -/
def execLeTsta (u : Nat) (A : Nat) (s : State) : Out := s.to (s.chip.runCore fun c => c.leTsta u A)

/-- LE_SAT. -/
def execLeSat (u : Nat) (x : Nat) (A : Nat) (m : W16) (s : State) : Out := s.to (s.chip.runCore fun c => c.leSat u x A m)

/-- LE_SQRT. -/
def execLeSqrt (u : Nat) (x : Nat) (A : Nat) (s : State) : Out := s.to (s.chip.runCore fun c => c.leSqrt u x A)

/-- LE_DIV. -/
def execLeDiv (u : Nat) (x : Nat) (A : Nat) (y : Nat) (s : State) : Out := s.to (s.chip.runCore fun c => c.leDiv u x A y)

/-- LE_MOVA. -/
def execLeMova (u : Nat) (x : Nat) (A : Nat) (s : State) : Out := s.to (s.chip.runCore fun c => c.leMova u x A)

/-- LE_LD. -/
def execLeLd (u : Nat) (x : Nat) (off : Nat) (s : State) : Out := s.to (s.chip.runCore fun c => c.leLd u x off)

/-- LE_LDX. -/
def execLeLdx (u : Nat) (x : Nat) (off : Nat) (s : State) : Out := s.to (s.chip.runCore fun c => c.leLdx u x off)

/-- LE_LDW. -/
def execLeLdw (u : Nat) (A : Nat) (off : Nat) (s : State) : Out := s.to (s.chip.runCore fun c => c.leLdw u A off)

/-- LE_LDAC. -/
def execLeLdac (u : Nat) (A : Nat) (off : Nat) (s : State) : Out := s.to (s.chip.runCore fun c => c.leLdac u A off)

/-- LE_LDR. -/
def execLeLdr (u : Nat) (x : Nat) (y : Nat) (off : Nat) (s : State) : Out := s.to (s.chip.runCore fun c => c.leLdr u x y off)

/-- LE_LDRX. -/
def execLeLdrx (u : Nat) (x : Nat) (y : Nat) (off : Nat) (s : State) : Out := s.to (s.chip.runCore fun c => c.leLdrx u x y off)

/-- LE_LDL. -/
def execLeLdl (u : Nat) (x : Nat) (m : Nat) (s : State) : Out := s.to (s.chip.runCore fun c => c.leLdl u x m)

/-- LE_ST. -/
def execLeSt (u : Nat) (x : Nat) (off : Nat) (s : State) : Out := s.to (s.chip.runCore fun c => c.leSt u x off)

/-- LE_STX. -/
def execLeStx (u : Nat) (x : Nat) (off : Nat) (s : State) : Out := s.to (s.chip.runCore fun c => c.leStx u x off)

/-- LE_STW. -/
def execLeStw (u : Nat) (A : Nat) (off : Nat) (s : State) : Out := s.to (s.chip.runCore fun c => c.leStw u A off)

/-- LE_STAC. -/
def execLeStac (u : Nat) (A : Nat) (off : Nat) (s : State) : Out := s.to (s.chip.runCore fun c => c.leStac u A off)

/-- LE_STL. -/
def execLeStl (u : Nat) (x : Nat) (m : Nat) (s : State) : Out := s.to (s.chip.runCore fun c => c.leStl u x m)

/-- LE_SUBW. -/
def execLeSubw (u : Nat) (A : Nat) (off : Nat) (s : State) : Out := s.to (s.chip.runCore fun c => c.leSubw u A off)

/-- LE_BR. -/
def execLeBr (u : Nat) (cc : Nat) (m : W16) (s : State) : Out := s.to (s.chip.runCore fun c => c.leBr u cc m)

/-- LE_CALL. -/
def execLeCall (u : Nat) (m : W16) (s : State) : Out := s.to (s.chip.runCore fun c => c.leCall u m)

/-- LE_RET. -/
def execLeRet (u : Nat) (s : State) : Out := s.to (s.chip.runCore fun c => c.leRet u)

/-- LE_END. -/
def execLeEnd (u : Nat) (s : State) : Out := s.to (s.chip.runCore fun c => c.leEnd u)

/-- LE_FLT. -/
def execLeFlt (u : Nat) (code : Nat) (s : State) : Out := s.to (s.chip.runCore fun c => c.leFlt u code)

end Sys2Proof.Machine
end

