-- ==== Sys2Proof/Machine/ExecPort.lean ====
section
/-! DEFINITION. Machine/ExecPort.lean: the meanings of the commands of the PCIe endpoint, SPI and QMP. -/

namespace Sys2Proof.Machine

/-- SPI_WRITE. -/
def execSpiWrite (addr : W32) (ws : List W32) (s : State) : Out := s.to (s.chip.run fun x => x.spiWrite addr ws)

/-- SPI_READ. -/
def execSpiRead (addr : W32) (late : List Bool) (s : State) : Out := s.to (s.chip.run fun x => x.spiRead addr late)

/-- SPI_STATUS. -/
def execSpiStatus (s : State) : Out := s.to (s.chip.run fun x => x.spiStatus)

/-- SPI_ID. -/
def execSpiId (s : State) : Out := s.to (s.chip.runCore fun c => c.spiId)

/-- SPI_CS_RISE. -/
def execSpiCsRise (cut : Bool) (s : State) : Out := s.to (s.chip.runCore fun c => c.spiEnd cut)

/-- PCIE_MEM_WRITE. -/
def execPcieMemWrite (bar2 : Bool) (addr : Nat) (ws : List W32) (be : Bool) (s : State) : Out :=
  s.to (s.chip.run fun x => x.pcieWrite bar2 addr ws be)

/-- PCIE_MEM_READ. -/
def execPcieMemRead (bar2 : Bool) (addr : Nat) (q : PcieRead) (s : State) : Out := s.to (s.chip.run fun x => x.pcieRead bar2 addr q.n q.be)

/-- PCIE_FLR. -/
def execPcieFlr (s : State) : Out := s.to (s.chip.run fun x => x.pcieFlr)

/-- PCIE_LINK_UP. -/
def execPcieLinkUp (speed : Nat) (width : Nat) (s : State) : Out := s.to (s.chip.runCore fun c => c.pcieLinkUp speed width)

/-- PCIE_LINK_DOWN. -/
def execPcieLinkDown (s : State) : Out := s.to (s.chip.runCore fun c => c.pcieLinkDown)

/-- PLANT_FRAME_RECEIVED. -/
def execPlantFrameReceived (port : Nat) (k : PlantFrame) (s : State) : Out := s.to (s.chip.runCore fun c => c.plantFrame port k)

/-- QMP_HELLO. -/
def execQmpHello (m : QmpMsg) (lo : Nat) (hi : Nat) (s : State) : Out := s.to (s.chip.runCore fun c => c.qmpHello m lo hi)

/-- QMP_READ. -/
def execQmpRead (m : QmpMsg) (s : State) : Out := s.to (s.chip.run fun x => x.qmpRead m)

/-- QMP_WRITE. -/
def execQmpWrite (m : QmpMsg) (s : State) : Out := s.to (s.chip.run fun x => x.qmpWrite m)

/-- QMP_OFS. -/
def execQmpOfs (m : QmpMsg) (s : State) : Out := s.to (s.chip.run fun x => x.qmpOfs m)

/-- QMP_VIEWREAD. -/
def execQmpViewread (m : QmpMsg) (cyc : W32) (pairs : List (Nat × Nat)) (s : State) : Out :=
  s.to (s.chip.run fun x => x.qmpViewread m cyc pairs)

/-- QMP_GUARDED. -/
def execQmpGuarded (m : QmpMsg) (off : Nat) (w : W32) (s : State) : Out := s.to (s.chip.run fun x => x.qmpGuarded m off w)

/-- QMP_CLOSE. -/
def execQmpClose (m : QmpMsg) (s : State) : Out := s.to (s.chip.run fun x => x.qmpClose m)

/-- QMP_SESSION_TIMEOUT. -/
def execQmpSessionTimeout (port : Nat) (id : Nat) (s : State) : Out := s.to (s.chip.runCore fun c => c.qmpTimeout port id)

/-- PCIE_CONFIG_REQUEST. -/
def execPcieConfigRequest (r : CfgReq) (s : State) : Out := s.to (s.chip.run fun x => x.pcieConfig r)

/-- QMP_UNKNOWN_TYPE. -/
def execQmpUnknownType (m : QmpMsg) (type : Nat) (s : State) : Out := s.to (s.chip.run fun x => x.qmpUnknown m type)

end Sys2Proof.Machine
end

