-- ==== Sys2Proof/Machine/ExecRing.lean ====
section
/-! DEFINITION. Machine/ExecRing.lean: the meanings of the commands of ring ports, roles, mailbox records. -/

namespace Sys2Proof.Machine

/-- PORT_LINK_UP. -/
def execPortLinkUp (u : PortUp) (s : State) : Out := s.to (s.chip.runCore fun c => c.portUp u.port u.present u.txeq)

/-- PORT_LINK_DOWN. -/
def execPortLinkDown (u : PortDown) (s : State) : Out := s.to (s.chip.runCore fun c => c.portLost u.port u.present u.los u.lock u.errs)

/-- TRAINING_TIMEOUT. -/
def execTrainingTimeout (p : Nat) (s : State) : Out := s.to (s.chip.runCore fun c => c.trainTimeout p)

/-- TRAINING_RETRY. -/
def execTrainingRetry (p : Nat) (s : State) : Out := s.to (s.chip.runCore fun c => c.trainRetry p)

/-- ONE_PORT_LINK_TIMEOUT. -/
def execOnePortLinkTimeout (seg : Nat) (s : State) : Out := s.to (s.chip.runCore fun c => c.onePort seg)

/-- LISTEN_EXPIRY. -/
def execListenExpiry (s : State) : Out := s.to (s.chip.runCore fun c => c.listenExpiry)

/-- CLAIM_RECEIVED. -/
def execClaimReceived (h : RoleHeard) (s : State) : Out := s.to (s.chip.runCore fun c => c.claimIn h.port h.msg)

/-- CROWN_RECORD_RECEIVED. -/
def execCrownRecordReceived (h : CrownHeard) (t : Rt) (s : State) : Out := s.to (s.chip.runCore fun c => c.crownIn h.port h.msg h.mode t)

/-- STANDBY_NOTICE_RECEIVED. -/
def execStandbyNoticeReceived (h : RoleHeard) (s : State) : Out := s.to (s.chip.runCore fun c => c.standbyIn h.port h.msg)

/-- TAKEOVER_EXPIRY. -/
def execTakeoverExpiry (s : State) : Out := s.to (s.chip.runCore fun c => c.takeover)

/-- RTSYNC_RECEIVED. -/
def execRtsyncReceived (seg : Nat) (cyc : W32) (v : Rt) (s : State) : Out := s.to (s.chip.runCore fun c => c.rtsyncIn seg cyc v)

/-- NODE_LOSS. -/
def execNodeLoss (seg : Nat) (p : Nat) (s : State) : Out := s.to (s.chip.runCore fun c => c.nodeLoss seg p)

/-- TOUT_PERSIST. -/
def execToutPersist (seg : Nat) (p : Nat) (s : State) : Out := s.to (s.chip.runCore fun c => c.toutPersist seg p)

/-- BABBLE_CONFIRMED. -/
def execBabbleConfirmed (seg : Nat) (s : State) : Out := s.to (s.chip.runCore fun c => c.babble seg)

/-- BABBLE_CLEARED. -/
def execBabbleCleared (seg : Nat) (s : State) : Out := s.to (s.chip.runCore fun c => c.babbleClear seg)

/-- MBX_DATA. -/
def execMbxData (seg : Nat) (p : Nat) (cr : CreditRef) (data : List Byte) (s : State) : Out :=
  s.to (s.chip.runCore fun c => c.mbxData seg p cr.num cr.gen data)

/-- MBX_ACK. -/
def execMbxAck (seg : Nat) (p : Nat) (mseq : Nat) (s : State) : Out := s.to (s.chip.runCore fun c => c.mbxAck seg p mseq)

/-- MBX_DELAY. -/
def execMbxDelay (seg : Nat) (p : Nat) (n : Nat) (gen : Nat) (delta : Int) (f : Int) (s : State) : Out :=
  s.to (s.chip.runCore fun c => c.mbxDelay seg p n gen delta f)

/-- MBX_SNAP. -/
def execMbxSnap (seg : Nat) (p : Nat) (n : Nat) (gen : Nat) (r : List Byte) (s : State) : Out :=
  s.to (s.chip.runCore fun c => c.mbxSnap seg p n gen r)

/-- MBX_IDENT. -/
def execMbxIdent (seg : Nat) (p : Nat) (d : Ident) (s : State) : Out := s.to (s.chip.runCore fun c => c.mbxIdent seg p d)

/-- MBX_VBURST. -/
def execMbxVburst (seg : Nat) (p : Nat) (n : Nat) (gen : Nat) (bid : Nat) (frag : Nat) (ofs : Nat) (data : List Byte) (s : State) : Out :=
  s.to (s.chip.runCore fun c => c.mbxVburst seg p n gen bid frag ofs data)

/-- CREDIT_TIMEOUT. -/
def execCreditTimeout (seg : Nat) (s : State) : Out := s.to (s.chip.runCore fun c => c.creditTimeout seg)

/-- BARRIER_TIMEOUT. -/
def execBarrierTimeout (s : State) : Out := s.to (s.chip.runCore fun c => c.barrierTimeout)

/-- SNAPSHOT_UPLOAD_TIMEOUT. -/
def execSnapshotUploadTimeout (s : State) : Out := s.to (s.chip.runCore fun c => c.snapTimeout)

/-- CLAIM_PERIOD. -/
def execClaimPeriod (s : State) : Out := s.to (s.chip.runCore fun c => c.claimPeriod)

/-- DRIVE_COPY_RETURN. -/
def execDriveCopyReturn (seg : Nat) (side : Nat) (good : Bool) (area : List Byte) (s : State) : Out :=
  s.to (s.chip.runCore fun c => c.driveReturn seg side good area)

/-- SLOTCFG_RECEIVED. -/
def execSlotcfgReceived (t : Rt) (mode : Nat) (d : SlotDelay) (s : State) : Out :=
  s.to (s.chip.runCore fun c => c.slotCfgIn t mode d.an d.bn)

end Sys2Proof.Machine
end

