-- ==== Sys2Proof/Machine/ExecSp.lean ====
section
/-! DEFINITION. Machine/ExecSp.lean: the meanings of the commands of the instructions of the signal processors, and the entry of the PEAK handler. -/

namespace Sys2Proof.Machine

/-- SP_NOP. -/
def execSpNop (u : Nat) (fa : Option SpFetch) (fb : Option SpXfer) (s : State) : Out := s.to (s.chip.runCore fun c => c.spNop u fa fb)

/-- SP_CLR. -/
def execSpClr (u : Nat) (md : Nat) (fa : Option SpFetch) (fb : Option SpXfer) (s : State) : Out :=
  s.to (s.chip.runCore fun c => c.spClr u md fa fb)

/-- SP_MPY. -/
def execSpMpy (u : Nat) (md : Nat) (s1 : Nat) (s2 : Nat) (fa : Option SpFetch) (fb : Option SpXfer) (s : State) : Out :=
  s.to (s.chip.runCore fun c => c.spMpy u md s1 s2 fa fb)

/-- SP_MAC. -/
def execSpMac (u : Nat) (md : Nat) (s1 : Nat) (s2 : Nat) (fa : Option SpFetch) (fb : Option SpXfer) (s : State) : Out :=
  s.to (s.chip.runCore fun c => c.spMac u md s1 s2 fa fb)

/-- SP_MSU. -/
def execSpMsu (u : Nat) (md : Nat) (s1 : Nat) (s2 : Nat) (fa : Option SpFetch) (fb : Option SpXfer) (s : State) : Out :=
  s.to (s.chip.runCore fun c => c.spMsu u md s1 s2 fa fb)

/-- SP_MPYR. -/
def execSpMpyr (u : Nat) (md : Nat) (s1 : Nat) (s2 : Nat) (fa : Option SpFetch) (fb : Option SpXfer) (s : State) : Out :=
  s.to (s.chip.runCore fun c => c.spMpyr u md s1 s2 fa fb)

/-- SP_MACR. -/
def execSpMacr (u : Nat) (md : Nat) (s1 : Nat) (s2 : Nat) (fa : Option SpFetch) (fb : Option SpXfer) (s : State) : Out :=
  s.to (s.chip.runCore fun c => c.spMacr u md s1 s2 fa fb)

/-- SP_ADD. -/
def execSpAdd (u : Nat) (md : Nat) (s1 : Nat) (fa : Option SpFetch) (fb : Option SpXfer) (s : State) : Out :=
  s.to (s.chip.runCore fun c => c.spAdd u md s1 fa fb)

/-- SP_SUB. -/
def execSpSub (u : Nat) (md : Nat) (s1 : Nat) (fa : Option SpFetch) (fb : Option SpXfer) (s : State) : Out :=
  s.to (s.chip.runCore fun c => c.spSub u md s1 fa fb)

/-- SP_ADDM. -/
def execSpAddm (u : Nat) (md : Nat) (m2 : Nat) (fa : Option SpFetch) (fb : Option SpXfer) (s : State) : Out :=
  s.to (s.chip.runCore fun c => c.spAddm u md m2 fa fb)

/-- SP_PUTM. -/
def execSpPutm (u : Nat) (md : Nat) (s1 : Nat) (fa : Option SpFetch) (fb : Option SpXfer) (s : State) : Out :=
  s.to (s.chip.runCore fun c => c.spPutm u md s1 fa fb)

/-- SP_CPYM. -/
def execSpCpym (u : Nat) (md : Nat) (m2 : Nat) (fa : Option SpFetch) (fb : Option SpXfer) (s : State) : Out :=
  s.to (s.chip.runCore fun c => c.spCpym u md m2 fa fb)

/-- SP_NEGM. -/
def execSpNegm (u : Nat) (md : Nat) (fa : Option SpFetch) (fb : Option SpXfer) (s : State) : Out :=
  s.to (s.chip.runCore fun c => c.spNegm u md fa fb)

/-- SP_ABSM. -/
def execSpAbsm (u : Nat) (md : Nat) (fa : Option SpFetch) (fb : Option SpXfer) (s : State) : Out :=
  s.to (s.chip.runCore fun c => c.spAbsm u md fa fb)

/-- SP_ASLM. -/
def execSpAslm (u : Nat) (md : Nat) (fa : Option SpFetch) (fb : Option SpXfer) (s : State) : Out :=
  s.to (s.chip.runCore fun c => c.spAslm u md fa fb)

/-- SP_ASRM. -/
def execSpAsrm (u : Nat) (md : Nat) (fa : Option SpFetch) (fb : Option SpXfer) (s : State) : Out :=
  s.to (s.chip.runCore fun c => c.spAsrm u md fa fb)

/-- SP_RND. -/
def execSpRnd (u : Nat) (md : Nat) (fa : Option SpFetch) (fb : Option SpXfer) (s : State) : Out :=
  s.to (s.chip.runCore fun c => c.spRnd u md fa fb)

/-- SP_CMPA. -/
def execSpCmpa (u : Nat) (md : Nat) (s1 : Nat) (fa : Option SpFetch) (fb : Option SpXfer) (s : State) : Out :=
  s.to (s.chip.runCore fun c => c.spCmpa u md s1 fa fb)

/-- SP_MAXI. -/
def execSpMaxi (u : Nat) (md : Nat) (s1 : Nat) (fa : Option SpFetch) (fb : Option SpXfer) (s : State) : Out :=
  s.to (s.chip.runCore fun c => c.spMaxi u md s1 fa fb)

/-- SP_MINI. -/
def execSpMini (u : Nat) (md : Nat) (s1 : Nat) (fa : Option SpFetch) (fb : Option SpXfer) (s : State) : Out :=
  s.to (s.chip.runCore fun c => c.spMini u md s1 fa fb)

/-- SP_MOVE. -/
def execSpMove (u : Nat) (mv : SpMove) (s : State) : Out := s.to (s.chip.runCore fun c => c.spMove u mv)

/-- SP_LDS. -/
def execSpLds (u : Nat) (x : Nat) (off : Nat) (f24 : Bool) (s : State) : Out := s.to (s.chip.runCore fun c => c.spLds u x off f24)

/-- SP_LDSM. -/
def execSpLdsm (u : Nat) (md : Nat) (off : Nat) (s : State) : Out := s.to (s.chip.runCore fun c => c.spLdsm u md off)

/-- SP_STS. -/
def execSpSts (u : Nat) (src : SpLoc) (off : Nat) (f24 : Bool) (s : State) : Out := s.to (s.chip.runCore fun c => c.spSts u src off f24)

/-- SP_STSW. -/
def execSpStsw (u : Nat) (md : Nat) (off : Nat) (s : State) : Out := s.to (s.chip.runCore fun c => c.spStsw u md off)

/-- SP_SETP. -/
def execSpSetp (u : Nat) (k : Nat) (v : SpVal) (s : State) : Out := s.to (s.chip.runCore fun c => c.spSetp u k v)

/-- SP_SETN. -/
def execSpSetn (u : Nat) (k : Nat) (v : SpVal) (s : State) : Out := s.to (s.chip.runCore fun c => c.spSetn u k v)

/-- SP_ADDP. -/
def execSpAddp (u : Nat) (k : Nat) (d : Int) (s : State) : Out := s.to (s.chip.runCore fun c => c.spAddp u k d)

/-- SP_BR. -/
def execSpBr (u : Nat) (cc : Nat) (m : Int) (s : State) : Out := s.to (s.chip.runCore fun c => c.spBr u cc m)

/-- SP_CALL. -/
def execSpCall (u : Nat) (m : Int) (s : State) : Out := s.to (s.chip.runCore fun c => c.spCall u m)

/-- SP_RET. -/
def execSpRet (u : Nat) (s : State) : Out := s.to (s.chip.runCore fun c => c.spRet u)

/-- SP_LOOP. -/
def execSpLoop (u : Nat) (n : SpVal) (len : Nat) (s : State) : Out := s.to (s.chip.runCore fun c => c.spLoop u n len)

/-- SP_END. -/
def execSpEnd (u : Nat) (s : State) : Out := s.to (s.chip.runCore fun c => c.spEnd u)

/-- SP_FLT. -/
def execSpFlt (u : Nat) (code : Nat) (s : State) : Out := s.to (s.chip.runCore fun c => c.spFlt u code)

/-- SP_RTI. -/
def execSpRti (u : Nat) (s : State) : Out := s.to (s.chip.runCore fun c => c.spRti u)

/-- SP_DI. -/
def execSpDi (u : Nat) (s : State) : Out := s.to (s.chip.runCore fun c => c.spDi u)

/-- SP_EI. -/
def execSpEi (u : Nat) (s : State) : Out := s.to (s.chip.runCore fun c => c.spEi u)

/-- SP_SAVL. -/
def execSpSavl (u : Nat) (s : State) : Out := s.to (s.chip.runCore fun c => c.spSavl u)

/-- SP_RSTL. -/
def execSpRstl (u : Nat) (s : State) : Out := s.to (s.chip.runCore fun c => c.spRstl u)

/-- SP_EXP. -/
def execSpExp (u : Nat) (ra : Nat) (ma : Nat) (s : State) : Out := s.to (s.chip.runCore fun c => c.spExp u ra ma)

/-- SP_NORM. -/
def execSpNorm (u : Nat) (ma : Nat) (ra : Nat) (s : State) : Out := s.to (s.chip.runCore fun c => c.spNorm u ma ra)

/-- SP_NORMI. -/
def execSpNormi (u : Nat) (ma : Nat) (n : Int) (s : State) : Out := s.to (s.chip.runCore fun c => c.spNormi u ma n)

/-- SP_SQRT. -/
def execSpSqrt (u : Nat) (ma : Nat) (mb : Nat) (s : State) : Out := s.to (s.chip.runCore fun c => c.spSqrt u ma mb)

/-- SP_DIV. -/
def execSpDiv (u : Nat) (ma : Nat) (mb : Nat) (ra : Nat) (s : State) : Out := s.to (s.chip.runCore fun c => c.spDiv u ma mb ra)

/-- SP_ATAN2. -/
def execSpAtan2 (u : Nat) (ra : Nat) (rb : Nat) (s : State) : Out := s.to (s.chip.runCore fun c => c.spAtan2 u ra rb)

/-- SP_SINCOS. -/
def execSpSincos (u : Nat) (ra : Nat) (s : State) : Out := s.to (s.chip.runCore fun c => c.spSincos u ra)

/-- SP_CLRI. -/
def execSpClri (u : Nat) (s : State) : Out := s.to (s.chip.runCore fun c => c.spClri u)

/-- SP_MOVIX. -/
def execSpMovix (u : Nat) (ra : Nat) (s : State) : Out := s.to (s.chip.runCore fun c => c.spMovix u ra)

/-- SP_PEAK_ENTRY. -/
def execSpPeakEntry (u : Nat) (s : State) : Out := s.to (s.chip.runCore fun c => c.spPeakEntry u)

end Sys2Proof.Machine
end

