-- ==== Sys2Proof/Machine/ExecTime.lean ====
section
/-! DEFINITION. Machine/ExecTime.lean: the meanings of the commands of PTP, ring time and TRG_IO. -/

namespace Sys2Proof.Machine

/-- PTP_SYNC. -/
def execPtpSync (m : PtpMsg) (s : State) : Out := s.to (s.chip.runCore fun c => c.ptpSync m)

/-- PTP_FOLLOW_UP. -/
def execPtpFollowUp (m : PtpMsg) (s : State) : Out := s.to (s.chip.runCore fun c => c.ptpFollowUp m)

/-- PTP_DELAY_REQ. -/
def execPtpDelayReq (m : PtpMsg) (s : State) : Out := s.to (s.chip.runCore fun c => c.ptpDelayReq m)

/-- PTP_DELAY_RESP. -/
def execPtpDelayResp (m : PtpMsg) (s : State) : Out := s.to (s.chip.runCore fun c => c.ptpDelayResp m)

/-- PTP_PDELAY_REQ. -/
def execPtpPdelayReq (m : PtpMsg) (turn : Nat) (s : State) : Out := s.to (s.chip.runCore fun c => c.ptpPdelayReq m turn)

/-- PTP_PDELAY_RESP. -/
def execPtpPdelayResp (m : PtpMsg) (s : State) : Out := s.to (s.chip.runCore fun c => c.ptpPdelayResp m)

/-- PTP_PDELAY_RESP_FOLLOW_UP. -/
def execPtpPdelayRespFollowUp (m : PtpMsg) (s : State) : Out := s.to (s.chip.runCore fun c => c.ptpPdelayFup m)

/-- PTP_ANNOUNCE. -/
def execPtpAnnounce (m : PtpMsg) (s : State) : Out := s.to (s.chip.runCore fun c => c.ptpAnnounce m)

/-- PTP_OTHER_DISCARD. -/
def execPtpOtherDiscard (port : Nat) (failed : Bool) (s : State) : Out := s.to (s.chip.runCore fun c => c.ptpOther port failed)

/-- SYNC_RECEIPT_TIMEOUT. -/
def execSyncReceiptTimeout (n : Nat) (s : State) : Out := s.to (s.chip.runCore fun c => c.syncTimeout n)

/-- ANNOUNCE_RECEIPT_TIMEOUT. -/
def execAnnounceReceiptTimeout (n : Nat) (s : State) : Out := s.to (s.chip.runCore fun c => c.annTimeout n)

/-- SOURCE_SELECTION. -/
def execSourceSelection (s : State) : Out := s.to (s.chip.runCore fun c => c.sourceSelect)

/-- HOLD_MAX_EXPIRY. -/
def execHoldMaxExpiry (s : State) : Out := s.to (s.chip.runCore fun c => c.holdMax)

/-- SLEW_DONE. -/
def execSlewDone (s : State) : Out := s.to (s.chip.runCore fun c => c.slewDone)

/-- TRG_CAPTURE_EDGE. -/
def execTrgCaptureEdge (n : Nat) (rising : Bool) (t : Rt) (s : State) : Out := s.to (s.chip.runCore fun c => c.trgEdge n rising t)

/-- PPS_EDGE. -/
def execPpsEdge (n : Nat) (rising : Bool) (s : State) : Out := s.to (s.chip.runCore fun c => c.ppsEdge n rising)

/-- PTP_MESSAGE_INTERVAL. -/
def execPtpMessageInterval (n : Nat) (port : Nat) (mtype : Nat) (s : State) : Out :=
  s.to (s.chip.runCore fun c => c.ptpInterval n port mtype)

end Sys2Proof.Machine
end

