-- ==== Sys2Proof/Machine/ExecVis.lean ====
section
/-! DEFINITION. Machine/ExecVis.lean: the meanings of the commands of the Visor. -/

namespace Sys2Proof.Machine

/-- VISOR_EVENT_TRIGGER. -/
def execVisorEventTrigger (u : Nat) (s : State) : Out := s.to (s.chip.runCore fun c => c.visEventTrigger u)

/-- VISOR_PIN_TRIGGER. -/
def execVisorPinTrigger (u : Nat) (t : Rt) (rising : Bool) (s : State) : Out := s.to (s.chip.runCore fun c => c.visPinTrigger u t rising)

/-- VISOR_TIME_TRIGGER. -/
def execVisorTimeTrigger (u : Nat) (s : State) : Out := s.to (s.chip.runCore fun c => c.visTimeTrigger u)

/-- VISOR_RECORD_COMPLETE. -/
def execVisorRecordComplete (s : State) : Out := s.to (s.chip.runCore fun c => c.visComplete)

/-- VISOR_HOLDOFF_EXPIRY. -/
def execVisorHoldoffExpiry (s : State) : Out := s.to (s.chip.runCore fun c => c.visHoldoff)

/-- VISOR_SHARE_OUTPUT. -/
def execVisorShareOutput (s : State) : Out := s.to (s.chip.runCore fun c => c.visShareOut)

/-- NB_TIMEOUT. -/
def execNbTimeout (s : State) : Out := s.to (s.chip.runCore fun c => c.nbTimeout)

end Sys2Proof.Machine
end

