-- ==== Sys2Proof/Machine/Dispatch.lean ====
section
/-! DEFINITION. Machine/Dispatch.lean: one arm per command. -/

namespace Sys2Proof.Machine

def exec (i : Instr) (s : State) : Host.Outcome State Fault Refusal :=
  match i with
  | .cycleBoundary => Sys2Proof.Machine.execCycleBoundary s
  | .senseFrameLaunch => Sys2Proof.Machine.execSenseFrameLaunch s
  | .senseCopyReturn seg ring t good recs area hop => Sys2Proof.Machine.execSenseCopyReturn seg ring t good recs area hop s
  | .senseReturnDeadline seg r => Sys2Proof.Machine.execSenseReturnDeadline seg r s
  | .ringClose seg ring => Sys2Proof.Machine.execRingClose seg ring s
  | .uplinkRunReceived r => Sys2Proof.Machine.execUplinkRunReceived r s
  | .rtLockGained => Sys2Proof.Machine.execRtLockGained s
  | .slotMeanUpdate => Sys2Proof.Machine.execSlotMeanUpdate s
  | .computeWindowOpen => Sys2Proof.Machine.execComputeWindowOpen s
  | .releaseDeadline f => Sys2Proof.Machine.execReleaseDeadline f s
  | .driveFrameLaunch => Sys2Proof.Machine.execDriveFrameLaunch s
  | .feedbackTaskDone a => Sys2Proof.Machine.execFeedbackTaskDone a s
  | .filterTaskDone a => Sys2Proof.Machine.execFilterTaskDone a s
  | .observeTaskDone a => Sys2Proof.Machine.execObserveTaskDone a s
  | .commuteInDone a => Sys2Proof.Machine.execCommuteInDone a s
  | .lawTaskEnd a copyB => Sys2Proof.Machine.execLawTaskEnd a copyB s
  | .pairCompare a => Sys2Proof.Machine.execPairCompare a s
  | .commuteOutDone a => Sys2Proof.Machine.execCommuteOutDone a s
  | .packDone a => Sys2Proof.Machine.execPackDone a s
  | .profileTaskDone a => Sys2Proof.Machine.execProfileTaskDone a s
  | .measureTaskDone area ws => Sys2Proof.Machine.execMeasureTaskDone area ws s
  | .measureWindowEnd => Sys2Proof.Machine.execMeasureWindowEnd s
  | .taskOverrun t a copyB => Sys2Proof.Machine.execTaskOverrun t a copyB s
  | .leNop u => Sys2Proof.Machine.execLeNop u s
  | .leLdi u x m => Sys2Proof.Machine.execLeLdi u x m s
  | .leMov u x y => Sys2Proof.Machine.execLeMov u x y s
  | .leAdd u x y => Sys2Proof.Machine.execLeAdd u x y s
  | .leSub u x y => Sys2Proof.Machine.execLeSub u x y s
  | .leNeg u x y => Sys2Proof.Machine.execLeNeg u x y s
  | .leAbs u x y => Sys2Proof.Machine.execLeAbs u x y s
  | .leMin u x y => Sys2Proof.Machine.execLeMin u x y s
  | .leMax u x y => Sys2Proof.Machine.execLeMax u x y s
  | .leCmp u x y => Sys2Proof.Machine.execLeCmp u x y s
  | .leAsr u x m => Sys2Proof.Machine.execLeAsr u x m s
  | .leAsl u x m => Sys2Proof.Machine.execLeAsl u x m s
  | .leMpy u A x y => Sys2Proof.Machine.execLeMpy u A x y s
  | .leMac u A x y => Sys2Proof.Machine.execLeMac u A x y s
  | .leMsu u A x y => Sys2Proof.Machine.execLeMsu u A x y s
  | .leMaci u A x m => Sys2Proof.Machine.execLeMaci u A x m s
  | .leLda u A x => Sys2Proof.Machine.execLeLda u A x s
  | .leAdda u A b => Sys2Proof.Machine.execLeAdda u A b s
  | .leSuba u A b => Sys2Proof.Machine.execLeSuba u A b s
  | .leSha u A m => Sys2Proof.Machine.execLeSha u A m s
  | .leClmp u A x y => Sys2Proof.Machine.execLeClmp u A x y s
  | .leTsta u A => Sys2Proof.Machine.execLeTsta u A s
  | .leSat u x A m => Sys2Proof.Machine.execLeSat u x A m s
  | .leSqrt u x A => Sys2Proof.Machine.execLeSqrt u x A s
  | .leDiv u x A y => Sys2Proof.Machine.execLeDiv u x A y s
  | .leMova u x A => Sys2Proof.Machine.execLeMova u x A s
  | .leLd u x off => Sys2Proof.Machine.execLeLd u x off s
  | .leLdx u x off => Sys2Proof.Machine.execLeLdx u x off s
  | .leLdw u A off => Sys2Proof.Machine.execLeLdw u A off s
  | .leLdac u A off => Sys2Proof.Machine.execLeLdac u A off s
  | .leLdr u x y off => Sys2Proof.Machine.execLeLdr u x y off s
  | .leLdrx u x y off => Sys2Proof.Machine.execLeLdrx u x y off s
  | .leLdl u x m => Sys2Proof.Machine.execLeLdl u x m s
  | .leSt u x off => Sys2Proof.Machine.execLeSt u x off s
  | .leStx u x off => Sys2Proof.Machine.execLeStx u x off s
  | .leStw u A off => Sys2Proof.Machine.execLeStw u A off s
  | .leStac u A off => Sys2Proof.Machine.execLeStac u A off s
  | .leStl u x m => Sys2Proof.Machine.execLeStl u x m s
  | .leSubw u A off => Sys2Proof.Machine.execLeSubw u A off s
  | .leBr u cc m => Sys2Proof.Machine.execLeBr u cc m s
  | .leCall u m => Sys2Proof.Machine.execLeCall u m s
  | .leRet u => Sys2Proof.Machine.execLeRet u s
  | .leEnd u => Sys2Proof.Machine.execLeEnd u s
  | .leFlt u code => Sys2Proof.Machine.execLeFlt u code s
  | .spNop u fa fb => Sys2Proof.Machine.execSpNop u fa fb s
  | .spClr u md fa fb => Sys2Proof.Machine.execSpClr u md fa fb s
  | .spMpy u md s1 s2 fa fb => Sys2Proof.Machine.execSpMpy u md s1 s2 fa fb s
  | .spMac u md s1 s2 fa fb => Sys2Proof.Machine.execSpMac u md s1 s2 fa fb s
  | .spMsu u md s1 s2 fa fb => Sys2Proof.Machine.execSpMsu u md s1 s2 fa fb s
  | .spMpyr u md s1 s2 fa fb => Sys2Proof.Machine.execSpMpyr u md s1 s2 fa fb s
  | .spMacr u md s1 s2 fa fb => Sys2Proof.Machine.execSpMacr u md s1 s2 fa fb s
  | .spAdd u md s1 fa fb => Sys2Proof.Machine.execSpAdd u md s1 fa fb s
  | .spSub u md s1 fa fb => Sys2Proof.Machine.execSpSub u md s1 fa fb s
  | .spAddm u md m2 fa fb => Sys2Proof.Machine.execSpAddm u md m2 fa fb s
  | .spPutm u md s1 fa fb => Sys2Proof.Machine.execSpPutm u md s1 fa fb s
  | .spCpym u md m2 fa fb => Sys2Proof.Machine.execSpCpym u md m2 fa fb s
  | .spNegm u md fa fb => Sys2Proof.Machine.execSpNegm u md fa fb s
  | .spAbsm u md fa fb => Sys2Proof.Machine.execSpAbsm u md fa fb s
  | .spAslm u md fa fb => Sys2Proof.Machine.execSpAslm u md fa fb s
  | .spAsrm u md fa fb => Sys2Proof.Machine.execSpAsrm u md fa fb s
  | .spRnd u md fa fb => Sys2Proof.Machine.execSpRnd u md fa fb s
  | .spCmpa u md s1 fa fb => Sys2Proof.Machine.execSpCmpa u md s1 fa fb s
  | .spMaxi u md s1 fa fb => Sys2Proof.Machine.execSpMaxi u md s1 fa fb s
  | .spMini u md s1 fa fb => Sys2Proof.Machine.execSpMini u md s1 fa fb s
  | .spMove u mv => Sys2Proof.Machine.execSpMove u mv s
  | .spLds u x off f24 => Sys2Proof.Machine.execSpLds u x off f24 s
  | .spLdsm u md off => Sys2Proof.Machine.execSpLdsm u md off s
  | .spSts u src off f24 => Sys2Proof.Machine.execSpSts u src off f24 s
  | .spStsw u md off => Sys2Proof.Machine.execSpStsw u md off s
  | .spSetp u k v => Sys2Proof.Machine.execSpSetp u k v s
  | .spSetn u k v => Sys2Proof.Machine.execSpSetn u k v s
  | .spAddp u k d => Sys2Proof.Machine.execSpAddp u k d s
  | .spBr u cc m => Sys2Proof.Machine.execSpBr u cc m s
  | .spCall u m => Sys2Proof.Machine.execSpCall u m s
  | .spRet u => Sys2Proof.Machine.execSpRet u s
  | .spLoop u n len => Sys2Proof.Machine.execSpLoop u n len s
  | .spEnd u => Sys2Proof.Machine.execSpEnd u s
  | .spFlt u code => Sys2Proof.Machine.execSpFlt u code s
  | .spRti u => Sys2Proof.Machine.execSpRti u s
  | .spDi u => Sys2Proof.Machine.execSpDi u s
  | .spEi u => Sys2Proof.Machine.execSpEi u s
  | .spSavl u => Sys2Proof.Machine.execSpSavl u s
  | .spRstl u => Sys2Proof.Machine.execSpRstl u s
  | .spExp u ra ma => Sys2Proof.Machine.execSpExp u ra ma s
  | .spNorm u ma ra => Sys2Proof.Machine.execSpNorm u ma ra s
  | .spNormi u ma n => Sys2Proof.Machine.execSpNormi u ma n s
  | .spSqrt u ma mb => Sys2Proof.Machine.execSpSqrt u ma mb s
  | .spDiv u ma mb ra => Sys2Proof.Machine.execSpDiv u ma mb ra s
  | .spAtan2 u ra rb => Sys2Proof.Machine.execSpAtan2 u ra rb s
  | .spSincos u ra => Sys2Proof.Machine.execSpSincos u ra s
  | .spClri u => Sys2Proof.Machine.execSpClri u s
  | .spMovix u ra => Sys2Proof.Machine.execSpMovix u ra s
  | .spPeakEntry u => Sys2Proof.Machine.execSpPeakEntry u s
  | .excitationPeak n t xs xc => Sys2Proof.Machine.execExcitationPeak n t xs xc s
  | .adcConversion n k xs xc => Sys2Proof.Machine.execAdcConversion n k xs xc s
  | .cuffLevelChange n cs => Sys2Proof.Machine.execCuffLevelChange n cs s
  | .cuffPulseRejected n => Sys2Proof.Machine.execCuffPulseRejected n s
  | .lineFault n begins => Sys2Proof.Machine.execLineFault n begins s
  | .latchEvent n rising t => Sys2Proof.Machine.execLatchEvent n rising t s
  | .ssiTransferDone n low data par stop => Sys2Proof.Machine.execSsiTransferDone n low data par stop s
  | .limitSwitchChange n level t => Sys2Proof.Machine.execLimitSwitchChange n level t s
  | .alignStepAdvance a => Sys2Proof.Machine.execAlignStepAdvance a s
  | .alignHoldTimeout a => Sys2Proof.Machine.execAlignHoldTimeout a s
  | .probeSequenceDone a => Sys2Proof.Machine.execProbeSequenceDone a s
  | .obsHoldExpiry a => Sys2Proof.Machine.execObsHoldExpiry a s
  | .obsInhExpiry a => Sys2Proof.Machine.execObsInhExpiry a s
  | .obsStAlnExpiry a => Sys2Proof.Machine.execObsStAlnExpiry a s
  | .obsMergeExpiry a => Sys2Proof.Machine.execObsMergeExpiry a s
  | .obsStTmoExpiry a => Sys2Proof.Machine.execObsStTmoExpiry a s
  | .obsRetryWaitExpiry a => Sys2Proof.Machine.execObsRetryWaitExpiry a s
  | .keCheckWindow a => Sys2Proof.Machine.execKeCheckWindow a s
  | .safeInputLevelChange n chB level ts => Sys2Proof.Machine.execSafeInputLevelChange n chB level ts s
  | .discrepancyTimeout n => Sys2Proof.Machine.execDiscrepancyTimeout n s
  | .resetEdge n => Sys2Proof.Machine.execResetEdge n s
  | .resetHighTimeout n chB => Sys2Proof.Machine.execResetHighTimeout n chB s
  | .confirmPulse => Sys2Proof.Machine.execConfirmPulse s
  | .confirmWindowExpiry => Sys2Proof.Machine.execConfirmWindowExpiry s
  | .soutTestPulse n lowSide rbh rbl => Sys2Proof.Machine.execSoutTestPulse n lowSide rbh rbl s
  | .soutSwitchOnStep n rbh rbl => Sys2Proof.Machine.execSoutSwitchOnStep n rbh rbl s
  | .soutReadbackMismatch n rbh rbl => Sys2Proof.Machine.execSoutReadbackMismatch n rbh rbl s
  | .proofTestDone pass chan => Sys2Proof.Machine.execProofTestDone pass chan s
  | .safetyRecordReceived seg p r => Sys2Proof.Machine.execSafetyRecordReceived seg p r s
  | .safetyWatchdogExpiry seg p => Sys2Proof.Machine.execSafetyWatchdogExpiry seg p s
  | .xchanPersist => Sys2Proof.Machine.execXchanPersist s
  | .sbcDelayExpiry a => Sys2Proof.Machine.execSbcDelayExpiry a s
  | .degTExpiry a => Sys2Proof.Machine.execDegTExpiry a s
  | .gauntletBootDone => Sys2Proof.Machine.execGauntletBootDone s
  | .visorEventTrigger u => Sys2Proof.Machine.execVisorEventTrigger u s
  | .visorPinTrigger u t rising => Sys2Proof.Machine.execVisorPinTrigger u t rising s
  | .visorTimeTrigger u => Sys2Proof.Machine.execVisorTimeTrigger u s
  | .visorRecordComplete => Sys2Proof.Machine.execVisorRecordComplete s
  | .visorHoldoffExpiry => Sys2Proof.Machine.execVisorHoldoffExpiry s
  | .visorShareOutput => Sys2Proof.Machine.execVisorShareOutput s
  | .nbTimeout => Sys2Proof.Machine.execNbTimeout s
  | .portLinkUp u => Sys2Proof.Machine.execPortLinkUp u s
  | .portLinkDown u => Sys2Proof.Machine.execPortLinkDown u s
  | .trainingTimeout p => Sys2Proof.Machine.execTrainingTimeout p s
  | .trainingRetry p => Sys2Proof.Machine.execTrainingRetry p s
  | .onePortLinkTimeout seg => Sys2Proof.Machine.execOnePortLinkTimeout seg s
  | .listenExpiry => Sys2Proof.Machine.execListenExpiry s
  | .claimReceived h => Sys2Proof.Machine.execClaimReceived h s
  | .crownRecordReceived h t => Sys2Proof.Machine.execCrownRecordReceived h t s
  | .standbyNoticeReceived h => Sys2Proof.Machine.execStandbyNoticeReceived h s
  | .takeoverExpiry => Sys2Proof.Machine.execTakeoverExpiry s
  | .rtsyncReceived seg cyc v => Sys2Proof.Machine.execRtsyncReceived seg cyc v s
  | .nodeLoss seg p => Sys2Proof.Machine.execNodeLoss seg p s
  | .toutPersist seg p => Sys2Proof.Machine.execToutPersist seg p s
  | .babbleConfirmed seg => Sys2Proof.Machine.execBabbleConfirmed seg s
  | .babbleCleared seg => Sys2Proof.Machine.execBabbleCleared seg s
  | .mbxData seg p cr data => Sys2Proof.Machine.execMbxData seg p cr data s
  | .mbxAck seg p mseq => Sys2Proof.Machine.execMbxAck seg p mseq s
  | .mbxDelay seg p n gen delta f => Sys2Proof.Machine.execMbxDelay seg p n gen delta f s
  | .mbxSnap seg p n gen r => Sys2Proof.Machine.execMbxSnap seg p n gen r s
  | .mbxIdent seg p d => Sys2Proof.Machine.execMbxIdent seg p d s
  | .mbxVburst seg p n gen bid frag ofs data => Sys2Proof.Machine.execMbxVburst seg p n gen bid frag ofs data s
  | .creditTimeout seg => Sys2Proof.Machine.execCreditTimeout seg s
  | .barrierTimeout => Sys2Proof.Machine.execBarrierTimeout s
  | .snapshotUploadTimeout => Sys2Proof.Machine.execSnapshotUploadTimeout s
  | .ptpSync m => Sys2Proof.Machine.execPtpSync m s
  | .ptpFollowUp m => Sys2Proof.Machine.execPtpFollowUp m s
  | .ptpDelayReq m => Sys2Proof.Machine.execPtpDelayReq m s
  | .ptpDelayResp m => Sys2Proof.Machine.execPtpDelayResp m s
  | .ptpPdelayReq m turn => Sys2Proof.Machine.execPtpPdelayReq m turn s
  | .ptpPdelayResp m => Sys2Proof.Machine.execPtpPdelayResp m s
  | .ptpPdelayRespFollowUp m => Sys2Proof.Machine.execPtpPdelayRespFollowUp m s
  | .ptpAnnounce m => Sys2Proof.Machine.execPtpAnnounce m s
  | .ptpOtherDiscard port failed => Sys2Proof.Machine.execPtpOtherDiscard port failed s
  | .syncReceiptTimeout n => Sys2Proof.Machine.execSyncReceiptTimeout n s
  | .announceReceiptTimeout n => Sys2Proof.Machine.execAnnounceReceiptTimeout n s
  | .sourceSelection => Sys2Proof.Machine.execSourceSelection s
  | .holdMaxExpiry => Sys2Proof.Machine.execHoldMaxExpiry s
  | .slewDone => Sys2Proof.Machine.execSlewDone s
  | .trgCaptureEdge n rising t => Sys2Proof.Machine.execTrgCaptureEdge n rising t s
  | .ppsEdge n rising => Sys2Proof.Machine.execPpsEdge n rising s
  | .cellFault region block cause site word => Sys2Proof.Machine.execCellFault region block cause site word s
  | .handshakeWatchdogExpiry region block => Sys2Proof.Machine.execHandshakeWatchdogExpiry region block s
  | .escalationResetStart => Sys2Proof.Machine.execEscalationResetStart s
  | .ledgerWriteDone => Sys2Proof.Machine.execLedgerWriteDone s
  | .sramScrubDone finds => Sys2Proof.Machine.execSramScrubDone finds s
  | .reverifyDone bad => Sys2Proof.Machine.execReverifyDone bad s
  | .ledgerScrubDone cor unc => Sys2Proof.Machine.execLedgerScrubDone cor unc s
  | .supplyWarning rail mv => Sys2Proof.Machine.execSupplyWarning rail mv s
  | .overvoltageWarning rail mv => Sys2Proof.Machine.execOvervoltageWarning rail mv s
  | .braceLeft => Sys2Proof.Machine.execBraceLeft s
  | .supplyResetLevel rail mv => Sys2Proof.Machine.execSupplyResetLevel rail mv s
  | .powerOnReset => Sys2Proof.Machine.execPowerOnReset s
  | .pinReset => Sys2Proof.Machine.execPinReset s
  | .heartbeatMissing => Sys2Proof.Machine.execHeartbeatMissing s
  | .resetRelease strap => Sys2Proof.Machine.execResetRelease strap s
  | .shellReadDone one two => Sys2Proof.Machine.execShellReadDone one two s
  | .ledgerReadDone badDir cor unc => Sys2Proof.Machine.execLedgerReadDone badDir cor unc s
  | .imageCopyDone bad fail img => Sys2Proof.Machine.execImageCopyDone bad fail img s
  | .bootApplyDone => Sys2Proof.Machine.execBootApplyDone s
  | .tjUpdate tj => Sys2Proof.Machine.execTjUpdate tj s
  | .replicaMeasure beats => Sys2Proof.Machine.execReplicaMeasure beats s
  | .retestDone pass => Sys2Proof.Machine.execRetestDone pass s
  | .flashOpDone => Sys2Proof.Machine.execFlashOpDone s
  | .wakeLoadDone fail => Sys2Proof.Machine.execWakeLoadDone fail s
  | .qspiUpdateTimeout => Sys2Proof.Machine.execQspiUpdateTimeout s
  | .frExportTimeout => Sys2Proof.Machine.execFrExportTimeout s
  | .makerTestInstruction => Sys2Proof.Machine.execMakerTestInstruction s
  | .registerWrite p addr w => Sys2Proof.Machine.execRegisterWrite p addr w s
  | .guardedValueWrite p addr w => Sys2Proof.Machine.execGuardedValueWrite p addr w s
  | .guardWindowExpiry p => Sys2Proof.Machine.execGuardWindowExpiry p s
  | .postedWriteDone b => Sys2Proof.Machine.execPostedWriteDone b s
  | .viewOpen p w => Sys2Proof.Machine.execViewOpen p w s
  | .modeChange p mode => Sys2Proof.Machine.execModeChange p mode s
  | .modeCancel p => Sys2Proof.Machine.execModeCancel p s
  | .barrier p => Sys2Proof.Machine.execBarrier p s
  | .snapshot p => Sys2Proof.Machine.execSnapshot p s
  | .netreset p => Sys2Proof.Machine.execNetreset p s
  | .retry p => Sys2Proof.Machine.execRetry p s
  | .readmit p seg pos => Sys2Proof.Machine.execReadmit p seg pos s
  | .deadmit p seg pos => Sys2Proof.Machine.execDeadmit p seg pos s
  | .linkSegRefusePop p seg => Sys2Proof.Machine.execLinkSegRefusePop p seg s
  | .selectA p => Sys2Proof.Machine.execSelectA p s
  | .selectB p => Sys2Proof.Machine.execSelectB p s
  | .hold p => Sys2Proof.Machine.execHold p s
  | .release p => Sys2Proof.Machine.execRelease p s
  | .alignNow p => Sys2Proof.Machine.execAlignNow p s
  | .timeCapPop p => Sys2Proof.Machine.execTimeCapPop p s
  | .cuffCfgWrite p n reg w => Sys2Proof.Machine.execCuffCfgWrite p n reg w s
  | .clrSuspect p target remote => Sys2Proof.Machine.execClrSuspect p target remote s
  | .setRef p target remote => Sys2Proof.Machine.execSetRef p target remote s
  | .cuffLatchPop p n => Sys2Proof.Machine.execCuffLatchPop p n s
  | .align p a => Sys2Proof.Machine.execAlign p a s
  | .clrAlign p a => Sys2Proof.Machine.execClrAlign p a s
  | .axOpen p a => Sys2Proof.Machine.execAxOpen p a s
  | .axRun p a => Sys2Proof.Machine.execAxRun p a s
  | .axOff p a => Sys2Proof.Machine.execAxOff p a s
  | .clearFault p a => Sys2Proof.Machine.execClearFault p a s
  | .axisConfigWrite p a off w => Sys2Proof.Machine.execAxisConfigWrite p a off w s
  | .perCycleWordWrite p a off w => Sys2Proof.Machine.execPerCycleWordWrite p a off w s
  | .clrSlackMin p => Sys2Proof.Machine.execClrSlackMin p s
  | .trClear p => Sys2Proof.Machine.execTrClear p s
  | .dispatchTrPop p => Sys2Proof.Machine.execDispatchTrPop p s
  | .move p a => Sys2Proof.Machine.execMove p a s
  | .vel p a => Sys2Proof.Machine.execVel p a s
  | .stop p a => Sys2Proof.Machine.execStop p a s
  | .tblTime p a => Sys2Proof.Machine.execTblTime p a s
  | .tblCam p a => Sys2Proof.Machine.execTblCam p a s
  | .gearOn p a => Sys2Proof.Machine.execGearOn p a s
  | .knuckle p a => Sys2Proof.Machine.execKnuckle p a s
  | .gearOff p a => Sys2Proof.Machine.execGearOff p a s
  | .addOfs p a => Sys2Proof.Machine.execAddOfs p a s
  | .setOfs p a => Sys2Proof.Machine.execSetOfs p a s
  | .home p a => Sys2Proof.Machine.execHome p a s
  | .clr p a => Sys2Proof.Machine.execClr p a s
  | .vmVel p => Sys2Proof.Machine.execVmVel p s
  | .vmStop p => Sys2Proof.Machine.execVmStop p s
  | .profileTblDataAccess p w => Sys2Proof.Machine.execProfileTblDataAccess p w s
  | .sto p mask => Sys2Proof.Machine.execSto p mask s
  | .ss1 p mask => Sys2Proof.Machine.execSs1 p mask s
  | .withdraw p mask => Sys2Proof.Machine.execWithdraw p mask s
  | .proofTest p => Sys2Proof.Machine.execProofTest p s
  | .gauntletConfCmd p w => Sys2Proof.Machine.execGauntletConfCmd p w s
  | .arm p => Sys2Proof.Machine.execArm p s
  | .disarm p => Sys2Proof.Machine.execDisarm p s
  | .force p => Sys2Proof.Machine.execForce p s
  | .clrStats p => Sys2Proof.Machine.execClrStats p s
  | .visorDoneFree p high w => Sys2Proof.Machine.execVisorDoneFree p high w s
  | .visorMdataRead p => Sys2Proof.Machine.execVisorMdataRead p s
  | .eventsLogPop p => Sys2Proof.Machine.execEventsLogPop p s
  | .vectorAck p w => Sys2Proof.Machine.execVectorAck p w s
  | .clrLog p => Sys2Proof.Machine.execClrLog p s
  | .clrCount p => Sys2Proof.Machine.execClrCount p s
  | .hostReset p => Sys2Proof.Machine.execHostReset p s
  | .park p => Sys2Proof.Machine.execPark p s
  | .unpark p => Sys2Proof.Machine.execUnpark p s
  | .standby p => Sys2Proof.Machine.execStandby p s
  | .wake p => Sys2Proof.Machine.execWake p s
  | .qspiErase p => Sys2Proof.Machine.execQspiErase p s
  | .qspiProg p => Sys2Proof.Machine.execQspiProg p s
  | .bootShellDataRead p => Sys2Proof.Machine.execBootShellDataRead p s
  | .bootQspiDataAccess p w => Sys2Proof.Machine.execBootQspiDataAccess p w s
  | .linStore p => Sys2Proof.Machine.execLinStore p s
  | .linDelete p => Sys2Proof.Machine.execLinDelete p s
  | .linClearAll p => Sys2Proof.Machine.execLinClearAll p s
  | .pendClear p => Sys2Proof.Machine.execPendClear p s
  | .ledgerDataAccess p w => Sys2Proof.Machine.execLedgerDataAccess p w s
  | .bootClassWrite p w => Sys2Proof.Machine.execBootClassWrite p w s
  | .clrMin p => Sys2Proof.Machine.execClrMin p s
  | .frSnap p => Sys2Proof.Machine.execFrSnap p s
  | .qspiUpdate p => Sys2Proof.Machine.execQspiUpdate p s
  | .retest p => Sys2Proof.Machine.execRetest p s
  | .frExport p => Sys2Proof.Machine.execFrExport p s
  | .maintEnd p => Sys2Proof.Machine.execMaintEnd p s
  | .spiWrite addr ws => Sys2Proof.Machine.execSpiWrite addr ws s
  | .spiRead addr late => Sys2Proof.Machine.execSpiRead addr late s
  | .spiStatus => Sys2Proof.Machine.execSpiStatus s
  | .spiId => Sys2Proof.Machine.execSpiId s
  | .spiCsRise cut => Sys2Proof.Machine.execSpiCsRise cut s
  | .pcieMemWrite bar2 addr ws be => Sys2Proof.Machine.execPcieMemWrite bar2 addr ws be s
  | .pcieMemRead bar2 addr q => Sys2Proof.Machine.execPcieMemRead bar2 addr q s
  | .pcieFlr => Sys2Proof.Machine.execPcieFlr s
  | .pcieLinkUp speed width => Sys2Proof.Machine.execPcieLinkUp speed width s
  | .pcieLinkDown => Sys2Proof.Machine.execPcieLinkDown s
  | .plantFrameReceived port k => Sys2Proof.Machine.execPlantFrameReceived port k s
  | .qmpHello m lo hi => Sys2Proof.Machine.execQmpHello m lo hi s
  | .qmpRead m => Sys2Proof.Machine.execQmpRead m s
  | .qmpWrite m => Sys2Proof.Machine.execQmpWrite m s
  | .qmpOfs m => Sys2Proof.Machine.execQmpOfs m s
  | .qmpViewread m cyc pairs => Sys2Proof.Machine.execQmpViewread m cyc pairs s
  | .qmpGuarded m off w => Sys2Proof.Machine.execQmpGuarded m off w s
  | .qmpClose m => Sys2Proof.Machine.execQmpClose m s
  | .qmpSessionTimeout port id => Sys2Proof.Machine.execQmpSessionTimeout port id s
  | .claimPeriod => Sys2Proof.Machine.execClaimPeriod s
  | .ptpMessageInterval n port mtype => Sys2Proof.Machine.execPtpMessageInterval n port mtype s
  | .selfTestDone => Sys2Proof.Machine.execSelfTestDone s
  | .hostResetDelayExpiry => Sys2Proof.Machine.execHostResetDelayExpiry s
  | .supplyWarningCleared rail mv high => Sys2Proof.Machine.execSupplyWarningCleared rail mv high s
  | .pcieConfigRequest r => Sys2Proof.Machine.execPcieConfigRequest r s
  | .driveCopyReturn seg side good area => Sys2Proof.Machine.execDriveCopyReturn seg side good area s
  | .tableSumsUpdated => Sys2Proof.Machine.execTableSumsUpdated s
  | .slotcfgReceived t mode d => Sys2Proof.Machine.execSlotcfgReceived t mode d s
  | .qmpUnknownType m type => Sys2Proof.Machine.execQmpUnknownType m type s

end Sys2Proof.Machine
end

