-- ==== Sys2Proof/WellFormed.lean ====
section
/-! DEFINITION. WellFormed.lean: which commands are well formed: every index in the range the chip has, every field of an
instruction in the width of its encoding (R22, R334, R335, R377 to R383, R545 to R550). -/

namespace Sys2Proof

open Machine

/-- A register, pointer and update mode of R381. -/
def Machine.SpFetch.wf (x : SpFetch) : Bool := decide (x.reg < 4) && decide (x.ptr < 8) && decide (x.upd < 4)

/-- FB of R381. -/
def Machine.SpXfer.wf : SpXfer → Bool
  | .load r p u => decide (r < 4) && decide (p < 8) && decide (u < 4)
  | .store a p u q => decide (a < 4) && decide (p < 8) && decide (u < 4) && decide (q < 4)

/-- A register or an accumulator part. -/
def Machine.SpLoc.wf : SpLoc → Bool
  | .reg i => decide (i < 4)
  | .acc m q => decide (m < 4) && decide (q < 4)

/-- A 14-bit offset, or a pointer with UPD. -/
def Machine.SpAddr.wf : SpAddr → Bool
  | .direct a => decide (a < 16384)
  | .ptr p u => decide (p < 8) && decide (u < 4)

/-- An instruction of the move class. -/
def Machine.SpMove.wf : SpMove → Bool
  | .move d q => d.wf && q.wf
  | .imm d _ => d.wf
  | .special d r => decide (d < 4) && decide (r < 4)
  | .ld d a => d.wf && a.wf
  | .st q a => q.wf && a.wf

/-- An immediate, or a register. -/
def Machine.SpVal.wf : SpVal → Bool
  | .imm _ => true
  | .reg i => decide (i < 4)

/-- A slow-domain block of the chip. -/
def SlowBlock.wf : SlowBlock → Bool
  | .port n => decide (n < 8)
  | .health | .ledger | .time | .gauntlet => true

/-- BAR0 offset of a guarded register (R553). -/
def guardedOffset (a : Nat) : Bool :=
  [0x100, 0x104, 0x1040, 0x2100, 0x3040, 0x4100, 0x5040, 0x14040, 0x20100, 0x30100, 0x40040, 0x60040, 0x70040, 0x80040,
   0x90040, 0x90044, 0xA0180, 0x10040, 0x11040, 0x12040, 0x13040].contains a

/-- A command that can reach the block. -/
def Instr.wf : Instr → Bool
  | .cycleBoundary => true
  | .senseFrameLaunch => true
  | .senseCopyReturn seg ring _ _ _ area _ => decide (seg < 4) && decide (ring < 2) && decide (area.length ≤ 96)
  | .senseReturnDeadline seg r => decide (seg < 4) && decide (r.ring < 2)
  | .ringClose seg ring => decide (seg < 4) && decide (ring < 2)
  | .uplinkRunReceived r => decide (r.seg < 4) && decide (r.side < 2)
  | .rtLockGained => true
  | .slotMeanUpdate => true
  | .computeWindowOpen => true
  | .releaseDeadline f => decide (f < 4)
  | .driveFrameLaunch => true
  | .feedbackTaskDone a => decide (a < 256)
  | .filterTaskDone a => decide (a < 256)
  | .observeTaskDone a => decide (a < 256)
  | .commuteInDone a => decide (a < 256)
  | .lawTaskEnd a _ => decide (a < 256)
  | .pairCompare a => decide (a < 256)
  | .commuteOutDone a => decide (a < 256)
  | .packDone a => decide (a < 256)
  | .profileTaskDone a => decide (a < 256)
  | .measureTaskDone area ws => decide (area < 64) && decide (ws.length ≤ 16)
  | .measureWindowEnd => true
  | .taskOverrun _ a _ => decide (a < 256)
  | .leNop u => decide (u < 32)
  | .leLdi u x _ => decide (u < 32) && decide (x < 16)
  | .leMov u x y => decide (u < 32) && decide (x < 16) && decide (y < 16)
  | .leAdd u x y => decide (u < 32) && decide (x < 16) && decide (y < 16)
  | .leSub u x y => decide (u < 32) && decide (x < 16) && decide (y < 16)
  | .leNeg u x y => decide (u < 32) && decide (x < 16) && decide (y < 16)
  | .leAbs u x y => decide (u < 32) && decide (x < 16) && decide (y < 16)
  | .leMin u x y => decide (u < 32) && decide (x < 16) && decide (y < 16)
  | .leMax u x y => decide (u < 32) && decide (x < 16) && decide (y < 16)
  | .leCmp u x y => decide (u < 32) && decide (x < 16) && decide (y < 16)
  | .leAsr u x _ => decide (u < 32) && decide (x < 16)
  | .leAsl u x _ => decide (u < 32) && decide (x < 16)
  | .leMpy u A x y => decide (u < 32) && decide (A < 4) && decide (x < 16) && decide (y < 16)
  | .leMac u A x y => decide (u < 32) && decide (A < 4) && decide (x < 16) && decide (y < 16)
  | .leMsu u A x y => decide (u < 32) && decide (A < 4) && decide (x < 16) && decide (y < 16)
  | .leMaci u A x _ => decide (u < 32) && decide (A < 4) && decide (x < 16)
  | .leLda u A x => decide (u < 32) && decide (A < 4) && decide (x < 16)
  | .leAdda u A b => decide (u < 32) && decide (A < 4) && decide (b < 4)
  | .leSuba u A b => decide (u < 32) && decide (A < 4) && decide (b < 4)
  | .leSha u A _ => decide (u < 32) && decide (A < 4)
  | .leClmp u A x y => decide (u < 32) && decide (A < 4) && decide (x < 16) && decide (y < 16)
  | .leTsta u A => decide (u < 32) && decide (A < 4)
  | .leSat u x A _ => decide (u < 32) && decide (x < 16) && decide (A < 4)
  | .leSqrt u x A => decide (u < 32) && decide (x < 16) && decide (A < 4)
  | .leDiv u x A y => decide (u < 32) && decide (x < 16) && decide (A < 4) && decide (y < 16)
  | .leMova u x A => decide (u < 32) && decide (x < 16) && decide (A < 4)
  | .leLd u x off => decide (u < 32) && decide (x < 16) && decide (off < 65536)
  | .leLdx u x off => decide (u < 32) && decide (x < 16) && decide (off < 65536)
  | .leLdw u A off => decide (u < 32) && decide (A < 4) && decide (off < 65536)
  | .leLdac u A off => decide (u < 32) && decide (A < 4) && decide (off < 65536)
  | .leLdr u x y off => decide (u < 32) && decide (x < 16) && decide (y < 16) && decide (off < 65536)
  | .leLdrx u x y off => decide (u < 32) && decide (x < 16) && decide (y < 16) && decide (off < 65536)
  | .leLdl u x m => decide (u < 32) && decide (x < 16) && decide (m < 65536)
  | .leSt u x off => decide (u < 32) && decide (x < 16) && decide (off < 65536)
  | .leStx u x off => decide (u < 32) && decide (x < 16) && decide (off < 65536)
  | .leStw u A off => decide (u < 32) && decide (A < 4) && decide (off < 65536)
  | .leStac u A off => decide (u < 32) && decide (A < 4) && decide (off < 65536)
  | .leStl u x m => decide (u < 32) && decide (x < 16) && decide (m < 65536)
  | .leSubw u A off => decide (u < 32) && decide (A < 4) && decide (off < 65536)
  | .leBr u cc _ => decide (u < 32) && decide (cc < 16)
  | .leCall u _ => decide (u < 32)
  | .leRet u => decide (u < 32)
  | .leEnd u => decide (u < 32)
  | .leFlt u code => decide (u < 32) && decide (code < 65536)
  | .spNop u fa fb => decide (u < 8) && (fa.all SpFetch.wf) && (fb.all SpXfer.wf)
  | .spClr u md fa fb => decide (u < 8) && decide (md < 4) && (fa.all SpFetch.wf) && (fb.all SpXfer.wf)
  | .spMpy u md s1 s2 fa fb => decide (u < 8) && decide (md < 4) && decide (s1 < 4) && decide (s2 < 4) && (fa.all SpFetch.wf) && (fb.all SpXfer.wf)
  | .spMac u md s1 s2 fa fb => decide (u < 8) && decide (md < 4) && decide (s1 < 4) && decide (s2 < 4) && (fa.all SpFetch.wf) && (fb.all SpXfer.wf)
  | .spMsu u md s1 s2 fa fb => decide (u < 8) && decide (md < 4) && decide (s1 < 4) && decide (s2 < 4) && (fa.all SpFetch.wf) && (fb.all SpXfer.wf)
  | .spMpyr u md s1 s2 fa fb => decide (u < 8) && decide (md < 4) && decide (s1 < 4) && decide (s2 < 4) && (fa.all SpFetch.wf) && (fb.all SpXfer.wf)
  | .spMacr u md s1 s2 fa fb => decide (u < 8) && decide (md < 4) && decide (s1 < 4) && decide (s2 < 4) && (fa.all SpFetch.wf) && (fb.all SpXfer.wf)
  | .spAdd u md s1 fa fb => decide (u < 8) && decide (md < 4) && decide (s1 < 4) && (fa.all SpFetch.wf) && (fb.all SpXfer.wf)
  | .spSub u md s1 fa fb => decide (u < 8) && decide (md < 4) && decide (s1 < 4) && (fa.all SpFetch.wf) && (fb.all SpXfer.wf)
  | .spAddm u md m2 fa fb => decide (u < 8) && decide (md < 4) && decide (m2 < 4) && (fa.all SpFetch.wf) && (fb.all SpXfer.wf)
  | .spPutm u md s1 fa fb => decide (u < 8) && decide (md < 4) && decide (s1 < 4) && (fa.all SpFetch.wf) && (fb.all SpXfer.wf)
  | .spCpym u md m2 fa fb => decide (u < 8) && decide (md < 4) && decide (m2 < 4) && (fa.all SpFetch.wf) && (fb.all SpXfer.wf)
  | .spNegm u md fa fb => decide (u < 8) && decide (md < 4) && (fa.all SpFetch.wf) && (fb.all SpXfer.wf)
  | .spAbsm u md fa fb => decide (u < 8) && decide (md < 4) && (fa.all SpFetch.wf) && (fb.all SpXfer.wf)
  | .spAslm u md fa fb => decide (u < 8) && decide (md < 4) && (fa.all SpFetch.wf) && (fb.all SpXfer.wf)
  | .spAsrm u md fa fb => decide (u < 8) && decide (md < 4) && (fa.all SpFetch.wf) && (fb.all SpXfer.wf)
  | .spRnd u md fa fb => decide (u < 8) && decide (md < 4) && (fa.all SpFetch.wf) && (fb.all SpXfer.wf)
  | .spCmpa u md s1 fa fb => decide (u < 8) && decide (md < 4) && decide (s1 < 4) && (fa.all SpFetch.wf) && (fb.all SpXfer.wf)
  | .spMaxi u md s1 fa fb => decide (u < 8) && decide (md < 4) && decide (s1 < 4) && (fa.all SpFetch.wf) && (fb.all SpXfer.wf)
  | .spMini u md s1 fa fb => decide (u < 8) && decide (md < 4) && decide (s1 < 4) && (fa.all SpFetch.wf) && (fb.all SpXfer.wf)
  | .spMove u mv => decide (u < 8) && mv.wf
  | .spLds u x off _ => decide (u < 8) && decide (x < 4) && decide (off < 4096)
  | .spLdsm u md off => decide (u < 8) && decide (md < 4) && decide (off < 4096)
  | .spSts u src off _ => decide (u < 8) && src.wf && decide (off < 4096)
  | .spStsw u md off => decide (u < 8) && decide (md < 4) && decide (off < 4096)
  | .spSetp u k v => decide (u < 8) && decide (k < 8) && v.wf
  | .spSetn u k v => decide (u < 8) && decide (k < 8) && v.wf
  | .spAddp u k d => decide (u < 8) && decide (k < 8) && decide (-8192 ≤ d) && decide (d < 8192)
  | .spBr u cc m => decide (u < 8) && decide (cc < 16) && decide (-32768 ≤ m) && decide (m < 32768)
  | .spCall u m => decide (u < 8) && decide (-32768 ≤ m) && decide (m < 32768)
  | .spRet u => decide (u < 8)
  | .spLoop u n len => decide (u < 8) && n.wf && decide (1 ≤ len) && decide (len ≤ 256)
  | .spEnd u => decide (u < 8)
  | .spFlt u code => decide (u < 8) && decide (code < 65536)
  | .spRti u => decide (u < 8)
  | .spDi u => decide (u < 8)
  | .spEi u => decide (u < 8)
  | .spSavl u => decide (u < 8)
  | .spRstl u => decide (u < 8)
  | .spExp u ra ma => decide (u < 8) && decide (ra < 4) && decide (ma < 4)
  | .spNorm u ma ra => decide (u < 8) && decide (ma < 4) && decide (ra < 4)
  | .spNormi u ma n => decide (u < 8) && decide (ma < 4) && decide (-64 ≤ n) && decide (n < 64)
  | .spSqrt u ma mb => decide (u < 8) && decide (ma < 4) && decide (mb < 4)
  | .spDiv u ma mb ra => decide (u < 8) && decide (ma < 4) && decide (mb < 4) && decide (ra < 4)
  | .spAtan2 u ra rb => decide (u < 8) && decide (ra < 4) && decide (rb < 4)
  | .spSincos u ra => decide (u < 8) && decide (ra < 4)
  | .spClri u => decide (u < 8)
  | .spMovix u ra => decide (u < 8) && decide (ra < 4)
  | .spPeakEntry u => decide (u < 8)
  | .excitationPeak n _ _ _ => decide (n < 8)
  | .adcConversion n _ _ _ => decide (n < 8)
  | .cuffLevelChange n _ => decide (n < 16)
  | .cuffPulseRejected n => decide (n < 16)
  | .lineFault n _ => decide (n < 16)
  | .latchEvent n _ _ => decide (n < 16)
  | .ssiTransferDone n _ _ _ _ => decide (n < 16)
  | .limitSwitchChange n _ _ => decide (n < 16)
  | .alignStepAdvance a => decide (a < 256)
  | .alignHoldTimeout a => decide (a < 256)
  | .probeSequenceDone a => decide (a < 256)
  | .obsHoldExpiry a => decide (a < 256)
  | .obsInhExpiry a => decide (a < 256)
  | .obsStAlnExpiry a => decide (a < 256)
  | .obsMergeExpiry a => decide (a < 256)
  | .obsStTmoExpiry a => decide (a < 256)
  | .obsRetryWaitExpiry a => decide (a < 256)
  | .keCheckWindow a => decide (a < 256)
  | .safeInputLevelChange n _ _ _ => decide (n < 8)
  | .discrepancyTimeout n => decide (n < 8)
  | .resetEdge n => decide (n < 8)
  | .resetHighTimeout n _ => decide (n < 8)
  | .confirmPulse => true
  | .confirmWindowExpiry => true
  | .soutTestPulse n _ _ _ => decide (n < 4)
  | .soutSwitchOnStep n _ _ => decide (n < 4)
  | .soutReadbackMismatch n _ _ => decide (n < 4)
  | .proofTestDone pass _ => decide (pass < 16)
  | .safetyRecordReceived seg p _ => decide (seg < 4) && decide (p < 64)
  | .safetyWatchdogExpiry seg p => decide (seg < 4) && decide (p < 64)
  | .xchanPersist => true
  | .sbcDelayExpiry a => decide (a < 256)
  | .degTExpiry a => decide (a < 256)
  | .gauntletBootDone => true
  | .visorEventTrigger u => decide (u < 4)
  | .visorPinTrigger u _ _ => decide (u < 4)
  | .visorTimeTrigger u => decide (u < 4)
  | .visorRecordComplete => true
  | .visorHoldoffExpiry => true
  | .visorShareOutput => true
  | .nbTimeout => true
  | .portLinkUp u => decide (u.port < 8)
  | .portLinkDown u => decide (u.port < 8)
  | .trainingTimeout p => decide (p < 8)
  | .trainingRetry p => decide (p < 8)
  | .onePortLinkTimeout seg => decide (seg < 4)
  | .listenExpiry => true
  | .claimReceived h => decide (h.port < 8)
  | .crownRecordReceived h _ => decide (h.port < 8)
  | .standbyNoticeReceived h => decide (h.port < 8)
  | .takeoverExpiry => true
  | .rtsyncReceived seg _ _ => decide (seg < 4)
  | .nodeLoss seg p => decide (seg < 4) && decide (p < 64)
  | .toutPersist seg p => decide (seg < 4) && decide (p < 64)
  | .babbleConfirmed seg => decide (seg < 4)
  | .babbleCleared seg => decide (seg < 4)
  | .mbxData seg p _ _ => decide (seg < 4) && decide (p < 64)
  | .mbxAck seg p _ => decide (seg < 4) && decide (p < 64)
  | .mbxDelay seg p _ _ _ _ => decide (seg < 4) && decide (p < 64)
  | .mbxSnap seg p _ _ _ => decide (seg < 4) && decide (p < 64)
  | .mbxIdent seg p _ => decide (seg < 4) && decide (p < 64)
  | .mbxVburst seg p _ _ _ _ _ _ => decide (seg < 4) && decide (p < 64)
  | .creditTimeout seg => decide (seg < 4)
  | .barrierTimeout => true
  | .snapshotUploadTimeout => true
  | .ptpSync m => decide (m.port < 2)
  | .ptpFollowUp m => decide (m.port < 2)
  | .ptpDelayReq m => decide (m.port < 2)
  | .ptpDelayResp m => decide (m.port < 2)
  | .ptpPdelayReq m _ => decide (m.port < 2)
  | .ptpPdelayResp m => decide (m.port < 2)
  | .ptpPdelayRespFollowUp m => decide (m.port < 2)
  | .ptpAnnounce m => decide (m.port < 2)
  | .ptpOtherDiscard port _ => decide (port < 2)
  | .syncReceiptTimeout n => decide (1 ≤ n) && decide (n ≤ 2)
  | .announceReceiptTimeout n => decide (1 ≤ n) && decide (n ≤ 2)
  | .sourceSelection => true
  | .holdMaxExpiry => true
  | .slewDone => true
  | .trgCaptureEdge n _ _ => decide (n < 4)
  | .ppsEdge n _ => decide (n < 4)
  | .cellFault region block _ _ _ => decide (region < 6) && decide (block < 64)
  | .handshakeWatchdogExpiry region block => decide (region < 6) && decide (block < 64)
  | .escalationResetStart => true
  | .ledgerWriteDone => true
  | .sramScrubDone _ => true
  | .reverifyDone _ => true
  | .ledgerScrubDone _ _ => true
  | .supplyWarning rail _ => decide (rail < 7)
  | .overvoltageWarning rail _ => decide (rail < 7)
  | .braceLeft => true
  | .supplyResetLevel rail _ => decide (rail < 7)
  | .powerOnReset => true
  | .pinReset => true
  | .heartbeatMissing => true
  | .resetRelease strap => decide (strap < 8)
  | .shellReadDone _ _ => true
  | .ledgerReadDone _ _ _ => true
  | .imageCopyDone _ _ _ => true
  | .bootApplyDone => true
  | .tjUpdate _ => true
  | .replicaMeasure beats => decide (beats.length = 4)
  | .retestDone _ => true
  | .flashOpDone => true
  | .wakeLoadDone _ => true
  | .qspiUpdateTimeout => true
  | .frExportTimeout => true
  | .makerTestInstruction => true
  | .registerWrite _ addr _ => decide (addr < 0x100000)
  | .guardedValueWrite _ addr _ => guardedOffset addr
  | .guardWindowExpiry _ => true
  | .postedWriteDone b => b.wf
  | .viewOpen _ _ => true
  | .modeChange _ mode => decide (mode < 8)
  | .modeCancel _ => true
  | .barrier _ => true
  | .snapshot _ => true
  | .netreset _ => true
  | .retry _ => true
  | .readmit _ seg pos => decide (seg < 4) && decide (pos < 64)
  | .deadmit _ seg pos => decide (seg < 4) && decide (pos < 64)
  | .linkSegRefusePop _ seg => decide (seg < 4)
  | .selectA _ => true
  | .selectB _ => true
  | .hold _ => true
  | .release _ => true
  | .alignNow _ => true
  | .timeCapPop _ => true
  | .cuffCfgWrite _ n reg _ => decide (n < 16) && decide (reg < 0x80) && decide (reg % 4 = 0)
  | .clrSuspect _ target _ => decide (target < 256)
  | .setRef _ target _ => decide (target < 256)
  | .cuffLatchPop _ n => decide (n < 16)
  | .align _ a => decide (a < 256)
  | .clrAlign _ a => decide (a < 256)
  | .axOpen _ a => decide (a < 256)
  | .axRun _ a => decide (a < 256)
  | .axOff _ a => decide (a < 256)
  | .clearFault _ a => decide (a < 256)
  | .axisConfigWrite _ a off _ => decide (a < 256) && decide (0x800 ≤ off) && decide (off < 0x1000) && decide (off % 4 = 0)
  | .perCycleWordWrite _ a off _ => decide (a < 256) && decide (off < 0x800) && decide (off % 4 = 0)
  | .clrSlackMin _ => true
  | .trClear _ => true
  | .dispatchTrPop _ => true
  | .move _ a => decide (a < 256)
  | .vel _ a => decide (a < 256)
  | .stop _ a => decide (a < 256)
  | .tblTime _ a => decide (a < 256)
  | .tblCam _ a => decide (a < 256)
  | .gearOn _ a => decide (a < 256)
  | .knuckle _ a => decide (a < 256)
  | .gearOff _ a => decide (a < 256)
  | .addOfs _ a => decide (a < 256)
  | .setOfs _ a => decide (a < 256)
  | .home _ a => decide (a < 256)
  | .clr _ a => decide (a < 256)
  | .vmVel _ => true
  | .vmStop _ => true
  | .profileTblDataAccess _ _ => true
  | .sto _ mask => decide (mask < 256)
  | .ss1 _ mask => decide (mask < 256)
  | .withdraw _ mask => decide (mask < 256)
  | .proofTest _ => true
  | .gauntletConfCmd _ _ => true
  | .arm _ => true
  | .disarm _ => true
  | .force _ => true
  | .clrStats _ => true
  | .visorDoneFree _ _ _ => true
  | .visorMdataRead _ => true
  | .eventsLogPop _ => true
  | .vectorAck _ _ => true
  | .clrLog _ => true
  | .clrCount _ => true
  | .hostReset _ => true
  | .park _ => true
  | .unpark _ => true
  | .standby _ => true
  | .wake _ => true
  | .qspiErase _ => true
  | .qspiProg _ => true
  | .bootShellDataRead _ => true
  | .bootQspiDataAccess _ _ => true
  | .linStore _ => true
  | .linDelete _ => true
  | .linClearAll _ => true
  | .pendClear _ => true
  | .ledgerDataAccess _ _ => true
  | .bootClassWrite _ _ => true
  | .clrMin _ => true
  | .frSnap _ => true
  | .qspiUpdate _ => true
  | .retest _ => true
  | .frExport _ => true
  | .maintEnd _ => true
  | .spiWrite _ _ => true
  | .spiRead _ _ => true
  | .spiStatus => true
  | .spiId => true
  | .spiCsRise _ => true
  | .pcieMemWrite _ addr _ _ => decide (addr < 0x1000000)
  | .pcieMemRead _ addr _ => decide (addr < 0x1000000)
  | .pcieFlr => true
  | .pcieLinkUp _ _ => true
  | .pcieLinkDown => true
  | .plantFrameReceived port _ => decide (port < 2)
  | .qmpHello m _ _ => decide (m.port < 2)
  | .qmpRead m => decide (m.port < 2)
  | .qmpWrite m => decide (m.port < 2)
  | .qmpOfs m => decide (m.port < 2)
  | .qmpViewread m _ _ => decide (m.port < 2)
  | .qmpGuarded m off _ => decide (m.port < 2) && decide (off < 0x100000)
  | .qmpClose m => decide (m.port < 2)
  | .qmpSessionTimeout port id => decide (port < 2) && decide (1 ≤ id) && decide (id ≤ 8)
  | .claimPeriod => true
  | .ptpMessageInterval n port _ => decide (1 ≤ n) && decide (n ≤ 2) && decide (port < 2)
  | .selfTestDone => true
  | .hostResetDelayExpiry => true
  | .supplyWarningCleared rail _ _ => decide (rail < 7)
  | .pcieConfigRequest _ => true
  | .driveCopyReturn seg side _ area => decide (seg < 4) && decide (side < 2) && decide (area.length ≤ 96)
  | .tableSumsUpdated => true
  | .slotcfgReceived _ _ _ => true
  | .qmpUnknownType m _ => decide (m.port < 2)

end Sys2Proof
end

