-- ==== Sys2Proof/Safety.lean ====
section
/-! DEFINITION. Safety.lean: the terms that statements use: the state a command starts from and ends in, what runs on a
unit, the parts of the chip, and the invariant of every step. -/

namespace Sys2Proof.Machine

/-! ### Beginning and end of a command -/

/-- The parts as a command finds them: what the last one put on pins and links is gone. -/
def State.base (s : State) : Core := { s.chip.core with outs := [] }

/-- The state after a command that leaves the parts `c`: the events that `c` holds are raised (R564), the queue is untouched. -/
def State.after (s : State) (c : Core) : State :=
  { s with chip := ({ core := c, ev := { s.chip.ev with sent := [] } } : Chip).commit }

/-- The same with an event unit of its own. -/
def State.afterBoth (s : State) (c : Core) (u : EventUnit) : State := { s with chip := ({ core := c, ev := u } : Chip).commit }

/-- The event unit as a command finds it. -/
def State.evBase (s : State) : EventUnit := { s.chip.ev with sent := [] }

/-- A value limited to a range. -/
def within (lo hi v : Int) : Int := max lo (min hi v)

/-- The low `n` bits of a value, signed. -/
def signed (n : Nat) (v : Int) : Int := if v % 2 ^ n < 2 ^ (n - 1) then v % 2 ^ n else v % 2 ^ n - 2 ^ n

/-- The event identity of R564: what was raised was logged or counted in EVENTS_OVF, modulo 2^32; the log holds at most 1,024 entries, and
between commands no event waits. -/
def State.EventsAgree (s : State) : Prop :=
  s.chip.ev.raised = s.chip.ev.logged + s.chip.ev.ovf ∧ s.chip.ev.log.length ≤ 1024 ∧ s.chip.core.evq = []

/-! ### Loop engines in the terms of R331 to R335 -/

/-- Loop engine `u`. -/
def State.engine (s : State) (u : Nat) : Engine := s.chip.core.eng.eng.look u {}

/-- A LAW task runs on engine `u`, which is in service (R30, R337). -/
def State.EngineRuns (s : State) (u : Nat) : Prop := (s.engine u).run = true ∧ (s.engine u).iso = false

/-- The parts with engine `u` replaced; `k` free values have been drawn in all. -/
def State.withEngine (s : State) (u : Nat) (e : Engine) (k : Nat) : Core :=
  { s.base with eng := { s.base.eng with eng := s.base.eng.eng.put u e }, freeCtr := k }

/-- An instruction of `b` beats has been fetched and counted. -/
def Engine.fetched (e : Engine) (b : Nat) : Engine :=
  { e with pc := (e.pc + 1) % 2048, beats := e.beats + b, total := e.total + BitVec.ofNat 32 b }

/-- d[x] takes a value, with N and Z (R332). -/
def Engine.gives16 (e : Engine) (x : Nat) (v : Int) : Engine :=
  { e with d := e.d.set x (BitVec.ofInt 16 v), n := decide (v < 0), z := decide (v = 0) }

/-- d[x] takes a value limited to 16 bits; V and S where it was limited (R332, R333). -/
def Engine.gives16Sat (e : Engine) (x : Nat) (v : Int) : Engine :=
  let r := within (-32768) 32767 v
  { e with d := e.d.set x (BitVec.ofInt 16 r), n := decide (r < 0), z := decide (r = 0), v := decide (r ≠ v)
           s := e.s || decide (r ≠ v) }

/-- a[x] takes a value, with N and Z. -/
def Engine.gives40 (e : Engine) (x : Nat) (v : Int) : Engine :=
  { e with a := e.a.set x (BitVec.ofInt 40 v), n := decide (v < 0), z := decide (v = 0) }

/-- a[x] takes a value limited to 40 bits; V and S where it was limited. -/
def Engine.gives40Sat (e : Engine) (x : Nat) (v : Int) : Engine :=
  let r := within (-549755813888) 549755813887 v
  { e with a := e.a.set x (BitVec.ofInt 40 r), n := decide (r < 0), z := decide (r = 0), v := decide (r ≠ v)
           s := e.s || decide (r ≠ v) }

/-- N and Z of a result. -/
def Engine.flagsOf (e : Engine) (v : Int) : Engine := { e with n := decide (v < 0), z := decide (v = 0) }

/-- d[x], signed. -/
def Engine.dVal (e : Engine) (x : Nat) : Int := (e.d.getD x 0).toInt
/-- a[x], signed. -/
def Engine.aVal (e : Engine) (x : Nat) : Int := (e.a.getD x 0).toInt

/-! ### Signal processors in the terms of R372 to R392 -/

/-- Signal processor `u`. -/
def State.proc (s : State) (u : Nat) : Proc := s.chip.core.sig.proc.look u {}

/-- A task or a handler runs on processor `u`, which is in service. -/
def State.ProcRuns (s : State) (u : Nat) : Prop := (s.proc u).iso = false ∧ ((s.proc u).task.isSome || (s.proc u).hand.isSome) = true

/-- The parts with processor `u` replaced; `k` free values have been drawn in all. -/
def State.withProc (s : State) (u : Nat) (q : Proc) (k : Nat) : Core :=
  { s.base with sig := { s.base.sig with proc := s.base.sig.proc.put u q }, freeCtr := k }

/-- An instruction of `b` beats begins: results whose delay is over have arrived (R388) and the beats are counted, a handler's not
against the task. -/
def Proc.begun (q : Proc) (b : Nat) : Proc :=
  { q.arrive with jump := none, trap := none, beats := if q.hand.isSome then q.beats else q.beats + b
                  total := q.total + BitVec.ofNat 32 b }

/-- The state after an instruction that leaves the processor as `r`: a branch before it takes effect now, else the program
goes on, in a loop by R389. -/
def State.ranTo (s : State) (u : Nat) (r : Proc) (k : Nat) : State := s.after (s.withProc u (r.advance (s.proc u).jump) k)

/-- An accumulator takes a value, with N and Z. -/
def Proc.gives (q : Proc) (i : Nat) (v : Int) : Proc :=
  { q with m := q.m.set i (BitVec.ofInt 56 v), f := { q.f with n := decide (v < 0), z := decide (v = 0) } }

/-- A value limited to 56 bits. -/
def limit56 (v : Int) : Int := within (-36028797018963968) 36028797018963967 v

/-- An accumulator takes a value limited to 56 bits; V and S where it was limited. -/
def Proc.givesSat (q : Proc) (i : Nat) (v : Int) : Proc :=
  { (q.gives i (limit56 v)) with f :=
    { (q.gives i (limit56 v)).f with v := decide (limit56 v ≠ v), s := q.f.s || decide (limit56 v ≠ v) } }

/-- N and Z of a result. -/
def Proc.flagsOf (q : Proc) (v : Int) : Proc := { q with f := { q.f with n := decide (v < 0), z := decide (v = 0) } }

/-! ### Guarded commands in the terms of R550 to R553 -/

/-- Port `p` may complete the guarded pair of the word `w` at offset `a`: it is up and not read-only, the block answers and is not
BUSY, and no other value is pending at the port. -/
def State.Pair (s : State) (p : HostPort) (a : Nat) (w : W32) : Prop :=
  s.base.pathUp p.path = true ∧ s.base.readOnly p.path = false ∧ s.base.alive (a - a % 0x1000) = true ∧
  (slowPage (a - a % 0x1000) = true → s.base.busy (a - a % 0x1000) = false) ∧
  ∀ g, s.base.host.guard.look? p.path.key = some g → g.addr = a ∧ g.val = w ∧ rtDiff s.base.now g.at' ≤ guardWindow

/-- A write from port `p` reaches the block at `page`: the port is up and not read-only, and the block answers. -/
def State.Writes (s : State) (p : HostPort) (page : Nat) : Prop :=
  s.base.pathUp p.path = true ∧ s.base.readOnly p.path = false ∧ s.base.alive page = true

/-- The state after a read at port `p` that returns `w` and leaves the parts `c`. -/
def State.readOut (s : State) (p : HostPort) (c : Core) (w : W32) : State := s.after (c.out (.data p.path w))

/-- The parts with the pair completed: nothing is pending at the port, and a block of the slow domain is BUSY. -/
def State.paired (s : State) (p : HostPort) (a : Nat) : Core :=
  { s.base with host := { s.base.host with
      guard := s.base.host.guard.del p.path.key
      posted := if slowPage (a - a % 0x1000) then s.base.host.posted.put (a - a % 0x1000) { write := none, path := p.path }
        else s.base.host.posted } }

/-! ### QMP in the terms of R567 -/

/-- A request of an open session `x` that is accepted: its port runs QMP, its tag holds, its SEQ and VER fit, and the port is within
its rate. -/
def State.QmpAsks (s : State) (m : QmpMsg) (type : Nat) (x : Session) : Prop :=
  m.port < 2 ∧ s.base.pathUp (.qmp m.port 0) = true ∧ s.base.qmpOn m.port = true ∧ s.base.tagOk m type = true ∧
  s.base.host.qmp.look? (sessionKey m.port m.session) = some x ∧ m.session ≠ 0 ∧ x.seq.toNat < m.seq.toNat ∧ m.ver = x.ver ∧
  (s.base.qmpRate m.port).2 = true

/-- The parts with the request counted. -/
def State.qmpCounted (s : State) (m : QmpMsg) : Core :=
  let d := (s.base.qmpRate m.port).1
  { d with host := { d.host with rx := incHalf d.host.rx m.port } }

/-- The parts after the answer: the session holds the SEQ, the response and the time. -/
def Core.qmpReply (c : Core) (m : QmpMsg) (x : Session) (r : QmpResp) : Core :=
  ({ c with host := { c.host with qmp := c.host.qmp.put (sessionKey m.port m.session) { x with seq := m.seq, last := r, at' := c.now } } }
    : Core).qmpAnswer m.port r

end Sys2Proof.Machine
end

