-- ==== Sys2Proof/Certificates/Slice0/Obligations.lean ====
section
/-! DEFINITION. Certificates/Slice0/Obligations.lean: the statements about the machine. Most are of one form: from a state that
meets the hypotheses, a command answers the next state named. `s.base` is the parts as the command finds them and `s.after c` the
state with the parts `c`, whose events have been raised; so whatever `c` does not name is unchanged. -/

open Sys2Proof Sys2Proof.Machine

/-- R331 to R335: ADD, SUB, NEG, ABS, ASL and MOVA write the 16-bit limited result of their operation to d[x], set N and Z from
it, V where it was limited, and S with V; one beat, the pc on by one, and nothing else of the chip changes.
R335: NOP, LDI, MOV, MIN, MAX, CMP, ASR and TSTA, none of which writes V, S, HS or DZ.
R335: MPY, MAC, MSU, MACI, LDA, ADDA and SUBA on the 40-bit accumulators. The product of MPY and the shift of LDA fit the
accumulator and leave V as it was. -/
def Obligations.LeDataOps : Prop :=
  (∀ (s : State) (u x y A : Nat) (m : W16), s.EngineRuns u →
      let e := s.engine u
      let f := e.fetched 1
      (∃ k, exec (.leAdd u x y) s = .next (s.after (s.withEngine u (f.gives16Sat x (e.dVal x + e.dVal y)) k))) ∧
      (∃ k, exec (.leSub u x y) s = .next (s.after (s.withEngine u (f.gives16Sat x (e.dVal x - e.dVal y)) k))) ∧
      (∃ k, exec (.leNeg u x y) s = .next (s.after (s.withEngine u (f.gives16Sat x (-e.dVal y)) k))) ∧
      (∃ k, exec (.leAbs u x y) s = .next (s.after (s.withEngine u (f.gives16Sat x (e.dVal y).natAbs) k))) ∧
      (∃ k, exec (.leAsl u x m) s =
        .next (s.after (s.withEngine u (f.gives16Sat x (e.dVal x * 2 ^ (m.toNat % 16))) k))) ∧
      (∃ k, exec (.leMova u x A) s = .next (s.after (s.withEngine u (f.gives16Sat x (e.aVal A)) k)))) ∧
  (∀ (s : State) (u x y A : Nat) (m : W16), s.EngineRuns u →
      let e := s.engine u
      let f := e.fetched 1
      (∃ k, exec (.leNop u) s = .next (s.after (s.withEngine u f k))) ∧
      (∃ k, exec (.leLdi u x m) s = .next (s.after (s.withEngine u (f.gives16 x m.toInt) k))) ∧
      (∃ k, exec (.leMov u x y) s = .next (s.after (s.withEngine u (f.gives16 x (e.dVal y)) k))) ∧
      (∃ k, exec (.leMin u x y) s = .next (s.after (s.withEngine u (f.gives16 x (min (e.dVal x) (e.dVal y))) k))) ∧
      (∃ k, exec (.leMax u x y) s = .next (s.after (s.withEngine u (f.gives16 x (max (e.dVal x) (e.dVal y))) k))) ∧
      (∃ k, exec (.leCmp u x y) s = .next (s.after (s.withEngine u (f.flagsOf (e.dVal x - e.dVal y)) k))) ∧
      (∃ k, exec (.leAsr u x m) s =
        .next (s.after (s.withEngine u (f.gives16 x (e.dVal x / 2 ^ (m.toNat % 16))) k))) ∧
      (∃ k, exec (.leTsta u A) s = .next (s.after (s.withEngine u (f.flagsOf (e.aVal A)) k)))) ∧
  (∀ (s : State) (u A b x y : Nat) (m : W16), s.EngineRuns u →
        let e := s.engine u
        let f := e.fetched 1
        (∃ k, exec (.leMpy u A x y) s = .next (s.after (s.withEngine u (f.gives40 A (e.dVal x * e.dVal y)) k))) ∧
        (∃ k, exec (.leMac u A x y) s =
          .next (s.after (s.withEngine u (f.gives40Sat A (e.aVal A + e.dVal x * e.dVal y)) k))) ∧
        (∃ k, exec (.leMsu u A x y) s =
          .next (s.after (s.withEngine u (f.gives40Sat A (e.aVal A - e.dVal x * e.dVal y)) k))) ∧
        (∃ k, exec (.leMaci u A x m) s =
          .next (s.after (s.withEngine u (f.gives40Sat A (e.aVal A + e.dVal x * m.toInt)) k))) ∧
        (∃ k, exec (.leLda u A x) s = .next (s.after (s.withEngine u (f.gives40 A (e.dVal x * 2 ^ 15)) k))) ∧
        (∃ k, exec (.leAdda u A b) s = .next (s.after (s.withEngine u (f.gives40Sat A (e.aVal A + e.aVal b)) k))) ∧
        (∃ k, exec (.leSuba u A b) s = .next (s.after (s.withEngine u (f.gives40Sat A (e.aVal A - e.aVal b)) k))))

/-- R332, R335: SHA, CLMP, SAT, SQRT and DIV. CLMP sets V without S; DIV by zero gives the stated limits and DZ (V clear there is
the model's choice, log entry 15). CLMP is stated for x ≤ y and SAT for m from 0 to 8, outside of which the manual gives no
result (log entry 43). -/
def Obligations.LeScalingOps : Prop :=
  ∀ (s : State) (u A x y : Nat) (m : W16), s.EngineRuns u →
    let e := s.engine u
    let sh : Int := if m.toNat % 32 < 16 then m.toNat % 32 else m.toNat % 32 - 32
    (∃ k, exec (.leSha u A m) s = .next (s.after (s.withEngine u ((e.fetched 1).gives40Sat A
      (if 0 ≤ sh then e.aVal A * 2 ^ sh.toNat else e.aVal A / 2 ^ sh.natAbs)) k))) ∧
    (e.dVal x ≤ e.dVal y →
      let r := within (e.dVal x * 2 ^ 15) (e.dVal y * 2 ^ 15) (e.aVal A)
      ∃ k, exec (.leClmp u A x y) s =
        .next (s.after (s.withEngine u { ((e.fetched 1).gives40 A r) with v := decide (r ≠ e.aVal A) } k))) ∧
    (m.toNat % 16 ≤ 8 → ∃ k, exec (.leSat u x A m) s = .next (s.after (s.withEngine u
      ((e.fetched 1).gives16Sat x ((e.aVal A * 2 ^ (m.toNat % 16) + 2 ^ 14) / 2 ^ 15)) k))) ∧
    (∀ r : Nat, 0 ≤ e.aVal A → (r * r : Int) ≤ e.aVal A → e.aVal A < ((r + 1) * (r + 1) : Int) →
      ∃ k, exec (.leSqrt u x A) s = .next (s.after (s.withEngine u ((e.fetched 8).gives16Sat x r) k))) ∧
    (e.aVal A < 0 → ∃ k, exec (.leSqrt u x A) s =
      .next (s.after (s.withEngine u { ((e.fetched 8).gives16 x 0) with v := true, s := true } k))) ∧
    (e.dVal y ≠ 0 → ∃ k, exec (.leDiv u x A y) s =
      .next (s.after (s.withEngine u ((e.fetched 18).gives16Sat x (Int.fdiv (e.aVal A) (e.dVal y))) k))) ∧
    (e.dVal y = 0 → ∃ k, exec (.leDiv u x A y) s = .next (s.after (s.withEngine u
      { ((e.fetched 18).gives16 x (if 0 ≤ e.aVal A then 32767 else -32768)) with v := false, dz := true } k)))

/-- R335, R337, R338, R339, R342: the loads. `w` is the word the task sees: its own buffered store, or else the axis store's. A
F24 word is rounded to Q15, and HS is set with V on saturation; a word of an image that is not held reads 0 with V. A word beyond the area reads open. -/
def Obligations.LeLoads : Prop :=
  ∀ (s : State) (u x y A off : Nat), s.EngineRuns u →
    let c := s.base
    let e := s.engine u
    let w := e.seen off (c.areaWord e.axis off)
    let q (v : W32) := (signed 24 v.toNat + 128) / 256
    let hs (g : Engine) (v : W32) : Engine := { g with hs := e.hs || decide (within (-32768) 32767 (q v) ≠ q v) }
    let far := c.prevWord ((e.d.getD y 0).toNat % 256) off
    (∃ k, exec (.leLd u x off) s = .next (s.after (s.withEngine u ((e.fetched 4).gives16 x (signed 16 w.toNat)) k))) ∧
    (∃ k, exec (.leLdx u x off) s = .next (s.after (s.withEngine u (hs ((e.fetched 4).gives16Sat x (q w)) w) k))) ∧
    (∃ k, exec (.leLdw u A off) s = .next (s.after (s.withEngine u ((e.fetched 4).gives40 A w.toInt) k))) ∧
    (∃ k, exec (.leSubw u A off) s = .next (s.after (s.withEngine u
      ((e.fetched 4).gives40 A (signed 32 (e.aVal A - w.toNat))) k))) ∧
    (∃ k, exec (.leLdac u A off) s = .next (s.after (s.withEngine u ((e.fetched 5).gives40 A
      (signed 40 (w.toNat + 2 ^ 32 * (e.seen (off + 4) (c.areaWord e.axis (off + 4))).toNat))) k))) ∧
    (∀ v, far = some v → ∃ k, exec (.leLdr u x y off) s =
      .next (s.after (s.withEngine u ((e.fetched 6).gives16 x (signed 16 v.toNat)) k))) ∧
    (∀ v, far = some v → ∃ k, exec (.leLdrx u x y off) s =
      .next (s.after (s.withEngine u (hs ((e.fetched 6).gives16Sat x (q v)) v) k))) ∧
    (far = none →
      (∃ k, exec (.leLdr u x y off) s =
        .next (s.after (s.withEngine u { ((e.fetched 6).gives16 x 0) with v := true, s := true } k))) ∧
      ∃ k, exec (.leLdrx u x y off) s =
        .next (s.after (s.withEngine u { ((e.fetched 6).gives16 x 0) with v := true, s := true } k)))

/-- R339: LDL reads the constant table below word 512 and the task's scratch above; STL writes scratch, and to the constant table
executes as FLT 0xFE.
R337, R342: ST, STX, STW and STAC enter the write buffer, not the axis store, and leave every flag and every byte of the
axis store alone; a store to a word that is not LAW-writable, for STAC to a pair of which either word is not, executes as FLT 0xFE. Stated while the buffer has room. -/
def Obligations.LeStores : Prop :=
  (∀ (s : State) (u x m : Nat), s.EngineRuns u →
      let e := s.engine u
      (m < 512 → ∃ k, exec (.leLdl u x m) s = .next (s.after (s.withEngine u
        ((e.fetched 1).gives16 x (s.base.image.leConst.look m 0).toInt) k))) ∧
      (∀ w, 512 ≤ m → e.scratch.look? m = some w → ∃ k, exec (.leLdl u x m) s = .next (s.after (s.withEngine u
        { ((e.fetched 1).gives16 x w.toInt) with scratch := e.scratch.put m w } k))) ∧
      (512 ≤ m → ∃ k, exec (.leStl u x m) s = .next (s.after (s.withEngine u
        { (e.fetched 1) with scratch := e.scratch.put m (e.d.getD x 0) } k))) ∧
      (m < 512 → exec (.leStl u x m) s = exec (.leFlt u 0xFE) s)) ∧
  (∀ (s : State) (u x A off : Nat), s.EngineRuns u → (s.engine u).buf.length < 63 →
      let e := s.engine u
      let put (b : Nat) (ws : List WEnt) : Engine := { (e.fetched b) with buf := e.buf ++ ws }
      (lawWritable s.base.image.intWords off = true →
        (∃ k, exec (.leSt u x off) s = .next (s.after (s.withEngine u
          (put 2 [{ off := off, val := BitVec.ofInt 32 (e.dVal x), fmt := .f16 }]) k))) ∧
        (∃ k, exec (.leStx u x off) s = .next (s.after (s.withEngine u
          (put 2 [{ off := off, val := BitVec.ofInt 32 (e.dVal x * 256), fmt := .f24 }]) k))) ∧
        (∃ k, exec (.leStw u A off) s = .next (s.after (s.withEngine u
          (put 2 [{ off := off, val := BitVec.ofInt 32 (e.aVal A), fmt := .i32 }]) k)))) ∧
      (lawWritable s.base.image.intWords off = true → lawWritable s.base.image.intWords (off + 4) = true →
        (∃ k, exec (.leStac u A off) s = .next (s.after (s.withEngine u
          (put 3 [{ off := off, val := BitVec.ofInt 32 (e.aVal A), fmt := .a40 },
            { off := off + 4, val := BitVec.ofInt 32 (e.aVal A / 2 ^ 32), fmt := .a40 }]) k)))) ∧
      (lawWritable s.base.image.intWords off = false →
        exec (.leSt u x off) s = exec (.leFlt u 0xFE) s ∧ exec (.leStx u x off) s = exec (.leFlt u 0xFE) s ∧
        exec (.leStw u A off) s = exec (.leFlt u 0xFE) s ∧ exec (.leStac u A off) s = exec (.leFlt u 0xFE) s) ∧
      (lawWritable s.base.image.intWords (off + 4) = false → exec (.leStac u A off) s = exec (.leFlt u 0xFE) s))

/-- R335, R336: BR by its listed condition, CALL and RET; beyond the four entries of the return stack, and with none, they execute
as FLT 0xFF. A displacement counts from the branch (log entry 15).
R337, R360, R361: the end of a LAW task. END hands the write buffer of a copy of a paired task to the comparator, and commits
that of an unpaired task; FLT hands on the code of a paired copy, and of an unpaired task counts it, raises EV_LAW_FAULT, puts
the axis into AX_FAULT with cause 0x5 and cancels its chain. -/
def Obligations.LeControl : Prop :=
  (∀ (s : State) (u cc : Nat) (m : W16), s.EngineRuns u →
      let e := s.engine u
      let go (g : Engine) : Engine := { g with pc := (((e.pc : Int) + m.toInt) % 2048).toNat }
      let holds := [true, e.z, !e.z, e.n, !e.n, e.n || e.z, !(e.n || e.z), e.v, !e.v]
      (holds[cc]? = some true → ∃ k, exec (.leBr u cc m) s = .next (s.after (s.withEngine u (go (e.fetched 2)) k))) ∧
      (holds[cc]? = some false → ∃ k, exec (.leBr u cc m) s = .next (s.after (s.withEngine u (e.fetched 1) k))) ∧
      (e.stack.length < 4 → ∃ k, exec (.leCall u m) s = .next (s.after (s.withEngine u
        { (go (e.fetched 2)) with stack := ((e.pc + 1) % 2048) :: e.stack } k))) ∧
      (4 ≤ e.stack.length → exec (.leCall u m) s = exec (.leFlt u 0xFF) s) ∧
      (∀ r t, e.stack = r :: t → ∃ k, exec (.leRet u) s =
        .next (s.after (s.withEngine u { (e.fetched 2) with pc := r, stack := t } k))) ∧
      (e.stack = [] → exec (.leRet u) s = exec (.leFlt u 0xFF) s)) ∧
  (∀ (s : State) (u code : Nat) (r : Running), s.EngineRuns u → s.base.disp.on .eng u = some r → r.unit = u → r.r.task = .law →
      ∃ k,
      let e := s.engine u
      let c := s.withEngine u (e.fetched 1) k
      let a := r.r.key
      let copy (q : LawEnd) : PairCopy := { engine := u, writes := e.buf, sticky := e.sticky, ending := q }
      let ended := c.updAx a fun x => { x with beats := e.beats + 1 }
      (e.paired = false → exec (.leEnd u) s = .next (s.after ((ended.lawCommit a e.buf e.sticky false).taskEnds r .law))) ∧
      (e.paired = true → exec (.leEnd u) s = .next (s.after
        (({ ended with eng := { ended.eng with copies := ended.eng.copies.upd a [] (· ++ [copy .fin]) } } : Core).complete r))) ∧
      (e.paired = true → exec (.leFlt u code) s = .next (s.after
        { (c.complete r) with eng := { (c.complete r).eng with
            copies := (c.complete r).eng.copies.upd a [] (· ++ [copy (.flt (code % 256))]) } })) ∧
      (e.paired = false → exec (.leFlt u code) s = .next (s.after
        ((({ c with eng := { c.eng with lawFlt := c.eng.lawFlt + 1 } }.raise [evAxis EvNo.lawFault a (code % 256)]).axisFault
          a 5 (code % 256)).cancelEmpty a 5))))


/-- R374, R376, R382: CLR, MPY, MAC, MSU, ADD, SUB, ADDM, PUTM and CPYM with any two moves. `r v` is the processor with the
accumulator's result; the moves act beside it on the state at the start of the beat (`Obligations.SpDataMoves`), and an
instruction whose move does not end in FLT completes.
R374, R382: MPYR, MACR, NEGM, ABSM, ASLM, ASRM, RND and CMPA in the same form. -/
def Obligations.SpAccumulatorOps : Prop :=
  (∀ (s : State) (u md s1 s2 m2 : Nat) (fa : Option SpFetch) (fb : Option SpXfer), s.ProcRuns u →
      let q := (s.proc u).begun 1
      let runs (i : Instr) (r : Proc) : Prop := (q.moves r (s.base.spEnv u) fa fb).trap = none →
        ∃ k, exec i s = .next (s.ranTo u (q.moves r (s.base.spEnv u) fa fb) k)
      runs (.spClr u md fa fb) (q.gives md 0) ∧
      runs (.spMpy u md s1 s2 fa fb) (q.gives md (q.rr s1 * q.rr s2)) ∧
      runs (.spMac u md s1 s2 fa fb) (q.givesSat md (q.rm md + q.rr s1 * q.rr s2)) ∧
      runs (.spMsu u md s1 s2 fa fb) (q.givesSat md (q.rm md - q.rr s1 * q.rr s2)) ∧
      runs (.spAdd u md s1 fa fb) (q.givesSat md (q.rm md + q.rr s1 * 2 ^ 23)) ∧
      runs (.spSub u md s1 fa fb) (q.givesSat md (q.rm md - q.rr s1 * 2 ^ 23)) ∧
      runs (.spAddm u md m2 fa fb) (q.givesSat md (q.rm md + q.rm m2)) ∧
      runs (.spPutm u md s1 fa fb) (q.gives md (q.rr s1 * 2 ^ 23)) ∧
      runs (.spCpym u md m2 fa fb) (q.gives md (q.rm m2))) ∧
  (∀ (s : State) (u md s1 s2 : Nat) (fa : Option SpFetch) (fb : Option SpXfer), s.ProcRuns u →
      let q := (s.proc u).begun 1
      let runs (i : Instr) (r : Proc) : Prop := (q.moves r (s.base.spEnv u) fa fb).trap = none →
        ∃ k, exec i s = .next (s.ranTo u (q.moves r (s.base.spEnv u) fa fb) k)
      let rnd (v : Int) : Int := (v + 2 ^ 22) / 2 ^ 23 * 2 ^ 23
      let sum := q.rm md + q.rr s1 * q.rr s2
      let far := decide (limit56 sum ≠ sum) || decide (limit56 (rnd (limit56 sum)) ≠ rnd (limit56 sum))
      let macr := q.gives md (limit56 (rnd (limit56 sum)))
      runs (.spMpyr u md s1 s2 fa fb) (q.gives md (rnd (q.rr s1 * q.rr s2))) ∧
      runs (.spMacr u md s1 s2 fa fb) { macr with f := { macr.f with v := far, s := q.f.s || far } } ∧
      runs (.spNegm u md fa fb) (q.givesSat md (-q.rm md)) ∧
      runs (.spAbsm u md fa fb) (q.givesSat md (q.rm md).natAbs) ∧
      runs (.spAslm u md fa fb) (q.givesSat md (q.rm md * 2)) ∧
      runs (.spAsrm u md fa fb) (q.gives md (q.rm md / 2)) ∧
      runs (.spRnd u md fa fb) (q.givesSat md (rnd (q.rm md))) ∧
      runs (.spCmpa u md s1 fa fb) (q.flagsOf (q.rm md - q.rr s1 * 2 ^ 23)))

/-- R382, R386: MAXI and MINI keep the extreme value and its index, the first candidate always, and count IC, which stays at
65,535 with V and S; CLRI clears both and MOVIX reads the index. -/
def Obligations.SpSearch : Prop :=
  ∀ (s : State) (u md s1 ra : Nat) (fa : Option SpFetch) (fb : Option SpXfer), s.ProcRuns u →
    let q := (s.proc u).begun 1
    let runs (i : Instr) (r : Proc) : Prop := (q.moves r (s.base.spEnv u) fa fb).trap = none →
      ∃ k, exec i s = .next (s.ranTo u (q.moves r (s.base.spEnv u) fa fb) k)
    let x := q.rr s1 * 2 ^ 23
    let keep (better : Bool) : Proc :=
      let g : Proc := if q.ic = 0 ∨ better = true then { (q.gives md x) with ix := q.ic } else q.flagsOf (q.rm md)
      if q.ic < 65534 then { g with ic := q.ic + 1 } else { g with ic := 65535, f := { g.f with v := true, s := true } }
    (md < q.m.length →
      runs (.spMaxi u md s1 fa fb) (keep (decide (q.rm md < x))) ∧ runs (.spMini u md s1 fa fb) (keep (decide (x < q.rm md)))) ∧
    (∃ k, exec (.spClri u) s = .next (s.ranTo u { q with ic := 0, ix := 0 } k)) ∧
    ∃ k, exec (.spMovix u ra) s =
      .next (s.ranTo u ({ q with r := q.r.set ra (BitVec.ofNat 24 q.ix) }.flagsOf q.ix) k)

/-- R375 to R377, R380, R381, R388: the moves of a parallel instruction, stated with NOP. A load arrives after one slot, the
pointer takes its update at once, a store is of the accumulator part at the start of the beat; an access outside its ring or in a
mode not listed executes as FLT 0xFF, a store elsewhere than permitted as FLT 0xFE. -/
def Obligations.SpDataMoves : Prop :=
  ∀ (s : State) (u x upd x' upd' r r' m part : Nat), s.ProcRuns u →
    let q := (s.proc u).begun 1
    let env := s.base.spEnv u
    let load (n reg ad : Nat) : SpPend :=
      { dst := .reg reg, val := (q.memRd (env.k + n) env.const ad).zeroExtend 56, slots := 1 }
    let bad (i : Instr) (code : Nat) : Prop := exec i s = exec (.spFlt u code) s
    (∃ k, exec (.spNop u none none) s = .next (s.ranTo u q k)) ∧
    (∀ ad p, q.access x upd = some (ad, p) →
      (∃ k, exec (.spNop u (some ⟨r, x, upd⟩) none) s = .next (s.ranTo u
        { q with pend := q.pend ++ [load 0 r ad], p := q.p.set x (BitVec.ofNat 14 p) } k)) ∧
      (∃ k, exec (.spNop u none (some (.load r x upd))) s = .next (s.ranTo u
        { q with pend := q.pend ++ [load 1 r ad], p := q.p.set x (BitVec.ofNat 14 p) } k)) ∧
      (q.mayStore env.pair ad = true → ∃ k, exec (.spNop u none (some (.store m x upd part))) s = .next (s.ranTo u
        { q with mem := q.mem.put ad (accPart (q.m.getD m 0) part), p := q.p.set x (BitVec.ofNat 14 p) } k)) ∧
      (q.mayStore env.pair ad = false → bad (.spNop u none (some (.store m x upd part))) 0xFE) ∧
      ∀ ad' p', q.access x' upd' = some (ad', p') → x ≠ x' → r ≠ r' →
        ∃ k, exec (.spNop u (some ⟨r, x, upd⟩) (some (.load r' x' upd'))) s = .next (s.ranTo u
          { q with pend := q.pend ++ [load 0 r ad] ++ [load 1 r' ad']
                   p := (q.p.set x (BitVec.ofNat 14 p)).set x' (BitVec.ofNat 14 p') } k)) ∧
    (q.access x upd = none → bad (.spNop u (some ⟨r, x, upd⟩) none) 0xFF ∧ bad (.spNop u none (some (.load r x upd))) 0xFF ∧
      bad (.spNop u none (some (.store m x upd part))) 0xFF)

/-- R380, R381, R388, R390: the move class. A register or accumulator part takes its value at once, a register loaded from
data memory after one slot; a handler reads its pair's oldest peak, and reading PK_TH pops it. -/
def Obligations.SpMoveClass : Prop :=
  ∀ (s : State) (u i ad n sr : Nat) (d src : SpLoc) (v : W24), s.ProcRuns u →
    let q := (s.proc u).begun 1
    let c := s.base
    (∃ k, exec (.spMove u (.move d src)) s = .next (s.ranTo u (q.setLoc d (q.loc src)) k)) ∧
    (∃ k, exec (.spMove u (.imm d v)) s = .next (s.ranTo u (q.setLoc d v) k)) ∧
    (ad < 16384 → ∃ k, exec (.spMove u (.ld (.reg i) (.direct ad))) s = .next (s.ranTo u
      { q with pend := q.pend ++ [{ dst := .reg i, slots := 1
                                    val := (q.memRd c.freeCtr (fun x => c.image.spConst.look x 0) ad).zeroExtend 56 }] } k)) ∧
    (ad < 16384 → q.mayStore (c.spPair u) ad = true → ∃ k, exec (.spMove u (.st src (.direct ad))) s =
      .next (s.ranTo u { q with mem := q.mem.put ad (q.loc src) } k)) ∧
    (ad < 16384 → q.mayStore (c.spPair u) ad = false → exec (.spMove u (.st src (.direct ad))) s = exec (.spFlt u 0xFE) s) ∧
    ∀ sn cs t rest, (s.proc u).hand = some n → c.sig.fifo.look n [] = (sn, cs, t) :: rest →
      let peak : List W24 := [BitVec.ofInt 24 (sn * 256), BitVec.ofInt 24 (cs * 256), BitVec.ofNat 24 t.toNat,
        BitVec.ofNat 24 (t.toNat / 2 ^ 24)]
      (∀ w, sr < 3 → peak[sr]? = some w → ∃ k, exec (.spMove u (.special i sr)) s =
        .next (s.ranTo u { q with r := q.r.set i w } k)) ∧
      ∃ k, exec (.spMove u (.special i 3)) s = .next (s.after
        (s.withProc u ({ q with r := q.r.set i (BitVec.ofNat 24 (t.toNat / 2 ^ 24)) }.advance (s.proc u).jump) k |>.popPeak n))

/-- R388, R397, R401: LDS and LDSM read the axis store, the program's own buffered stores first, and their result arrives after
two slots; STS and STSW enter the write buffer, rounded and limited, F16 with V, S and HS where limited. -/
def Obligations.SpAxisStore : Prop :=
  ∀ (s : State) (u x m off : Nat), s.ProcRuns u →
    let q4 := (s.proc u).begun 4
    let q := (s.proc u).begun 2
    let w := q.seen off (s.base.spWord u off)
    let late (d : SpDst) (v : Int) (n : Nat) : SpPend := { dst := d, val := (BitVec.ofInt n v).zeroExtend 56, slots := 2 }
    let put (v : Int) (fmt : Fmt) : Proc := { q with buf := q.buf ++ [{ off := off, val := BitVec.ofInt 32 v, fmt := fmt }] }
    let half (v : Int) : Proc :=
      let g := put (within (-32768) 32767 ((v + 128) / 256)) .f16
      if within (-32768) 32767 ((v + 128) / 256) = (v + 128) / 256 then g
      else { g with f := { g.f with v := true, s := true, hs := true } }
    (∃ k, exec (.spLds u x off false) s = .next (s.ranTo u
      { q4 with pend := q4.pend ++ [late (.reg x) (signed 16 w.toNat * 256) 24] } k)) ∧
    (∃ k, exec (.spLds u x off true) s = .next (s.ranTo u
      { q4 with pend := q4.pend ++ [late (.reg x) (signed 24 w.toNat) 24] } k)) ∧
    (∃ k, exec (.spLdsm u m off) s = .next (s.ranTo u { q4 with pend := q4.pend ++ [late (.acc m) w.toInt 56] } k)) ∧
    (q.buf.length < 32 →
      (∃ k, exec (.spSts u (.reg x) off true) s = .next (s.ranTo u (put (q.rr x) .f24) k)) ∧
      (∃ k, exec (.spSts u (.acc m 0) off true) s =
        .next (s.ranTo u (put (within (-8388608) 8388607 ((q.rm m + 2 ^ 22) / 2 ^ 23)) .f24) k)) ∧
      (∃ k, exec (.spSts u (.reg x) off false) s = .next (s.ranTo u (half (q.rr x)) k)) ∧
      (∃ k, exec (.spSts u (.acc m 0) off false) s = .next (s.ranTo u (half ((q.rm m + 2 ^ 22) / 2 ^ 23)) k)) ∧
      ∃ k, exec (.spStsw u m off) s = .next (s.ranTo u (put (q.rm m) .i32) k))

/-- R378, R379, R388: SETP writes a pointer and its ring base after one slot, SETN a modifier, ADDP a pointer: moved by the step in
the linear mode, and within its ring in the ring mode. In the reversed-carry mode, where a step of 1 is implied, it counts the
reversed low r bits on by one, or back by one for a negative step; in a mode not listed, and for an r outside 1 to 14, it executes as
FLT 0xFF. The step back and the FLT of an ADDP are the model's choice (log entry 17): the manual gives that FLT to an access. -/
def Obligations.SpAddressing : Prop :=
  ∀ (s : State) (u j : Nat) (v : SpVal) (d : Int), s.ProcRuns u →
    let q := (s.proc u).begun 1
    let n := (q.nn.getD j 0).toNat
    let b : Int := (q.b.getD j 0).toNat
    let p : Int := (q.p.getD j 0).toNat
    let late (t : SpDst) (w : A56) : Proc := { q with pend := q.pend ++ [{ dst := t, val := w, slots := 1 }] }
    (∃ k, exec (.spSetp u j v) s = .next (s.ranTo u (late (.ptrBase j) ((q.val v).zeroExtend 56)) k)) ∧
    (∃ k, exec (.spSetn u j v) s = .next (s.ranTo u (late (.modif j) ((q.val v).zeroExtend 56)) k)) ∧
    (n / 2 ^ 21 = 0 → ∃ k, exec (.spAddp u j d) s =
      .next (s.ranTo u (late (.ptr j) (BitVec.ofNat 56 ((p + d) % 16384).toNat)) k)) ∧
    (n / 2 ^ 21 = 1 → ∃ k, exec (.spAddp u j d) s = .next (s.ranTo u (late (.ptr j)
      (BitVec.ofNat 56 ((b + (p - b + d) % ((n / 512 % 4096 + 1 : Nat) : Int)) % 16384).toNat)) k)) ∧
    (n / 2 ^ 21 = 2 → 1 ≤ n % 16 → n % 16 ≤ 14 →
      let r := n % 16
      let k := p.toNat
      let count := (revBits r (k % 2 ^ r) + (if d < 0 then 2 ^ r - 1 else 1)) % 2 ^ r
      ∃ k', exec (.spAddp u j d) s = .next (s.ranTo u (late (.ptr j) (BitVec.ofNat 56 (k / 2 ^ r * 2 ^ r + revBits r count))) k')) ∧
    (n / 2 ^ 21 = 2 → n % 16 = 0 ∨ n % 16 = 15 → exec (.spAddp u j d) s = exec (.spFlt u 0xFF) s) ∧
    (2 < n / 2 ^ 21 → exec (.spAddp u j d) s = exec (.spFlt u 0xFF) s)

/-- R388, R389, R394: BR, CALL and RET take effect after their delay slot; LOOP pushes an entry, or skips the body on a count of
0; SAVL and RSTL move the top entry to and from x0, x1 and y0; DI and EI write IE. A fifth entry of either stack, and RET with
none, execute as FLT 0xFF. Condition codes and the return address are the model's (log entry 17). -/
def Obligations.SpControl : Prop :=
  ∀ (s : State) (u cc len : Nat) (m : Int) (v : SpVal), s.ProcRuns u →
    let q := (s.proc u).begun 1
    let cnt := (q.val v).toNat % 65536
    let q2 := (s.proc u).begun 2
    let go (g : Proc) : Proc := { g with jump := some (((q.pc : Int) + m) % 8192).toNat }
    let set3 (g : Proc) (l : SpLoop) : Proc :=
      { g with r := ((g.r.set 0 (BitVec.ofInt 24 l.lc)).set 1 (BitVec.ofInt 24 l.lb)).set 2 (BitVec.ofInt 24 l.ln) }
    let holds := [true, q.f.z, !q.f.z, q.f.n, !q.f.n, q.f.n || q.f.z, !(q.f.n || q.f.z), q.f.v, !q.f.v]
    (holds[cc]? = some true → ∃ k, exec (.spBr u cc m) s = .next (s.ranTo u (go q) k)) ∧
    (holds[cc]? = some false → ∃ k, exec (.spBr u cc m) s = .next (s.ranTo u q k)) ∧
    (q.stack.length < 4 → ∃ k, exec (.spCall u m) s =
      .next (s.ranTo u { (go q) with stack := (q.pc + 2) % 8192 :: q.stack } k)) ∧
    (4 ≤ q.stack.length → exec (.spCall u m) s = exec (.spFlt u 0xFF) s) ∧
    (∀ t rest, q.stack = t :: rest → ∃ k, exec (.spRet u) s =
      .next (s.ranTo u { q with jump := some (t % 8192), stack := rest } k)) ∧
    (q.stack = [] → exec (.spRet u) s = exec (.spFlt u 0xFF) s) ∧
    (q.loops.length < 4 → ∃ k, exec (.spLoop u v len) s = .next (s.ranTo u
      (if cnt = 0 then { q2 with pc := (q.pc + len) % 8192 }
       else { q2 with loops := { lc := cnt, lb := (q.pc + 1) % 8192, ln := len } :: q.loops }) k)) ∧
    (4 ≤ q.loops.length → exec (.spLoop u v len) s = exec (.spFlt u 0xFF) s) ∧
    (∀ l rest, q.loops = l :: rest → ∃ k, exec (.spSavl u) s = .next (s.ranTo u { (set3 q l) with loops := rest } k)) ∧
    (q.loops.length < 4 → 0 < (q.r.getD 0 0).toNat % 65536 → ∃ k, exec (.spRstl u) s = .next (s.ranTo u
      { q with loops := { lc := (q.r.getD 0 0).toNat % 65536, lb := (q.r.getD 1 0).toNat % 8192
                          ln := (q.r.getD 2 0).toNat % 512 } :: q.loops } k)) ∧
    (∃ k, exec (.spDi u) s = .next (s.ranTo u { q with f := { q.f with ie := false } } k)) ∧
    ∃ k, exec (.spEi u) s = .next (s.ranTo u { q with f := { q.f with ie := true } } k)

/-- R383 to R385: EXP gives the redundant sign bits less 9; NORM and NORMI shift by their count limited to ±55 and limit the
result; SQRT the root of a value rounded down, or 0 with V; DIV the floored quotient, or the limits with V and DZ.
R383, R384: ATAN2 is within 2^−16 of a revolution of the angle, and of two zeros 0 with Z and DZ; SINCOS writes sine to y0 and
cosine to y1, each within 2^−21, and not above 1 − 2^−23. The error inside the stated bound is open (log entry 9). `t` is the exact angle, sine
or cosine in units of 2^−40 as Machine/Trig.lean evaluates it, to 128 of those units; where it is exactly a multiple of the result's
LSB, the result lies within the bound of that multiple. -/
def Obligations.SpSpecial : Prop :=
  (∀ (s : State) (u ra ma mb : Nat) (cnt : Int), s.ProcRuns u →
      let q := (s.proc u).begun 1
      let q24 := (s.proc u).begun 24
      let q28 := (s.proc u).begun 28
      let a := q.m.getD ma 0
      let flag (g : Proc) (v dz : Bool) : Proc := { g with f := { g.f with v := v, s := g.f.s || v, dz := g.f.dz || dz } }
      let shifted (c : Int) : Int := if 0 ≤ c then q.rm ma * 2 ^ c.toNat else q.rm ma / 2 ^ c.natAbs
      (∀ n ≤ 55, (∀ i < n, a.getLsbD (54 - i) = a.getLsbD 55) → (n < 55 → a.getLsbD (54 - n) ≠ a.getLsbD 55) →
        ∃ k, exec (.spExp u ra ma) s =
          .next (s.ranTo u ({ q with r := q.r.set ra (BitVec.ofInt 24 ((n : Int) - 9)) }.flagsOf ((n : Int) - 9)) k)) ∧
      (∃ k, exec (.spNorm u ma ra) s = .next (s.ranTo u (q.givesSat ma (shifted (within (-55) 55 (q.rr ra)))) k)) ∧
      (∃ k, exec (.spNormi u ma cnt) s = .next (s.ranTo u (q.givesSat ma (shifted (within (-55) 55 cnt))) k)) ∧
      (∀ r : Nat, (r * r : Int) ≤ q.rm mb → q.rm mb < ((r + 1) * (r + 1) : Int) → ∃ k, exec (.spSqrt u ma mb) s =
        .next (s.ranTo u (flag (q24.gives ma (r * 2 ^ 23)) false false) k)) ∧
      (q.rm mb < 0 → ∃ k, exec (.spSqrt u ma mb) s = .next (s.ranTo u (flag (q24.gives ma 0) true false) k)) ∧
      (q.rr ra ≠ 0 → ∃ k, exec (.spDiv u ma mb ra) s =
        .next (s.ranTo u (q28.givesSat ma (Int.fdiv (q.rm mb) (q.rr ra) * 2 ^ 23)) k)) ∧
      (q.rr ra = 0 → ∃ k, exec (.spDiv u ma mb ra) s = .next (s.ranTo u
        (flag (q28.gives ma (if q.rm mb < 0 then -36028797018963968 else 36028797018963967)) true true) k))) ∧
  (∀ (s : State) (u ra rb : Nat), s.ProcRuns u →
      let q14 := (s.proc u).begun 14
      let q8 := (s.proc u).begun 8
      let y := q14.rr ra
      let x := q14.rr rb
      let ang := (q8.r.getD ra 0).toNat
      let near (k sh : Nat) (exact : Prop) (v t : Int) : Prop :=
        (exact → (v - (t + 2 ^ (sh - 1)) / 2 ^ sh).natAbs ≤ k) ∧ (¬exact → (v * 2 ^ sh - t).natAbs ≤ k * 2 ^ sh + 128)
      let set (g : Proc) (i : Nat) (v : Int) : Proc := { g with r := g.r.set i (BitVec.ofInt 24 v) }
      (y = 0 ∧ x = 0 → ∃ k, exec (.spAtan2 u ra rb) s =
        .next (s.ranTo u { (set q14 ra 0) with f := { q14.f with z := true, dz := true } } k)) ∧
      (¬(y = 0 ∧ x = 0) → ∃ a : Int, near 256 16 (x = 0 ∨ y = 0 ∨ x.natAbs = y.natAbs) a (atan2Turn y x) ∧
        let v := a % 2 ^ 24
        ∃ k, exec (.spAtan2 u ra rb) s = .next (s.ranTo u { (set q14 ra v) with f := { q14.f with z := decide (v = 0) } } k)) ∧
      ∃ si co : Int, near 4 17 (ang % 2 ^ 22 = 0) si (cosSinTurn (ang * 2 ^ 16)).2 ∧
        near 4 17 (ang % 2 ^ 22 = 0) co (cosSinTurn (ang * 2 ^ 16)).1 ∧ ∃ k, exec (.spSincos u ra) s = .next (s.ranTo u
          (set (set q8 2 (within (-8388608) 8388607 si)) 3 (within (-8388608) 8388607 co)) k))

/-- R396, R397, R402: END of a task commits its write buffer as one unit, records its sticky flags and ends the task as its kind
does; FLT of a task ends it with the code; FLT of a handler marks the pair as bad, raises EV_SP_FLT and returns.
R392: RTI restores both and completes every pending load; a sticky flag of the handler counts in SIGPROC_HSAT and raises EV_SP_SAT,
and is not passed to the task. Of a peak that the handler has not read the channel takes the values at the return (log entry 14), and a pair with
a peak still queued requests again. -/
def Obligations.SpProgramEnds : Prop :=
  ∀ (s : State) (u code : Nat), s.ProcRuns u →
    let q := s.proc u
    let stopped : Proc := { (q.begun 1) with trap := none }
    (∀ r, q.hand = none → s.base.disp.on .sp u = some r → ∃ k,
      let c := s.withProc u ((q.begun 1).advance q.jump) k
      let kept (n : Nat) : Core := (c.commitBuf r.r.key q.buf).spSticky r.r.key n q.f.sticky
      (r.r.task = .filter → exec (.spEnd u) s = .next (s.after ((kept 1).taskEnds r .filter))) ∧
      (r.r.task = .observe → exec (.spEnd u) s = .next (s.after (((kept 2).obsTake r.r.key).taskEnds r .observe))) ∧
      (r.r.task = .measure → exec (.spEnd u) s = .next (s.after (c.measureDone r.r.key (forN 16 fun i => q.seen (4 * i) 0))))) ∧
    (∀ r, q.hand = none → s.base.disp.on .sp u = some r → ∃ k,
      exec (.spFlt u code) s = .next (s.after ((s.withProc u stopped k).taskFlt r (code % 256)))) ∧
    (∀ n, q.hand = some n → ∃ k,
      let c := s.withProc u stopped k
      exec (.spFlt u code) s = .next (s.after
        ((({ c with sig := { c.sig with fltCnt := c.sig.fltCnt + 1, dead := c.sig.dead ||| (1#8 <<< n)
                                        fltInfo := w32 (n + 256 * 15 + 4096 * u + 65536 * (code % 256) + 2 ^ 31) } } : Core).raise
          [evPair EvNo.spFlt n (code % 256)]).spReturn u n true))) ∧
    ∀ n, q.hand = some n →
      let any := q.f.s || q.f.hs || q.f.dz
      let back : Proc := { q.drain with
        hand := none, handPk := none, pc := q.spc, f := q.ssr, hSticky := any, jump := none, trap := none
        total := q.drain.total + 2 }
      let d := s.withProc u back s.base.freeCtr
      let popped (e : Int × Int × Rt) : Core := if (d.sig.fifo.look n []).head? = some e
        then { d with sig := { d.sig with fifo := d.sig.fifo.upd n [] List.tail } } else d
      let taken := match q.handPk with | some e => (popped e).peakTaken n e | none => d
      let who := match taken.chanAxis n with | some a => (evAxis EvNo.spSat a).limited a | none => evPair EvNo.spSat n
      let said := if any = true
        then ({ taken with sig := { taken.sig with hSat := taken.sig.hSat + 1 } } : Core).raise [who] else taken
      exec (.spRti u) s = .next (s.after ((if said.sig.fifo.look n [] = [] then said else said.peakRequest n).place .sp))

/-- R391: entry to PEAK. A processor takes it when IE is 1, the next instruction lies in no delay slot and no other handler runs:
the next address goes to SPC and the flags to SSR, IE and the sticky flags are cleared, it goes on at the pair's vector after 2
beats, and of several requesting pairs the lowest is taken. Otherwise nothing happens. SIGPROC's latency register keeps the longest
wait in beats, the two of the entry among them. -/
def Obligations.SpPeakEntry : Prop :=
  ∀ (s : State) (u : Nat),
    let c := s.base
    let q := s.proc u
    let ready : Prop := q.iso = false ∧ q.f.ie = true ∧ q.hand = none ∧ q.jump = none ∧ ∀ e ∈ q.pend, e.slots = 0
    let asks (n : Nat) : Prop := n ∈ c.sig.req ∧ c.pairHome n = u
    (∀ n < 8, ready → asks n → (∀ k < n, ¬asks k) →
      let waited := (q.total - c.sig.reqAt.look n q.total).toNat
      exec (.spPeakEntry u) s = .next (s.after { c with sig := { c.sig with
        req := c.sig.req.filter fun k => k != n
        reqAt := c.sig.reqAt.del n
        proc := c.sig.proc.put u { q with
          hand := some n, handPk := (c.sig.fifo.look n []).head?, spc := q.pc, ssr := q.f, pc := c.image.spVec.look n 0 % 8192
          f := { q.f with ie := false, s := false, hs := false, dz := false }
          peaks := q.peaks + 1, total := q.total + 2, lat := max q.lat (min 65535 (waited + 2)) } } })) ∧
    (¬ready ∨ (∀ n < 8, ¬asks n) → exec (.spPeakEntry u) s = .next (s.after c))

/-- R58, R71, R90, R116, R664: CYCLE_BOUNDARY on a crown or spare that is RUNNING. What ends with the old cycle ends first, then the
cycle number and S advance by one cycle, then the work of the new cycle's row 1 is done, unless the chip
has stopped being crown; the first boundary after a ring start is
that of the number in force; in STANDBY, and where a
chip that keeps its count holds no ring, the number advances and no cycle is computed; with neither a ring nor a count nothing
happens. -/
def Obligations.CycleBoundary : Prop :=
  ∀ s : State,
    let c := s.base
    let next := rtAdd c.cycle.rtS c.len
    let turned (d : Core) : Core := { d with cycle := { d.cycle with cycle := d.cycle.cycle + 1, rtS := next } }
    let role : Prop := c.role.role = .crown ∨ c.role.role = .spare
    let ended := turned ((c.at next).endCycle c.cycle.rtS c.len)
    (c.boot.st = .running → role → c.standby = false → c.cycle.running = true →
      (ended.computes = true → exec .cycleBoundary s = .next (s.after ended.boundaryWork)) ∧
      (ended.computes = false → exec .cycleBoundary s = .next (s.after ended.standbyBoundary))) ∧
    (c.boot.st = .running → role → c.standby = false → c.cycle.running = false → exec .cycleBoundary s =
      .next (s.after ({ c with cycle := { c.cycle with running := true, rtS := c.now } } : Core).boundaryWork)) ∧
    (c.boot.st = .running → c.standby = true ∨ ¬role → c.cycle.running = true →
      exec .cycleBoundary s = .next (s.after (turned ((c.at next).chanBoundary c.cycle.rtS c.len)).standbyBoundary)) ∧
    (c.boot.st ≠ .running ∨ (c.standby = true ∨ ¬role) ∧ c.cycle.running = false →
      exec .cycleBoundary s = .next (s.after c))

/-- R61, R98, R113, R131, R166, R476, R664: the launch of the sense frame, at S + t_sf, sends one on each segment, each with a role
record, and counts the notices of a coming STANDBY; the compute window, at S + t_cw0, fixes the uplink outcomes, counts the misses, evaluates the Gauntlet and decides
a mode change whose commit point it is. A chip that holds no crown, or is in STANDBY, sends and computes nothing.
R77, R165, R422: the drive frame at S + t_rel leaves with the slots' entries, the slot and task counters advance once, the
cycle's image is completed and put before the seven held, its row goes to the Visor and the measurement interval opens. -/
def Obligations.CycleFrames : Prop :=
  (∀ s : State,
      let c := s.base
      let sf := c.at (c.instant c.modeI.tSf)
      let sent := sf.segs.foldl Core.senseFrame sf
      let cw := c.at (c.instant c.modeI.tCw0)
      let fixed := cw.segs.foldl Core.fixSlots cw
      let live : Prop := c.boot.st = .running ∧ c.cycle.running = true ∧ c.computes = true
      (c.sends = true → exec .senseFrameLaunch s = .next (s.after
        { sent with role := { sent.role with notices := sent.role.notices - 1 } })) ∧
      (c.sends = false → exec .senseFrameLaunch s = .next (s.after c)) ∧
      (live → exec .computeWindowOpen s = .next (s.after
        (fixed.axes.foldl Core.windowAxis fixed).gsEvaluate.commitPoint)) ∧
      (¬live → exec .computeWindowOpen s = .next (s.after c) ∧ exec .driveFrameLaunch s = .next (s.after c))) ∧
  (∀ s : State,
      let c := s.base
      let l := c.at (c.instant c.modeI.tRel)
      let m := if l.sends = true then l.segs.foldl Core.driveFrame l else l
      let d := m.segs.foldl Core.countSlots m
      let im := ({ d with disp := d.disp.update d.cycle.cycle } : Core).completeImage
      let e := im.axes.foldl (fun (x : Core) a => x.updPa a fun p => { p with
        hist := ((x.cycle.rtS, x.word a oPos) :: p.hist).take 2 }) im
      c.boot.st = .running → c.cycle.running = true → c.computes = true →
        (∀ i rest, e.cycle.images = i :: rest → exec .driveFrameLaunch s = .next (s.after (e.visRow i).measOpen)) ∧
        im.cycle.images.length ≤ 8 ∧ im.cycle.images.head?.map (·.cycle) = some d.cycle.cycle)

/-- R101, R105, R124: a sense copy that has not returned at its deadline is missed, and the second miss in a row opens its ring; in
DISCOVER the positions that answered are taken up. An open ring closes after 16 returns, with EV_RING_CLOSED, unless it is the one that
R119 cut toward an old crown. Ring 0 is A and ring 1 is B.
R52, R212: 256 consecutive cycles inside the window give the lock of ring time, with EV_RT_LOCKED, and a spare's readiness, with
EV_SPARE_READY, once; R160: every 16 cycles the mean of every slot and port is taken, and with no admitted node nothing is. -/
def Obligations.RingUpkeep : Prop :=
  (∀ (s : State) (g hop : Nat),
      let c := s.base
      let x := c.sg g
      let miss (r : RingDir) : RingDir :=
        if 1 ≤ r.miss then { r with known := true, closed := false, miss := r.miss + 1, ret := 0, late := true }
        else { r with miss := r.miss + 1, ret := 0, late := true }
      let shut (r : RingDir) : Prop := r.known = true ∧ r.closed = false
      (c.sends = true → c.segLive g = true →
        (x.a.last = none → exec (.senseReturnDeadline g ⟨0, hop⟩) s =
          .next (s.after ((c.putSg g { x with a := miss x.a }).discover g 0 hop))) ∧
        (x.b.last = none → exec (.senseReturnDeadline g ⟨1, hop⟩) s =
          .next (s.after ((c.putSg g { x with b := miss x.b }).discover g 1 hop))) ∧
        (x.a.last.isSome = true → exec (.senseReturnDeadline g ⟨0, hop⟩) s = .next (s.after c)) ∧
        (x.b.last.isSome = true → exec (.senseReturnDeadline g ⟨1, hop⟩) s = .next (s.after c))) ∧
      (∀ d : Core, ∀ ring < 2, (d.sg g).phase ≠ .discover → d.discover g ring hop = d) ∧
      (shut x.a → 16 ≤ x.a.ret → x.cut = false → exec (.ringClose g 0) s =
        .next (s.after ((c.putSg g { x with a := { x.a with closed := true } }).raise [evSeg EvNo.ringClosed g 0]))) ∧
      (shut x.b → 16 ≤ x.b.ret → x.cut = false → exec (.ringClose g 1) s =
        .next (s.after ((c.putSg g { x with b := { x.b with closed := true } }).raise [evSeg EvNo.ringClosed g 1]))) ∧
      (¬shut x.a ∨ x.a.ret < 16 ∨ x.cut = true → exec (.ringClose g 0) s = .next (s.after c)) ∧
      (¬shut x.b ∨ x.b.ret < 16 ∨ x.cut = true → exec (.ringClose g 1) s = .next (s.after c))) ∧
  (∀ s : State,
      let c := s.base
      (c.role.role = .crown → c.time.locked = false → 256 ≤ c.time.lockRun → exec .rtLockGained s =
        .next (s.after (({ c with time := { c.time with locked := true } } : Core).raise [ev0 EvNo.rtLocked]))) ∧
      (c.role.role = .spare → c.role.readyRaised = false → 256 ≤ c.time.spareRun → exec .rtLockGained s =
        .next (s.after (({ c with role := { c.role with readyRaised := true } } : Core).raise [ev0 EvNo.spareReady]))) ∧
      (c.role.role = .crown → c.time.lockRun < 256 → exec .rtLockGained s = .next (s.after c)) ∧
      (exec .slotMeanUpdate s = .next (s.after (c.segs.foldl (fun (c : Core) g => (c.admitted g).foldl (fun (c : Core) p =>
        (List.range 2).foldl (fun (c : Core) side =>
          let r := (c.sl g).meanUpdate (c.is g) g p side
          (c.putSl g r.1).raise r.2) c) c) c))) ∧
      ((∀ g ∈ c.segs, c.admitted g = []) → exec .slotMeanUpdate s = .next (s.after c)))

/-- R99, R101, R107, R132, R138, R143, R157, R168: a returning copy counts at its port, ring A's at Bn and ring B's at An. A good one is
recorded with its time, and not where it comes past its deadline; its placeholders go to the Finzo 1
axes and its mailbox area is read; a bad one counts in FRMRET and against its port. An uplink run that is merged counts in MERGED
and raises EV_SLOT_MERGED, and the slot of the admitted node that it lies nearest to has had a run; one that no admitted node's slot is
nearest to, whose arrival error lies in no band, or whose slot has had a run goes out of slot; and one inside the centre band is counted in
its slot's mean and its records are checked in turn. At a port without link nothing is received. -/
def Obligations.ReturnsAndRuns : Prop :=
  ∀ (s : State) (g ring hop : Nat) (t : Int) (good : Bool) (recs : List (List Byte)) (area : List Byte) (u : UplinkRun),
    let c := s.base
    c.sends = true →
    (c.segLive g = true → ring < 2 → (c.po (2 * g + (1 - ring))).link = true →
      let count (b : Bool) := (c.at (rtAdd (c.instant c.modeI.tSf) t)).countFrame (2 * g + (1 - ring)) b
      let q := (count false).sl g
      exec (.senseCopyReturn g ring t false recs area hop) s = .next (s.after ((count false).putSl g { q with
        frmret := halfInc q.frmret (1 - ring)
        suspect := if ring = 0 then { q.suspect with badB := true } else { q.suspect with badA := true } })) ∧
      let x := (count true).sg g
      let past (r : RingDir) : Prop := r.late = true ∨ 0 < x.dloop2 ∧ x.dloop2 + 800 < 2 * t
      let a' := if ring = 0 ∧ ¬past x.a then x.a.returned t else x.a
      let b' := if ring = 1 ∧ ¬past x.b then x.b.returned t else x.b
      let loop : Int := match a'.last, b'.last with | some i, some j => i + j | _, _ => x.dloop2
      exec (.senseCopyReturn g ring t true recs area hop) s = .next (s.after
        (((((count true).putSg g { x with a := a', b := b', dloop2 := loop }).discover g 0 hop).placeholders g (1 - ring) recs).mbxArea
          g (area.take 64)))) ∧
    (c.segLive g = false ∨ (c.po (2 * g + (1 - ring))).link = false → ring < 2 →
      exec (.senseCopyReturn g ring t good recs area hop) s = .next (s.after c)) ∧
    (c.segLive u.seg = true → (c.po (2 * u.seg + u.side)).link = true →
      let d := c.at u.stamp
      let q := d.sl u.seg
      let off := rtDiff u.stamp d.cycle.rtS
      let near := (d.is u.seg).nearest d.cycle.mode u.side off
      let known (p : Nat) : Prop := ((d.sg u.seg).node p).st = .admitted
      let another (x : Core) (p : Nat) : Core :=
        let y := x.dropFirst u.seg p u.side
        y.putSl u.seg ((y.sl u.seg).updPort p u.side fun k => { k with runs := k.runs + 1 })
      let merged := (d.putSl u.seg { q with
        merged := halfInc q.merged u.side
        suspect := { q.suspect with ind := true, src := q.suspect.src.orElse fun _ => runSrc u.records } }).raise
          [(evSeg EvNo.slotMerged u.seg).limited u.seg]
      let lost : Prop := ∀ p eps, near = some (p, eps) → ¬known p
      (u.merged = true → lost → exec (.uplinkRunReceived u) s = .next (s.after merged)) ∧
      (u.merged = false → lost → exec (.uplinkRunReceived u) s =
        .next (s.after (d.outOfSlot u.seg u.side off (runSrc u.records)))) ∧
      ∀ p eps, near = some (p, eps) → known p →
        (u.merged = true → exec (.uplinkRunReceived u) s = .next (s.after (another merged p))) ∧
        (u.merged = false → 0 < (q.portOf p u.side).runs ∨ band (d.is u.seg).phy eps = .out →
          exec (.uplinkRunReceived u) s = .next (s.after ((another d p).outOfSlot u.seg u.side off (runSrc u.records)))) ∧
        (u.merged = false → (q.portOf p u.side).runs = 0 → band (d.is u.seg).phy eps = .centred →
          exec (.uplinkRunReceived u) s = .next (s.after (((d.putSl u.seg
            ((q.updPort p u.side fun k => { k with runs := 1, first := some (off, runSrc u.records) }).countEps p u.side eps)).heard
              u.seg p u.side).runRecords u.seg p u.side u.records)))) ∧
    ((c.po (2 * u.seg + u.side)).link = false → exec (.uplinkRunReceived u) s = .next (s.after c))

/-- R411, R414: a task of an axis's chain that completes is released, its unit selects again, and its successor is posted, after the
task's own effect: the words of FEEDBACK (R245), FILTER (R400), OBSERVE (R302), COMMUTE_IN once its checks pass (R268) and COMMUTE_OUT
(R278). PACK fills the slot's entry with the record of R283 and ends the chain. With no such task running nothing happens. At D_f the flow
is closed, and every one of its slots holds an entry: what the chains have not filled is the empty marker (R361, R416). -/
def Obligations.ChainTasks : Prop :=
  ∀ (s : State) (a f : Nat) (r : Running),
    let c := s.base
    (c.boot.st = .running → c.cycle.running = true → c.computes = true → (c.disp.flow.look? f).isSome = true →
      (c.flow f).closed = false → ∃ t, exec (.releaseDeadline f) s = .next (s.after t) ∧ (t.flow f).closed = true ∧
        ∀ i < (t.flow f).slots, ((t.flow f).entries.look? i).isSome = true) ∧
    ((c.flow f).closed = true → exec (.releaseDeadline f) s = .next (s.after c)) ∧
    (c.runningTask .feedback a = some r → exec (.feedbackTaskDone a) s = .next (s.after ((c.feedbackTask a).taskEnds r .feedback))) ∧
    (c.runningTask .filter a = some r → exec (.filterTaskDone a) s = .next (s.after
      (((c.setWords a (filterTask (c.cf a) (c.word a)).1).spSticky a 1 (b2n (filterTask (c.cf a) (c.word a)).2)).taskEnds r .filter))) ∧
    (c.runningTask .observe a = some r → exec (.observeTaskDone a) s = .next (s.after ((c.observeTask a).taskEnds r .observe))) ∧
    (c.runningTask .commuteIn a = some r → ∀ x,
      let d := (c.passed r.unit).updFa a fun x => { x with flags := 0 }
      let b := c.senseBytes a
      (d.fa a).checks (d.cf a) (recS16 b 4) (recS16 b 6) (recS16 b 8) (rec16 b 24) = (x, .pass, false) →
      exec (.commuteInDone a) s = .next (s.after (((d.updFa a fun _ => x).cinPass a).taskEnds r .commuteIn))) ∧
    (c.runningTask .commuteOut a = some r →
      exec (.commuteOutDone a) s = .next (s.after (((c.passed r.unit).coutPass a).taskEnds r .commuteOut))) ∧
    (c.runningTask .pack a = some r → exec (.packDone a) s = .next (s.after
      ((((c.updFa a fun x => { x with flagsLast := (c.word a oCmtFlags).setWidth 8 }).complete r).updChain a
        fun x => { x with endc := 0 }).fillSlot a (c.packRecord a)
          (some c.now)))) ∧
    (c.runningTask .feedback a = none → exec (.feedbackTaskDone a) s = .next (s.after c)) ∧
    (c.runningTask .pack a = none → exec (.packDone a) s = .next (s.after c))

/-- R337, R340, R343, R360, R361, R397: the end of the library's LAW task is that of R337 on the words it computes; a pair whose copies
agree in writes, sticky flags and ending commits once, and one whose copies differ counts on both engines, raises EV_PAIR_MISMATCH
and puts the axis into AX_FAULT with cause 0x4 and an empty entry, counting each FLT ending; a pair whose copies both end in the same FLT counts
both, raises EV_LAW_FAULT and ends as that FLT does; an overrun ends a task as FLT 0xFD. -/
def Obligations.LawAndPairs : Prop :=
  ∀ (s : State) (a : Nat) (copyB : Bool) (t : Task) (r : Running) (x y : PairCopy),
    let c := s.base
    (c.runningTask .law a copyB = some r → c.cf a .lawProg = (c.image.leLib : Int) →
      let o := lawTask (c.lawIn a)
      exec (.lawTaskEnd a copyB) s = .next (s.after ((
        { c with eng := { c.eng with eng := c.eng.eng.upd r.unit {} fun e =>
          { e with buf := o.writes, s := e.s || o.sat, beats := o.beats, total := e.total + w32 o.beats } } } : Core).lawEnd r))) ∧
    (c.eng.copies.look a [] = [x, y] →
      let d : Core := { c with eng := { c.eng with copies := c.eng.copies.del a } }
      let bump (e : Engine) : Engine := { e with mism := e.mism + 1 }
      let one (p : Prop) [Decidable p] : Nat := if p then 1 else 0
      let done := (d.lawCommit a x.writes x.sticky true).updAx a fun z => { z with plate := 0 }
      (x.writes = y.writes → x.sticky = y.sticky → x.ending = .fin → y.ending = .fin → ∀ n, (done.chainOf a).after .law = some n →
        done.chainLive a = true → exec (.pairCompare a) s = .next (s.after (done.postNext a n))) ∧
      (x.writes ≠ y.writes ∨ x.sticky ≠ y.sticky ∨ x.ending ≠ y.ending → exec (.pairCompare a) s = .next (s.after
        (((({ d with eng := { d.eng with misms := d.eng.misms + 1
                                         lawFlt := d.eng.lawFlt + w32 (one (x.ending ≠ .fin) + one (y.ending ≠ .fin))
                                         eng := (d.eng.eng.upd x.engine {} bump).upd y.engine {} bump } } : Core).raise
          [evAxis EvNo.pairMismatch a]).axisFault a 4).cancelEmpty a 4))) ∧
      ∀ k, x.writes = y.writes → x.sticky = y.sticky → x.ending = .flt k → y.ending = .flt k → exec (.pairCompare a) s = .next (s.after
        ((({ d with eng := { d.eng with lawFlt := d.eng.lawFlt + 2 } } : Core).raise [evAxis EvNo.lawFault a k]).axisFault a 5 k
          |>.cancelEmpty a 5))) ∧
    (c.runningTask t a copyB = some r → exec (.taskOverrun t a copyB) s = .next (s.after (c.taskFlt r 0xFD))) ∧
    (c.runningTask t a copyB = none → exec (.taskOverrun t a copyB) s = .next (s.after c))

/-- R418: PROFILE_TASK_DONE. The task's result is held for the next boundary while the axis's record, lead and counters are
updated and its events are raised; a command that it has taken up is reported as done; and the actions that it orders follow: the source's
SUSPECT is cleared, the reference is taken at the index, and where the master's reference was lost the axis reacts as it is configured.
R419, R532: a MEASURE task writes at most 16 words at offset 576 of its record's area, with MEASDONE; at the end of the interval no further
MEASURE task starts, and every one that waits from it is taken from its queue and cancelled with reason 0x8, and its record is marked as
cancelled. Where no such task runs, nothing happens. -/
def Obligations.ProfileAndMeasure : Prop :=
  ∀ (s : State) (a area : Nat) (ws : List W32),
    let c := s.base
    (∀ r, c.runningTask .profile a = some r →
      let i := c.profIn a r.r.cycle
      let res := (c.pa a).task i
      let d := (c.updPa a fun _ => { res.x with lead := ((c.masterOf a).ref (c.cf a .prLeadk)).2 }).raise res.evs
      let taken : Prop := (c.pa a).pend.isSome = true ∧ res.x.pend = none ∧ fld c.prof.cmdStat 7 0 = a ∧ fld c.prof.cmdStat 13 12 = 1
      let counted : Core := { d with prof := { d.prof with
        knCnt := c.prof.knCnt + w32 res.kn
        mlostCnt := c.prof.mlostCnt + (if res.mlost = true then 1 else 0)
        cmdStat := if taken then (c.prof.cmdStat &&& ~~~0x3000) ||| 0x2000 else c.prof.cmdStat } }
      let cleared := if res.clearSuspect = true then counted.clearSusp a else counted
      let based := match res.newRef, i.idx with | true, some v => cleared.takeRef a v | _, _ => cleared
      let reacted := if res.mlost = true then based.react a (c.cf a .mlostReact).toNat dgMlost 6 else based
      exec (.profileTaskDone a) s = .next (s.after (reacted.complete r))) ∧
    (c.runningTask .profile a = none → exec (.profileTaskDone a) s = .next (s.after c)) ∧
    (∀ r, c.disp.running.find? (fun r => r.r.task = .measure && r.r.key = area) = some r → exec (.measureTaskDone area ws) s =
      .next (s.after ((({ c with vis := { c.vis with
        mem := memSetBytes 0 c.vis.mem (area * c.vcfg.areaSize + 576) (wordsBytes (ws.take 16)) } } : Core).measEnd area 4).complete r))) ∧
    ((∀ r ∈ c.disp.running, ¬(r.r.task = .measure ∧ r.r.key = area)) → exec (.measureTaskDone area ws) s = .next (s.after c)) ∧
    (∀ w, (c.disp.sp.filter fun q => decide (q.task = .measure ∧ (c.disp.measWin = true ∨ q.cycle ≠ c.cycle.cycle))) = w →
      let cancel (x : Core) (q : Ready) : Core :=
        let y := x.tr { (x.trOf 5 q) with reason := 8 }
        ({ y with disp := y.disp.tallied q.due (·.ended (.cancelled 8)) } : Core).measEnd q.key 8
      exec .measureWindowEnd s = .next (s.after (w.foldl cancel
        { c with disp := { c.disp with measWin := false, sp := c.disp.sp.filter fun q => !w.contains q } })))

/-- R72 to R74, R80, R85, R115, R126, R137, R553: the guarded commands of CHIP, LINK_ROLE and LINK_SEG, accepted. MODE_CHANGE to a
present mode takes effect A_LEAD cycles after the next, MODE_CANCEL aborts a change that is not decided, BARRIER, SNAPSHOT and NETRESET
start in the next cycle on the nodes admitted now, SNAPSHOT's cycle being the fourth from now, and NETRESET commands the nodes by NODECMD
too; RETRY acts in REFUSED, READMIT on a refused or lost node of the table, DEADMIT on an admitted node, which is told so. -/
def Obligations.SequencerCommands : Prop :=
  ∀ (s : State) (p : HostPort) (m g pos : Nat), m < 8 → g < 4 → pos < 64 →
    let c := s.paired p 0
    let k := c.cycle.cycle + 1
    let free : Prop := c.standby = false ∧ c.gopBusy = false ∧ c.cycle.running = true
    let started (d : Core) (op : GopOp) (at' : W32) : Core := { d with cycle := { d.cycle with
      gopOp := op, gopState := .running, gopReason := 0, gopMissing := 0, gopStart := k, gopNodes := d.admittedAll, gopAcked := []
      gopCyc := at' } }
    (s.Pair p 0x100 (w32 (0x40000000 + m)) → free → (c.image.mode.look m {}).present = true →
      exec (.modeChange p m) s = .next (s.after { c with cycle := { c.cycle with
        change := some { target := m, cEff := k + w32 c.image.aLead }, modeEff := k + w32 c.image.aLead, gopOp := .mode
        gopState := .running, gopReason := 0, gopMissing := 0, gopStart := k } })) ∧
    (∀ x, s.Pair p 0x100 0x80000000 → c.standby = false → c.cycle.change = some x → x.decision = none →
      exec (.modeCancel p) s = .next (s.after { c with cycle := { c.cycle with change := some { x with cancelled := true } } })) ∧
    (s.Pair p 0x104 1 → free → exec (.barrier p) s = .next (s.after (started c .barrier c.cycle.gopCyc))) ∧
    (s.Pair p 0x104 2 → free → let d := c.admitAct { act := .snapshot, port := p.path.code }
      d.2 = true → exec (.snapshot p) s = .next (s.after (started d.1 .snapshot (k + 3)))) ∧
    (s.Pair p 0x104 3 → free → (∀ a ∈ c.axes, (c.ax a).state = .off ∨ (c.ax a).state = .opened ∨ (c.ax a).state = .halt ∨
        (c.ax a).state = .fault) → let d := c.admitAct { act := .netreset, port := p.path.code }
      let e := started d.1 .netreset d.1.cycle.gopCyc
      d.2 = true → exec (.netreset p) s = .next (s.after (e.segs.foldl
        (fun (x : Core) k => x.putSl k ((x.sl k).enqueue 4 (nodeCmd 0xFF 1))) e))) ∧
    (s.Pair p 0x14040 1 → c.role.role = .refused → exec (.retry p) s = .next (s.after c.restartListen)) ∧
    (s.Pair p (pgSeg + 0x1000 * g + 0x40) (w32 (0x40000000 + pos)) →
      ((c.sg g).node pos).st = .refused ∨ ((c.sg g).node pos).st = .lost → ((c.is g).nodes.look? pos).isSome = true →
      exec (.readmit p g pos) s = .next (s.after (c.putSg g ((c.sg g).updNode pos fun n => { n with readmit := 4, answered := false })))) ∧
    (s.Pair p (pgSeg + 0x1000 * g + 0x40) (w32 (0x80000000 + pos)) → ((c.sg g).node pos).st = .admitted →
      exec (.deadmit p g pos) s = .next (s.after ((c.putSl g ((c.sl g).enqueue 4 (nodeCmd pos 2))).loseNode g pos)))

/-- R223: SELECT_A, SELECT_B and HOLD take manual control of ring time where a source may be chosen, RELEASE gives it back, ALIGN_NOW
starts a SLEW while the residual is at most 1 ms; R424, R431: CLR_SLACK_MIN and TR_CLEAR; R573: CLR_LOG empties the log, after which
EVENTS_LOGGED is EVENTS_RAISED less EVENTS_OVF as before, and CLR_COUNT clears the counts; R634: CLR_MIN and FR_SNAP. -/
def Obligations.TimeTraceAndLogCommands : Prop :=
  ∀ (s : State) (p : HostPort),
    let c := s.paired p pgTime
    let d := s.paired p pgDisp
    let h := s.paired p pgHealth
    let t : TimeState := { c.time with manual := true }
    let sel (x : Nat) : Core := ({ c with time := (t.switchTo x).1 } : Core).raise (t.switchTo x).2
    (s.Pair p (pgTime + 0x100) 1 → c.time.domValid 1 = true → c.time.rtState ≠ .free →
      exec (.selectA p) s = .next (s.after (sel 1))) ∧
    (s.Pair p (pgTime + 0x100) 2 → c.time.domValid 2 = true → c.time.rtState ≠ .free →
      exec (.selectB p) s = .next (s.after (sel 2))) ∧
    (s.Pair p (pgTime + 0x100) 3 → c.time.rtState ≠ .free → exec (.hold p) s = .next (s.after
      (({ c with time := t.holdover.1 } : Core).raise t.holdover.2))) ∧
    (s.Pair p (pgTime + 0x100) 4 → exec (.release p) s = .next (s.after { c with time := { c.time with manual := false } })) ∧
    (s.Pair p (pgTime + 0x100) 5 → c.time.residual.natAbs ≤ msRt → c.time.rtState = .track ∨ c.time.rtState = .slew →
      exec (.alignNow p) s = .next (s.after { c with time := c.time.startSlew })) ∧
    (s.Pair p (pgDisp + 0x100) 1 → exec (.clrSlackMin p) s = .next (s.after { d with disp := { d.disp with
      flow := forN 4 fun f => (f, { (d.flow f) with slackMin := 0xFFFF_FFFF }) } })) ∧
    (s.Pair p (pgDisp + 0x100) 2 → exec (.trClear p) s = .next (s.after { d with disp := d.disp.trClear })) ∧
    (s.Pair p (pgEv + 0x100) 1 → exec (.clrLog p) s = .next (s.afterBoth (s.paired p pgEv)
      { s.evBase with log := [], logged := s.evBase.raised - s.evBase.ovf })) ∧
    (s.Pair p (pgEv + 0x100) 2 → exec (.clrCount p) s = .next (s.afterBoth (s.paired p pgEv)
      { s.evBase with raised := 0, logged := 0, ovf := 0, seq := 0 })) ∧
    (s.Pair p (pgHealth + 0x100) 1 → exec (.clrMin p) s = .next (s.after { h with health := { h.health with
      rail := h.health.rail.each fun _ r => { r with mvMin := some r.mv }, tjMax := some h.health.tj } })) ∧
    (s.Pair p (pgHealth + 0x100) 2 → exec (.frSnap p) s = .next (s.after (h.frRecord 6)))

/-- R243, R246, R261: CLR_SUSPECT and SET_REF of a channel or a remote axis; R286, R289, R297: ALIGN starts the search of a permitted
encoder axis in AX_OPEN of a formed segment (R121) at θ = 0x4000 from integrators of 0, and CLR_ALIGN clears the found offset there. -/
def Obligations.SourceAndAlignCommands : Prop :=
  ∀ (s : State) (p : HostPort) (n a : Nat), n < 16 → a < 256 →
    let c := s.paired p pgCuff
    let d := s.paired p pgCmt
    let clr (r : Bool) (t : Nat) : W32 := w32 (0x10000000 + 256 * b2n r + t)
    let ref (r : Bool) (t : Nat) : W32 := w32 (0x20000000 + 256 * b2n r + t)
    let o := (c.ch n).clearSuspect n (c.chanAxis n)
    (s.Pair p (pgCuff + 0x40) (clr false n) → c.chanAxis n = none →
      exec (.clrSuspect p n false) s = .next (s.after ((c.putCh n o.ch).raise o.evs))) ∧
    (s.Pair p (pgCuff + 0x40) (clr false n) → ((c.putCh n o.ch).raise o.evs).chanAxis n = some a → o.fall = true →
      exec (.clrSuspect p n false) s = .next (s.after (((c.putCh n o.ch).raise o.evs).suspFell a))) ∧
    (∀ t, s.Pair p (pgCuff + 0x40) (clr true a) → (c.imgAx a).source = .remote t → c.hasAx a = true →
      exec (.clrSuspect p a true) s = .next (s.after (c.clearSusp a))) ∧
    (s.Pair p (pgCuff + 0x40) (ref false n) → exec (.setRef p n false) s = .next (s.after
      (c.putCh n { (c.ch n) with drift := { (c.ch n).drift with idxref := false } }))) ∧
    (∀ t, s.Pair p (pgCuff + 0x40) (ref true a) → (c.imgAx a).source = .remote t → c.hasAx a = true →
      exec (.setRef p a true) s = .next (s.after { c with cuff := { c.cuff with axis := c.cuff.axis.upd a {} fun y =>
        { y with remote := { y.remote with drift := { y.remote.drift with idxref := false } } } } })) ∧
    (s.Pair p (pgCmt + 0x40) (w32 (0x10000000 + a)) → d.hasAx a = true → (d.ax a).state = .opened → d.cf a .cmtSrc = 0 →
      d.permits a = true → d.segFormed a = true → exec (.align p a) s = .next (s.after
        (((d.updAx a fun x => { x with state := .align }).updFa a fun x => { x with
          align := { step := .check, start := d.now, theta := 0x4000, reason := x.align.reason } }).presetCur a 0 0))) ∧
    (s.Pair p (pgCmt + 0x40) (w32 (0x20000000 + a)) → d.hasAx a = true → (d.ax a).state = .opened →
      exec (.clrAlign p a) s = .next (s.after (d.updFa a fun x => { x with alnValid := false, found := 0, thidx := none })))

/-- R354 to R356: OPEN, RUN, OFF and CLEAR_FAULT. A command whose checks pass is pending until the next boundary, and
ENGINE_CMD_STAT shows it so; one that a check refuses raises EV_AX_CMD_REFUSED with the check's reason and changes no axis. The state
that permits a command is the first check after the axis itself. -/
def Obligations.AxisStateCommands : Prop :=
  ∀ (s : State) (p : HostPort) (a : Nat), a < 256 →
    let c := s.paired p pgEng
    let does (i : Instr) (code : Nat) (k : AxCmd) : Prop := s.Pair p (pgEng + 0x40) (w32 (2 ^ 28 * code + a)) →
      let stat (res r : Nat) : Core := { c with eng := { c.eng with
        cmdStat := w32 (a + 256 * code + 4096 * res + 65536 * (r % 16)) } }
      (c.hasAx a = true → (c.slotOf a).isSome = true → (c.ax a).pend = none → k.from' (c.ax a).state = true → c.cmdReason a k = 0 →
        exec i s = .next (s.after ((stat 1 0).updAx a fun x => { x with pend := some k }))) ∧
      (c.hasAx a = true → (c.slotOf a).isSome = true → (c.ax a).pend = none → k.from' (c.ax a).state = false →
        exec i s = .next (s.after ((stat 3 1).raise [evAxis EvNo.axCmdRefused a 1])))
    does (.axOpen p a) 1 .openCmd ∧ does (.axRun p a) 2 .run ∧ does (.axOff p a) 3 .off ∧ does (.clearFault p a) 4 .clearFault ∧
    (∀ x, AxCmd.from' .run x = true ↔ x = .opened) ∧ (∀ x, AxCmd.from' .off x = true ↔ x = .opened) ∧
    (∀ x, AxCmd.from' .clearFault x = true ↔ x = .fault)

/-- R450, R456, R462 to R464: the profile commands. One that its checks pass is pending for the cycle of R463, its arguments taken
from the argument registers, and PROFILE_CMD_STAT shows it; one that they refuse shows result 3 with its reason and raises
EV_MOTION_FAULT with code 0x11. A homing that runs fails by the receipt of MOVE, VEL, STOP or HOME, which marks it. SET_OFS is an ADD_OFS of
the difference. A virtual master's VM_VEL and VM_STOP are always taken. -/
def Obligations.ProfileCommands : Prop :=
  ∀ (s : State) (p : HostPort) (a : Nat), a < 256 →
    let c := s.paired p pgProf
    let arg (k : Nat) : W32 := c.prof.arg.look k 0
    let wide (k n : Nat) : Int := rPair n (arg k) (arg (k + 1))
    let due := if rtDiff c.now c.cycle.rtS < 2000 then c.cycle.cycle + 1 else c.cycle.cycle + 2
    let does (i : Instr) (code : Nat) (k : PrCmd) (ends : Bool := false) : Prop :=
      s.Pair p (pgProf + 0x40) (w32 (2 ^ 28 * code + a)) →
      let h : Core := if ends = true ∧ (c.prCheck a k).valid = true ∧ (c.pa a).mode = .homing
        then c.updPa a fun x => { x with hm := { x.hm with abort := true } } else c
      ((c.pa a).refusal (c.prCheck a k) k = 0 →
        let d := h.updPa a fun x => { x with pend := some (k, due) }
        exec i s = .next (s.after { d with prof := { d.prof with cmdStat := w32 (a + 256 * code + 4096) } })) ∧
      (∀ r, (c.pa a).refusal (c.prCheck a k) k = r → r ≠ 0 → exec i s = .next (s.after
        (({ h with prof := { h.prof with cmdStat := w32 (a + 256 * code + 3 * 4096 + 65536 * (r % 16)) } } : Core).raise
          [evMotionFault a 0x11])))
    let vm (v : Int) (code : Nat) : Core := { c with prof := { c.prof with
      vm := c.prof.vm.upd (fld (arg 0) 2 0) {} fun m => m.setVel due v c.image.vmAmax c.image.vmJmax
      cmdStat := w32 (256 * code + 2 * 4096) } }
    does (.move p a) 1 (.move (arg 0).toInt) true ∧ does (.vel p a) 2 (.vel (arg 0).toInt) true ∧ does (.stop p a) 3 .stop true ∧
    does (.tblTime p a) 4 (.tblTime (fld (arg 0) 6 0)) ∧ does (.tblCam p a) 5 (.tblCam (fld (arg 0) 6 0) (wide 1 64)) ∧
    does (.gearOn p a) 6 (.gearOn (arg 0).toInt (arg 1).toNat) ∧
    does (.knuckle p a) 7 (.knuckle (wide 0 64) (arg 2).toInt (arg 3).toNat) ∧ does (.gearOff p a) 8 (.gearOff (arg 1).toNat) ∧
    does (.addOfs p a) 9 (.addOfs (arg 0).toInt) ∧ does (.setOfs p a) 10 (.addOfs (wide 0 48 - (c.pa a).ofsGoal)) ∧
    does (.home p a) 11 (.home (fld (arg 0) 2 0)) true ∧ does (.clr p a) 12 .clr ∧
    (s.Pair p (pgProf + 0x40) 0xD0000000 → exec (.vmVel p) s = .next (s.after (vm (arg 1).toInt 13))) ∧
    (s.Pair p (pgProf + 0x40) 0xE0000000 → exec (.vmStop p) s = .next (s.after (vm 0 14)))

/-- R482, R509, R513, R521 to R523, R543: STO, SS1 and WITHDRAW set and withdraw the host demand of each group of the mask in RUN,
where every one of them has HOSTREQ; PROOF_TEST switches every pair off and enters TEST where no axis's outputs are permitted;
a confirmation command with the image's SCHK opens the window of 60 s. ARM is due at the next boundary, DISARM abandons an armed
record, FORCE fires an armed Visor now, CLR_STATS clears the statistics. -/
def Obligations.SafetyAndVisorCommands : Prop :=
  ∀ (s : State) (p : HostPort) (mask : Nat) (w : W32), mask < 256 →
    let c := s.paired p pgGs
    let v := s.paired p pgVis
    let asks : Prop := c.gs.glob = .run ∧ ∀ g < 8, natBit mask g = true → (c.image.gs.group.look g {}).hostReq = true
    let each (f : GsGroup → GsGroup) : Core :=
      let gs := ((List.range 8).filter fun g => natBit mask g).foldl (fun (q : GsState) g => { q with group := q.group.upd g {} f }) c.gs
      { c with gs := gs }
    let all (demand : Nat) : Core := each fun x => { x with host := max x.host demand }
    (s.Pair p (pgGs + 0x40) (w32 (0x100 + mask)) → asks → exec (.sto p mask) s = .next (s.after (all 2))) ∧
    (s.Pair p (pgGs + 0x40) (w32 (0x200 + mask)) → asks → exec (.ss1 p mask) s = .next (s.after (all 1))) ∧
    (s.Pair p (pgGs + 0x40) (w32 (0x300 + mask)) → asks → exec (.withdraw p mask) s = .next (s.after
      (each fun x => { x with host := 0, hostEnd := if x.host = 0 then x.hostEnd else some c.now }))) ∧
    (s.Pair p (pgGs + 0x40) (w32 (0x100 + mask)) → c.gs.glob ≠ .run → exec (.sto p mask) s = .next (s.after
      (({ c with gs := { c.gs with reqReason := 1 } } : Core).raise [ev0 EvNo.gsReqRefused 1]))) ∧
    (s.Pair p (pgGs + 0x40) 0x400 → c.anyPermitted = false → c.gs.glob = .safe ∨ c.gs.glob = .run →
      exec (.proofTest p) s = .next (s.after
        (({ c with gs := { c.gs with out := c.gs.out.each fun _ o => o.want false } } : Core).gsEnter .test))) ∧
    (s.Pair p (pgGs + 0x44) w → c.gs.glob = .unconfirmed → w = c.image.gs.schk → exec (.gauntletConfCmd p w) s =
      .next (s.after { c with gs := { c.gs with confDue := some (rtAdd c.now (240000000000 : Nat)) } })) ∧
    (s.Pair p (pgVis + 0x180) 1 → v.vis.st = .idle → v.vis.armDue = false → v.vcfg.fits v.tcyc = true →
      v.vcfg.sourcesOk v.hasAx (fun n => v.time.pinMode n = 7) = true → v.standby = false → v.vis.memIso = false → v.vis.iso = false →
      exec (.arm p) s = .next (s.after { v with vis := { v.vis with armDue := true, covEnd := none } })) ∧
    (s.Pair p (pgVis + 0x180) 2 → v.vis.st = .armed →
      exec (.disarm p) s = .next (s.after { v with vis := { v.vis with st := .idle, fill := none } })) ∧
    (s.Pair p (pgVis + 0x180) 3 → v.vis.st = .armed → v.visOk = true → let f := v.vis.fire v.vcfg { t := v.now, unit := 4, type := 0 }
      exec (.force p) s = .next (s.after (({ v with vis := f.1 } : Core).raise f.2))) ∧
    (s.Pair p (pgVis + 0x180) 4 →
      exec (.clrStats p) s = .next (s.after { v with vis := { v.vis with missed := 0, deadMax := 0 } }))

/-- R586, R596 to R600, R604, R617, R624: HOST_RESET is due 10 µs later; PARK and STANDBY refuse every pending RUN and take effect at
the next boundary, UNPARK in PARKED without THOT; WAKE and the flash commands take their locks, a flash command on a sector outside the
booted copy, where the update that its port runs does not hold it already. -/
def Obligations.BootCommands : Prop :=
  ∀ (s : State) (p : HostPort),
    let c := s.paired p pgBoot
    let a := c.boot.qspiAddr
    let due (d : Core) (x : LpState) : Core := { d with boot := { d.boot with lpDue := some x } }
    let flash (w : W32) (i : Instr) (erase : Bool) : Prop := s.Pair p (pgBoot + 0x40) w → c.iso 5 4 = false →
      c.boot.st = .bootfail ∨ inCopy c.boot.copyB a = false → c.boot.qop = none →
      let starts (x : Core) : Core := { x with boot := { x.boot with qop := some (erase, a), qport := p.path.code } }
      let mine := c.maint.run.any fun x => x.act == .qspiUpdate && x.port = p.path.code
      let d := c.admitAct { act := .flash, port := p.path.code }
      (mine = true → exec i s = .next (s.after (starts c))) ∧ (mine = false → d.2 = true → exec i s = .next (s.after (starts d.1)))
    (s.Pair p (pgBoot + 0x40) 1 → c.boot.hostDue = none →
      exec (.hostReset p) s = .next (s.after { c with boot := { c.boot with hostDue := some (rtAdd c.now 40000) } })) ∧
    (s.Pair p (pgBoot + 0x40) 2 → c.boot.st = .running → c.boot.lp = .run →
      exec (.park p) s = .next (s.after (due c.refuseRuns .parked))) ∧
    (s.Pair p (pgBoot + 0x40) 3 → c.boot.st = .running → c.boot.lp = .parked → c.health.thot = false →
      exec (.unpark p) s = .next (s.after (due c .run))) ∧
    (s.Pair p (pgBoot + 0x40) 4 → c.boot.st = .running → c.boot.lp = .run ∨ c.boot.lp = .parked → c.gs.glob ≠ .test →
      c.gs.confDue = none → c.maint.run = [] → exec (.standby p) s = .next (s.after (due c.refuseRuns .standby))) ∧
    (s.Pair p (pgBoot + 0x40) 5 → c.boot.st = .running → c.boot.lp = .standby → c.iso 5 4 = false →
      let d := c.admitAct { act := .wake, port := p.path.code }
      d.2 = true → exec (.wake p) s = .next (s.after { d.1 with boot := { d.1.boot with lp := .waking } })) ∧
    flash 6 (.qspiErase p) true ∧ flash 7 (.qspiProg p) false

/-- R591, R595, R602: LIN_STORE of a listed target within its bounds becomes a pending write, with EV_BOOT_WRITE_STORED; LIN_DELETE
removes the target's stored and pending entries, LIN_CLEAR_ALL every one, PEND_CLEAR every pending write. R624 to R626, R632:
QSPI_UPDATE and FR_EXPORT take their locks for at most 600 s and 60 s, RETEST starts on the block of MAINT_RETEST_TGT, MAINT_END ends an
update or export. -/
def Obligations.LedgerAndMaintenanceCommands : Prop :=
  ∀ (s : State) (p : HostPort),
    let c := s.paired p pgLed
    let m := s.paired p pgMaint
    let l := c.led.led
    let put (q : Ledger) : Core := { c with led := { c.led with led := q } }
    let isReg : PendWrite → Bool := fun | .lin _ => false | .reg _ _ => true
    let act (k : Act) (n : Nat) : Core × Bool :=
      m.admitAct { act := k, port := p.path.code, due := some (rtAdd m.now n) }
    (∀ q, s.Pair p (pgLed + 0x40) 1 → c.ledgerOk = true → linOk (c.image.lin.getD []) c.led.linTgt c.led.linVal = true →
      pendPut l.pending (.lin { tgt := c.led.linTgt, val := c.led.linVal, inst := c.boot.head.inst }) = some q →
      exec (.linStore p) s = .next (s.after ((put { l with pending := q }).raise [ev0 EvNo.bootWriteStored]))) ∧
    (s.Pair p (pgLed + 0x40) 2 → c.ledgerOk = true → exec (.linDelete p) s = .next (s.after (put { l with
      lining := l.lining.filter fun e => e.tgt != c.led.linTgt
      pending := l.pending.filter fun | .lin e => e.tgt != c.led.linTgt | .reg _ _ => true }))) ∧
    (s.Pair p (pgLed + 0x40) 3 → c.ledgerOk = true →
      exec (.linClearAll p) s = .next (s.after (put { l with lining := [], pending := l.pending.filter isReg }))) ∧
    (s.Pair p (pgLed + 0x40) 4 → c.ledgerOk = true → exec (.pendClear p) s = .next (s.after (put { l with pending := [] }))) ∧
    (s.Pair p (pgMaint + 0x40) 3 → exec (.qspiUpdate p) s = .next (s.after (act .qspiUpdate 2400000000000).1)) ∧
    (s.Pair p (pgMaint + 0x40) 7 → exec (.frExport p) s = .next (s.after (act .frExport 240000000000).1)) ∧
    (s.Pair p (pgMaint + 0x40) 6 →
      let r := fld m.maint.target 10 8
      let b := fld m.maint.target 5 0
      let d := m.admitAct { act := .retest, port := p.path.code, region := r, block := b }
      m.retestReason r b = 0 → d.2 = true → exec (.retest p) s = .next (s.after { d.1 with maint := { d.1.maint with
        rstat := 1, count := d.1.maint.count.upd (blkKey r b) 0 (· + 1) } })) ∧
    (s.Pair p (pgMaint + 0x40) 8 →
      let f := m.maint.finish (fun a => a.act == .qspiUpdate || a.act == .frExport) true
      exec (.maintEnd p) s = .next (s.after (({ m with maint := f.1 } : Core).raise f.2)))


/-- R547, R549, R551, R552, R554, R560: a register write. From a port that is down it changes nothing; from a read-only SPI port it is
a counted frame error. Else it acts by its offset as decoded: the value of a guarded pair becomes pending; a WP register of a block that
is not BUSY is posted, and one of a BUSY block is dropped with WDROP and EV_WDROP; a selection register is the port's own; any other
offset has the effect of its register. POSTED_WRITE_DONE puts what was posted into effect and clears BUSY. -/
def Obligations.RegisterWrites : Prop :=
  ∀ (s : State) (p : HostPort) (addr : Nat) (w : W32),
    let c := s.base
    let a := decodeAddr addr
    let page := a - a % 0x1000
    (c.pathUp p.path = false → exec (.registerWrite p addr w) s = .next (s.after c)) ∧
    (c.pathUp p.path = true → c.readOnly p.path = true → exec (.registerWrite p addr w) s = .next (s.after c.spiFrameErr)) ∧
    (s.Writes p page → postedReg a = true → (guarded a || guardTwin a) = false → page ≠ pgEv → page ≠ pgHost →
      exec (.registerWrite p addr w) s = .next (s.after (if c.busy page then c.dropWrite p.path page
        else { c with host := { c.host with posted := c.host.posted.put page { write := some (a, w), path := p.path } } }))) ∧
    (∀ m, s.Writes p page → selMask a = some m → (guarded a || guardTwin a || postedReg a) = false → page ≠ pgEv → page ≠ pgHost →
      exec (.registerWrite p addr w) s = .next (s.after (c.setSel p.path a (w &&& m)))) ∧
    (s.Writes p page → (guarded a || guardTwin a || postedReg a) = false → selMask a = none → page ≠ pgEv → page ≠ pgHost →
      exec (.registerWrite p addr w) s = .next (s.after (c.plainWrite p.path a w))) ∧
    (s.Writes p pgEv → ∀ n, n < 256 → exec (.registerWrite p (pgEv + 0x400 + 4 * n) w) s =
      .next (s.afterBoth c (({ core := c, ev := s.evBase } : Chip).setRoute n w).ev)) ∧
    (s.Writes p pgEv → ∀ k, k < 8 → exec (.registerWrite p (pgEv + 0x40 + 4 * k) w) s = .next (s.afterBoth c
      (if c.iso 5 2 then s.evBase else { s.evBase with pend := s.evBase.pend &&& ~~~((w.zeroExtend 256) <<< (32 * k)) }))) ∧
    (s.Writes p pgHost → ∀ n, n < 64 → exec (.registerWrite p (pgHost + 0x800 + 4 * n) w) s =
      .next (s.afterBoth c (({ core := c, ev := s.evBase } : Chip).msixWrite p.path n w).ev)) ∧
    (∀ b : SlowBlock, b.wf = true →
      (c.host.posted.look? b.page = none → exec (.postedWriteDone b) s = .next (s.after c)) ∧
      (∀ q, c.host.posted.look? b.page = some q →
        let d := { c with host := { c.host with posted := c.host.posted.del b.page } }
        exec (.postedWriteDone b) s = .next (s.after (match q.write with
          | some (x, v) => d.postedEffect q.path x v
          | none => d))))

/-- R553, R664: the value write of a guarded pair. A value written where none is pending becomes pending; where one is, GUARDFAIL with
reason 0x4, unless its window had passed (reason 0x1), and the newer value becomes pending. The
complement of another value discards both with reason 0x2; a complement with no value pending, or with one at another offset, fails with
reason 0x3, and the value at the other offset stays; a complement 400,000 rt after the value still completes the pair, later ones find
it expired. GUARD_WINDOW_EXPIRY discards the value with reason 0x1. -/
def Obligations.GuardedPairRules : Prop :=
  ∀ (s : State) (p : HostPort) (a : Nat) (w n : W32), guarded a = true → decodeAddr a = a → decodeAddr (a + 0x80) = a + 0x80 →
    guarded (a + 0x80) = false → (a + 0x80) - (a + 0x80) % 0x1000 = a - a % 0x1000 →
    s.Writes p (a - a % 0x1000) → (slowPage (a - a % 0x1000) = true → s.base.busy (a - a % 0x1000) = false) →
    let c := s.base
    let k := p.path.key
    let pend (d : Core) : Core := { d with host := { d.host with guard := d.host.guard.put k { addr := a, val := w, at' := c.now } } }
    let none' (d : Core) : Core := { d with host := { d.host with guard := d.host.guard.del k } }
    let late (g : Guarded) : Prop := 400000 < rtDiff c.now g.at'
    (c.host.guard.look? k = none → exec (.guardedValueWrite p a w) s = .next (s.after (pend c))) ∧
    (∀ g, c.host.guard.look? k = some g → ¬ late g →
      exec (.guardedValueWrite p a w) s = .next (s.after (pend (c.guardFail p.path 4)))) ∧
    (∀ g, c.host.guard.look? k = some g → late g →
      exec (.guardedValueWrite p a w) s = .next (s.after (pend ((none' c).guardFail p.path 1)))) ∧
    (∀ g, c.host.guard.look? k = some g → ¬ late g → g.addr = a → n ≠ ~~~g.val →
      exec (.registerWrite p (a + 0x80) n) s = .next (s.after ((none' c).guardFail p.path 2))) ∧
    (∀ g, c.host.guard.look? k = some g → ¬ late g → g.addr ≠ a →
      exec (.registerWrite p (a + 0x80) n) s = .next (s.after (c.guardFail p.path 3))) ∧
    (c.host.guard.look? k = none → exec (.registerWrite p (a + 0x80) n) s = .next (s.after (c.guardFail p.path 3))) ∧
    (∀ g, c.host.guard.look? k = some g → late g →
      exec (.registerWrite p (a + 0x80) n) s = .next (s.after (((none' c).guardFail p.path 1).guardFail p.path 3))) ∧
    (∀ g, c.host.guard.look? k = some g → exec (.guardWindowExpiry p) s = .next (s.after
      ((none' (c.at (rtAdd g.at' 400000))).guardFail p.path 1))) ∧
    (c.host.guard.look? k = none → exec (.guardWindowExpiry p) s = .next (s.after c))

/-- R78, R256, R357 to R359, R522, R541, R554, R559, R566, R595, R604: the writes with rules of their own. VIEW_OPEN opens the image
asked for, or the newest, and fails where there is none; a Cuff configuration write is staged while the axes that the channel feeds are in
AX_OFF or AX_OPEN and its value is allowed, else refused; a word of a configuration area is staged in AX_OPEN, else refused with its
reason; of the per-cycle words those of R559 are staged, a 64-bit one with its high half; VISOR_DONE bits are freed; acknowledged vectors
that are still active signal again; a boot-class write goes into the ledger's pending list, where BOOT_CLASS_WRITE replaces an earlier
one of its register; the sums of the tables are complete. -/
def Obligations.PlainWrites : Prop :=
  ∀ (s : State) (p : HostPort) (w : W32) (n a off reg : Nat), n < 16 → a < 256 →
    let c := s.base
    let st (key : Nat) (v : W32) : Core := c.stage p.path key v false
    let cw (i : Option CycleImage) : Core := { c with host := { c.host with view := c.host.view.put p.path.key (match i with
      | some i => { isOpen := true, seq := i.cycle, fail := false }
      | none => { isOpen := false, seq := (c.viewOf p.path).seq, fail := true }) } }
    (s.Writes p 0 → c.standby = false → exec (.viewOpen p w) s = .next (s.after
      (cw (if w = 0xFFFF_FFFF then c.cycle.images.head? else c.imageOf w)))) ∧
    (∀ m, s.Writes p pgCuff → reg < 0x80 → reg % 4 = 0 → cuffMask reg = some m →
      (∀ x ∈ c.fedBy n, (c.ax x).state = .off ∨ (c.ax x).state = .opened) → cuffValueOk n reg (w &&& m) = true →
      exec (.cuffCfgWrite p n reg w) s = .next (s.after (st (pgCuff + 0x400 + 0x80 * n + reg) (w &&& m)))) ∧
    (∀ m x, s.Writes p pgCuff → reg < 0x80 → reg % 4 = 0 → cuffMask reg = some m → x ∈ c.fedBy n →
      (c.ax x).state ≠ .off → (c.ax x).state ≠ .opened → exec (.cuffCfgWrite p n reg w) s = .next (s.after
        (({ c with cuff := { c.cuff with cfgref := c.cuff.cfgref ||| (1 <<< n) } } : Core).raise [evChan EvNo.fbCfgRefused n]))) ∧
    (s.Writes p 0 → c.standby = false → c.iso 5 3 = false → 0x800 ≤ off → off < 0x1000 → off % 4 = 0 →
      (c.cfgReason a off w = 0 → exec (.axisConfigWrite p a off w) s = .next (s.after
        { (st (bar2Key + a * 0x10000 + off) w) with eng := { c.eng with cfgImg := false } })) ∧
      (c.cfgReason a off w ≠ 0 → exec (.axisConfigWrite p a off w) s =
        .next (s.after (c.refuseCfg p.path a off (c.cfgReason a off w))))) ∧
    (s.Writes p 0 → c.standby = false → c.iso 5 3 = false → c.hasAx a = true →
      exec (.perCycleWordWrite p a oTqIn w) s = .next (s.after (st (bar2Key + (a * 0x10000 + oTqIn)) w)) ∧
      exec (.perCycleWordWrite p a oCrvHost w) s = .next (s.after (st (bar2Key + (a * 0x10000 + oCrvHost)) w)) ∧
      ((c.pa a).mode = .host → exec (.perCycleWordWrite p a oNin w) s = .next (s.after (st (bar2Key + (a * 0x10000 + oNin)) w)) ∧
        exec (.perCycleWordWrite p a oPin w) s = .next (s.after { c with host := { c.host with
          low := c.host.low.put (p.path.key * 0x10000000 + (a * 0x10000 + oPin)) w } }) ∧
        let key := p.path.key * 0x10000000 + (a * 0x10000 + oPin)
        let lo := match c.host.low.look? key with | some v => v | none => c.word a oPin
        exec (.perCycleWordWrite p a (oPin + 4) w) s = .next (s.after { c with host := { c.host with
          low := c.host.low.del key
          stage := c.host.stage.put (bar2Key + (a * 0x10000 + oPin))
            { val := lo, path := p.path, hi := some w, at' := c.time.now } } })) ∧
      ((c.pa a).mode ≠ .host → exec (.perCycleWordWrite p a oNin w) s = .next (s.after (c.refuseCfg p.path a oNin 2)))) ∧
    (s.Writes p pgVis → exec (.visorDoneFree p false w) s = .next (s.after { c with vis := { c.vis with
      done := c.vis.done &&& ~~~(w.zeroExtend 64) } })) ∧
    (s.Writes p pgVis → exec (.visorDoneFree p true w) s = .next (s.after { c with vis := { c.vis with
      done := c.vis.done &&& ~~~(w ++ (0 : W32)) } })) ∧
    (s.Writes p pgEv → c.iso 5 2 = false → exec (.vectorAck p w) s = .next (s.afterBoth c
      ((List.range 16).foldl (fun (u : EventUnit) v => if bit w v && s.evBase.vec.getLsbD v && u.active v then u.signal v else u)
        { s.evBase with vec := s.evBase.vec &&& ~~~(w.extractLsb' 0 16) }))) ∧
    (s.Writes p pgBoot → c.iso 5 5 = false → ∀ l, pendPut c.led.led.pending (.reg (pgBoot + 0x30) (w &&& 3)) = some l →
      exec (.bootClassWrite p w) s = .next (s.after (({ c with led := { c.led with led :=
        { c.led.led with pending := l } } } : Core).raise [ev0 EvNo.bootWriteStored]))) ∧
    (s.Writes p pgBoot → c.iso 5 5 = false → pendPut c.led.led.pending (.reg (pgBoot + 0x30) (w &&& 3)) = none →
      exec (.bootClassWrite p w) s = .next (s.after { c with boot := { c.boot with pendFull := true } })) ∧
    exec .tableSumsUpdated s = .next (s.after { c with prof := { c.prof with upd := false, updAt := none } })

/-- R565, R604, R606 and the block maps: the reads that change something. A pop returns its head, moves it out and fills the shadow of the
reading port, and of an empty queue returns 0; a data register returns the word at its address and steps the address; a word that the
manual leaves open, or of an isolated memory, is a free value. -/
def Obligations.PopsAndDataRegisters : Prop :=
  ∀ (s : State) (p : HostPort) (g n : Nat) (w : W32), g < 4 → n < 16 → s.base.pathUp p.path = true →
    let c := s.base
    let rd (d : Core) (v : W32) : State := s.readOut p d v
    (c.alive (pgSeg + 0x1000 * g) = true → exec (.linkSegRefusePop p g) s = .next (rd
      (c.putSg g { (c.sg g) with refuse := (c.sg g).refuse.drop 1 }) (c.refuseHead g))) ∧
    (c.alive pgTime = true → c.time.caps = [] → exec (.timeCapPop p) s = .next (rd
      { c with time := { c.time with capHi := 0, capSrc := 0 } } 0)) ∧
    (∀ x l, c.alive pgTime = true → c.time.caps = x :: l → exec (.timeCapPop p) s = .next (rd { c with time := { c.time with
      caps := l, capHi := hi32 x.rt, capSrc := w32 (x.pin % 4 + 16 * b2n x.rising + 0x80000000) } } (lo32 x.rt))) ∧
    (c.alive pgCuff = true → (c.ch n).latch = [] → exec (.cuffLatchPop p n) s = .next (rd
      (c.putCh n { (c.ch n) with latchT := 0, latchStat := (false, false) }) 0)) ∧
    (∀ x l, c.alive pgCuff = true → (c.ch n).latch = x :: l → exec (.cuffLatchPop p n) s = .next (rd
      (c.putCh n { (c.ch n) with latch := l, latchT := x.rt, latchStat := (true, x.susp) }) x.pos)) ∧
    (c.alive pgDisp = true → c.disp.trace = [] → exec (.dispatchTrPop p) s = .next (rd c 0)) ∧
    (∀ x l, c.alive pgDisp = true → c.disp.trace = x :: l →
      (c.disp.trWord = 0 → exec (.dispatchTrPop p) s = .next (rd { c with disp := { c.disp with trWord := 1 } } x.w0)) ∧
      (c.disp.trWord = 1 → exec (.dispatchTrPop p) s = .next (rd { c with disp := { c.disp with trWord := 2 } } x.w1)) ∧
      (c.disp.trWord = 2 → exec (.dispatchTrPop p) s = .next (rd { c with disp := { c.disp with trWord := 3 } } x.w2)) ∧
      (c.disp.trWord = 3 → exec (.dispatchTrPop p) s = .next (rd { c with disp := { c.disp with trace := l, trWord := 0 } } x.w3))) ∧
    (c.alive pgVis = true → c.vis.memIso = false → exec (.visorMdataRead p) s = .next (rd
      (c.setSel p.path (pgVis + 0x48) (w32 (((c.selOf p.path (pgVis + 0x48)).toNat + 4) % 4194304)))
      (memWord 0 c.vis.mem (c.selOf p.path (pgVis + 0x48)).toNat))) ∧
    (c.alive pgEv = true → s.evBase.log = [] → exec (.eventsLogPop p) s = .next (s.afterBoth
      (({ c with host := { c.host with shadow := c.host.shadow.put p.path.key {} } } : Core).out (.data p.path 0)) s.evBase)) ∧
    (∀ e l, c.alive pgEv = true → s.evBase.log = e :: l →
      let sh : Shadow := { rthi := hi32 e.rt, info := e.info, detail := e.detail }
      exec (.eventsLogPop p) s = .next (s.afterBoth
        (({ c with host := { c.host with shadow := c.host.shadow.put p.path.key sh } } : Core).out (.data p.path (lo32 e.rt)))
        { s.evBase with log := l })) ∧
    (c.alive pgBoot = true → exec (.bootShellDataRead p) s = .next (rd { c with boot := { c.boot with
      shellAddr := (c.boot.shellAddr + 4) % 0x2000 } } (memWord 0 c.boot.shell c.boot.shellAddr))) ∧
    (c.alive pgBoot = true →
      let v := c.value (if c.tornAt c.boot.qspiAddr then none else some (memWord 0xFF c.boot.flash c.boot.qspiAddr))
      exec (.bootQspiDataAccess p none) s = .next (rd { v.1 with boot := { c.boot with
        qspiAddr := (c.boot.qspiAddr + 4) % 0x4000000 } } v.2)) ∧
    (s.Writes p pgBoot → exec (.bootQspiDataAccess p (some w)) s = .next (s.after { c with boot := { c.boot with
      page := c.boot.page.put (c.boot.qspiAddr / 4 % 64) w, qspiAddr := (c.boot.qspiAddr + 4) % 0x4000000 } })) ∧
    (c.alive pgLed = true → let v := c.value c.ledgerAt
      exec (.ledgerDataAccess p none) s = .next (rd { v.1 with led := { c.led with addr := (c.led.addr + 4) % 0x80000 } } v.2)) ∧
    (s.Writes p pgLed → c.busy pgLed = false → exec (.ledgerDataAccess p (some w)) s = .next (s.after { c with host := { c.host with
      posted := c.host.posted.put pgLed { write := some (pgLed + 8, w), path := p.path } } })) ∧
    (c.alive pgProf = true → exec (.profileTblDataAccess p none) s = .next (rd
      { c with prof := c.prof.tblAdvance } c.prof.tblWord)) ∧
    (s.Writes p pgProf → exec (.profileTblDataAccess p (some w)) s = .next (s.after { c with prof := c.prof.tblWrite w }))


/-- R545, R569: the PCIe endpoint. The link comes up and goes down with its events; a write or read of one aligned double word of BAR0
acts as the register access, a write of BAR2 writes its words and a read returns them in address order, and a request outside the limits, or in D3hot, changes
nothing but its count; FLR returns the endpoint's own state to reset. A configuration request sets MSI-X enable and mask or the power
state; any other configuration register reads as last written, or a free value (log entry 27: the manual names no more of them). -/
def Obligations.PcieEndpoint : Prop :=
  ∀ (s : State) (addr : Nat) (w : W32),
    let c := s.base
    let x : Chip := { core := c, ev := s.evBase }
    let up : Prop := c.pathUp .pcie = true
    (∀ v k, c.boot.held = false → c.iso 5 0 = false → c.host.plink = false → (c.standby = true → bit c.image.hostCfg 8 = true) →
      exec (.pcieLinkUp v k) s = .next (s.after (({ c with host := { c.host with
        plink := true, pspeed := v, pwidth := k } } : Core).raise [ev0 EvNo.pcieLinkUp]))) ∧
    (c.host.plink = true → exec .pcieLinkDown s = .next (s.after (({ c with host := { c.host with
      plink := false, pspeed := 0, pwidth := 0 } } : Core).raise [ev0 EvNo.pcieLinkDown]))) ∧
    (up → c.host.d3 = false → addr % 4 = 0 → ∃ t, exec (.registerWrite .pcie addr w) s = .next t ∧
      exec (.pcieMemWrite false addr [w] true) s = .next t) ∧
    (∀ ws, up → c.host.d3 = false → pcieFits true addr ws.length = true →
      let y := ((List.range ws.length).zip ws).foldl (fun (z : Chip) e => z.hostWrite .pcie true (addr + 4 * e.1) e.2) x
      exec (.pcieMemWrite true addr ws true) s = .next (s.afterBoth y.core y.ev)) ∧
    (∀ b ws be, up → (c.host.d3 = true ∨ be = false ∨ pcieFits b addr ws.length = false) →
      exec (.pcieMemWrite b addr ws be) s = .next (s.after c.pcieDiscard)) ∧
    (up → c.host.d3 = false → addr % 4 = 0 → let r := x.readWord .pcie false addr
      exec (.pcieMemRead false addr ⟨1, true⟩) s = .next (s.afterBoth (r.1.core.out (.data .pcie r.2)) r.1.ev)) ∧
    (∀ n be (v : Nat → W32), up → c.host.d3 = false → pcieFits true addr n = true →
      (∀ i, i < n → c.rdBar2 .pcie (addr + 4 * i) = some (v i)) → exec (.pcieMemRead true addr ⟨n, be⟩) s =
        .next (s.after { c with outs := (List.range n).map fun i => Output.data .pcie (v i) })) ∧
    (∀ b n be, up → (c.host.d3 = true ∨ pcieFits b addr n = false ∨ b = false ∧ be = false) →
      exec (.pcieMemRead b addr ⟨n, be⟩) s = .next (s.after c.pcieUr)) ∧
    (up → exec .pcieFlr s = .next (s.afterBoth (({ c with host := { c.host with view := c.host.view.del 0
                                                                                guard := c.host.guard.del 0
                                                                                shadow := c.host.shadow.del 0
                                                                                d3 := false, cfgSpace := [] } } : Core).raise [ev0 EvNo.flr])
      { s.evBase with msix := [], msixEn := false, msixMask := false, pba := 0 })) ∧
    (∀ e m, up → c.iso 5 2 = false → exec (.pcieConfigRequest (.msix e m)) s =
      .next (s.afterBoth c ({ s.evBase with msixEn := e, msixMask := m } : EventUnit).flushPba)) ∧
    (∀ d, up → exec (.pcieConfigRequest (.power d)) s = .next (s.after { c with host := { c.host with d3 := d } })) ∧
    (∀ i, up → exec (.pcieConfigRequest (.write i w)) s = .next (s.after { c with host := { c.host with
      cfgSpace := c.host.cfgSpace.put i w } })) ∧
    (∀ i, up → let r := c.value (c.host.cfgSpace.look? i)
      exec (.pcieConfigRequest (.read i)) s = .next (s.after (r.1.out (.data .pcie r.2))))

/-- R546, R547: the SPI port. Each word of a WRITE acts as a register access as it arrives, in a space that is neither BAR0 nor BAR2 as
nothing; a READ returns its words, 0xFFFF_FFFF outside the spaces; a LATE word is 0xFFFF_FFFF, counted, and leaves its register alone;
STATUS returns its four bits and clears two of them; ID returns CHIP_ID; SPI_CS_N ends the transaction, and a word of a WRITE cut off is
a frame error. The first two clauses are of any number of words; one word of each kind follows. -/
def Obligations.SpiPort : Prop :=
  ∀ (s : State) (addr w : W32), s.base.pathUp .spi = true →
    let c := s.base
    let x : Chip := { core := c, ev := s.evBase }
    let in' (d : Core) (t : SpiTx) : Core := { d with host := { d.host with spi := t } }
    let next := (addr + w32 4).toNat
    let each {α : Type} (l : List α) (g : Chip → W32 → α → Chip) : Chip :=
      ((List.range l.length).zip l).foldl (fun z e => g z (addr + w32 (4 * e.1)) e.2) x
    let past {α : Type} (l : List α) : Nat := (addr + w32 (4 * l.length)).toNat
    let put (z : Chip) (a v : W32) : Chip := match spaceOf a with
      | some (b, o) => z.hostWrite .spi b o v
      | none => if z.core.readOnly .spi = true then { z with core := z.core.spiFrameErr } else z
    let get (z : Chip) (a : W32) (late : Bool) : Chip :=
      let none' : Core := ({ z.core with host := { z.core.host with lates := (z.core.host.lates + 1) % 65536 } } : Core).raise (pathError .spi)
      let y : Chip := if late = true then { z with core := none'.out (.data .spi 0xFFFF_FFFF) }
        else match spaceOf a with
          | some (b, o) => z.hostRead .spi b o
          | none => { z with core := z.core.out (.data .spi 0xFFFF_FFFF) }
      { y with core := { y.core with host := { y.core.host with spiLate := late } } }
    (∀ ws, let y := each ws put
      exec (.spiWrite addr ws) s = .next (s.afterBoth (in' y.core (.write (past ws))) y.ev)) ∧
    (∀ ls, let y := each ls get
      exec (.spiRead addr ls) s = .next (s.afterBoth (in' y.core (.read (past ls))) y.ev)) ∧
    (∀ b o, spaceOf addr = some (b, o) → let r := x.hostWrite .spi b o w
      exec (.spiWrite addr [w]) s = .next (s.afterBoth (in' r.core (.write next)) r.ev)) ∧
    (spaceOf addr = none → c.readOnly .spi = false → exec (.spiWrite addr [w]) s = .next (s.after (in' c (.write next)))) ∧
    (∀ b o, spaceOf addr = some (b, o) → let r := x.readWord .spi b o
      exec (.spiRead addr [false]) s = .next (s.afterBoth (in' { (r.1.core.out (.data .spi r.2)) with
        host := { r.1.core.host with spiLate := false } } (.read next)) r.1.ev)) ∧
    (spaceOf addr = none → exec (.spiRead addr [false]) s = .next (s.after (in' { (c.out (.data .spi 0xFFFF_FFFF)) with
      host := { c.host with spiLate := false } } (.read next)))) ∧
    (exec (.spiRead addr [true]) s = .next (s.after (in' ((({ c with host := { c.host with
      lates := (c.host.lates + 1) % 65536, spiLate := true } } : Core).raise (pathError .spi)).out (.data .spi 0xFFFF_FFFF)) (.read next)))) ∧
    (exec .spiStatus s = .next (s.after (({ c with host := { c.host with
        spiLate := false, spiFrame := false, spi := .other } } : Core).out (.spiByte
      (b2n (c.host.gfail.getLsbD 1) + 2 * b2n (!s.evBase.log.isEmpty) + 4 * b2n c.host.spiLate + 8 * b2n c.host.spiFrame))))) ∧
    (exec .spiId s = .next (s.after ((in' c .other).out (.data .spi 0x02560001)))) ∧
    (∀ a, c.host.spi = .write a → exec (.spiCsRise true) s = .next (s.after (in' c .idle).spiFrameErr)) ∧
    (∀ a, c.host.spi = .write a → exec (.spiCsRise false) s = .next (s.after (in' c .idle))) ∧
    (c.host.spi = .other → exec (.spiCsRise false) s = .next (s.after (in' c .idle)))

/-- R567, R568: QMP. HELLO opens a session at the highest common version with its UID, checksum and a nonce, a free value; a request of a
session answers what its type asks: READ its words, WRITE a status per pair, OFS the result of the offset command, VIEWREAD the words of
one image, GUARDED the effect of the pair where WMASK allows it, an unknown type status 2, CLOSE ends the session. A request with the SEQ
of the last is answered as that one was, an older one discarded; a false tag is counted; 10 s without a request end the session. ARP and
ICMP are answered, other frames dropped and counted. -/
def Obligations.QmpSessions : Prop :=
  ∀ (s : State) (m : QmpMsg) (x : Session),
    let d := s.qmpCounted m
    let y : Chip := { core := d, ev := s.evBase }
    let p := sessionPath m.port m.session
    let ws := beWords m.payload
    let ok (type : Nat) (vals : List W32) : QmpResp := { type := type, status := 0, vals := vals }
    let asks (type : Nat) : Prop := s.QmpAsks m type x
    let here (type : Nat) : Prop := m.port < 2 ∧ s.base.pathUp (.qmp m.port 0) = true ∧ s.base.qmpOn m.port = true ∧
      s.base.tagOk m type = true
    (∀ lo hi id v, here 1 → (s.base.qmpRate m.port).2 = true → qmpVersion lo hi = some v → d.host.freeSession m.port = some id →
      let nonce := Config.freeBits 64 d.freeCtr
      let e : Core := { d with freeCtr := d.freeCtr + 1 }
      let r := ok 1 [w32 v, w32 id, lo32 d.boot.uid, hi32 d.boot.uid, d.boot.head.chk, hi32 nonce, lo32 nonce]
      exec (.qmpHello m lo hi) s = .next (s.after ((({ e with host := { e.host with
        qmp := e.host.qmp.put (sessionKey m.port id) { ver := v, seq := m.seq, last := r, at' := e.now } } } : Core).raise
          [evHost EvNo.qmpSession (2 + m.port) 1]).out (.qmp m.port r)))) ∧
    (asks 2 → m.payload.length % 4 = 0 → ws.length ≤ 64 → ws.all qmpReadable = true → let r := y.qmpWords p ws
      exec (.qmpRead m) s = .next (s.afterBoth (r.1.core.qmpReply m x (ok 2 r.2)) r.1.ev)) ∧
    (asks 3 → m.payload.length % 8 = 0 → ws.length ≤ 64 → let r := y.qmpPairs p ws
      exec (.qmpWrite m) s = .next (s.afterBoth ((r.1.core.raise ((r.2.filter (· != 0)).map fun k =>
        evHost EvNo.qmpRefused (2 + m.port) k)).qmpReply m x (ok 3 (r.2.map w32))) r.1.ev)) ∧
    (∀ k a h0 h1 l0 l1 l2 l3 h2 h3, asks 4 → m.payload = [k, 0, 0, a, l0, l1, l2, l3, h2, h3, 0, 0] → d.standby = false → k.toNat ≤ 1 →
      h0 = (w32 (beNat [l0, l1, l2, l3])) → h1 = w32 (beNat [h2, h3]) →
      let e := if k.toNat = 0 then d.addOfs a.toNat h0.toInt else d.setOfs a.toNat (rPair 48 h0 h1)
      fld e.prof.cmdStat 13 12 ≠ 3 → exec (.qmpOfs m) s = .next (s.after (e.qmpReply m x (ok 4 [])))) ∧
    (∀ cyc ps i, asks 5 → x.ver ≠ 1 → ps.length ≤ 64 → (ps.any fun e => decide (0x800 ≤ e.2) || e.2 % 4 != 0) = false →
      (if cyc = 0xFFFF_FFFF then d.cycle.images.head? else d.imageOf cyc) = some i →
      exec (.qmpViewread m cyc ps) s = .next (s.after (d.qmpReply m x
        (ok 5 (i.cycle :: ps.map fun e => areaOf i.words e.1 e.2))))) ∧
    (∀ off k w, asks 6 → x.ver ≠ 1 → wmaskOf (decodeAddr off) = some k → d.wmask k = true →
      d.alive (decodeAddr off - decodeAddr off % 0x1000) = true → let g := y.guardedNow p (decodeAddr off) w
      refusalIn (g.core.evq.drop d.evq.length) = none →
      exec (.qmpGuarded m off w) s = .next (s.afterBoth (g.core.qmpReply m x (ok 6 [])) g.ev)) ∧
    (∀ type, asks type → type ≠ 5 → type ≠ 6 → exec (.qmpUnknownType m type) s = .next (s.after (d.qmpReply m x
      { type := type, status := 2, vals := [] }))) ∧
    (asks 0xF → exec (.qmpClose m) s = .next (s.after ((d.qmpReply m x (ok 0xF [])).endSession m.port m.session 2))) ∧
    (here 2 → m.session ≠ 0 → s.base.host.qmp.look? (sessionKey m.port m.session) = some x → m.seq = x.seq →
      exec (.qmpRead m) s = .next (s.after (s.base.out (.qmp m.port x.last)))) ∧
    (here 2 → m.session ≠ 0 → s.base.host.qmp.look? (sessionKey m.port m.session) = some x → m.seq.toNat < x.seq.toNat →
      exec (.qmpRead m) s = .next (s.after s.base)) ∧
    (m.port < 2 → s.base.pathUp (.qmp m.port 0) = true → s.base.qmpOn m.port = true → s.base.tagOk m 2 = false →
      exec (.qmpRead m) s = .next (s.after (({ s.base with host := { s.base.host with
        auth := incHalf s.base.host.auth m.port } } : Core).raise [(evHost EvNo.qmpAuthFail (2 + m.port)).limited (2 + m.port)]))) ∧
    (∀ port id, id ≠ 0 → s.base.host.qmp.look? (sessionKey port id) = some x → exec (.qmpSessionTimeout port id) s =
      .next (s.after ((s.base.at (rtAdd x.at' 40000000000)).endSession port id 3))) ∧
    (∀ port, port < 2 → s.base.pathUp (.qmp port 0) = true →
      exec (.plantFrameReceived port .arp) s = .next (s.after (s.base.out (.arp port))) ∧
      exec (.plantFrameReceived port .icmp) s = .next (s.after (s.base.out (.icmp port))) ∧
      exec (.plantFrameReceived port .other) s = .next (s.after { s.base with host := { s.base.host with
        drop := incHalf s.base.host.drop port } }))


/-- R232: the decoding of quadrature channels. A step is +1 along the states 00, 10, 11, 01, −1 back along them, 0 where nothing
changes and a double transition where both lines do; it counts as shown where DIRINV is 0 and with the opposite sign where it is 1. -/
def Obligations.QuadratureDecoding : Prop :=
  (∀ a b : Bool, quadStep a b a b = some 0 ∧ quadStep a b (!a) (!b) = none) ∧
  (quadStep false false true false = some 1 ∧ quadStep true false true true = some 1 ∧ quadStep true true false true = some 1 ∧
    quadStep false true false false = some 1) ∧
  (quadStep false false false true = some (-1) ∧ quadStep true false false false = some (-1) ∧ quadStep true true true false = some (-1) ∧
    quadStep false true true true = some (-1)) ∧
  ∀ (x : Chan) (k : Int), (bit x.cfg 3 = false → x.inv k = k) ∧ (bit x.cfg 3 = true → x.inv k = -k)

/-- R229 to R236, R245 to R251, R254, R390, R459: a feedback channel in service. The changes that its filters accepted at one sample are
decoded together, their stamps compensated, and latch entries of that source that are later take their edges; a rejected pulse is counted;
a line fault begins or ends; a conversion is corrected, taken by a sin/cos channel and sampled by a Visor that is ready; a resolver peak
waits in the pair's FIFO and requests PEAK, or is lost where two wait; an SSI transfer that runs ends; a selected latch edge latches the
source's position; a limit switch has held its level 1 µs and acts on every axis. In STANDBY, where Cuff's inputs are stopped, latch
edges, SSI transfers and limit switches change nothing.
The second part says what the channel does: one quadrature transition counts one edge in its direction; two lines changing at one sample
are a double transition, flagged, counted and SUSPECT; a line fault makes the channel SUSPECT and bad; a conversion outside its window is an
anomaly; a bad SSI transfer is an anomaly, a first good one gives the position; the latch FIFO of eight overflows. -/
def Obligations.FeedbackChannels : Prop :=
  (∀ (s : State) (n : Nat), n < 16 → s.base.chanUp n = true →
      let c := s.base
      let x := c.ch n
      let ax (d : Core) := d.chanAxis n
      (∀ cs : List LineChange,
        let ks := cs.map fun k => { k with stamp := c.pinTime (0x10 + 4 * n + k.line) k.stamp }
        let d := c.at (ks.foldl (fun t k => rtMax t k.stamp) c.time.now)
        exec (.cuffLevelChange n cs) s = .next (s.after ((d.putChan n ((d.ch n).levelChange n (ax d) d.cycle.rtS ks)).latched n
          fun y => y.latchLate (d.ch n).digital ((d.ch n).decode ks)))) ∧
      exec (.cuffPulseRejected n) s = .next (s.after (c.putCh n { x with glitch := x.glitch + 1 })) ∧
      (∀ b, exec (.lineFault n b) s = .next (s.after (c.putChan n (x.lineFault n (ax c) b)))) ∧
      (∀ k xs xc, c.adcUp n = true →
        let t := rtAdd c.cycle.rtS (2000 * k : Nat)
        let d := c.at t
        let y := d.ch n
        let xs' := d.adcCal (2 * n) xs
        let xc' := d.adcCal (2 * n + 1) xc
        let v := scCorrect y.lin y.lin2 xs' xc'
        let e := if y.type = 4 then d.putChan n (y.convert n (ax d) (decide (k = 0)) t xs' xc') else d
        let g := e.latched n fun z => z.latchResolve (e.ch n)
        exec (.adcConversion n k xs xc) s = .next (s.after
          (if g.visOk = true then { g with vis := g.vis.sample g.vcfg n k t v.1 v.2.1 g.tcyc } else g))) ∧
      (∀ t xs xc, c.adcUp n = true → x.type = 6 →
        let d := c.at t
        let y := d.ch n
        let xs' := d.adcCal (2 * n) xs
        let xc' := d.adcCal (2 * n + 1) xc
        let v := scCorrect y.lin y.lin2 xs' xc'
        let e := d.putChan n (y.convert n (ax d) false t xs' xc')
        let q := e.sig.fifo.look n []
        (q.length < 2 → exec (.excitationPeak n t xs xc) s = .next (s.after
          (({ e with sig := { e.sig with fifo := e.sig.fifo.put n (q ++ [(v.1, v.2.1, t)]) } } : Core).peakRequest n))) ∧
        (2 ≤ q.length → exec (.excitationPeak n t xs xc) s = .next (s.after (({ e with sig := { e.sig with
          peakOvf := e.sig.peakOvf + 1, lost := e.sig.lost ||| (1 <<< n) } } : Core).raise [evPair EvNo.spPeakLost n])))) ∧
      (∀ low data par stop, x.type = 5 → x.ssiBusy = true → c.standby = false →
        exec (.ssiTransferDone n low data par stop) s = .next (s.after
          (c.putChan n (x.ssiDone n (ax c) low (data % 2 ^ fld x.ssiCfg 13 8) par stop)))) ∧
      (∀ r t, c.standby = false →
        let u := c.pinTime (0x13 + 4 * n) t
        let d := (c.at u).putCh n { ((c.at u).ch n) with l := r }
        let y : Chan := { ((c.at u).ch n) with l := r }
        let o := y.latchEvent n (d.ch (fld y.cfg 19 16)) u
        (y.latSelects r = true → exec (.latchEvent n r t) s = .next (s.after
          ((d.putCh n o.ch).raise (o.evs.map fun e => fbEv e.num (ax d) n)))) ∧
        (y.latSelects r = false → exec (.latchEvent n r t) s = .next (s.after d))) ∧
      (∀ r t data, c.standby = true → exec (.latchEvent n r t) s = .next (s.after c) ∧
        exec (.ssiTransferDone n r data false false) s = .next (s.after c) ∧
        exec (.limitSwitchChange n r t) s = .next (s.after c)) ∧
      (∀ l t, c.standby = false → (c.prof.sw.look n {}).level ≠ l →
        let u := c.pinTime (0x13 + 4 * n) t
        let d := c.at (rtAdd u 4000)
        let e : Core := { d with prof := { d.prof with sw := d.prof.sw.put n { level := l, ts := u } } }
        exec (.limitSwitchChange n l t) s = .next (s.after (e.axes.foldl (fun (z : Core) a =>
          ((z.limitInput a n true l).limitInput a n false l).homeInput a n l u) e)) ∧
        (∀ a, c.axes = [a] → c.cf a .limNegIn = n → c.cf a .limPosIn ≠ n → c.cf a .hmSw ≠ n → (c.pa a).limP = false →
          l = natBit (c.cf a .limPol).toNat 0 → exec (.limitSwitchChange n l t) s = .next (s.after
            ((e.updPa a fun y => { y with limN := false }).updGa a fun g => { g with deg := g.deg &&& (63 - dgLim) })))) ∧
      (∀ l t, (c.prof.sw.look n {}).level = l → exec (.limitSwitchChange n l t) s = .next (s.after c))) ∧
  (∀ (x : Chan) (n : Nat) (ax : Option Nat) (rtS t u : Rt) (l par : Bool) (k data : Nat) (src : Chan) (xs xc : Int),
      (∀ m, x.type = 1 → x.idxMode ≠ 2 → quadStep x.a x.b l x.b = some m → m ≠ 0 → rtGe t rtS = true →
        x.levelChange n ax rtS [{ line := 0, level := l, stamp := t }] =
          { ch := { x with a := l, n := x.n + BitVec.ofInt 32 (x.inv m), edges := x.edges ++ [(x.inv m, t)] } }) ∧
      (x.type = 1 → x.idxMode ≠ 2 →
        x.levelChange n ax rtS [{ line := 0, level := !x.a, stamp := t }, { line := 1, level := !x.b, stamp := u }] =
          { ch := { (x.setFlag fDbl (!rtGe (rtMax t u) rtS)) with
              a := !x.a, b := !x.b, errDbl := incWrap 16 x.errDbl, suspect := true }
            evs := [fbEv EvNo.fbDouble ax n], rise := !x.suspect }) ∧
      (x.type ≠ 0 → x.lineFault n ax true = { ch := { x with linef := true, suspect := true, bad := true }
                                              evs := if x.linef then [] else [fbEv EvNo.fbLineFault ax n], rise := !x.suspect }) ∧
      x.lineFault n ax false = { ch := { x with linef := false } } ∧
      (∀ sv cv amp, x.type = 4 → scCorrect x.lin x.lin2 xs xc = (sv, cv, amp, false) →
        let y (out : Bool) : Chan := { x with ampMin := min x.ampMin amp, conv := (x.conv ++
          [((scPos x.n (fbAngle sv cv) x.interp (x.fineoff || out)).1, t)]).drop (x.conv.length - 3) }
        (x.outWin amp = false → (x.convert n ax false t xs xc).ch = y false ∧ (x.convert n ax false t xs xc).evs = []) ∧
        (x.outWin amp = true → x.convert n ax false t xs xc =
          { ch := { ((y true).setFlag fScWin false) with errAnom := incWrap 16 x.errAnom, suspect := true, bad := true }
            evs := [fbEv EvNo.scAmplitude ax n], rise := !x.suspect })) ∧
      (let badPar := bit x.ssiCfg 15 && (parityOf data (fld x.ssiCfg 13 8) != par)
       ∀ low stop, ((low || stop || badPar) = true → x.ssiDone n ax low data par stop =
          { ch := { (x.setFlag fSsiErr true) with
              ssiBusy := false, errAnom := incWrap 16 x.errAnom, suspect := true, badS := true, ssiErr := true }
            evs := [fbEv EvNo.ssiError ax n], rise := !x.suspect }) ∧
        ((low || stop || badPar) = false → x.ssiRaw = none → x.suspect = false → x.idxMode ≠ 2 → bit x.ssiCfg 14 = false →
          data < 2 ^ fld x.ssiCfg 13 8 → x.ssiDone n ax low data par stop =
            { ch := { x with ssiBusy := false, n := w32 data, nS := w32 data, pos := w32 data, formed := true, ssiRaw := some data
                             ssiErr := false } })) ∧
      (x.latch.length < 8 → x.latchEvent n src t =
        { ch := { x with latch := x.latch ++ [{ pos := src.posAt t, rt := t, susp := src.suspect, wait := src.waits t }] } }) ∧
      (8 ≤ x.latch.length → (x.latchEvent n src t).ch = { x with latchOvf := incWrap 8 x.latchOvf } ∧
        (x.latchEvent n src t).evs.map (·.num) = [EvNo.latchOverflow]))

/-- R287: the search for the offset goes on from step to step: from CHECK at θ 0x4000 where the source is trusted, through the ramp to
CMT_ALN_I, the hold, the turn to 0 and the second hold to the test of both angles, and its ramp down ends in AX_OPEN with the found offset
or the reason. A rotor that is not still within CMT_ALN_HOLD fails with reason 5, an untrusted source with 4.
R306, R309, R312 to R315, R319, R321: the outcomes of a probe sequence: REST starts the alignment, INCONSISTENT fails the attempt
with reason 5, KE_HIGH ends in AX_FAULT, TURNING takes the probed speed and angle to PRESET. The times of the observer's sub-states:
INHIBIT leads to PROBE, ALIGN to RAMP, HANDOFF to TRACK or a failure, RAMP to failure 1, WAIT to DETECT, HOLD to INHIBIT with
EV_OBS_LOST, after the cycle's OBSERVE where that may still decide; after 1,024 valid cycles the back-EMF ratio is formed and the sums
restart, a ratio outside KE_LO to KE_HI reacts and raises its event at its first excursion, one inside clears the cause bit. -/
def Obligations.AlignmentAndObserver : Prop :=
  (∀ (s : State) (a : Nat), a < 256 → (s.base.ax a).state = .align →
      let c := s.base
      let g := (c.fa a).align
      let cf := c.cf a
      let seek (d : Core) (f : AlignSt → AlignSt) : Core := d.updFa a fun y => { y with align := f y.align }
      let ramped : Core := c.at (rtAdd g.start (cf .cmtAlnRamp * 4000000))
      let held : Core := c.at (rtAdd g.start (cf .cmtAlnHold * 4000000))
      let failed (d : Core) (r : Nat) : Core := seek d fun y => { y with
        step := .rampdn, start := d.now, hist := [], reason := r, failed := true, idTop := y.idref }
      let enter (d : Core) (k : AlnStep) (f : AlignSt → AlignSt) : Core := seek d fun y => f { y with step := k, start := d.now, hist := [] }
      (g.step = .check → (c.susp a || c.badCyc a || (c.fa a).uv) = false → exec (.alignStepAdvance a) s =
        .next (s.after (enter c .ramp1 fun y => { y with theta := 0x4000, idref := 0 }))) ∧
      (g.step = .check → (c.susp a || c.badCyc a || (c.fa a).uv) = true → exec (.alignStepAdvance a) s = .next (s.after (failed c 4))) ∧
      (g.step = .ramp1 → exec (.alignStepAdvance a) s =
        .next (s.after (enter ramped .hold1 fun y => { y with idref := cf .cmtAlnI }))) ∧
      (g.step = .hold1 → g.still cf = true → exec (.alignStepAdvance a) s =
        .next (s.after (enter c .step fun y => { y with th1 := rawAngle cf (c.fa a).p }))) ∧
      (g.step = .step → g.theta = 0 → exec (.alignStepAdvance a) s = .next (s.after (enter c .hold2 id))) ∧
      (g.step = .hold2 → g.still cf = true → exec (.alignStepAdvance a) s =
        .next (s.after (enter c .eval fun y => { y with th2 := rawAngle cf (c.fa a).p }))) ∧
      (g.step = .eval → alignEval cf g.th1 g.th2 = 0 → exec (.alignStepAdvance a) s =
        .next (s.after (enter c .rampdn fun y => { y with failed := false, idTop := y.idref }))) ∧
      (g.step = .eval → alignEval cf g.th1 g.th2 ≠ 0 → exec (.alignStepAdvance a) s =
        .next (s.after (failed c (alignEval cf g.th1 g.th2)))) ∧
      (g.step = .rampdn → g.failed = false → exec (.alignStepAdvance a) s = .next (s.after (ramped.alignDone a))) ∧
      (g.step = .rampdn → g.failed = true → exec (.alignStepAdvance a) s = .next (s.after (ramped.alignFailed a))) ∧
      (g.step = .hold1 ∨ g.step = .hold2 → exec (.alignHoldTimeout a) s = .next (s.after (failed held 5)))) ∧
  (∀ (s : State) (a : Nat), a < 256 →
      let c := s.base
      let x := c.ob a
      let cf := c.cf a
      let nref := rF16 (c.word a oNref)
      let enter (y : ObsAxis) : Core := (c.updOb a fun _ => y).followSub a x.sub
      let past (k : ObsSub) (ms : Cf) : Prop := x.sub = k ∧ c.parked = false ∧ msCycles (cf ms) c.tcyc ≤ x.cyc
      (∀ p q r, x.sub = .probe ∨ x.sub = .detect → x.prb = [p, q, r] →
        let at3 : Nat × Nat := match x.va with | w :: _ => (w.tU, w.tcyc) | [] => (c.modeI.tU, c.tcyc)
        let v := probeVals cf at3.1 at3.2 p q r
        (probeOutcome cf v = .rest → exec (.probeSequenceDone a) s = .next (s.after (c.putObs a
          { x := { x.startAlign with dirNeg := if x.sub = .probe then decide (nref < 0) else x.dirNeg } }))) ∧
        (probeOutcome cf v = .inconsistent → exec (.probeSequenceDone a) s = .next (s.after (c.putObs a (x.fail cf a 5)))) ∧
        (probeOutcome cf v = .keHigh → exec (.probeSequenceDone a) s = .next (s.after
          (((c.updOb a fun _ => { (x.enter .other) with probeR := v.rp, keHigh := true, keLow := false, retries := 0 }).raise
            [evAxis EvNo.keHigh a, evAxis EvNo.startFailed a]).axisFault a 9))) ∧
        (∀ low, probeOutcome cf v = .turning low → exec (.probeSequenceDone a) s = .next (s.after (c.putObs a
          { x := { (x.enter .preset) with probeR := v.rp, keLow := low, keHigh := false, prbReact := low
                                          wp := v.wp, thp := v.thp, ep := v.ep, emf := v.emf }
            evs := if low then [evAxis EvNo.keLow a] else [] })))) ∧
      (past .inhibit .obsInh → exec (.obsInhExpiry a) s = .next (s.after (enter (x.enter .probe)))) ∧
      (past .align .obsStAln → exec (.obsStAlnExpiry a) s =
        .next (s.after (enter { (x.enter .ramp) with wcmd := 0, thcmd := 0, atSpeed := 0 }))) ∧
      (past .handoff .obsMerge → x.thUse = none → exec (.obsMergeExpiry a) s =
        .next (s.after ((enter { (x.enter .track) with thUse := none, retries := 0 }).raise [evAxis EvNo.startDone a]))) ∧
      (past .handoff .obsMerge → x.thUse ≠ none → exec (.obsMergeExpiry a) s = .next (s.after (c.putObs a (x.fail cf a 3)))) ∧
      (past .wait .obsRetryWait → exec (.obsRetryWaitExpiry a) s =
        .next (s.after (enter { (x.enter .detect) with dirNeg := decide (nref < 0) }))) ∧
      (x.sub = .ramp → c.parked = false → msCycles (cf .obsStTmo) c.tcyc ≤ x.atSpeed →
        exec (.obsStTmoExpiry a) s = .next (s.after (c.putObs a (x.fail cf a 1)))) ∧
      (let n := msCycles (cf .obsHold) c.tcyc
       (x.sub = .hold ∧ n ≤ x.cyc) ∨ ((x.sub = .track ∨ x.sub = .hold) ∧ n < x.blindRun) → c.parked = false →
        (x.sub = .hold ∧ x.blindRun = 0 ∧ x.seen ≠ some c.cycle.cycle →
          exec (.obsHoldExpiry a) s = .next (s.after ((c.updOb a fun _ => { x with holdDue := true }).raise []))) ∧
        (¬ (x.sub = .hold ∧ x.blindRun = 0 ∧ x.seen ≠ some c.cycle.cycle) →
          exec (.obsHoldExpiry a) s = .next (s.after (((c.updOb a fun _ => { (x.enter .inhibit) with thUse := none }).raise
            [evAxis EvNo.obsLost a]).followSub a x.sub)))) ∧
      (1024 ≤ x.keN →
        let ratio := uq115 x.se x.sk
        let low := decide ((ratio : Int) < cf .keLo)
        let high := decide (cf .keHi < (ratio : Int))
        let y : ObsAxis := { x with ratio := ratio, sk := 0, se := 0, keN := 0, keLow := low, keHigh := high, outLow := low, outHigh := high }
        let done (evs : List Ev) (react : Nat) : State :=
          let e := c.putObs a { x := y, evs := evs, react := react }
          s.after (if (e.ob a).keLow || (e.ob a).keHigh then e else e.updGa a fun g => { g with deg := g.deg &&& (63 - dgKe) })
        (low = false → high = false → exec (.keCheckWindow a) s = .next (done [] 0)) ∧
        (low = true → x.outLow = false → exec (.keCheckWindow a) s = .next (done [evAxis EvNo.keLow a] (cf .keReact).toNat)) ∧
        (low = true → x.outLow = true → exec (.keCheckWindow a) s =
          .next (done (if high && !x.outHigh then [evAxis EvNo.keHigh a] else []) (cf .keReact).toNat)) ∧
        (low = false → high = true → exec (.keCheckWindow a) s =
          .next (done (if x.outHigh then [] else [evAxis EvNo.keHigh a]) (cf .keReact).toNat))))



/-- R477, R482 to R487, R495, R500: the Gauntlet's inputs and timers. A level that has held moves its channel, and a demand of either
channel of a TYPE 1 or 2 input is a demand at once; a discrepancy that outlasts its time is latched; a valid reset edge is used and marks
the groups of its input whose conditions held; a reset input held too long latches a reset fault once; the confirmation pulse goes to the
ledger and leads to SAFE, its window ends with EV_GS_CONF_FAILED; after BOOT the global state follows the block's checksum and the
ledger; the brake delay ends in STO, the time in AX_DEGRADED ends. -/
def Obligations.GauntletInputs : Prop :=
  ∀ (s : State) (n a : Nat), n < 8 → a < 256 →
    let c := s.base
    let x := c.sin n
    let p := c.sinCfg n
    let put (d : Core) (y : GsIn) : Core := { d with gs := { d.gs with input := d.gs.input.put n y } }
    (∀ l t, c.boot.held = false →
      let d := c.at (rtAdd t (p.filt * 2000000))
      (p.type = 1 ∨ p.type = 2 →
        exec (.safeInputLevelChange n false l t) s = .next (s.after (put d (({ x with a := l, tA := t } : GsIn).logic p t))) ∧
        exec (.safeInputLevelChange n true l t) s = .next (s.after (put d (({ x with b := l, tB := t } : GsIn).logic p t))) ∧
        (p.type = 1 → (({ x with a := false, tA := t } : GsIn).logic p t).demand = true) ∧
        (p.type = 2 → (({ x with b := true, tB := t } : GsIn).logic p t).demand = true)) ∧
      (p.type = 3 → let y := x.rstClear t
        exec (.safeInputLevelChange n false l t) s = .next (s.after (put d (if l then { y with a := l, tA := t, riseA := some t, fallA := none }
          else { y with a := l, tA := t, fallA := some t }))) ∧
        exec (.safeInputLevelChange n true l t) s = .next (s.after (put d (if l then { y with b := l, tB := t, riseB := some t, fallB := none }
          else { y with b := l, tB := t, fallB := some t })))) ∧
      (p.type ≠ 1 → p.type ≠ 2 → p.type ≠ 3 →
        exec (.safeInputLevelChange n false l t) s = .next (s.after (put d { x with a := l, tA := t })) ∧
        exec (.safeInputLevelChange n true l t) s = .next (s.after (put d { x with b := l, tB := t })))) ∧
    (∀ t, x.timer = some t → exec (.discrepancyTimeout n) s = .next (s.after ((put (c.at (rtAdd t (p.disc * 40000000)))
      { x with disc := true, timer := none, demand := true }).raise [{ num := EvNo.gsDiscrepancy, obj := n }]))) ∧
    (x.timer = none → exec (.discrepancyTimeout n) s = .next (s.after c)) ∧
    (c.role.role ≠ .spare → p.type = 3 → (c.gs.glob = .safe ∨ c.gs.glob = .run) → x.rstF = false →
      ∀ r, x.pulse 400000000 8000000000 = some r →
      let g := (put c x.usePulse).gs
      let mark (g : GsState) (k : Nat) : GsState :=
        let cfg := c.image.gs.group.look k {}
        if cfg.rstIn = some n && g.held cfg (g.group.look k {}) r.1 then
          { g with group := g.group.upd k {} fun y => { y with edge := true } } else g
      exec (.resetEdge n) s = .next (s.after { c with gs := (List.range 8).foldl mark g })) ∧
    (c.role.role ≠ .spare → p.type = 3 → c.gs.glob ≠ .safe → c.gs.glob ≠ .run → x.pulse 400000000 8000000000 ≠ none →
      exec (.resetEdge n) s = .next (s.after (put c x.usePulse))) ∧
    (∀ chB t l, p.type = 3 → (if chB then x.b else x.a) = true → (if chB then x.riseB else x.riseA) = some t → x.rstF = false →
      (n ≠ c.image.gs.confIn ∧ l = 8000000000) ∨ (n = c.image.gs.confIn ∧ c.gs.confDue.isSome = true ∧ l = 40000000000) ∨
        (n = c.image.gs.confIn ∧ c.gs.confDue = none ∧ (c.image.gs.group.any fun e => e.2.rstIn = some n) = true ∧ l = 8000000000) →
      exec (.resetHighTimeout n chB) s = .next (s.after ((put (c.at (rtAdd t l)) { x with rstF := true }).raise
        [{ num := EvNo.gsResetFault, obj := n }]))) ∧
    (∀ due r, c.gs.confDue = some due → n = c.image.gs.confIn → x.pulse 12000000000 40000000000 = some r →
      rtGe r.1 (rtAdd due (-240000000000)) = true → rtGe due r.2 = true → c.gs.glob = .unconfirmed → c.iso 5 5 = false →
      let k := (((c.led.led.conf.map fun v => v.2.1).getD 0) + 1) % 65536
      let ep := (c.cycle.cycle.toNat / 1048576) % 4096
      let d := put (c.updLed fun l => { l with conf := some (c.image.gs.schk, k, ep) }) x.usePulse
      let e := ({ d with gs := { d.gs with
        confDue := none, cchk := c.image.gs.schk, confN := k, confEpoch := ep } } : Core).raise [ev0 EvNo.gsConfirmed]
      exec .confirmPulse s = .next (s.after (({ e with gs := { e.gs with glob := .safe } } : Core).raise [ev0 EvNo.gsState 3]))) ∧
    (∀ due, c.gs.confDue = some due → exec .confirmWindowExpiry s = .next (s.after
      (({ (c.at due) with gs := { c.gs with confDue := none } } : Core).raise [ev0 EvNo.gsConfFailed]))) ∧
    (c.boot.st = .running → c.gs.glob = .boot →
      let enter (g : GsGlobal) (es : List Ev) : Core := ({ c with gs := { c.gs with glob := g } } : Core).raise es
      let conf := if c.iso 5 5 = true then none else c.led.led.conf
      let known (d : Core) : Core := match conf with
        | some v => { d with gs := { d.gs with cchk := v.1, confN := v.2.1, confEpoch := v.2.2 } }
        | none => d
      let ends (d : Core) : Core := (List.range 8).foldl Core.bootInput (known d)
      (crc32 c.image.gs.block ≠ c.image.gs.schk → exec .gauntletBootDone s =
        .next (s.after (ends (enter .checkFail [ev0 EvNo.gsState 1, ev0 EvNo.gsSchkMismatch])))) ∧
      (crc32 c.image.gs.block = c.image.gs.schk → conf.map (·.1) ≠ some c.image.gs.schk → exec .gauntletBootDone s =
        .next (s.after (ends (enter .unconfirmed [ev0 EvNo.gsState 2])))) ∧
      (crc32 c.image.gs.block = c.image.gs.schk → conf.map (·.1) = some c.image.gs.schk → exec .gauntletBootDone s =
        .next (s.after (ends (enter .safe [ev0 EvNo.gsState 3]))))) ∧
    (∀ t, (c.ga a).sbcDue = some t → exec (.sbcDelayExpiry a) s = .next (s.after
      ((((c.at t).updGa a fun g => { g with sbcDue := none }).axisHalt a).gauntletCancel a))) ∧
    (∀ t, (c.ga a).degDue = some t → c.parked = false → (c.ax a).state = .degraded → exec (.degTExpiry a) s =
      .next (s.after ((c.at t).updGa a fun g => { g with degDue := none, degNow := true })))

/-- R480, R502 to R509: the Gauntlet's outputs and safety records. A step of the switch-on sequence or a test pulse whose readbacks are as
expected goes on; one whose readbacks are not, or a steady mismatch, switches the pair off, latches the fault and takes every group that
uses the pair to STO with cause 0xE; the proof test ends in SAFE with every release withdrawn. A record that passes its checks within its
window is accepted, any other counted and raised; SF_WD cycles without one kill the node's watchdog; a persistent disagreement of the two
channels is a fault of the comparator. -/
def Obligations.GauntletOutputsAndRecords : Prop :=
  ∀ (s : State) (n g p : Nat) (hi lo : Bool), n < 4 → g < 4 → p < 64 →
    let c := s.base
    let o := c.gs.out.look n {}
    let put (y : GsOut) : GsState := { c.gs with out := c.gs.out.put n y }
    let fault : Core := c.putGs ((put { o with rbh := hi, rbl := lo }).pairFault c.image.gs n c.cycle.cycle c.now)
    let k := g * 64 + p
    let node := c.gs.node.look k {}
    let im := c.nodeImg k
    let heard : Prop := c.boot.st = .running ∧ c.cycle.running = true ∧ im.safety = true ∧ node.got = false ∧
      ((c.sg g).node p).st = .admitted ∧ c.role.role ≠ .spare ∧ ((c.sl g).suspect.valid && (c.sl g).suspect.pos = p) = false
    (c.gsLive n = true → o.step = 1 ∨ o.step = 2 ∨ o.step = 3 →
      ((hi, lo) = soutExpect o.step → exec (.soutSwitchOnStep n hi lo) s =
        .next (s.after { c with gs := put { o with rbh := hi, rbl := lo, step := o.step + 1 } })) ∧
      ((hi, lo) ≠ soutExpect o.step → exec (.soutSwitchOnStep n hi lo) s = .next (s.after fault))) ∧
    (∀ low, c.gsLive n = true → o.step = 4 →
      ((hi, lo) = (low, low) → exec (.soutTestPulse n low hi lo) s =
        .next (s.after { c with gs := put { o with rbh := true, rbl := false } })) ∧
      ((hi, lo) ≠ (low, low) → exec (.soutTestPulse n low hi lo) s = .next (s.after fault))) ∧
    (c.gsLive n = true → o.step = 0 ∨ o.step = 4 → (hi, lo) ≠ soutExpect o.step →
      exec (.soutReadbackMismatch n hi lo) s = .next (s.after fault)) ∧
    (∀ pass, c.gs.glob = .test →
      let used := (List.range 4).filter fun m => (c.image.gs.sout.look m {}).use != 0
      let d := used.foldl (fun (d : Core) m =>
        if natBit pass m then { d with gs := { d.gs with out := d.gs.out.upd m {} fun o => { o with fault := false } } }
        else if (d.gs.out.look m {}).fault then d else d.putGs (d.gs.pairFault d.image.gs m d.cycle.cycle d.now)) c
      exec (.proofTestDone pass hi) s = .next (s.after
        (({ d with gs := { d.gs with testFail := !(used.filter fun m => !natBit pass m).isEmpty || !hi
                                     group := d.gs.group.each fun _ y => { y with released := false, edge := false } } } : Core).gsEnter .safe))) ∧
    (∀ r, heard → checkSafety im.connId p r = .good →
      node.inWindow im.sfWd (BitVec.ofNat 16 (rec16 r 2)) (BitVec.ofNat 16 (rec16 r 8)) node.head = true →
      exec (.safetyRecordReceived g p r) s = .next (s.after
        (({ c with gs := { c.gs with node := c.gs.node.put k { node with
          scnt := BitVec.ofNat 16 (rec16 r 2), seen := true, got := true, missed := 0, dead := false } } } : Core).stoFeedback k
          (r.getD 4 0).toNat (255 - (r.getD 5 0).toNat) (r.getD 6 0).toNat))) ∧
    (∀ r, heard → (checkSafety im.connId p r ≠ .good ∨
        node.inWindow im.sfWd (BitVec.ofNat 16 (rec16 r 2)) (BitVec.ofNat 16 (rec16 r 8)) node.head = false) →
      exec (.safetyRecordReceived g p r) s = .next (s.after
        (({ c with gs := { c.gs with node := c.gs.node.put k { node with reject := (node.reject + 1) % 256 } } } : Core).raise
          [(evNode EvNo.gsRecordErr g p).limited k]))) ∧
    (c.boot.st = .running → c.cycle.running = true → im.safety = true → node.dead = false → ((c.sg g).node p).st = .admitted →
      im.sfWd ≤ node.missed → exec (.safetyWatchdogExpiry g p) s = .next (s.after
        ((c.nodeAxes g p).foldl (fun (d : Core) a => (d.gauntletFault a 7).updGa a fun y => { y with react := some 0xA })
          (({ c with gs := { c.gs with node := c.gs.node.put k { node with dead := true }, wdExp := incWrap 16 c.gs.wdExp } } : Core).raise
            [evNode EvNo.gsWatchdog g p])))) ∧
    (c.boot.st = .running → c.iso 4 4 = false → exec .xchanPersist s = .next (s.after
      ((({ c with gs := { c.gs with xcnt := c.gs.xcnt + 8 } } : Core).raise [(ev0 EvNo.gsXchan).limited 0]).cellFault 4 4 5 .plain 0)))

/-- R523, R525, R527, R528, R534 to R537: the Visor. A firing of an enabled unit becomes a candidate of the record that is armed, of
unit 0 in a sequence its first stage, counts as a retrigger in POST and as missed in WAIT or where it lies before the record's first row;
an event's raise or an instant fires once; the pin's selected edge fires at its compensated time, on the shared input, whose rising edges
alone count, less TXLEAD and XCAB. A ready record completes; HOLDOFF ends with arming due at the next boundary
where an area is free; the shared output pulses at its time; a burst whose grant is too old ends incomplete. -/
def Obligations.VisorTriggers : Prop :=
  ∀ (s : State) (u : Nat), u < 4 → s.base.visOk = true →
    let c := s.base
    let v := c.vcfg
    let w := v.tu.getD u (0, 0, 0)
    let vis (d : Core) (y : VisorState) : Core := { d with vis := y }
    let done := c.vis.complete v fun b => b.t0 c.sOf
    let used (t : Rt) : VisorState := { c.vis with evUsed := c.vis.evUsed.put u t }
    let fired (d : Core) (f : VFire) : Core := (vis d (d.vis.fire v f).1).raise (d.vis.fire v f).2
    (∀ (y : VisorState) (f : VFire),
      (∀ r, y.st = .armed → y.fill = some r →
        (v.seq = true → f.unit = 0 → y.fire v f = ({ y with fill := some { r with t0 := true } }, [])) ∧
        (v.seq = true → f.unit ≠ 0 → f.unit < 4 → r.t0 = false → y.fire v f = (y, [])) ∧
        (v.seq = false ∨ (f.unit ≠ 0 ∧ (r.t0 = true ∨ 4 ≤ f.unit)) →
          (rtGe f.t r.first = true → y.fire v f = ({ y with fill := some { r with cand := r.cand ++ [f] } }, [])) ∧
          (rtGe f.t r.first = false → y.fire v f = y.miss))) ∧
      (∀ r, y.st = .post → y.fill = some r →
        y.fire v f = ({ y with fill := some { r with retrig := min 0xFFFFFFFF (r.retrig + 1) } }, [])) ∧
      (y.st = .wait → y.fire v f = y.miss) ∧
      (y.st = .idle → y.fire v f = (y, []))) ∧
    (∀ t, c.vis.evLast.look? (fld w.1 23 16) = some t → c.visUnit u 2 = true → c.vis.evUsed.look? u ≠ some t →
      exec (.visorEventTrigger u) s = .next (s.after (fired (vis c (used t)) { t := t, unit := u, type := 2 }))) ∧
    (∀ t, c.vis.evLast.look? (fld w.1 23 16) = some t → c.vis.evUsed.look? u = some t →
      exec (.visorEventTrigger u) s = .next (s.after c)) ∧
    (∀ t rising,
      let pin := fld w.1 25 24
      let e := fld w.1 27 26
      let at' := (c.at t).pinTime pin t
      c.visUnit u 3 = true → c.time.pinMode pin = 7 → e = 3 ∨ (rising = true ∧ e ≠ 2) ∨ (rising = false ∧ e = 2) →
      ((bit v.share 6 && fld v.share 5 4 = pin) = false → exec (.visorPinTrigger u t rising) s =
        .next (s.after (fired (c.at t) { t := at', unit := u, type := 3 }))) ∧
      ((bit v.share 6 && fld v.share 5 4 = pin) = true → rising = true → exec (.visorPinTrigger u t rising) s =
        .next (s.after (fired (c.at t) { t := rtAdd at' (-((v.txlead : Int) + v.xcab)), unit := u, type := 3, shared := true })))) ∧
    (let t : Rt := w.2.2 ++ w.2.1
     c.visUnit u 4 = true → c.vis.evUsed.look? u ≠ some t → rtGe (c.at t).now t = true →
      exec (.visorTimeTrigger u) s = .next (s.after (fired (vis (c.at t) (used t)) { t := t, unit := u, type := 4 }))) ∧
    exec .visorRecordComplete s = .next (s.after ((vis c done.1).raise done.2)) ∧
    (∀ a, c.vis.st = .wait → c.vis.holdoff = 0 → c.vis.free v = some a → exec .visorHoldoffExpiry s = .next (s.after (vis c
      { c.vis with armDue := true }))) ∧
    (∀ t rest, c.vis.shareDue = t :: rest → c.time.pinMode (fld v.share 1 0) = 7 → exec .visorShareOutput s = .next (s.after
      ((vis (c.at t) { c.vis with shareDue := rest, shareLast := some t }).out (.share (fld v.share 1 0))))) ∧
    exec .nbTimeout s = .next (s.after (vis c (c.vis.mapBursts fun b => match b.grant with
      | some k => if !b.past && decide (v.nbTmo ≤ (c.cycle.cycle - k).toNat) then { b with past := true, stat := 1 } else b
      | none => b)))


/-- R91, R93, R94, R98, R112 to R118, R130, R131, R138, R211 to R214: ports and roles. A port that links is up, and one that loses its link
down, with its event and what it then sees of its module; training that fails starts again; a segment with one port forms. Of what a chip
in LISTEN or CLAIM hears at a linked port, a weaker claim sends it to CLAIM, a stronger one back to LISTEN, one with other parameters or
its own UID to REFUSED, a claim's refusal in CLAIM answered; a crown's record to SPARE, its Gauntlet idle, or, with another checksum, to
REFUSED; t_listen ends in CLAIM; each claim period sends a claim, with a sequence number of its own, at every linked port, and the eighth
ends in CROWN; a spare without crown records takes over, without a step of ring time. A spare follows its crown's cycle and ring
time, and its STANDBY. When t_listen starts is log entry 66. -/
def Obligations.PortsAndRoles : Prop :=
  (∀ (d : Core) (k : Nat), d.sendClaim k =
    ({ d with role := { d.role with seq := (d.role.seq + 1) % 65536 } } : Core).launch
      { seg := k, kind := .claim, cycle := d.cycle.cycle, inForce := d.cycle.mode, role := some { d.roleRec with state := 2, cycle := 0 } }) ∧
  (∀ (d : Core) (f : FrameOut), d.launch f =
    let e := if (d.po (2 * f.seg)).link then d.out (.frame { f with ring := 0 }) else d
    if (d.po (2 * f.seg + 1)).link then e.out (.frame { f with ring := 1 }) else e) ∧
  (∀ (d : Core) (side mode : Nat) (t : Rt),
    let err : Int := rtDiff (rtAdd t (-((d.image.mode.look mode {}).tSf : Int) - d.time.spareDelay side)) d.cycle.rtS
    (d.time.spareCfg = none → side = 0 → d.spareCopy side mode t =
      { d with cycle := { d.cycle with rtS := rtAdd d.cycle.rtS err, running := true } }) ∧
    (d.time.spareCfg = none → side ≠ 0 → d.spareCopy side mode t = d) ∧
    (d.time.spareCfg ≠ none → d.spareCopy side mode t = { d with time :=
      if side = d.time.spareSide then { d.time with spareRef := some err } else { d.time with spareOther := some err } })) ∧
  (∀ (s : State) (p g : Nat) (m : RoleRec), p < 8 → g < 4 →
    let c := s.base
    let r := c.role
    let heard : RoleState := { r with peer := some m }
    let weaker : Prop := m.prio < c.own.prio ∨ m.prio = c.own.prio ∧ c.own.uid.toNat < m.uid.toNat
    let counted : Core := c.updPort p fun x => { x with rxfrm := x.rxfrm + 1 }
    let role (x : RoleState) : Core := { counted with role := x }
    let refused : Core := (role { heard with role := .refused, claims := 0 }).raise [ev0 EvNo.claimRefused]
    let idle : Core := (role { heard with role := .spare, heldRole := true, noCrown := 0, claims := 0 }).gsIdle
    let spare : Core := { idle with time := { idle.time with
      rtState := .follow, src := 0, slew := none, spareRun := 0, spareCfg := none, spareRef := none, spareOther := none, rtsyncSeen := false } }
    let kr : Bool := (c.is (p / 2)).phy = .kr
    (c.mayLink p = true → (c.po p).link = false → ∀ present txeq,
      let d := (c.updPort p fun x => { x with
        link := true, lock := true, trained := kr, training := .none, modPresent := present && !kr, modLos := false
        txeq := if kr then txeq &&& 0x3F3F3F else 0 }).raise [evPort EvNo.portUp p]
      let e := if r.role = .listen ∧ r.listening = false then { d with role := { r with listening := true, listenAt := c.now } } else d
      exec (.portLinkUp ⟨p, present, txeq⟩) s = .next (s.after (e.tryForm (p / 2) false))) ∧
    ((c.po p).link = true → ∀ present los lock errs, exec (.portLinkDown ⟨p, present, los, lock, errs⟩) s = .next (s.after
      (((c.updPort p fun x => { x with link := false, lock := false, trained := false, downs := x.downs + 1 }).raise
        [evPort EvNo.portDown p]).updPort p fun x => { x with
          modPresent := present && !kr, modLos := los && !kr, lock := lock, blkerr := x.blkerr + BitVec.ofNat 32 errs }))) ∧
    ((c.is (p / 2)).phy = .kr → c.mayLink p = true → (c.po p).link = false → exec (.trainingTimeout p) s = .next (s.after
      ((c.updPort p fun x => { x with training := .retryWait, trained := false }).raise [evPort EvNo.trainingFailed p]))) ∧
    ((c.po p).training = .retryWait →
      exec (.trainingRetry p) s = .next (s.after (c.updPort p fun x => { x with training := .running }))) ∧
    (c.links g = 1 → exec (.onePortLinkTimeout g) s = .next (s.after (c.tryForm g true))) ∧
    (c.links g ≠ 1 → exec (.onePortLinkTimeout g) s = .next (s.after c)) ∧
    (c.ringUp = true → r.role = .listen → r.listening = true → exec .listenExpiry s = .next (s.after
      { (c.at (rtAdd r.listenAt (tListen c.tcyc : Nat))) with role := { r with role := .claim, claims := 0 } })) ∧
    (c.ringUp = true → (c.po p).link = true → m.crcOk = true →
      (r.role = .listen → m.uid ≠ c.own.uid → weaker →
        exec (.claimReceived ⟨p, m⟩) s = .next (s.after (role { heard with role := .claim, claims := 0 }))) ∧
      (r.role = .listen → m.uid ≠ c.own.uid → ¬weaker →
        exec (.claimReceived ⟨p, m⟩) s = .next (s.after (role { heard with listenAt := c.now, listening := true }))) ∧
      (r.role = .listen → m.uid = c.own.uid → exec (.claimReceived ⟨p, m⟩) s = .next (s.after refused)) ∧
      (r.role = .claim → m.chk ≠ c.own.chk ∨ m.tcyc ≠ c.own.tcyc ∨ m.uid = c.own.uid →
        exec (.claimReceived ⟨p, m⟩) s = .next (s.after (refused.sendClaim (p / 2)))) ∧
      (r.role = .claim → m.chk = c.own.chk → m.tcyc = c.own.tcyc → m.uid ≠ c.own.uid → ¬weaker → exec (.claimReceived ⟨p, m⟩) s =
        .next (s.after (role { heard with role := .listen, claims := 0, listenAt := c.now, listening := true }))) ∧
      (r.role = .claim → m.chk = c.own.chk → m.tcyc = c.own.tcyc → weaker → m.uid ≠ c.own.uid →
        exec (.claimReceived ⟨p, m⟩) s = .next (s.after (role heard))) ∧
      (r.role = .crown ∨ r.role = .spare ∨ r.role = .refused ∨ r.role = .none →
        exec (.claimReceived ⟨p, m⟩) s = .next (s.after (role heard))) ∧
      (∀ mode t,
        (r.role = .listen ∨ r.role = .claim → m.chk = c.own.chk →
          exec (.crownRecordReceived ⟨p, m, mode⟩ t) s = .next (s.after (spare.spareCopy (p % 2) mode t))) ∧
        (r.role = .listen ∨ r.role = .claim ∨ r.role = .spare → m.chk ≠ c.own.chk →
          exec (.crownRecordReceived ⟨p, m, mode⟩ t) s = .next (s.after refused)) ∧
        (r.role = .spare → m.chk = c.own.chk → exec (.crownRecordReceived ⟨p, m, mode⟩ t) s =
          .next (s.after ((role { heard with noCrown := 0, crownHeard := true }).spareCopy (p % 2) mode t))) ∧
        (r.role = .crown → ¬weaker → exec (.crownRecordReceived ⟨p, m, mode⟩ t) s = .next (s.after
          (role { heard with yieldTo := some (if m.chk = c.own.chk ∧ m.uid ≠ c.own.uid then .spare else .refused) }))) ∧
        (r.role = .crown ∧ weaker ∨ r.role = .refused ∨ r.role = .none → exec (.crownRecordReceived ⟨p, m, mode⟩ t) s =
          .next (s.after (role heard)))) ∧
      (r.role = .spare → exec (.standbyNoticeReceived ⟨p, m⟩) s = .next (s.after (role heard).enterStandby))) ∧
    (let sent := c.segs.foldl Core.sendClaim c
     (r.role = .claim → r.claims + 1 < 8 → exec .claimPeriod s = .next (s.after
        { sent with role := { sent.role with claims := r.claims + 1 } }))) ∧
    (r.role = .claim → 8 ≤ r.claims + 1 → ∃ d : Core, d.role.role = .crown ∧ ev0 EvNo.claimWon ∈ d.evq ∧
      d.cycle.mode = c.image.startMode ∧ (r.heldRole = false → d.cycle.cycle = 0) ∧ (r.heldRole = true → d.cycle.cycle = c.cycle.cycle) ∧
      exec .claimPeriod s = .next (s.after d)) ∧
    (r.role = .spare → c.image.role.takeoverCyc ≤ r.noCrown → ∃ d : Core, d.role.role = .crown ∧ d.role.takenOver = true ∧
      ev0 EvNo.takeover ∈ d.evq ∧ d.cycle = c.cycle ∧ d.time.now = c.time.now ∧ exec .takeoverExpiry s = .next (s.after d)) ∧
    (∀ n v, c.ringUp = true → r.role = .spare →
      (c.time.rtsyncSeen = false → c.time.stepped = false → exec (.rtsyncReceived g n v) s = .next (s.after
        { c with time := { c.time with ring := c.time.ring.step (rtDiff v c.cycle.rtS), rtsyncSeen := true, stepped := true }
                 cycle := { c.cycle with cycle := n, rtS := v, running := true } })) ∧
      (c.time.rtsyncSeen = true ∨ c.time.stepped = true →
        let d : Core := if c.time.rtsyncSeen then c else
          { c with time := { c.time with rtsyncSeen := true }, cycle := { c.cycle with cycle := n, running := true } }
        let diff : Int := rtDiff (d.sOf n) v
        let e : Core := { d with time := d.time.follow diff }
        exec (.rtsyncReceived g n v) s = .next (s.after
          (if 8 < diff.natAbs then e.raise [evNode EvNo.nodeTimeDev g (c.image.sparePos.look g 0)] else e)))) ∧
    (∀ t mode (dA dB : Int), c.ringUp = true → r.role = .spare →
      let d : Core := { c with time := { c.time with spareCfg := some (dA, dB) } }
      (c.time.spareCfg ≠ none → exec (.slotcfgReceived t mode ⟨dA, dB⟩) s = .next (s.after d)) ∧
      (c.time.spareCfg = none → exec (.slotcfgReceived t mode ⟨dA, dB⟩) s = .next (s.after { d with cycle := { d.cycle with
        rtS := rtAdd c.cycle.rtS (rtDiff (rtAdd t (-((c.image.mode.look mode {}).tSf : Int) - min dA dB)) c.cycle.rtS), running := true } }))))

/-- R80, R82, R104, R168 to R170, R212: a node unreachable for LOSS_CYC cycles leaves the admitted set, the first one between two breaks
is a split; a persistent TOUT is recorded in TIME_NODE_DEV; a babble suspect is confirmed, its axes fault, and cleared after 256 clean
cycles; a barrier fails 16 cycles after its announcement and a snapshot after its scaled time, with the count of nodes missing. -/
def Obligations.NodesAndSuspects : Prop :=
  ∀ (s : State) (g p : Nat), g < 4 → p < 64 →
    let c := s.base
    let x := c.sg g
    let k := x.node p
    let q := c.sl g
    let u := q.suspect
    let lost := c.loseNode g p
    (k.st = .admitted → x.lossCyc ≤ k.unreach →
      (x.between p = false ∨ x.split = true → exec (.nodeLoss g p) s = .next (s.after lost)) ∧
      (x.between p = true → x.split = false → exec (.nodeLoss g p) s = .next (s.after
        ((lost.putSg g { (lost.sg g) with split := true }).raise [evSeg EvNo.ringSplit g])))) ∧
    (∀ u v, x.breaks = [u, v] → u ≠ 0xFE → (x.between p = true ↔ u < p ∧ p ≤ v)) ∧
    (x.breaks.length < 2 → x.between p = false) ∧
    (k.st = .admitted → k.unreach < x.lossCyc → exec (.nodeLoss g p) s = .next (s.after c)) ∧
    (k.st = .admitted → 16 ≤ k.tOut → k.dev = false → exec (.toutPersist g p) s = .next (s.after
      (({ (c.putSg g (x.updNode p fun k => { k with dev := true })) with
        time := { c.time with nodeDev := w32 (p + 256 * g + 2147483648) } } : Core).raise [evNode EvNo.nodeTimeDev g p]))) ∧
    (u.valid = false → 0 < u.cycles → (c.is g).babbleCyc ≤ u.cycles → exec (.babbleConfirmed g) s = .next (s.after
      (((c.putSl g { q with suspect := { u with valid := true, clean := 0 } }).raise
        [evNode EvNo.babbleSuspect g u.pos]).faultNode g u.pos))) ∧
    (u.valid = true → 256 ≤ u.clean → exec (.babbleCleared g) s = .next (s.after
      ((c.putSl g { q with suspect := { u with valid := false, cycles := 0, clean := 0, basis := 0 } }).raise
        [evNode EvNo.babbleCleared g u.pos]))) ∧
    (c.cycle.gopState = .running → c.cycle.gopOp = .barrier → 16 ≤ (c.cycle.cycle - c.cycle.gopStart).toInt →
      exec .barrierTimeout s = .next (s.after (c.gopFail 6 c.gopOpen.length))) ∧
    (c.cycle.gopState = .running → c.cycle.gopOp = .snapshot →
      ((12 + (64 * c.nMax + 159) / 160 : Nat) : Int) ≤ (c.cycle.cycle - c.cycle.gopStart).toInt →
      exec .snapshotUploadTimeout s = .next (s.after (c.gopFail 6 c.gopOpen.length)))

/-- R99, R108, R123, R126, R138, R147, R168, R172 to R177, R537: the mailbox of a crown's segment. A record that spends an outstanding
credit of its generation returns the credit and has its effect; the second copy of it is compared, counted where it differs, and
discarded; any other is stale, counted and without effect; an ACK returns the implied credit it names, its second copy nothing; the first
good IDENT of the node under admission stands, and needs no credit; credits whose time has passed return. A drive copy that returns at a
linked port is counted there; a good one gives its mailbox area, a bad one marks its side. -/
def Obligations.MailboxRecords : Prop :=
  ∀ (s : State) (g p n gen : Nat), g < 4 → p < 64 → s.base.mbxUp g = true →
    let c := s.base
    let x := c.sg g
    let q := c.sl g
    let cr := q.credits.look n {}
    let sl (f : SlotSeg → SlotSeg) : Core := c.putSl g (f q)
    let back (r : List Byte) : Core :=
      sl fun q => { q with credits := q.credits.put n { cr with out := false, first := some r }, ret := q.ret + 1 }
    let again : Core := sl fun q => { q with credits := q.credits.put n { cr with first := none } }
    let differs : Core := again.putSg g { (again.sg g) with dupmis := (again.sg g).dupmis + 1 }
    let stale : Core := sl fun q => { q with stale := incWrap 8 q.stale }
    let named : Prop := cr.gen = gen ∧ cr.node = p
    let burst (bid fr ofs : Nat) (data : List Byte) : List Byte := [byte bid, byte fr] ++ be16 (ofs : Int) ++ data
    let outcome (r : List Byte) (d : Core) : Prop := (cr.out = false → cr.first = some r → named → d = again) ∧
      (∀ b, cr.out = false → cr.first = some b → b ≠ r → named → d = differs) ∧
      (¬named ∨ (cr.out = false ∧ cr.first = none) → d = stale)
    (∀ r, ∃ d : Core, exec (.mbxData g p ⟨n, gen⟩ r) s = .next (s.after d) ∧ outcome r d ∧ (named → cr.out = true → d = back r)) ∧
    (∀ delta f, let r := be32 delta ++ be16 f
      ∃ d : Core, exec (.mbxDelay g p n gen delta f) s = .next (s.after d) ∧ outcome r d ∧
        (named → cr.out = true → let o := ((back r).sg g).delayRound ((back r).is g) g p delta f
          d = ((back r).putSg g o.1).raise o.2)) ∧
    (∀ r, ∃ d : Core, exec (.mbxSnap g p n gen r) s = .next (s.after d) ∧ outcome r d ∧
      (named → cr.out = true →
        let asked : Prop := c.cycle.gopState = .running ∧ c.cycle.gopOp = .snapshot ∧ rec32 r 4 = c.cycle.gopCyc
        (¬asked → d = back r) ∧ (asked → d = ({ (back r) with cycle := { (back r).cycle with
          snapNode := c.cycle.snapNode.put (g * 64 + p) r, gopAcked := insertNat (g * 64 + p) c.cycle.gopAcked } } : Core).gopCheck))) ∧
    (∀ bid fr ofs data, ∃ d : Core, exec (.mbxVburst g p n gen bid fr ofs data) s = .next (s.after d) ∧ outcome (burst bid fr ofs data) d ∧
      (named → cr.out = true →
        let hit (b : VBurst) : VBurst := if b.seg = g && b.pos = p && b.grant.isSome then b.frag bid fr ofs data else b
        let e := back (burst bid fr ofs data)
        d = { e with vis := e.vis.mapBursts hit })) ∧
    (∀ k, let has : Bool := q.implied.any fun i => i.node = p && i.mseq = k
      (has = true → exec (.mbxAck g p k) s = .next (s.after (sl fun q => { q with
        implied := q.implied.eraseP fun i => decide (i.node = p) && decide (i.mseq = k), acked := q.acked ++ [(p, k)], ret := q.ret + 1 }))) ∧
      (has = false → (p, k) ∈ q.acked → exec (.mbxAck g p k) s = .next (s.after (sl fun q => { q with acked := q.acked.erase (p, k) }))) ∧
      (has = false → (p, k) ∉ q.acked → exec (.mbxAck g p k) s = .next (s.after stale))) ∧
    (∀ d, (x.phase = .admission ∧ x.pos = p ∧ x.sub = 1) ∨ (x.node p).readmit = 3 →
      (∀ i, (x.node p).ident = some i → i.good = true → exec (.mbxIdent g p d) s = .next (s.after (c.putSg g (x.updNode p id)))) ∧
      ((∀ i, (x.node p).ident = some i → i.good = false) →
        let st : NodeSt := if (x.node p).st = .absent ∨ (x.node p).st = .lost then .present else (x.node p).st
        exec (.mbxIdent g p d) s = .next (s.after (c.putSg g (x.updNode p fun k => { k with ident := some d, caps := d.caps, st := st }))))) ∧
    (let a := q.timeoutPool g (c.is g).credTmo c.cycle.cycle
     let b := a.1.timeoutImplied g (c.is g).credTmo c.cycle.cycle
     exec (.creditTimeout g) s = .next (s.after ((c.putSl g b.1).raise (a.2 ++ b.2)))) ∧
    (∀ side area, side < 2 → (c.po (2 * g + side)).link = true →
      exec (.driveCopyReturn g side true area) s = .next (s.after
        ((c.updPort (2 * g + side) fun y => { y with rxfrm := y.rxfrm + 1 }).mbxArea g (area.take 96))) ∧
      exec (.driveCopyReturn g side false area) s = .next (s.after
        ((c.updPort (2 * g + side) fun y => { y with rxcrc := y.rxcrc + 1 }).putSl g { q with
          frmret := halfInc q.frmret side
          suspect := if side = 0 then { q.suspect with dbadA := true } else { q.suspect with dbadB := true } })))


/-- R197, R203 to R208: PTP on a plant port whose engine is in service, for a domain whose time base is. A one-step Sync or
the Follow_Up of a two-step one is a measurement, and one of the source domain steers ring time; requests are answered by their role and
measure the path when they return, with the latencies and the asymmetry of the port; an Announce that is better than its parent's, or
comes from it, sets the parent and the port states; a message that fails its checks is counted, one that no instance serves discarded.
A domain without Sync or Announce for its time loses its validity, an instance that hears no Announce takes the master role where it may,
and the periodic messages leave with their stamps. Best-master choices that the manual leaves to IEEE 1588 are log entry 8. -/
def Obligations.PtpMessages : Prop :=
  ∀ (s : State) (m : PtpMsg) (n turn : Nat), n = 1 ∨ n = 2 → s.base.boot.st = .running →
    let c := s.base
    let t := c.time
    let d := t.ptp n
    let b := t.domBase n
    let w := c.image.time.cfg n
    let lat := c.image.time.latIn m.port
    let latOut := c.image.time.latOut m.port
    let asym := c.image.time.asymOf m.port
    let thr := t.validThr
    let mine : Prop := c.ptpUp m.port = true ∧ m.ok = true ∧ c.image.time.domOf m.port m.domain m.udp = some n ∧ c.iso 1 n = false
    let messages : List Instr := [.ptpSync m, .ptpFollowUp m, .ptpDelayReq m, .ptpDelayResp m, .ptpPdelayReq m turn, .ptpPdelayResp m,
      .ptpPdelayRespFollowUp m, .ptpAnnounce m]
    let ran (o : DomOut) : TimeState × List Ev :=
      let y := t.putDom n o
      let e := y.servo c.cycle.running ((y.now - (y.dom n).now).toInt - y.thetaNow)
      if (o.dom.lastSync != d.lastSync || o.base != b) && t.src = n then (e.1, o.evs ++ e.2) else (y, o.evs)
    let gives (o : DomOut) : State :=
      s.after { (({ c with time := (ran o).1 } : Core).raise (ran o).2) with outs := o.tx.map Output.ptp }
    let quiet (x : PtpDomain) : State := gives { dom := x, base := b }
    let sends (x : PtpDomain) (l : List PtpTx) : State := gives { dom := x, base := b, tx := l.map fun y => y.on w }
    let timed (a : Core) (x : PtpDomain) (e : List Ev) (l : List PtpTx) : State := s.after
      { (({ a with time := a.time.putDom n { dom := x, base := a.time.domBase n } } : Core).raise e) with outs := l.map fun y => Output.ptp (y.on w) }
    let tx (k seq : Nat) : PtpTx := { port := m.port, domain := fld w 7 0, mtype := k, seq := seq }
    let at' : Int := ((b.now).toNat : Int) + latOut
    let off : PtpDomain := { d with valid := false, inWin := 0 }
    let lost : List Ev := if d.valid then [ev0 EvNo.domainInvalid n] else []
    let hears : Prop := d.slaveOn m.port = true ∧ d.capable w m.port = true
    (mine → hears → m.twoStep = true → exec (.ptpSync m) s =
      .next (quiet { d with wantFup := some (m.seq, ingress b m.stamp lat asym, m.corr) })) ∧
    (mine → hears → m.twoStep = false → exec (.ptpSync m) s = .next (gives
      (domSync { d with wantFup := none } b n thr c.now m.port (m.ts + corrRt m.corr) (ingress b m.stamp lat asym)))) ∧
    (mine → ¬hears → exec (.ptpSync m) s = .next (quiet d)) ∧
    (∀ t2 k, mine → d.slaveOn m.port = true → d.wantFup = some (m.seq, t2, k) → exec (.ptpFollowUp m) s = .next (gives
      (domSync { d with wantFup := none } b n thr c.now m.port (m.ts + corrRt (m.corr + k)) t2))) ∧
    (mine → d.slaveOn m.port = false ∨ (∀ t2 k, d.wantFup ≠ some (m.seq, t2, k)) → exec (.ptpFollowUp m) s = .next (quiet d)) ∧
    (mine → d.ps m.port = .master → domP2p w = false → let r := txStamp (ingress b m.stamp lat 0)
      exec (.ptpDelayReq m) s = .next (sends d
        [{ port := m.port, domain := m.domain, mtype := 9, seq := m.seq, ts := r.1, corr := m.corr - r.2 }])) ∧
    (mine → d.ps m.port ≠ .master ∨ domP2p w = true → exec (.ptpDelayReq m) s = .next (quiet d)) ∧
    (∀ t3, mine → m.mine = true → d.dreq = some (m.seq, t3) → exec (.ptpDelayResp m) s = .next (quiet { d with
      dreq := none, mpd := ((d.t2 - d.t1) + ((m.ts - corrRt m.corr) - t3)) / 2 })) ∧
    (mine → m.mine = false ∨ (∀ t3, d.dreq ≠ some (m.seq, t3)) → exec (.ptpDelayResp m) s = .next (quiet d)) ∧
    (mine → domP2p w = true →
      let t2 := ingress b m.stamp lat 0
      let t3 : Int := t2 + lat + turn + latOut
      let r : PtpTx := { port := m.port, domain := m.domain, mtype := 3, seq := m.seq }
      (domOneStep w = true → exec (.ptpPdelayReq m turn) s = .next (sends d [{ r with corr := m.corr + (t3 - t2) * 0x4000 }])) ∧
      (domOneStep w = false → exec (.ptpPdelayReq m turn) s = .next (sends d
        [{ r with ts := (txStamp t2).1, corr := -(txStamp t2).2, twoStep := true },
         { r with mtype := 0xA, ts := (txStamp t3).1, corr := m.corr + (txStamp t3).2 }]))) ∧
    (mine → domP2p w = false → exec (.ptpPdelayReq m turn) s = .next (quiet d)) ∧
    (mine → m.mine = false ∨ (∀ t1, d.preq.look? m.port ≠ some (m.seq, t1)) →
      exec (.ptpPdelayResp m) s = .next (quiet d) ∧ exec (.ptpPdelayRespFollowUp m) s = .next (quiet d)) ∧
    (mine → d.presp.look? m.port = none → exec (.ptpPdelayRespFollowUp m) s = .next (quiet d)) ∧
    (∀ t1, mine → m.mine = true → d.preq.look? m.port = some (m.seq, t1) →
      (m.twoStep = true → exec (.ptpPdelayResp m) s = .next (quiet { d with
        presp := d.presp.put m.port ((m.ts : Int) - corrRt m.corr, ingress b m.stamp lat asym) })) ∧
      (m.twoStep = false → exec (.ptpPdelayResp m) s = .next (quiet
        (domPeer d w m.port t1 (ingress b m.stamp lat asym) (corrRt m.corr) none))) ∧
      (∀ t2 t4, d.presp.look? m.port = some (t2, t4) → let t3 : Int := m.ts + corrRt m.corr
        exec (.ptpPdelayRespFollowUp m) s = .next (quiet (domPeer d w m.port t1 t4 (t3 - t2) (some t3))))) ∧
    (mine → m.ann.path.contains c.image.time.own.gm = true ∨ d.capable w m.port = false → exec (.ptpAnnounce m) s = .next (quiet d)) ∧
    (mine → m.ann.path.contains c.image.time.own.gm = false → d.capable w m.port = true →
      let a := m.ann
      let x : PtpDomain := { d with parent := some a, parentPort := m.port, lastAnn := c.now }
      let put (r : PtpDomain × List Ev) (e : List Ev) : State := gives { dom := r.1, base := b, evs := e ++ r.2 }
      let back (y : PtpDomain) : PtpDomain × List Ev := if domRole w = 3 then y.setPs (1 - m.port) .master else (y, [])
      (∀ p, d.parent = some p → (p.sender == a.sender && d.parentPort == m.port) = false → a.better p = false →
        exec (.ptpAnnounce m) s = .next (quiet d)) ∧
      (d.parent = none ∨ (∃ p, d.parent = some p ∧ ((p.sender == a.sender && d.parentPort == m.port) || a.better p) = true) →
        let changed : Bool := (d.parent.map fun p => p.gm != a.gm).getD false
        let e0 : List Ev := if changed && d.valid then [ev0 EvNo.ptpGmChanged n] else []
        (domRole w ≠ 1 → c.image.time.own.better a = true → exec (.ptpAnnounce m) s = .next (put (x.setPs m.port .master) e0)) ∧
        (domRole w = 1 ∨ c.image.time.own.better a = false →
          (d.slaveOn m.port = true → changed = false → exec (.ptpAnnounce m) s = .next (put (back x) e0)) ∧
          (d.slaveOn m.port = false ∨ changed = true → let y := x.setPs m.port .uncalibrated
            exec (.ptpAnnounce m) s = .next (put (back y.1) (e0 ++ y.2)))))) ∧
    (c.ptpUp m.port = true →
      (m.ok = false → (∀ i ∈ messages, exec i s = .next (s.after { c with time := t.ptpDiscard m.port })) ∧
        exec (.ptpOtherDiscard m.port true) s = .next (s.after { c with time := t.ptpDiscard m.port })) ∧
      (m.ok = true → (∀ k, c.image.time.domOf m.port m.domain m.udp = some k → c.iso 1 k = true) →
        ∀ i ∈ messages, exec i s = .next (s.after c)) ∧
      exec (.ptpOtherDiscard m.port false) s = .next (s.after c)) ∧
    (domRole w ≠ 0 → c.iso 1 n = false →
      let a := if d.valid then c.at (rtAdd d.lastSync (3 * logInterval (fld w 19 16) : Nat)) else c
      exec (.syncReceiptTimeout n) s = .next (timed a { off with wantFup := none } lost [])) ∧
    (∀ p, domRole w ≠ 0 → c.iso 1 n = false → d.parent = some p →
      let a := c.at (rtAdd d.lastAnn (fld w 27 24 * logInterval (fld w 23 20) : Nat))
      let x := off.setPs d.parentPort (if domRole w = 1 then .listening else .master)
      exec (.announceReceiptTimeout n) s = .next (timed a { x.1 with parent := none, wantFup := none } (lost ++ x.2) [])) ∧
    (domRole w ≠ 0 → c.iso 1 n = false → d.parent = none →
      let x := if d.psA = .listening then d.setPs 0 .master else (d, [])
      let y := if x.1.psB = .listening then x.1.setPs 1 .master else (x.1, [])
      (2 ≤ domRole w → exec (.announceReceiptTimeout n) s = .next (timed c y.1 (x.2 ++ y.2) [])) ∧
      (domRole w = 1 → exec (.announceReceiptTimeout n) s = .next (timed c d [] []))) ∧
    (c.ptpUp m.port = true → domRole w ≠ 0 → c.iso 1 n = false → domUses w m.port = true →
      let speaks : Bool := d.ps m.port == .master && d.capable w m.port
      let stamp (x : PtpTx) : PtpTx := { x with ts := (txStamp at').1, corr := (txStamp at').2 }
      (speaks = true → domOneStep w = true → exec (.ptpMessageInterval n m.port 0) s = .next (timed c
        { d with seqSync := (d.seqSync + 1) % 65536 } [] [stamp (tx 0 d.seqSync)])) ∧
      (speaks = true → domOneStep w = false → exec (.ptpMessageInterval n m.port 0) s = .next (timed c
        { d with seqSync := (d.seqSync + 1) % 65536 } [] [{ (tx 0 d.seqSync) with twoStep := true }, stamp (tx 8 d.seqSync)])) ∧
      (speaks = true → exec (.ptpMessageInterval n m.port 0xB) s = .next (timed c
        { d with seqAnn := (d.seqAnn + 1) % 65536 } [] [{ (tx 0xB d.seqAnn) with ann := some (d.announced w c.image.time.own m.port) }])) ∧
      (speaks = false → exec (.ptpMessageInterval n m.port 0) s = .next (timed c d [] []) ∧
        exec (.ptpMessageInterval n m.port 0xB) s = .next (timed c d [] [])) ∧
      (d.slaveOn m.port = true → domP2p w = false → exec (.ptpMessageInterval n m.port 1) s = .next (timed c
        { d with dreq := some (d.seqReq, at'), seqReq := (d.seqReq + 1) % 65536 } [] [{ (tx 1 d.seqReq) with corr := -asym * 0x4000 }])) ∧
      (domP2p w = true → exec (.ptpMessageInterval n m.port 2) s = .next (timed c (d.askPeer m.port at') []
        [{ (tx 2 d.seqReq) with corr := -asym * 0x4000 }])))

/-- R196, R199 to R201, R215 to R217, R222: ring time and its pins. Every 1 ms the source is chosen: PREF 0 means FREE; without a source
the permitted domain is taken, PREF first; a source that is lost is replaced where AUTO permits it, else HOLDOVER begins with the mean
rate; where REVERT permits it, PREF is taken back after REVERT_S seconds of its validity. A switch takes Θ anew and steps no ring time.
HOLD_MAX ends HOLDOVER in FREERUN, a slew ends on its target in TRACK. A selected edge of TRG_IO is captured with its compensated time, in
the order of those times, or counted where 64 wait; a PPS output rises at the whole second of its timescale, advanced by the pin's output
latency, and falls 10 µs later. The latencies' units are log entry 1. -/
def Obligations.RingTimeAndPins : Prop :=
  (∀ (t : TimeState) (d : Nat), let u := (t.switchTo d).1
    u.ring = t.ring ∧ u.src = d ∧ u.theta = (t.ring.hostRead - (t.domBase d).hostRead).toInt ∧
    (u.rtState = .track ∨ u.rtState = .slew) ∧ ev0 EvNo.rtSourceChanged ∈ (t.switchTo d).2) ∧
  (∀ (s : State) (n : Nat), n < 4 →
    let c := s.base
    let t := c.time
    let p := t.pref
    let valid : Option Rt := if t.prefFor = p then some (t.prefAt.getD t.now) else some t.now
    let t' : TimeState := { t with prefAt := if t.domValid p then valid else none, prefFor := p }
    let put (r : TimeState × List Ev) : State := s.after (({ c with time := r.1 } : Core).raise r.2)
    let auto : Prop := c.boot.st = .running ∧ t.manual = false ∧ t.rtState ≠ .follow
    let none' : Prop := t.rtState = .free ∨ t.rtState = .holdover ∨ t.rtState = .freerun
    let held : Prop := t.rtState = .track ∨ t.rtState = .slew
    let revert : Prop := bit t.rtCtl 3 = true ∧ t.src ≠ p ∧ t.domValid p = true ∧
      t.revertS * 4000000000 ≤ (rtDiff t.now (if t.prefFor = p then t.prefAt.getD t.now else t.now)).toNat
    (auto → p = 0 → exec .sourceSelection s = .next (put (t'.goFree c.image.time, []))) ∧
    (auto → p ≠ 0 → none' → t.domValid p = true → exec .sourceSelection s = .next (put (t'.switchTo p))) ∧
    (auto → p ≠ 0 → none' → t.domValid p = false → (bit t.rtCtl 2 && t.domValid (3 - p)) = true →
      exec .sourceSelection s = .next (put (t'.switchTo (3 - p)))) ∧
    (auto → p ≠ 0 → none' → t.domValid p = false → (bit t.rtCtl 2 && t.domValid (3 - p)) = false →
      exec .sourceSelection s = .next (put (t', []))) ∧
    (auto → p ≠ 0 → held → t.domValid t.src = true →
      (revert → exec .sourceSelection s = .next (put (t'.switchTo p))) ∧
      (¬revert → exec .sourceSelection s = .next (put (t', [])))) ∧
    (auto → p ≠ 0 → held → t.domValid t.src = false → (bit t.rtCtl 2 && t.domValid (3 - t.src)) = true →
      exec .sourceSelection s = .next (put (t'.switchTo (3 - t.src)))) ∧
    (auto → p ≠ 0 → held → t.domValid t.src = false → (bit t.rtCtl 2 && t.domValid (3 - t.src)) = false →
      exec .sourceSelection s = .next (put ({ t' with
        ring := t.ring.setRate (meanRate t.rates t.ring.rho), theta := t.thetaNow, slew := none, rtState := .holdover
        holdAt := t.now }, [ev0 EvNo.holdoverEntered]))) ∧
    (c.boot.st = .running → t.manual = true ∨ t.rtState = .follow → exec .sourceSelection s = .next (put (t', []))) ∧
    (c.boot.st = .running → t.rtState = .holdover → t.manual = false →
      let a := c.at (rtAdd t.holdAt (t.holdMax * 4000000000 : Nat))
      exec .holdMaxExpiry s = .next (s.after (({ a with time := { a.time with rtState := .freerun } } : Core).raise
        [ev0 EvNo.holdoverExpired]))) ∧
    (∀ w, c.boot.st = .running → t.slew = some w →
      let a := t.advanceTo (w.start + BitVec.ofNat 64 (slewTime (t.theta0 - w.from').natAbs w.vmax w.acc))
      exec .slewDone s = .next (put ({ a with theta := t.theta0, slew := none, rtState := .track }, [ev0 EvNo.rtSlewDone]))) ∧
    (∀ rising e, c.trgUp = true →
      let a := c.at e
      let r := rising != t.pinInv n
      let taken : Prop := t.pinMode n = 3 ∨ t.pinMode n = 1 ∧ r = true ∨ t.pinMode n = 2 ∧ r = false
      let u := c.pinTime n e
      (taken → t.caps.length < 64 → exec (.trgCaptureEdge n rising e) s = .next (s.after { a with time := { a.time with
        caps := insertCap { rt := u, pin := n, rising := r } t.caps } })) ∧
      (taken → 64 ≤ t.caps.length → exec (.trgCaptureEdge n rising e) s = .next (s.after
        (({ a with time := { a.time with capOvf := incWrap 16 t.capOvf } } : Core).raise [(ev0 EvNo.capOverflow).limited 0]))) ∧
      (¬taken → exec (.trgCaptureEdge n rising e) s = .next (s.after a))) ∧
    (∀ b, c.trgUp = true → t.ppsBase (t.pinMode n) = some b →
      let v := b.now.toNat + (c.outLatency n).toNat
      let a := c.at (rtAdd t.now ((4000000000 - v % 4000000000) % 4000000000 : Nat))
      exec (.ppsEdge n true) s = .next (s.after (({ a with time := { a.time with pps := a.time.pps.put n a.time.now } } : Core).out
        (.pps n (true != a.time.pinInv n))))) ∧
    (∀ b x, c.trgUp = true → t.ppsBase (t.pinMode n) = some b → t.pps.look? n = some x →
      let a := c.at (rtAdd t.now (rtDiff (rtAdd x 40000) t.now))
      exec (.ppsEdge n false) s = .next (s.after (({ a with time := { a.time with pps := a.time.pps.del n } } : Core).out
        (.pps n (false != a.time.pinInv n))))))

/-- R28 to R40, R44, R600, R621: a fault that a cell reports. The record with its action goes to the region's register, the fault history
and the lifetime count. ECC1 is CORRECTED; a loss of an item counts towards the fourth, which isolates; an isolating cause takes the block
out of service, degrades or loses its region by R33, and, where the region function goes, orders CHIP_SAFE and an ESCALATION reset. A
handshake watchdog is the cause HSTO. The chip error manager corrects its own ECC1 without a record and stops on what would isolate it;
once it has stopped the blocks act without records and without a chip outcome. A block that is isolated, absent or unpowered reports
nothing. The events of a lost region are log entry 60. -/
def Obligations.CellFaults : Prop :=
  ∀ (s : State) (region block word : Nat) (site : FaultSite),
    let c := s.base
    let full : Verdict := { action := 7, isolate := true, regionLost := true, safe := .all, reset := true }
    let other := decide (region = 0) && decide (block < 8) && c.iso 0 (if block % 2 = 0 then block + 1 else block - 1)
    let v := isoOutcome region block other
    let at' : Nat := if region = 3 ∧ block = 29 then word / 4 else word
    let noted (w : Verdict) (cause : Nat) : Core :=
      let r := c.errRecord region block cause w.action (site.detail cause at')
      let r : Core := if w.action = 1 then { r with err := { r.err with
        corr := r.err.corr.upd region 0 (· + 1), corrEv := insertNat region r.err.corrEv } } else r
      if c.err.cemStopped then c else r.raise (w.events region block (c.err.corrEv.contains region))
    let count (d : Core) : Core := { d with err := d.err.countLost region block }
    let out (d : Core) (lost : Bool) (cause : Nat) : State :=
      let e := (({ d with err := d.err.isolate region block } : Core).faultSite site lost (decide (cause = 5))).leaveService region block
      let safe := if v.safe = .none then e.chipSafe v.safe else (e.chipSafe v.safe).frRecord 1
      let r := safe.frRecord 2
      let due : Core := { r with err := { r.err with
        safeAt := some r.now, safeBlk := 256 * region + block, ledgerEnded := !r.ledgerOk, ledgerLost := !r.ledgerOk } }
      s.after (if e.err.cemStopped then e else if v.reset = false then safe else if r.err.safeAt.isSome then r else due)
    let live : Prop := c.boot.held = false ∧ c.iso region block = false ∧ block < blocksOf region ∧
      ¬(c.boot.lp = .standby ∧ (region = 0 ∨ region = 2)) ∧ ¬(region = 5 ∧ block = 9)
    let listed : Prop := ∃ k t, site = .listEntry k t
    let gives (cause : Nat) (t : State) : Prop := exec (.cellFault region block cause site word) s = .next t ∧
      (site = .plain → cause = 3 → word = 0 → exec (.handshakeWatchdogExpiry region block) s = .next t)
    (live → gives 1 (s.after (noted { action := 1 } 1))) ∧
    (∀ cause, cause = 2 ∧ site ≠ .programStore ∨ cause = 4 ∨ cause = 7 ∨ cause = 5 ∧ listed → live →
      (c.err.lost.look (blkKey region block) 0 < 3 → gives cause (s.after
        ((count (noted { action := 2, lost := true } cause)).faultSite site true (decide (cause = 5))))) ∧
      (3 ≤ c.err.lost.look (blkKey region block) 0 → gives cause (out (count (noted { v with lost := true } cause)) true cause))) ∧
    (∀ cause, cause = 2 ∧ site = .programStore ∨ cause = 3 ∨ cause = 5 ∧ ¬listed ∨ cause = 6 ∨ cause = 8 ∨ cause = 9 → live →
      gives cause (out (noted v cause) (decide (cause = 2)) cause)) ∧
    (region = 1 ∧ (block = 0 ∨ block = 5) ∨ region = 2 ∧ block = 0 ∨ region = 5 ∧ (block = 6 ∨ block = 7) → v = full) ∧
    (region = 4 → v.action = 6 ∧ v.safe = .guard ∧ v.reset = false) ∧
    (region = 0 → 8 ≤ block → block < 12 → v.action = 6 ∧ v.safe = .segment (block - 8) ∧ v.reset = false) ∧
    (region = 0 → block < 8 → other = true → v.action = 6 ∧ v.safe = .segment (block / 2) ∧ v.reset = false) ∧
    (region = 2 → 53 ≤ block → block ≤ 60 → v.action = 6 ∧ v.safe = .bank (block - 53) ∧ v.reset = false) ∧
    (region = 3 ∨ region = 2 ∧ 1 ≤ block ∧ block < 53 ∨ region = 0 ∧ block < 8 ∧ other = false ∨ region = 1 ∧ block ≠ 0 ∧ block ≠ 5 ∨
      region = 5 ∧ block ≠ 6 ∧ block ≠ 7 → v.action = 4 ∧ v.safe = .none ∧ v.reset = false) ∧
    (∀ cause, c.boot.held = true ∨ c.iso region block = true ∨ blocksOf region ≤ block ∨
        (c.boot.lp = .standby ∧ (region = 0 ∨ region = 2)) →
      gives cause (s.after c)) ∧
    (c.boot.held = false → c.iso 5 9 = false →
      (c.err.cemStopped = false → exec (.cellFault 5 9 1 site word) s =
        .next (s.after { c with err := { c.err with corr := c.err.corr.upd 5 0 (· + 1) } })) ∧
      (∀ cause, cause = 2 ∧ site = .programStore ∨ cause = 3 ∨ cause = 5 ∨ cause = 6 ∨ cause = 8 ∨ cause = 9 →
        ∃ d : Core, exec (.cellFault 5 9 cause site word) s = .next (s.after d) ∧ d.err = { c.err with cemStopped := true } ∧ d.led = c.led) ∧
      ∃ d : Core, exec (.handshakeWatchdogExpiry 5 9) s = .next (s.after d) ∧ d.err = { c.err with cemStopped := true } ∧ d.led = c.led)

/-- R32, R166, R177, R182, R295, R396, R405, R425, R429, R468, R541, R571, R666: what becomes of the item that a fault loses, besides its record. An item
that carried an axis's data cancels that axis's chain with reason 0x2 and changes no axis's state. A trace record turns into LOST; an entry of the
log keeps its place and reads NUM 0xFF; a table is bad and refused, and an axis that runs it is in AX_FAULT; a Visor record gets MEMERR; the
state of an ADC pair is cleared and its next peak is a tracking error; of a unicast mailbox record that asks for acknowledgment the implied
credit is out, and of a GRANT its credit, so that its timeout sends it again; a capture leaves its FIFO (log entry 60). An uncorrectable word of an axis's
configuration is rewritten with 0 and puts it into AX_FAULT, a lost reception bars its copy, and a parity fault in its phase sets PROV. -/
def Obligations.LostItems : Prop :=
  ∀ (c : Core) (st : Bool) (a t i n k m off : Nat) (w : DownRec) (q : List DownRec) (f : VFill) (u : EventUnit),
    (1 ≤ t ∧ t ≤ 7 → c.faultSite (.task a t) true st = c.cancelEmpty a 2 ∧ c.faultSite (.listEntry a t) true st = c.cancelEmpty a 2 ∧
      c.faultSite (.feed a) true st = c.cancelEmpty a 2 ∧
      (c.cancelEmpty a 2).words = c.words ∧ (c.cancelEmpty a 2).eng.axis = c.eng.axis) ∧
    (let d := c.faultSite (.traceEntry i) true st
     d.disp.trace.length = c.disp.trace.length ∧ (i < c.disp.trace.length → d.disp.trace[i]? = some ⟨0, 0xF, 0, 0⟩) ∧
     ∀ j, j ≠ i → d.disp.trace[j]? = c.disp.trace[j]?) ∧
    ((c.faultSite (.logEntry i) true st).lostLog = c.lostLog ++ [(i, c.freeCtr)] ∧ (u.lose i k).log.length = u.log.length ∧
      (∀ e, (u.lose i k).log[i]? = some e → e.num = 0xFF) ∧ ∀ j, j ≠ i → (u.lose i k).log[j]? = u.log[j]?) ∧
    (let d := c.faultSite (.tableEntry i) true st
     (∀ x y, (c.prof.descOf x).first ≤ i → i < (c.prof.descOf x).first + (c.prof.descOf x).count → d.prof.tableOk x y = false) ∧
     ∀ b r, c.hasAx b = true → (c.pa b).tbl = some r → (c.prof.descOf r.desc).first ≤ i →
       i < (c.prof.descOf r.desc).first + (c.prof.descOf r.desc).count → (d.ax b).state = .fault) ∧
    (c.vis.fill = some f → c.vis.done.getLsbD f.area = false →
      (c.faultSite (.visorRecord f.area) true st).vis.fill = some { f with memErr := true }) ∧
    (let d := c.faultSite (.chanRegion n) true st
     (n < 8 → d.sig.lost.getLsbD n = true) ∧ (∀ j, j ≠ n → d.sig.lost.getLsbD j = c.sig.lost.getLsbD j) ∧
     (d.ch n).turns = 0 ∧ (d.ch n).peaks = [] ∧ (d.ch n).pos = (c.ch n).pos ∧ ∀ j, j ≠ n → d.ch j = c.ch j) ∧
    ((c.sl n).queue.look k [] = w :: q → w.addr ≠ 0xFF → w.mtype = 0x02 → ∀ z, (c.sl n).freeCredit (c.is n).pool = some z →
      let d := (c.faultSite (.mailbox n k) true st).sl n
      d.queue.look k [] = q ∧ (d.credits.look z {}).out = true) ∧
    ((c.sl n).queue.look k [] = w :: q → w.addr ≠ 0xFF → w.mtype ≠ 0x02 → w.ackReq = true →
      let d := (c.faultSite (.mailbox n k) true st).sl n
      d.queue.look k [] = q ∧ d.grant = (c.sl n).grant + 1 ∧
      d.implied = (c.sl n).implied ++ [{ node := w.addr, mseq := w.tag % 128, sent := c.cycle.cycle, tries := w.tries, msg := w }]) ∧
    (i < c.time.caps.length →
      let d := (c.faultSite (.capEntry i) true st).time
      d.caps = c.time.caps.eraseIdx i ∧ d.capOvf = (c.time.capOvf + 1) % 65536) ∧
    (m < (c.ch n).latch.length → ((c.faultSite (.latchEntry n m) true st).ch n).latch = (c.ch n).latch.eraseIdx m) ∧
    (c.hasAx a = true → ((c.faultSite (.axisConfig a off) true st).ax a).state = .fault) ∧
    (c.faultSite (.axisConfig a off) true st = (c.zeroCfgWord a off).axisFault a 8 ∧ (c.zeroCfgWord a off).cfgWord a off = 0) ∧
    (let d := (c.faultSite (.rxCopy n k i) true st).sl n
     d.barred k i = true ∧ ∀ j, j ≠ k → d.rxOf j = (c.sl n).rxOf j) ∧
    ((c.faultSite (.axisPhase a) false true).fa a).prov = true ∧
    c.faultSite (.axisConfig a off) false st = c ∧ c.faultSite (.tableEntry i) false st = c ∧ c.faultSite (.mailbox n k) false st = c

/-- R36, R69, R70, R593, R613, R621, R622: the end of the ledger write of an ESCALATION reset, and the epoch's passes. What a scrub finds is a
fault of its block, and an ECC2 also raises EV_SCRUB_ERROR; a mismatch of the re-verification is PARC; the ledger scrub counts what it
finds and goes to the next of 64 parts. In the brace state no pass ends. -/
def Obligations.EpochPasses : Prop :=
  ∀ (s : State) (finds : List ScrubFind) (bad : Option (Nat × Nat × Nat)) (cor unc : Nat),
    let c := s.base
    let found := finds.foldl (fun (d : Core) x =>
      if x.ecc2 = true then (d.cellFault x.region x.block 2 x.site x.word).raise [evBlock EvNo.scrubError x.region x.block]
      else d.cellFault x.region x.block 1 x.site x.word) c
    let lost := (finds.filter fun x => x.ecc2).length
    let mism : Core := match bad with
      | some x => c.cellFault x.1 x.2.1 5 .plain x.2.2
      | none => c
    (∀ t, c.err.safeAt = some t →
      exec .ledgerWriteDone s = .next (s.after { c with err := { c.err with ledgerEnded := true } })) ∧
    (c.err.safeAt = none → exec .ledgerWriteDone s = .next (s.after c)) ∧
    (c.health.braced = false →
      (c.cycle.scrubRun = true → exec (.sramScrubDone finds) s = .next (s.after { found with
        cycle := { found.cycle with scrubRun := false, scrubDone := true }
        health := { found.health with scrubCor := (finds.length - lost) % 65536
                                      scrubUnc := (found.health.scrubUnc + lost) % 65536 } })) ∧
      (c.cycle.reverRun = true → exec (.reverifyDone bad) s = .next (s.after { mism with
        cycle := { mism.cycle with reverRun := false, reverDone := true } })) ∧
      (c.cycle.ledgRun = true → exec (.ledgerScrubDone cor unc) s = .next (s.after (({ c with
        cycle := { c.cycle with ledgRun := false, ledgDone := true }
        led := { c.led with
          errCor := c.led.errCor + cor, errUnc := c.led.errUnc + unc, scrub := (c.led.scrub + 1) % 64
          led := { c.led.led with life := { c.led.led.life with errors := c.led.led.life.errors + cor + unc } } } } : Core).raise
            (List.replicate unc (ev0 EvNo.ledgerError)))))) ∧
    (c.health.braced = true → exec (.sramScrubDone finds) s = .next (s.after c) ∧ exec (.reverifyDone bad) s = .next (s.after c) ∧
      exec (.ledgerScrubDone cor unc) s = .next (s.after c))

/-- R610, R613, R614, R616, R617, R619, R620: supplies, temperature and margin. A low core rail enters the brace state and aborts a
re-test, any other warning sets its bits and counts; the brace ends with its late closes and its length in units of 10 µs; a report of Tj sets WARN
and THOT with their hysteresis, and HIGH asks for PARKED; the replica ratio is 2^15 times the longest beat over 900 ps. -/
def Obligations.SuppliesAndTemperature : Prop :=
  ∀ (s : State) (rail mv : Nat) (high : Bool) (tj : Int) (beats : List Nat),
    let c := s.base
    let h := c.health
    let m : HealthState := { h with
      rail := h.rail.upd rail {} fun r => { r with mv := mv, mvMin := some (min (r.mvMin.getD mv) mv) }
      mvRec := h.mvRec.upd rail 0xFFFF (min mv) }
    let low : HealthState := { m with rail := m.rail.upd rail {} fun r => { r with low := true, stLow := true } }
    let above : HealthState := { m with rail := m.rail.upd rail {} fun r => { r with high := true, stHigh := true } }
    let warned (d : Core) : Core := d.updLed fun l => { l with life := { l.life with warnings := l.life.warnings + 1 } }
    let braced (d : Core) : Core := d.updLed fun l => { l with life := { l.life with braces := l.life.braces + 1 } }
    let brace : Core := braced (warned (({ c with health := { low with
      braced := true, braceAt := c.now, braceN := incWrap 16 h.braceN, lateNow := 0 } } : Core).raise
        [supplyEv rail false, ev0 EvNo.braceEntered]))
    (c.boot.held = false → c.iso 5 6 = false → rail < 7 →
      (rail = 0 ∨ rail = 1 → h.braced = false →
        (c.maint.running .retest = false → exec (.supplyWarning rail mv) s = .next (s.after brace)) ∧
        (c.maint.running .retest = true →
          let f := c.maint.finishAct .retest false
          exec (.supplyWarning rail mv) s =
            .next (s.after (({ brace with maint := { f.1 with rstat := 0, reason := 3 } } : Core).raise f.2)))) ∧
      (2 ≤ rail ∨ h.braced = true → exec (.supplyWarning rail mv) s =
        .next (s.after (warned (({ c with health := low } : Core).raise [supplyEv rail false])))) ∧
      exec (.overvoltageWarning rail mv) s = .next (s.after (warned (({ c with health := above } : Core).raise [supplyEv rail true]))) ∧
      exec (.supplyWarningCleared rail mv high) s = .next (s.after { c with health := { m with
        rail := m.rail.upd rail {} fun r => if high then { r with high := false } else { r with low := false } } })) ∧
    (c.boot.held = false → c.iso 5 6 = false → (h.rail.look 0 {}).low = false → (h.rail.look 1 {}).low = false → h.braced = true →
      let d := min 65535 ((rtDiff c.now h.braceAt).toNat / 40000)
      exec .braceLeft s = .next (s.after (({ c with health := { h with braced := false, braceMax := max h.braceMax d } } : Core).raise
        [{ num := EvNo.braceLeft, code := min 255 h.lateNow, obj := d }]))) ∧
    (c.boot.held = false → c.iso 5 7 = false → ∃ t, exec (.tjUpdate tj) s = .next t ∧
      let w : Int := 16 * h.warn
      let k := t.chip.core
      k.health.tj = tj ∧ k.health.twarn = (if w ≤ tj then true else if tj < w - 80 then false else h.twarn) ∧
      k.health.thot = (if 1920 ≤ tj then true else if tj < w then false else h.thot) ∧
      k.boot = (if 1920 ≤ tj ∧ h.hotLev = false ∧ c.boot.st = .running ∧ c.boot.lp = .run ∧ c.boot.lpDue ≠ some .standby
        then { c.boot with lpDue := some .parked } else c.boot) ∧
      k.led.led.life.hot = c.led.led.life.hot + (if 1680 < tj then h.hotMs + 1 else h.hotMs) / 1000 ∧ k.time = c.time) ∧
    (c.boot.held = false → c.standby = false →
      let r := min 65535 (beats.foldl max 0 * 32768 / 900)
      exec (.replicaMeasure beats) s = .next (s.after (({ c with health := { h with rho := r, rhoMax := max h.rhoMax r } } : Core).raise
        (if fld h.margin 15 0 < r then [({ num := EvNo.slackMargin, code := 1 } : Ev).limited 0xFF] else []))))

/-- R586, R600, R604, R624 to R626, R630: the ends of maintenance. A passed re-test brings its block back at the boundary, or at once where no
cycle runs, and a failed one is a SELF fault; an activity past its bound fails and gives its lock back; a flash operation leaves an erased
sector or the programmed page; a wake ends in RUN, or in STANDBY with the reason of the mismatch; a maker test instruction makes the chip
safe for good (log entry 59: its inside is left out). -/
def Obligations.MaintenanceEnds : Prop :=
  ∀ (s : State) (a : Activity),
    let c := s.base
    let runs (k : Act) : Prop := c.maint.run.find? (fun x => x.act == k) = some a
    (runs .retest →
      let f (ok : Bool) := c.maint.finish (fun x => x == a) ok
      let put (ok : Bool) (n : Nat) : Core :=
        ({ c with maint := { (f ok).1 with rstat := n } } : Core).raise
          ([evBlock (if ok then EvNo.retestPassed else EvNo.retestFailed) a.region a.block] ++ (f ok).2)
      let back : Core := { (put true 2) with err := { (put true 2).err with back := insertNat (blkKey a.region a.block) c.err.back } }
      (c.cycle.running = true → exec (.retestDone true) s = .next (s.after back)) ∧
      (c.cycle.running = false → exec (.retestDone true) s = .next (s.after back.restoreBlocks)) ∧
      exec (.retestDone false) s = .next (s.after ((put false 3).cellFault a.region a.block 9 .plain 0))) ∧
    (∀ t, a.due = some t → let f (k : Act) := c.maint.finishAct k false
      let x (k : Act) : Core := ({ (c.at t) with maint := (f k).1 } : Core).raise (f k).2
      (runs .qspiUpdate → exec .qspiUpdateTimeout s = .next (s.after (x .qspiUpdate))) ∧
      (runs .frExport → exec .frExportTimeout s = .next (s.after (x .frExport)))) ∧
    (∀ q, let f := c.maint.finishAct .flash true
      let base := q / 256 * 256
      let page := (forN 64 fun k => leBytes (c.boot.page.look k 0xFFFFFFFF)).flatten
      let bytes := ((memBytes 0xFF c.boot.flash base 256).zip page).map fun p => p.1 &&& p.2
      (c.boot.qop = some (true, q) → exec .flashOpDone s = .next (s.after (({ c with
        maint := f.1, boot := { c.boot with
          qop := none, flash := eraseBytes c.boot.flash (q / 0x10000 * 0x10000) 0x10000
          torn := c.boot.torn.filter fun t => t.2 / 0x10000 != q / 0x10000 } } : Core).raise f.2))) ∧
      (c.boot.qop = some (false, q) → exec .flashOpDone s = .next (s.after (({ c with
        maint := f.1, boot := { c.boot with
          qop := none, flash := memSetBytes 0xFF c.boot.flash base bytes, page := [] } } : Core).raise f.2)))) ∧
    (c.boot.qop = none → exec .flashOpDone s = .next (s.after c)) ∧
    (c.boot.lp = .waking →
      let f (ok : Bool) := c.maint.finishAct .wake ok
      let d (ok : Bool) : Core := ({ c with maint := (f ok).1 } : Core).raise (f ok).2
      let head := imageHead c.boot.flash (copyBase c.boot.copyB)
      let torn (x : ImgSection) : Bool := x.wake && sectionCrc c.boot.flash (copyBase c.boot.copyB) x != x.scrc
      (∀ fail r, head.headReject 1 = some r → c.wakeReason fail = some r) ∧
      (∀ fail, head.headReject 1 = none →
        (head.chk ≠ c.boot.head.chk → c.wakeReason fail = some (7, 24)) ∧
        (head.chk = c.boot.head.chk → (∀ x, c.boot.head.secs.find? torn = some x → c.wakeReason fail = some (6, x.off)) ∧
          ((∀ x ∈ c.boot.head.secs, torn x = false) → c.wakeReason fail = fail.map fun n => (9, n)))) ∧
      (∀ fail r, c.wakeReason fail = some r → exec (.wakeLoadDone fail) s = .next (s.after (({ (d false) with
        boot := { (c.boot.setRej c.boot.copyB r) with lp := .standby } } : Core).raise [ev0 EvNo.imageRejected]))) ∧
      (∀ fail, c.wakeReason fail = none →
        let on : Core := { (d true) with boot := { c.boot with lp := .run } }
        let gs : Core := if c.gs.glob = .lost ∨ c.gs.glob = .checkFail then on else on.gsEnter .boot
        let up : Core := ({ gs with gs := { gs.gs with group := gs.gs.group.each fun _ g => { g with edge := false } } } : Core).loadAxes.restartListen
        let firstS := rtAdd up.cycle.rtS up.len
        exec (.wakeLoadDone fail) s = .next (s.after (({ up with
          cycle := { up.cycle with mode := up.image.startMode }
          cuff := { up.cuff with
            chan := up.cuff.chan.each fun _ x => x.wake firstS
            axis := up.cuff.axis.each fun _ y => { y with remote := y.remote.wake, badRun := 0 } } } : Core).raise
          [ev0 EvNo.lowpower 4])))) ∧
    (∀ fail, c.boot.lp ≠ .waking → exec (.wakeLoadDone fail) s = .next (s.after c)) ∧
    (let g := c.chipSafe .all
     let off : Core := { g with gs := { g.gs with out := g.gs.out.each fun _ o => o.want false }, boot := { g.boot with maker := true } }
     exec .makerTestInstruction s = .next (s.after
       ((((List.range 8).foldl Core.portDown off).frRecord 7).updLed fun l => { l with tested := true })))

/-- R218, R514, R570, R596, R597, R601, R611, R637: a reset. The shell, the flash and the whole ledger are kept, the reset is counted, the kind
and its detail are shown; every other block, the image and the event unit are as after power on; POR and SUPPLY restart time, the
others leave the three raw counters running. A reset asserted while one is held adds to ALSO; a release samples the straps and raises
EV_RESET_CAUSE. The contents of a reset during a flash operation are log entry 4's. -/
def Obligations.Resets : Prop :=
  ∀ (s : State) (rail mv strap : Nat),
    let c := s.base
    let goes (i : Instr) (k : ResetKind) (d : Nat) : Prop := ∃ t, exec i s = .next t ∧ t.pending = s.pending ∧ t.chip.ev = {} ∧
      let x := t.chip.core
      x.boot.st = .reset ∧ x.boot.held = true ∧ x.boot.kind = k ∧ x.boot.also = 0 ∧ x.boot.detail = d ∧ x.boot.flash = c.boot.flash ∧
      x.boot.shell = c.boot.shell ∧ x.boot.uid = c.boot.uid ∧ x.boot.cal = c.boot.cal ∧ x.boot.pref = 0 ∧
      x.led.led = { c.led.led with life := x.led.led.life } ∧
      (c.iso 5 5 = false → x.led.led.life.resets = c.led.led.life.resets.upd k.code 0 (· + 1)) ∧
      (k = .por ∨ k = .supply → x.time = {}) ∧
      (k = .pin ∨ k = .watchdog → x.time.ring.raw = c.time.ring.raw ∧ x.time.domA = c.time.domA ∧ x.time.domB = c.time.domB) ∧
      (k = .por → x.health.latch = none) ∧ (k ≠ .por → x.health.latch.map (·.kind) = some k.code) ∧
      x.cycle = {} ∧ x.eng = {} ∧ x.sig = {} ∧ x.disp = {} ∧ x.prof = {} ∧ x.cuff = {} ∧ x.gs = {} ∧ x.vis = {} ∧ x.err = {} ∧
      x.host = {} ∧ x.maint = {} ∧ x.image = {} ∧ x.role = {} ∧ x.port = [] ∧ x.seg = [] ∧ x.slot = []
    (c.boot.held = false →
      goes .powerOnReset .por 0 ∧ goes .pinReset .pin 0 ∧ goes .heartbeatMissing .watchdog 0 ∧
      (rail < 7 → goes (.supplyResetLevel rail mv) .supply rail) ∧
      (∀ t, c.boot.hostDue = some t → goes .hostResetDelayExpiry .host 0) ∧
      (∀ t, c.err.safeAt = some t → goes .escalationResetStart .escalation c.err.safeBlk) ∧
      exec (.resetRelease strap) s = .next (s.after c)) ∧
    (c.boot.hostDue = none → c.boot.held = false → exec .hostResetDelayExpiry s = .next (s.after c)) ∧
    (c.boot.held = true → c.boot.kind = .watchdog → ∃ t, exec .pinReset s = .next t ∧ t.chip.core.boot.kind = .pin ∧
      t.chip.core.boot.also = c.boot.also ||| 8) ∧
    (c.boot.held = true → c.boot.kind = .pin → ∃ t, exec .heartbeatMissing s = .next t ∧ t.chip.core.boot.kind = .pin ∧
      t.chip.core.boot.also = c.boot.also ||| 8) ∧
    (c.boot.held = true →
      let r : Core := { c with
        boot := { c.boot with held := false, strap := strap % 8, relAt := c.time.ring.raw, st := .reset }
        health := { c.health with hbCem := c.now, hbSup := c.now } }
      let cause : Ev := { num := EvNo.resetCause, code := c.boot.kind.code, obj := c.boot.detail }
      (c.boot.kind ≠ .escalation → exec (.resetRelease strap) s = .next (s.after (r.raise [cause]))) ∧
      (c.boot.kind = .escalation → exec (.resetRelease strap) s = .next (s.after (r.raise
        [cause, { num := EvNo.escalationReset, kind := 9, obj := c.boot.detail }]))))

/-- R36, R576, R577, R583 to R585, R588, R589, R593, R595, R611, R628: the boot sequence. Self-test leads to SHELL; a shell section of which
both copies fail, hold strapping and an image that no copy gives lead to BOOTFAIL with their reasons 0xC, 0xB and the copy's; the ledger
gets the field-return record of a reset that the latch keeps; the copy tried first is by the straps, BOOT_PREF and the generation, as
the bytes of the flash give the headers, and a rejected one falls back to the other where its header holds; a copy that holds is loaded,
the bits without a name at 0; APPLY ends in RUNNING with the image's routing. -/
def Obligations.BootSequence : Prop :=
  ∀ (s : State) (one two : List Bool) (badDir : Bool) (cor unc : Nat) (bad fail : Option Nat) (img : Image),
    let c := s.base
    let b := c.boot
    let ha := c.copyHead false bad fail
    let hb := c.copyHead true bad fail
    let cur := firstCopy b.strap c.prefNow ha hb
    let secs := one.zip two
    let found := c.led.found cor unc
    (b.st = .reset → b.held = false → exec .selfTestDone s = .next (s.after { c with boot := { b with st := .shell } })) ∧
    (b.st ≠ .reset → exec .selfTestDone s = .next (s.after c)) ∧
    (b.st = .shell → let second := secs.any fun p => !p.1 && p.2
      ((∀ p ∈ secs, p.1 = true ∨ p.2 = true) → exec (.shellReadDone one two) s = .next (s.after { c with
        boot := { b with shell2 := second, shellBad := false, st := .ledger } })) ∧
      ((∃ p ∈ secs, p.1 = false ∧ p.2 = false) → exec (.shellReadDone one two) s = .next (s.after { c with
        boot := { b with shell2 := second, shellBad := true, st := .bootfail, failRsn := 0xC } }))) ∧
    (b.st = .ledger →
      let l := ({ c with led := { found.1 with ready := true, badDir := badDir } } : Core).raise found.2
      let r := l.latchRecord
      (c.health.latch = none ∨ c.iso 5 5 = true → r = l) ∧
      (∀ x, c.health.latch = some x → (x.kind ≠ 1 ∧ x.kind ≠ 3 ∧ x.owed = false → r = l) ∧
        (x.kind = 1 ∨ x.kind = 3 ∨ x.owed = true → c.iso 5 5 = false → r.boot.frDue = true ∧ ∃ body,
          r.led.led = l.led.led.frWrite (if x.kind = 3 then 3 else if x.kind = 1 then 4 else 2) body)) ∧
      (b.strap % 4 = 3 → exec (.ledgerReadDone badDir cor unc) s =
        .next (s.after { r with boot := { r.boot with st := .bootfail, failRsn := 0xB } })) ∧
      (b.strap % 4 ≠ 3 → exec (.ledgerReadDone badDir cor unc) s =
        .next (s.after { r with boot := { r.boot with st := .image, tried := none } }))) ∧
    (b.st = .image → b.tried = none →
      let h := if cur then hb else ha
      let o := if cur then ha else hb
      let ends (x : BootState) (i : Image) (es : List Ev) : State := s.after (({ c with boot := x, image := i } : Core).raise es)
      let rejected := ev0 EvNo.imageRejected
      (b.strap % 4 = 0 → o.headReject 1 = none →
        (h.reject 1 = none → exec (.imageCopyDone bad fail img) s =
          .next (ends { b with st := .apply, copyB := cur, fallback := false, head := h } img.masked [])) ∧
        (∀ r, h.reject 1 = some r → exec (.imageCopyDone bad fail img) s =
          .next (ends { (b.setRej cur r) with tried := some cur } {} [rejected, ev0 EvNo.imageFallback]))) ∧
      (∀ r', b.strap % 4 = 0 → o.headReject 1 = some r' →
        (h.reject 1 = none → exec (.imageCopyDone bad fail img) s =
          .next (ends { (b.setRej (!cur) r') with st := .apply, copyB := cur, fallback := false, head := h } img.masked [rejected])) ∧
        (∀ r, h.reject 1 = some r → exec (.imageCopyDone bad fail img) s =
          .next (ends { ((b.setRej (!cur) r').setRej cur r) with st := .bootfail, failRsn := r.1 } {} [rejected, rejected]))) ∧
      (b.strap % 4 ≠ 0 →
        (h.reject 1 = none → exec (.imageCopyDone bad fail img) s =
          .next (ends { b with st := .apply, copyB := cur, fallback := false, head := h } img.masked [])) ∧
        (∀ r, h.reject 1 = some r → exec (.imageCopyDone bad fail img) s =
          .next (ends { (b.setRej cur r) with st := .bootfail, failRsn := r.1 } {} [rejected])))) ∧
    (∀ k, b.st = .image → b.tried = some k →
      let h := if k then ha else hb
      (h.reject 1 = none → exec (.imageCopyDone bad fail img) s = .next (s.after (({ c with
        boot := { b with st := .apply, copyB := !k, fallback := true, head := h }, image := img.masked } : Core).raise []))) ∧
      (∀ r, h.reject 1 = some r → exec (.imageCopyDone bad fail img) s = .next (s.after
        (({ c with boot := { (b.setRej (!k) r) with st := .bootfail, failRsn := r.1 }, image := {} } : Core).raise
          [ev0 EvNo.imageRejected])))) ∧
    (b.st ≠ .image → exec (.imageCopyDone bad fail img) s = .next (s.after c)) ∧
    (b.st = .apply →
      let y := (({ core := c, ev := s.evBase } : Chip).onCore Core.bootApply).commit
      exec .bootApplyDone s =
        .next (s.afterBoth y.core.bootRun { y.ev with route := y.core.image.route, routeDef := false }) ∧
      ∃ t, exec .bootApplyDone s = .next t ∧ t.chip.core.boot.st = .running ∧ t.chip.ev.routeDef = false) ∧
    (b.st ≠ .apply → exec .bootApplyDone s = .next (s.after c))

/-- One step takes the command at the front of the queue, first in, first out: it is that command's effect on the state with the queue's
rest. On an empty queue a PLL clock passes (the model's choice, log entry 2): 8 rt on each of the three raw counters, which a POR or
SUPPLY reset holds (R187, R218). -/
def Obligations.StepTakesFront : Prop :=
  ∀ (s : State) (i : Instr) (q : List Instr),
    step { s with pending := i :: q } = exec i { s with pending := q } ∧
    ((s.chip.core.boot.held && (decide (s.chip.core.boot.kind = .por) || decide (s.chip.core.boot.kind = .supply))) = true →
      step { s with pending := [] } = .next { s with pending := [] }) ∧
    ((s.chip.core.boot.held && (decide (s.chip.core.boot.kind = .por) || decide (s.chip.core.boot.kind = .supply))) = false →
      step { s with pending := [] } = .next { s with pending := [], chip := { s.chip with core :=
        { s.chip.core with time := s.chip.core.time.advance 8 } } })

/-- R564: no command faults or is refused, and none touches the queue. At its end no event waits: of one command that acts on the parts, the
events it gave are raised in ascending number, each at the ring time of the end, after the log entries it lost are marked (R571), and nothing but the event unit and the Visor sees them. -/
def Obligations.EveryCommandEnds : Prop :=
  (∀ (i : Instr) (s : State), ∃ t, exec i s = .next t ∧ t.pending = s.pending ∧ t.chip.core.evq = []) ∧
  (∀ (s : State) (c : Core), (∃ v, (s.after c).chip.core = { c with evq := [], lostLog := [], vis := v }) ∧
    (s.after c).chip.ev = (sortEv c.evq).foldl (fun u e => u.raise (c.iso 5 2) c.now c.tcyc e)
      (c.lostLog.foldl (fun u e => u.lose e.1 e.2) s.evBase)) ∧
  (∀ es : List Ev, (sortEv es).Perm es ∧ (sortEv es).Pairwise fun a b => a.num ≤ b.num)

/-- R564: the event log. A raised event (one that no rate limit of R665 suppresses) is offered to it: with fewer than 1,024 entries
it is written as the newest, with its number, detail, ring time and delivery number; otherwise it is not written, EVENTS_OVF counts
it and the log keeps its oldest entries. The three counters move together, so the event identity is kept; the events of one command,
raised at one ring time, enter in ascending number; and no routing changes any of this. Stated while the event unit is in service
and no entry of the log is lost (R571). -/
def Obligations.EventLog : Prop :=
  (∀ (u : EventUnit) (rt : Rt) (tcyc : Nat) (e : Ev), u.suppressed rt tcyc e = false →
    let v := u.raise false rt tcyc e
    v.raised = u.raised + 1 ∧
    (u.log.length < 1024 → v.log = u.log ++ [{ num := e.num, seq := u.seq, rt := rt, detail := e.detail }] ∧
      v.seq = u.seq + 1 ∧ v.logged = u.logged + 1 ∧ v.ovf = u.ovf) ∧
    (1024 ≤ u.log.length → v.log = u.log ∧ v.seq = u.seq ∧ v.logged = u.logged ∧ v.ovf = u.ovf + 1) ∧
    (u.raised = u.logged + u.ovf → v.raised = v.logged + v.ovf) ∧
    ∀ (r : Tab W32) (d : Bool), let w := ({ u with route := r, routeDef := d } : EventUnit).raise false rt tcyc e
      w.log = v.log ∧ w.seq = v.seq ∧ w.raised = v.raised ∧ w.logged = v.logged ∧ w.ovf = v.ovf) ∧
  ∀ (s : State) (c : Core), c.iso 5 2 = false → c.lostLog = [] → ∃ es : List Ev, es.Perm c.evq ∧ (es.Pairwise fun a b => a.num ≤ b.num) ∧
    (s.after c).chip.ev = es.foldl (fun u e => u.raise false c.now c.tcyc e) s.evBase

/-- R42, R218, R564, R570, R577, R582, R595 and `Obligations.EventIdentityKept` at reset: the machine right after power on. The reset is held and
is a POR, time is at 0, no image is loaded, no axis has state, the event log and the counters are empty, the default routing holds, no command waits. The
flash and the ledger are blank (log entry 3: the manual gives no factory contents). -/
def Obligations.ResetState : Prop :=
  let c := State.reset.chip.core
  let u := State.reset.chip.ev
  State.reset.pending = [] ∧ c.boot.st = .reset ∧ c.boot.held = true ∧ c.boot.kind = .por ∧ c.time.now = 0 ∧ c.image.axis = [] ∧
  c.eng = {} ∧ c.err = {} ∧ c.role.role = .none ∧ c.boot.lp = .run ∧ u.log = [] ∧ u.raised = 0 ∧ u.pend = 0 ∧ u.vec = 0 ∧
  (∀ n, u.routeOf n = 0x8010) ∧ State.reset.EventsAgree

/-- R564: EVENTS_RAISED = EVENTS_LOGGED + EVENTS_OVF, the log never holds more than 1,024 entries and no event is left waiting: every step of
the machine, whatever command it takes, keeps the three together. -/
def Obligations.EventIdentityKept : Prop :=
  ∀ s t : State, s.EventsAgree → step s = .next t → t.EventsAgree
end

