-- ==== Sys2Proof/Laws/State.lean ====
section
/-! SUPPORT. Laws/State.lean: one lemma per field per update of the state, and how a command begins and ends, so that no later proof
unfolds a record update. -/

namespace Sys2Proof.Machine

/-! ### How a command ends -/

/-- A command on the parts ends in `State.after`. -/
theorem run_core (s : State) (f : Core → Core) : s.to (s.chip.runCore f) = .next (s.after (f s.base)) := rfl

/-- A command on parts and event unit ends in `State.afterBoth`. -/
theorem run_both (s : State) (f : Chip → Chip) :
    s.to (s.chip.run f) = .next (s.afterBoth (f { core := s.base, ev := s.evBase }).core (f { core := s.base, ev := s.evBase }).ev) := rfl

/-- A command that may assert a reset. -/
theorem run_reset (s : State) (f : Core → Core) :
    s.to (s.chip.runReset f) = .next (s.afterBoth (f s.base) (if (f s.base).boot.held then {} else s.evBase)) := rfl

/-- Ending with the event unit as found. -/
theorem afterBoth_evBase (s : State) (c : Core) : s.afterBoth c s.evBase = s.after c := rfl

@[simp] theorem State.to_pending (s : State) (x : Chip) : ∃ t, s.to x = .next t ∧ t.pending = s.pending := ⟨_, rfl, rfl⟩
@[simp] theorem State.after_pending (s : State) (c : Core) : (s.after c).pending = s.pending := rfl
@[simp] theorem State.afterBoth_pending (s : State) (c : Core) (u : EventUnit) : (s.afterBoth c u).pending = s.pending := rfl
@[simp] theorem State.base_outs (s : State) : s.base.outs = [] := rfl
@[simp] theorem State.evBase_sent (s : State) : s.evBase.sent = [] := rfl

/-! ### The parts as a command finds them -/

@[simp] theorem State.base_time (s : State) : s.base.time = s.chip.core.time := rfl
@[simp] theorem State.base_cycle (s : State) : s.base.cycle = s.chip.core.cycle := rfl
@[simp] theorem State.base_port (s : State) : s.base.port = s.chip.core.port := rfl
@[simp] theorem State.base_seg (s : State) : s.base.seg = s.chip.core.seg := rfl
@[simp] theorem State.base_slot (s : State) : s.base.slot = s.chip.core.slot := rfl
@[simp] theorem State.base_role (s : State) : s.base.role = s.chip.core.role := rfl
@[simp] theorem State.base_cuff (s : State) : s.base.cuff = s.chip.core.cuff := rfl
@[simp] theorem State.base_field (s : State) : s.base.field = s.chip.core.field := rfl
@[simp] theorem State.base_obs (s : State) : s.base.obs = s.chip.core.obs := rfl
@[simp] theorem State.base_obsCnt (s : State) : s.base.obsCnt = s.chip.core.obsCnt := rfl
@[simp] theorem State.base_eng (s : State) : s.base.eng = s.chip.core.eng := rfl
@[simp] theorem State.base_sig (s : State) : s.base.sig = s.chip.core.sig := rfl
@[simp] theorem State.base_disp (s : State) : s.base.disp = s.chip.core.disp := rfl
@[simp] theorem State.base_prof (s : State) : s.base.prof = s.chip.core.prof := rfl
@[simp] theorem State.base_gs (s : State) : s.base.gs = s.chip.core.gs := rfl
@[simp] theorem State.base_vis (s : State) : s.base.vis = s.chip.core.vis := rfl
@[simp] theorem State.base_boot (s : State) : s.base.boot = s.chip.core.boot := rfl
@[simp] theorem State.base_led (s : State) : s.base.led = s.chip.core.led := rfl
@[simp] theorem State.base_health (s : State) : s.base.health = s.chip.core.health := rfl
@[simp] theorem State.base_maint (s : State) : s.base.maint = s.chip.core.maint := rfl
@[simp] theorem State.base_err (s : State) : s.base.err = s.chip.core.err := rfl
@[simp] theorem State.base_host (s : State) : s.base.host = s.chip.core.host := rfl
@[simp] theorem State.base_image (s : State) : s.base.image = s.chip.core.image := rfl
@[simp] theorem State.base_words (s : State) : s.base.words = s.chip.core.words := rfl
@[simp] theorem State.base_evsum (s : State) : s.base.evsum = s.chip.core.evsum := rfl
@[simp] theorem State.base_cfg (s : State) : s.base.cfg = s.chip.core.cfg := rfl
@[simp] theorem State.base_raw (s : State) : s.base.raw = s.chip.core.raw := rfl
@[simp] theorem State.base_dnOut (s : State) : s.base.dnOut = s.chip.core.dnOut := rfl
@[simp] theorem State.base_pinOfs (s : State) : s.base.pinOfs = s.chip.core.pinOfs := rfl
@[simp] theorem State.base_evq (s : State) : s.base.evq = s.chip.core.evq := rfl
@[simp] theorem State.base_lostLog (s : State) : s.base.lostLog = s.chip.core.lostLog := rfl
@[simp] theorem State.base_freeCtr (s : State) : s.base.freeCtr = s.chip.core.freeCtr := rfl
@[simp] theorem State.evBase_log (s : State) : s.evBase.log = s.chip.ev.log := rfl
@[simp] theorem State.evBase_raised (s : State) : s.evBase.raised = s.chip.ev.raised := rfl
@[simp] theorem State.evBase_logged (s : State) : s.evBase.logged = s.chip.ev.logged := rfl
@[simp] theorem State.evBase_ovf (s : State) : s.evBase.ovf = s.chip.ev.ovf := rfl
@[simp] theorem State.evBase_seq (s : State) : s.evBase.seq = s.chip.ev.seq := rfl
@[simp] theorem State.evBase_pend (s : State) : s.evBase.pend = s.chip.ev.pend := rfl
@[simp] theorem State.evBase_vec (s : State) : s.evBase.vec = s.chip.ev.vec := rfl
@[simp] theorem State.evBase_route (s : State) : s.evBase.route = s.chip.ev.route := rfl
@[simp] theorem State.evBase_routeDef (s : State) : s.evBase.routeDef = s.chip.ev.routeDef := rfl
@[simp] theorem State.evBase_windows (s : State) : s.evBase.windows = s.chip.ev.windows := rfl
@[simp] theorem State.evBase_msixEn (s : State) : s.evBase.msixEn = s.chip.ev.msixEn := rfl
@[simp] theorem State.evBase_msixMask (s : State) : s.evBase.msixMask = s.chip.ev.msixMask := rfl
@[simp] theorem State.evBase_msix (s : State) : s.evBase.msix = s.chip.ev.msix := rfl
@[simp] theorem State.evBase_pba (s : State) : s.evBase.pba = s.chip.ev.pba := rfl

/-! ### An engine or a processor replaced -/

@[simp] theorem State.withEngine_time (s : State) (u k : Nat) (e : Engine) : (s.withEngine u e k).time = s.base.time := rfl
@[simp] theorem State.withEngine_cycle (s : State) (u k : Nat) (e : Engine) : (s.withEngine u e k).cycle = s.base.cycle := rfl
@[simp] theorem State.withEngine_port (s : State) (u k : Nat) (e : Engine) : (s.withEngine u e k).port = s.base.port := rfl
@[simp] theorem State.withEngine_seg (s : State) (u k : Nat) (e : Engine) : (s.withEngine u e k).seg = s.base.seg := rfl
@[simp] theorem State.withEngine_slot (s : State) (u k : Nat) (e : Engine) : (s.withEngine u e k).slot = s.base.slot := rfl
@[simp] theorem State.withEngine_role (s : State) (u k : Nat) (e : Engine) : (s.withEngine u e k).role = s.base.role := rfl
@[simp] theorem State.withEngine_cuff (s : State) (u k : Nat) (e : Engine) : (s.withEngine u e k).cuff = s.base.cuff := rfl
@[simp] theorem State.withEngine_field (s : State) (u k : Nat) (e : Engine) : (s.withEngine u e k).field = s.base.field := rfl
@[simp] theorem State.withEngine_obs (s : State) (u k : Nat) (e : Engine) : (s.withEngine u e k).obs = s.base.obs := rfl
@[simp] theorem State.withEngine_obsCnt (s : State) (u k : Nat) (e : Engine) : (s.withEngine u e k).obsCnt = s.base.obsCnt := rfl
@[simp] theorem State.withEngine_sig (s : State) (u k : Nat) (e : Engine) : (s.withEngine u e k).sig = s.base.sig := rfl
@[simp] theorem State.withEngine_disp (s : State) (u k : Nat) (e : Engine) : (s.withEngine u e k).disp = s.base.disp := rfl
@[simp] theorem State.withEngine_prof (s : State) (u k : Nat) (e : Engine) : (s.withEngine u e k).prof = s.base.prof := rfl
@[simp] theorem State.withEngine_gs (s : State) (u k : Nat) (e : Engine) : (s.withEngine u e k).gs = s.base.gs := rfl
@[simp] theorem State.withEngine_vis (s : State) (u k : Nat) (e : Engine) : (s.withEngine u e k).vis = s.base.vis := rfl
@[simp] theorem State.withEngine_boot (s : State) (u k : Nat) (e : Engine) : (s.withEngine u e k).boot = s.base.boot := rfl
@[simp] theorem State.withEngine_led (s : State) (u k : Nat) (e : Engine) : (s.withEngine u e k).led = s.base.led := rfl
@[simp] theorem State.withEngine_health (s : State) (u k : Nat) (e : Engine) : (s.withEngine u e k).health = s.base.health := rfl
@[simp] theorem State.withEngine_maint (s : State) (u k : Nat) (e : Engine) : (s.withEngine u e k).maint = s.base.maint := rfl
@[simp] theorem State.withEngine_err (s : State) (u k : Nat) (e : Engine) : (s.withEngine u e k).err = s.base.err := rfl
@[simp] theorem State.withEngine_host (s : State) (u k : Nat) (e : Engine) : (s.withEngine u e k).host = s.base.host := rfl
@[simp] theorem State.withEngine_image (s : State) (u k : Nat) (e : Engine) : (s.withEngine u e k).image = s.base.image := rfl
@[simp] theorem State.withEngine_words (s : State) (u k : Nat) (e : Engine) : (s.withEngine u e k).words = s.base.words := rfl
@[simp] theorem State.withEngine_evsum (s : State) (u k : Nat) (e : Engine) : (s.withEngine u e k).evsum = s.base.evsum := rfl
@[simp] theorem State.withEngine_cfg (s : State) (u k : Nat) (e : Engine) : (s.withEngine u e k).cfg = s.base.cfg := rfl
@[simp] theorem State.withEngine_raw (s : State) (u k : Nat) (e : Engine) : (s.withEngine u e k).raw = s.base.raw := rfl
@[simp] theorem State.withEngine_dnOut (s : State) (u k : Nat) (e : Engine) : (s.withEngine u e k).dnOut = s.base.dnOut := rfl
@[simp] theorem State.withEngine_pinOfs (s : State) (u k : Nat) (e : Engine) : (s.withEngine u e k).pinOfs = s.base.pinOfs := rfl
@[simp] theorem State.withEngine_outs (s : State) (u k : Nat) (e : Engine) : (s.withEngine u e k).outs = s.base.outs := rfl
@[simp] theorem State.withEngine_evq (s : State) (u k : Nat) (e : Engine) : (s.withEngine u e k).evq = s.base.evq := rfl
@[simp] theorem State.withEngine_lostLog (s : State) (u k : Nat) (e : Engine) : (s.withEngine u e k).lostLog = s.base.lostLog := rfl
@[simp] theorem State.withProc_time (s : State) (u k : Nat) (q : Proc) : (s.withProc u q k).time = s.base.time := rfl
@[simp] theorem State.withProc_cycle (s : State) (u k : Nat) (q : Proc) : (s.withProc u q k).cycle = s.base.cycle := rfl
@[simp] theorem State.withProc_port (s : State) (u k : Nat) (q : Proc) : (s.withProc u q k).port = s.base.port := rfl
@[simp] theorem State.withProc_seg (s : State) (u k : Nat) (q : Proc) : (s.withProc u q k).seg = s.base.seg := rfl
@[simp] theorem State.withProc_slot (s : State) (u k : Nat) (q : Proc) : (s.withProc u q k).slot = s.base.slot := rfl
@[simp] theorem State.withProc_role (s : State) (u k : Nat) (q : Proc) : (s.withProc u q k).role = s.base.role := rfl
@[simp] theorem State.withProc_cuff (s : State) (u k : Nat) (q : Proc) : (s.withProc u q k).cuff = s.base.cuff := rfl
@[simp] theorem State.withProc_field (s : State) (u k : Nat) (q : Proc) : (s.withProc u q k).field = s.base.field := rfl
@[simp] theorem State.withProc_obs (s : State) (u k : Nat) (q : Proc) : (s.withProc u q k).obs = s.base.obs := rfl
@[simp] theorem State.withProc_obsCnt (s : State) (u k : Nat) (q : Proc) : (s.withProc u q k).obsCnt = s.base.obsCnt := rfl
@[simp] theorem State.withProc_eng (s : State) (u k : Nat) (q : Proc) : (s.withProc u q k).eng = s.base.eng := rfl
@[simp] theorem State.withProc_disp (s : State) (u k : Nat) (q : Proc) : (s.withProc u q k).disp = s.base.disp := rfl
@[simp] theorem State.withProc_prof (s : State) (u k : Nat) (q : Proc) : (s.withProc u q k).prof = s.base.prof := rfl
@[simp] theorem State.withProc_gs (s : State) (u k : Nat) (q : Proc) : (s.withProc u q k).gs = s.base.gs := rfl
@[simp] theorem State.withProc_vis (s : State) (u k : Nat) (q : Proc) : (s.withProc u q k).vis = s.base.vis := rfl
@[simp] theorem State.withProc_boot (s : State) (u k : Nat) (q : Proc) : (s.withProc u q k).boot = s.base.boot := rfl
@[simp] theorem State.withProc_led (s : State) (u k : Nat) (q : Proc) : (s.withProc u q k).led = s.base.led := rfl
@[simp] theorem State.withProc_health (s : State) (u k : Nat) (q : Proc) : (s.withProc u q k).health = s.base.health := rfl
@[simp] theorem State.withProc_maint (s : State) (u k : Nat) (q : Proc) : (s.withProc u q k).maint = s.base.maint := rfl
@[simp] theorem State.withProc_err (s : State) (u k : Nat) (q : Proc) : (s.withProc u q k).err = s.base.err := rfl
@[simp] theorem State.withProc_host (s : State) (u k : Nat) (q : Proc) : (s.withProc u q k).host = s.base.host := rfl
@[simp] theorem State.withProc_image (s : State) (u k : Nat) (q : Proc) : (s.withProc u q k).image = s.base.image := rfl
@[simp] theorem State.withProc_words (s : State) (u k : Nat) (q : Proc) : (s.withProc u q k).words = s.base.words := rfl
@[simp] theorem State.withProc_evsum (s : State) (u k : Nat) (q : Proc) : (s.withProc u q k).evsum = s.base.evsum := rfl
@[simp] theorem State.withProc_cfg (s : State) (u k : Nat) (q : Proc) : (s.withProc u q k).cfg = s.base.cfg := rfl
@[simp] theorem State.withProc_raw (s : State) (u k : Nat) (q : Proc) : (s.withProc u q k).raw = s.base.raw := rfl
@[simp] theorem State.withProc_dnOut (s : State) (u k : Nat) (q : Proc) : (s.withProc u q k).dnOut = s.base.dnOut := rfl
@[simp] theorem State.withProc_pinOfs (s : State) (u k : Nat) (q : Proc) : (s.withProc u q k).pinOfs = s.base.pinOfs := rfl
@[simp] theorem State.withProc_outs (s : State) (u k : Nat) (q : Proc) : (s.withProc u q k).outs = s.base.outs := rfl
@[simp] theorem State.withProc_evq (s : State) (u k : Nat) (q : Proc) : (s.withProc u q k).evq = s.base.evq := rfl
@[simp] theorem State.withProc_lostLog (s : State) (u k : Nat) (q : Proc) : (s.withProc u q k).lostLog = s.base.lostLog := rfl

/-! ### A guarded pair completed -/

@[simp] theorem State.paired_time (s : State) (p : HostPort) (a : Nat) : (s.paired p a).time = s.base.time := rfl
@[simp] theorem State.paired_cycle (s : State) (p : HostPort) (a : Nat) : (s.paired p a).cycle = s.base.cycle := rfl
@[simp] theorem State.paired_port (s : State) (p : HostPort) (a : Nat) : (s.paired p a).port = s.base.port := rfl
@[simp] theorem State.paired_seg (s : State) (p : HostPort) (a : Nat) : (s.paired p a).seg = s.base.seg := rfl
@[simp] theorem State.paired_slot (s : State) (p : HostPort) (a : Nat) : (s.paired p a).slot = s.base.slot := rfl
@[simp] theorem State.paired_role (s : State) (p : HostPort) (a : Nat) : (s.paired p a).role = s.base.role := rfl
@[simp] theorem State.paired_cuff (s : State) (p : HostPort) (a : Nat) : (s.paired p a).cuff = s.base.cuff := rfl
@[simp] theorem State.paired_field (s : State) (p : HostPort) (a : Nat) : (s.paired p a).field = s.base.field := rfl
@[simp] theorem State.paired_obs (s : State) (p : HostPort) (a : Nat) : (s.paired p a).obs = s.base.obs := rfl
@[simp] theorem State.paired_obsCnt (s : State) (p : HostPort) (a : Nat) : (s.paired p a).obsCnt = s.base.obsCnt := rfl
@[simp] theorem State.paired_eng (s : State) (p : HostPort) (a : Nat) : (s.paired p a).eng = s.base.eng := rfl
@[simp] theorem State.paired_sig (s : State) (p : HostPort) (a : Nat) : (s.paired p a).sig = s.base.sig := rfl
@[simp] theorem State.paired_disp (s : State) (p : HostPort) (a : Nat) : (s.paired p a).disp = s.base.disp := rfl
@[simp] theorem State.paired_prof (s : State) (p : HostPort) (a : Nat) : (s.paired p a).prof = s.base.prof := rfl
@[simp] theorem State.paired_gs (s : State) (p : HostPort) (a : Nat) : (s.paired p a).gs = s.base.gs := rfl
@[simp] theorem State.paired_vis (s : State) (p : HostPort) (a : Nat) : (s.paired p a).vis = s.base.vis := rfl
@[simp] theorem State.paired_boot (s : State) (p : HostPort) (a : Nat) : (s.paired p a).boot = s.base.boot := rfl
@[simp] theorem State.paired_led (s : State) (p : HostPort) (a : Nat) : (s.paired p a).led = s.base.led := rfl
@[simp] theorem State.paired_health (s : State) (p : HostPort) (a : Nat) : (s.paired p a).health = s.base.health := rfl
@[simp] theorem State.paired_maint (s : State) (p : HostPort) (a : Nat) : (s.paired p a).maint = s.base.maint := rfl
@[simp] theorem State.paired_err (s : State) (p : HostPort) (a : Nat) : (s.paired p a).err = s.base.err := rfl
@[simp] theorem State.paired_image (s : State) (p : HostPort) (a : Nat) : (s.paired p a).image = s.base.image := rfl
@[simp] theorem State.paired_words (s : State) (p : HostPort) (a : Nat) : (s.paired p a).words = s.base.words := rfl
@[simp] theorem State.paired_evsum (s : State) (p : HostPort) (a : Nat) : (s.paired p a).evsum = s.base.evsum := rfl
@[simp] theorem State.paired_cfg (s : State) (p : HostPort) (a : Nat) : (s.paired p a).cfg = s.base.cfg := rfl
@[simp] theorem State.paired_raw (s : State) (p : HostPort) (a : Nat) : (s.paired p a).raw = s.base.raw := rfl
@[simp] theorem State.paired_dnOut (s : State) (p : HostPort) (a : Nat) : (s.paired p a).dnOut = s.base.dnOut := rfl
@[simp] theorem State.paired_pinOfs (s : State) (p : HostPort) (a : Nat) : (s.paired p a).pinOfs = s.base.pinOfs := rfl
@[simp] theorem State.paired_outs (s : State) (p : HostPort) (a : Nat) : (s.paired p a).outs = s.base.outs := rfl
@[simp] theorem State.paired_evq (s : State) (p : HostPort) (a : Nat) : (s.paired p a).evq = s.base.evq := rfl
@[simp] theorem State.paired_lostLog (s : State) (p : HostPort) (a : Nat) : (s.paired p a).lostLog = s.base.lostLog := rfl
@[simp] theorem State.paired_freeCtr (s : State) (p : HostPort) (a : Nat) : (s.paired p a).freeCtr = s.base.freeCtr := rfl

/-! ### Small updates of the parts -/

@[simp] theorem Core.raise_nil (c : Core) : c.raise [] = c := by simp [Core.raise]
@[simp] theorem Core.raise_time (c : Core) (es : List Ev) : (c.raise es).time = c.time := rfl
@[simp] theorem Core.raise_cycle (c : Core) (es : List Ev) : (c.raise es).cycle = c.cycle := rfl
@[simp] theorem Core.raise_port (c : Core) (es : List Ev) : (c.raise es).port = c.port := rfl
@[simp] theorem Core.raise_seg (c : Core) (es : List Ev) : (c.raise es).seg = c.seg := rfl
@[simp] theorem Core.raise_slot (c : Core) (es : List Ev) : (c.raise es).slot = c.slot := rfl
@[simp] theorem Core.raise_role (c : Core) (es : List Ev) : (c.raise es).role = c.role := rfl
@[simp] theorem Core.raise_cuff (c : Core) (es : List Ev) : (c.raise es).cuff = c.cuff := rfl
@[simp] theorem Core.raise_field (c : Core) (es : List Ev) : (c.raise es).field = c.field := rfl
@[simp] theorem Core.raise_obs (c : Core) (es : List Ev) : (c.raise es).obs = c.obs := rfl
@[simp] theorem Core.raise_obsCnt (c : Core) (es : List Ev) : (c.raise es).obsCnt = c.obsCnt := rfl
@[simp] theorem Core.raise_eng (c : Core) (es : List Ev) : (c.raise es).eng = c.eng := rfl
@[simp] theorem Core.raise_sig (c : Core) (es : List Ev) : (c.raise es).sig = c.sig := rfl
@[simp] theorem Core.raise_disp (c : Core) (es : List Ev) : (c.raise es).disp = c.disp := rfl
@[simp] theorem Core.raise_prof (c : Core) (es : List Ev) : (c.raise es).prof = c.prof := rfl
@[simp] theorem Core.raise_gs (c : Core) (es : List Ev) : (c.raise es).gs = c.gs := rfl
@[simp] theorem Core.raise_vis (c : Core) (es : List Ev) : (c.raise es).vis = c.vis := rfl
@[simp] theorem Core.raise_boot (c : Core) (es : List Ev) : (c.raise es).boot = c.boot := rfl
@[simp] theorem Core.raise_led (c : Core) (es : List Ev) : (c.raise es).led = c.led := rfl
@[simp] theorem Core.raise_health (c : Core) (es : List Ev) : (c.raise es).health = c.health := rfl
@[simp] theorem Core.raise_maint (c : Core) (es : List Ev) : (c.raise es).maint = c.maint := rfl
@[simp] theorem Core.raise_err (c : Core) (es : List Ev) : (c.raise es).err = c.err := rfl
@[simp] theorem Core.raise_host (c : Core) (es : List Ev) : (c.raise es).host = c.host := rfl
@[simp] theorem Core.raise_image (c : Core) (es : List Ev) : (c.raise es).image = c.image := rfl
@[simp] theorem Core.raise_words (c : Core) (es : List Ev) : (c.raise es).words = c.words := rfl
@[simp] theorem Core.raise_cfg (c : Core) (es : List Ev) : (c.raise es).cfg = c.cfg := rfl
@[simp] theorem Core.raise_raw (c : Core) (es : List Ev) : (c.raise es).raw = c.raw := rfl
@[simp] theorem Core.raise_dnOut (c : Core) (es : List Ev) : (c.raise es).dnOut = c.dnOut := rfl
@[simp] theorem Core.raise_pinOfs (c : Core) (es : List Ev) : (c.raise es).pinOfs = c.pinOfs := rfl
@[simp] theorem Core.raise_outs (c : Core) (es : List Ev) : (c.raise es).outs = c.outs := rfl
@[simp] theorem Core.raise_freeCtr (c : Core) (es : List Ev) : (c.raise es).freeCtr = c.freeCtr := rfl
@[simp] theorem Core.out_time (c : Core) (x : Output) : (c.out x).time = c.time := rfl
@[simp] theorem Core.out_cycle (c : Core) (x : Output) : (c.out x).cycle = c.cycle := rfl
@[simp] theorem Core.out_port (c : Core) (x : Output) : (c.out x).port = c.port := rfl
@[simp] theorem Core.out_seg (c : Core) (x : Output) : (c.out x).seg = c.seg := rfl
@[simp] theorem Core.out_slot (c : Core) (x : Output) : (c.out x).slot = c.slot := rfl
@[simp] theorem Core.out_role (c : Core) (x : Output) : (c.out x).role = c.role := rfl
@[simp] theorem Core.out_cuff (c : Core) (x : Output) : (c.out x).cuff = c.cuff := rfl
@[simp] theorem Core.out_field (c : Core) (x : Output) : (c.out x).field = c.field := rfl
@[simp] theorem Core.out_obs (c : Core) (x : Output) : (c.out x).obs = c.obs := rfl
@[simp] theorem Core.out_obsCnt (c : Core) (x : Output) : (c.out x).obsCnt = c.obsCnt := rfl
@[simp] theorem Core.out_eng (c : Core) (x : Output) : (c.out x).eng = c.eng := rfl
@[simp] theorem Core.out_sig (c : Core) (x : Output) : (c.out x).sig = c.sig := rfl
@[simp] theorem Core.out_disp (c : Core) (x : Output) : (c.out x).disp = c.disp := rfl
@[simp] theorem Core.out_prof (c : Core) (x : Output) : (c.out x).prof = c.prof := rfl
@[simp] theorem Core.out_gs (c : Core) (x : Output) : (c.out x).gs = c.gs := rfl
@[simp] theorem Core.out_vis (c : Core) (x : Output) : (c.out x).vis = c.vis := rfl
@[simp] theorem Core.out_boot (c : Core) (x : Output) : (c.out x).boot = c.boot := rfl
@[simp] theorem Core.out_led (c : Core) (x : Output) : (c.out x).led = c.led := rfl
@[simp] theorem Core.out_health (c : Core) (x : Output) : (c.out x).health = c.health := rfl
@[simp] theorem Core.out_maint (c : Core) (x : Output) : (c.out x).maint = c.maint := rfl
@[simp] theorem Core.out_err (c : Core) (x : Output) : (c.out x).err = c.err := rfl
@[simp] theorem Core.out_host (c : Core) (x : Output) : (c.out x).host = c.host := rfl
@[simp] theorem Core.out_image (c : Core) (x : Output) : (c.out x).image = c.image := rfl
@[simp] theorem Core.out_words (c : Core) (x : Output) : (c.out x).words = c.words := rfl
@[simp] theorem Core.out_evsum (c : Core) (x : Output) : (c.out x).evsum = c.evsum := rfl
@[simp] theorem Core.out_cfg (c : Core) (x : Output) : (c.out x).cfg = c.cfg := rfl
@[simp] theorem Core.out_raw (c : Core) (x : Output) : (c.out x).raw = c.raw := rfl
@[simp] theorem Core.out_dnOut (c : Core) (x : Output) : (c.out x).dnOut = c.dnOut := rfl
@[simp] theorem Core.out_pinOfs (c : Core) (x : Output) : (c.out x).pinOfs = c.pinOfs := rfl
@[simp] theorem Core.out_evq (c : Core) (x : Output) : (c.out x).evq = c.evq := rfl
@[simp] theorem Core.out_lostLog (c : Core) (x : Output) : (c.out x).lostLog = c.lostLog := rfl
@[simp] theorem Core.out_freeCtr (c : Core) (x : Output) : (c.out x).freeCtr = c.freeCtr := rfl

/-! ### Dispatch -/

/-- A step takes the front command and leaves the queue's rest to it. -/
theorem step_cons (s : State) (i : Instr) : step { s with pending := i :: s.pending } = exec i s := rfl

end Sys2Proof.Machine
end

