-- ==== Sys2Proof/Laws/Command.lean ====
section
/-! SUPPORT. Laws/Command.lean: what the end of a command does: its events are raised in the event unit and seen by the Visor, and
nothing else of the parts changes. -/

namespace Sys2Proof.Machine

/-- Raising one event leaves every part but the Visor as it was. -/
theorem Chip.raise1_core (x : Chip) (e : Ev) : ∃ v, (x.raise1 e).core = { x.core with vis := v } := by
  unfold Chip.raise1; split
  · exact ⟨x.core.vis, rfl⟩
  · exact ⟨_, rfl⟩

/-- Raising one event: the event unit skips a suppressed one, and raises any other at the present ring time. -/
theorem Chip.raise1_ev (x : Chip) (e : Ev) :
    (x.raise1 e).ev = x.ev.raise (x.core.iso 5 2) x.core.now x.core.tcyc e := by
  unfold Chip.raise1; split
  · rename_i h; unfold EventUnit.raise; rw [if_pos h]
  · rfl

/-- Raising events leaves every part but the Visor as it was. -/
theorem Chip.raises_core (es : List Ev) (x : Chip) : ∃ v, (es.foldl Chip.raise1 x).core = { x.core with vis := v } := by
  induction es generalizing x with
  | nil => exact ⟨x.core.vis, rfl⟩
  | cons e es ih =>
    obtain ⟨v, hv⟩ := x.raise1_core e
    obtain ⟨w, hw⟩ := ih (x.raise1 e)
    exact ⟨w, by rw [List.foldl_cons, hw, hv]⟩

/-- The end of a command: no event waits, and of the parts only the Visor may have seen something. -/
theorem Chip.commit_core (x : Chip) : ∃ v, x.commit.core = { x.core with evq := [], lostLog := [], vis := v } :=
  Chip.raises_core (sortEv x.core.evq) _

/-- A command that raises nothing leaves the parts and the event unit as its effect made them. -/
theorem Chip.commit_quiet (x : Chip) (h : x.core.evq = []) (hl : x.core.lostLog = []) : x.commit = x := by
  obtain ⟨c, u⟩ := x
  unfold Chip.commit
  simp only at h hl
  rw [h, hl]
  show ({ core := { c with evq := [], lostLog := [] }, ev := u } : Chip) = _
  rw [← h, ← hl]

/-- Every state after a command has no event waiting. -/
theorem State.after_evq (s : State) (c : Core) : (s.after c).chip.core.evq = [] := by
  obtain ⟨v, hv⟩ := Chip.commit_core { core := c, ev := { s.chip.ev with sent := [] } }
  show (Chip.commit _).core.evq = []
  rw [hv]

end Sys2Proof.Machine
end

