-- ==== Sys2Proof/Laws/Memory.lean ====
section
/-! SUPPORT. Laws/Memory.lean: numbered things and byte memories: a read after a write, other places unchanged, and the canonical
form kept. -/

namespace Sys2Proof

/-! ### Numbered things -/

@[simp] theorem Tab.look?_put_self {α : Type} (t : Tab α) (k : Nat) (v : α) : (t.put k v).look? k = some v := by
  induction t with
  | nil => simp [Tab.put, Tab.look?]
  | cons e t ih =>
    obtain ⟨i, w⟩ := e
    unfold Tab.put
    split
    · simp [Tab.look?]
    · split
      · simp [Tab.look?]
      · rename_i h; simp only [Tab.look?, if_neg (Ne.symm h)]; exact ih

@[simp] theorem Tab.look_put_self {α : Type} (t : Tab α) (k : Nat) (v d : α) : (t.put k v).look k d = v := by
  simp [Tab.look]

theorem Tab.look?_put_ne {α : Type} (t : Tab α) (k j : Nat) (v : α) (h : j ≠ k) : (t.put k v).look? j = t.look? j := by
  induction t with
  | nil => simp [Tab.put, Tab.look?, Ne.symm h]
  | cons e t ih =>
    obtain ⟨i, w⟩ := e
    unfold Tab.put
    split
    · simp [Tab.look?, Ne.symm h]
    · split
      · rename_i h2; subst h2; simp [Tab.look?, Ne.symm h]
      · simp only [Tab.look?]; split
        · rfl
        · exact ih

theorem Tab.look_put_ne {α : Type} (t : Tab α) (k j : Nat) (v d : α) (h : j ≠ k) : (t.put k v).look j d = t.look j d := by
  simp [Tab.look, Tab.look?_put_ne t k j v h]

@[simp] theorem Tab.del_put_self {α : Type} (t : Tab α) (k : Nat) (v : α) : (t.put k v).del k = t.del k := by
  induction t with
  | nil => simp [Tab.put, Tab.del]
  | cons e t ih =>
    obtain ⟨i, w⟩ := e
    unfold Tab.put
    split
    · simp [Tab.del]
    · split
      · rename_i h2; subst h2; simp [Tab.del]
      · unfold Tab.del at *; simp only [List.filter_cons]; rw [ih]

theorem Tab.wf_tail {α : Type} {e : Nat × α} {t : Tab α} (h : Tab.wf (e :: t) = true) : Tab.wf t = true := by
  cases t with
  | nil => rfl
  | cons f t => simp only [Tab.wf, Bool.and_eq_true] at h; exact h.2

theorem Tab.wf_cons {α : Type} (e : Nat × α) (t : Tab α) (h : Tab.wf t = true) (hd : ∀ f ∈ t.head?, e.1 < f.1) :
    Tab.wf (e :: t) = true := by
  cases t with
  | nil => rfl
  | cons f t => simp only [Tab.wf, Bool.and_eq_true, decide_eq_true_eq]; exact ⟨hd f rfl, h⟩

theorem Tab.wf_head {α : Type} {e : Nat × α} {t : Tab α} (h : Tab.wf (e :: t) = true) : ∀ f ∈ t.head?, e.1 < f.1 := by
  cases t with
  | nil => simp
  | cons f t => simp only [Tab.wf, Bool.and_eq_true, decide_eq_true_eq] at h; intro g hg; cases hg; exact h.1

/-- Writing a key keeps the keys strictly rising. -/
theorem Tab.wf_put {α : Type} (t : Tab α) (k : Nat) (v : α) (h : Tab.wf t = true) : Tab.wf (t.put k v) = true := by
  induction t with
  | nil => rfl
  | cons e t ih =>
    obtain ⟨i, w⟩ := e
    have ht := Tab.wf_tail h
    have hh := Tab.wf_head h
    unfold Tab.put
    split
    · rename_i hk; exact Tab.wf_cons _ _ h (by intro f hf; cases hf; exact hk)
    · split
      · rename_i hk; subst hk; exact Tab.wf_cons _ _ ht hh
      · rename_i h1 h2
        refine Tab.wf_cons _ _ (ih ht) ?_
        cases t with
        | nil => intro f hf; cases hf; show i < k; omega
        | cons g t =>
          obtain ⟨j, u⟩ := g
          have := hh _ rfl
          unfold Tab.put
          intro f hf
          split at hf
          · cases hf; show i < k; omega
          · split at hf
            · cases hf; show i < k; omega
            · cases hf; exact this

/-! ### Byte memories -/

theorem Memory.wf_tail {d : Byte} {e : Host.Cell} {m : List Host.Cell} (h : Memory.wf d (e :: m) = true) : Memory.wf d m = true := by
  cases m with
  | nil => rfl
  | cons f m => simp only [Memory.wf, Bool.and_eq_true] at h; exact h.2

theorem Memory.wf_ne {d : Byte} {e : Host.Cell} {m : List Host.Cell} (h : Memory.wf d (e :: m) = true) : e.2 ≠ d := by
  cases m with
  | nil => simpa [Memory.wf] using h
  | cons f m => simp only [Memory.wf, Bool.and_eq_true, bne_iff_ne] at h; exact h.1.1

theorem Memory.wf_lt {d : Byte} {e : Host.Cell} {m : List Host.Cell} (h : Memory.wf d (e :: m) = true) : ∀ f ∈ m.head?, e.1 < f.1 := by
  cases m with
  | nil => simp
  | cons f m => simp only [Memory.wf, Bool.and_eq_true, decide_eq_true_eq] at h; intro g hg; cases hg; exact h.1.2

theorem Memory.wf_cons {d : Byte} {e : Host.Cell} {m : List Host.Cell} (h : Memory.wf d m = true) (hd : e.2 ≠ d)
    (hl : ∀ f ∈ m.head?, e.1 < f.1) : Memory.wf d (e :: m) = true := by
  cases m with
  | nil => simpa [Memory.wf] using hd
  | cons f m => simp only [Memory.wf, Bool.and_eq_true, bne_iff_ne, decide_eq_true_eq]; exact ⟨⟨hd, hl f rfl⟩, h⟩

/-- Every address after the head lies above it. -/
theorem Memory.wf_above {d : Byte} {e : Host.Cell} {m : List Host.Cell} (h : Memory.wf d (e :: m) = true) : ∀ f ∈ m, e.1 < f.1 := by
  induction m generalizing e with
  | nil => simp
  | cons g m ih =>
    intro f hf
    have hg := Memory.wf_lt h g rfl
    cases hf with
    | head => exact hg
    | tail _ hf => exact Nat.lt_trans hg (ih (Memory.wf_tail h) f hf)

/-- What is below every listed address reads as an unlisted one. -/
theorem memByte_below {d : Byte} {m : List Host.Cell} {a : Nat} (h : ∀ f ∈ m, a < f.1) : memByte d m a = d := by
  induction m with
  | nil => rfl
  | cons e m ih =>
    have : e.1 ≠ a := Nat.ne_of_gt (h e (List.mem_cons_self ..))
    simp only [memByte, if_neg this]
    exact ih fun f hf => h f (List.mem_cons_of_mem _ hf)

/-- Writing a byte keeps the canonical form. -/
theorem memSetByte_wf {d : Byte} {m : List Host.Cell} (h : Memory.wf d m = true) (a : Nat) (b : Byte) :
    Memory.wf d (memSetByte d m a b) = true := by
  induction m with
  | nil => unfold memSetByte; split <;> simp_all [Memory.wf]
  | cons e m ih =>
    obtain ⟨i, v⟩ := e
    have ht := Memory.wf_tail h
    have hn := Memory.wf_ne h
    have hl := Memory.wf_lt h
    unfold memSetByte
    split
    · rename_i ha
      split
      · exact h
      · rename_i hb; exact Memory.wf_cons h hb (by intro f hf; cases hf; exact ha)
    · split
      · rename_i ha; subst ha
        split
        · exact ht
        · rename_i hb; exact Memory.wf_cons ht hb hl
      · rename_i h1 h2
        refine Memory.wf_cons (ih ht) hn ?_
        have hab := Memory.wf_above h
        cases m with
        | nil =>
          unfold memSetByte
          split
          · simp
          · intro f hf; cases hf; show i < a; omega
        | cons g m =>
          obtain ⟨j, u⟩ := g
          have hj : i < j := hl _ rfl
          intro f hf
          unfold memSetByte at hf
          split at hf
          · split at hf
            · cases hf; exact hj
            · cases hf; show i < a; omega
          · split at hf
            · split at hf
              · exact hab f (List.mem_cons_of_mem _ (List.mem_of_mem_head? hf))
              · cases hf; show i < a; omega
            · cases hf; exact hj

theorem memSetBytes_wf {d : Byte} {m : List Host.Cell} (h : Memory.wf d m = true) (a : Nat) (bs : List Byte) :
    Memory.wf d (memSetBytes d m a bs) = true := by
  induction bs generalizing m a with
  | nil => exact h
  | cons b bs ih => exact ih (memSetByte_wf h a b) (a + 1)

theorem memSetWord_wf {d : Byte} {m : List Host.Cell} (h : Memory.wf d m = true) (a : Nat) (w : W32) :
    Memory.wf d (memSetWord d m a w) = true := memSetBytes_wf h a _

/-- A byte reads as it was written. -/
theorem memByte_set_self {d : Byte} {m : List Host.Cell} (h : Memory.wf d m = true) (a : Nat) (b : Byte) :
    memByte d (memSetByte d m a b) a = b := by
  induction m with
  | nil => unfold memSetByte; split <;> simp_all [memByte]
  | cons e m ih =>
    obtain ⟨i, v⟩ := e
    have hab := Memory.wf_above h
    unfold memSetByte
    split
    · rename_i ha
      split
      · rename_i hb
        rw [memByte_below, hb]
        intro f hf; cases hf with
        | head => exact ha
        | tail _ hf => exact Nat.lt_trans ha (hab f hf)
      · simp [memByte]
    · split
      · rename_i ha; subst ha
        split
        · rename_i hb; rw [memByte_below hab, hb]
        · simp [memByte]
      · rename_i h1 h2
        simp only [memByte, if_neg (Ne.symm h2)]; exact ih (Memory.wf_tail h)

/-- A write leaves every other byte alone. -/
theorem memByte_set_ne {d : Byte} {m : List Host.Cell} (h : Memory.wf d m = true) (a c : Nat) (b : Byte) (hc : c ≠ a) :
    memByte d (memSetByte d m a b) c = memByte d m c := by
  induction m with
  | nil => unfold memSetByte; split <;> simp [memByte, Ne.symm hc]
  | cons e m ih =>
    obtain ⟨i, v⟩ := e
    have hab := Memory.wf_above h
    unfold memSetByte
    split
    · split <;> simp [memByte, Ne.symm hc]
    · split
      · rename_i ha; subst ha
        split <;> simp [memByte, Ne.symm hc]
      · simp only [memByte]; split
        · rfl
        · exact ih (Memory.wf_tail h)

end Sys2Proof
end

