-- ==== Sys2Proof/Laws/Guarded.lean ====
section
/-! SUPPORT. Laws/Guarded.lean: what the row of a guarded command does where the pair can complete: the effect of the register on
`State.paired`, and nothing else. -/

namespace Sys2Proof.Machine

/-- A guarded register's offset: it decodes to itself, and its complement 0x80 above lies in its page. -/
structure GuardedAt (a : Nat) : Prop where
  self  : decodeAddr a = a
  twin  : decodeAddr (a + 0x80) = a + 0x80
  wg    : guarded a = true
  twinNot : guarded (a + 0x80) = false
  page  : (a + 0x80) - (a + 0x80) % 0x1000 = a - a % 0x1000

/-- The complement of a pending value whose window is open completes the pair. -/
theorem guardComplement_eq (c : Core) (u : EventUnit) (p : Path) (a : Nat) (w : W32) (t : Rt)
    (hg : c.host.guard.look? p.key = some ⟨a, w, t⟩) (hw : rtDiff c.now t ≤ guardWindow)
    (hs : slowPage (a - a % 0x1000) = true → c.busy (a - a % 0x1000) = false) :
    Chip.guardComplement { core := c, ev := u } p a (~~~w) = Chip.guardedNow { core := c.guardDrop p, ev := u } p a w := by
  have he : c.guardExpire p = c := by
    unfold Core.guardExpire; simp only [hg]; rw [if_neg (by omega)]
  unfold Chip.guardComplement Chip.onCore
  simp only [he, hg]
  have : (slowPage (a - a % 4096) && c.busy (a - a % 4096)) = false := by
    cases h : slowPage (a - a % 4096) <;> simp [*]
  simp [this]

/-- A write of the complement reaches HOSTIF's guard. -/
theorem hostWrite_twin (c : Core) (u : EventUnit) (p : HostPort) (a : Nat) (n : W32) (g : GuardedAt a)
    (h1 : c.pathUp p.path = true) (h2 : c.readOnly p.path = false) (h3 : c.alive (a - a % 0x1000) = true) :
    Chip.hostWrite { core := c, ev := u } p.path false (a + 0x80) n = Chip.guardComplement { core := c, ev := u } p.path a n := by
  have tw : guardTwin (a + 0x80) = true := by unfold guardTwin; simp [g.wg]
  unfold Chip.hostWrite; simp only [h1, h2]
  unfold Chip.regWrite; simp only [g.twin, g.page, h3, g.twinNot, tw]; simp

/-- A write of the value reaches HOSTIF's guard. -/
theorem hostWrite_value (c : Core) (u : EventUnit) (p : HostPort) (a : Nat) (w : W32) (g : GuardedAt a)
    (h1 : c.pathUp p.path = true) (h2 : c.readOnly p.path = false) (h3 : c.alive (a - a % 0x1000) = true) :
    Chip.hostWrite { core := c, ev := u } p.path false a w = { core := c.guardValue p.path a w, ev := u } := by
  unfold Chip.hostWrite; simp only [h1, h2]
  unfold Chip.regWrite; simp only [g.self, h3, g.wg]; rfl

/-- The row of a guarded command at a port that may complete its pair. -/
theorem guardCmd_eq (s : State) (p : HostPort) (a : Nat) (w : W32) (h : s.Pair p a w) (ga : GuardedAt a) :
    s.chip.fresh.guardCmd p.path a w = ({ core := s.paired p a, ev := s.evBase } : Chip).guardedEffect p.path a w := by
  obtain ⟨h1, h2, h3, h4, h5⟩ := h
  have fin : ∀ c : Core, c.guardDrop p.path = { s.base with host := { s.base.host with guard := s.base.host.guard.del p.path.key } } →
      Chip.guardedNow { core := c.guardDrop p.path, ev := s.evBase } p.path a w
        = ({ core := s.paired p a, ev := s.evBase } : Chip).guardedEffect p.path a w := by
    intro c hc
    unfold Chip.guardedNow; rw [hc]; unfold Chip.onCore State.paired
    by_cases hs : slowPage (a - a % 4096) = true
    · simp [hs]
    · simp [hs]
  have hx : s.chip.fresh = { core := s.base, ev := s.evBase } := rfl
  have first : (s.base.host.guard.look? p.path.key = none) →
      (s.chip.fresh.hostWrite p.path false a w).hostWrite p.path false (a + 0x80) (~~~w)
        = ({ core := s.paired p a, ev := s.evBase } : Chip).guardedEffect p.path a w := by
    intro hn
    obtain ⟨c1, hc1⟩ : ∃ c1 : Core, c1 = { s.base with host := { s.base.host with
      guard := s.base.host.guard.put p.path.key { addr := a, val := w, at' := s.base.now } } } := ⟨_, rfl⟩
    have e1 : s.chip.fresh.hostWrite p.path false a w = { core := c1, ev := s.evBase } := by
      rw [hx, hostWrite_value _ _ _ _ _ ga h1 h2 h3, hc1]
      unfold Core.guardValue
      have : (slowPage (a - a % 4096) && s.base.busy (a - a % 4096)) = false := by
        cases h : slowPage (a - a % 4096) <;> simp [*]
      have he : s.base.guardExpire p.path = s.base := by unfold Core.guardExpire; simp only [hn]
      simp only [he]
      rw [if_neg (by simp [this]), if_neg (by rw [hn]; decide)]
    rw [e1, hostWrite_twin c1 s.evBase p a _ ga (by rw [hc1]; exact h1) (by rw [hc1]; exact h2) (by rw [hc1]; exact h3),
      guardComplement_eq c1 _ _ _ w s.base.now (by rw [hc1]; exact Tab.look?_put_self _ _ _) (by
        rw [hc1]; show rtDiff s.base.now s.base.now ≤ _; unfold rtDiff guardWindow; simp) (by rw [hc1]; exact h4)]
    apply fin
    rw [hc1]; unfold Core.guardDrop; simp only [Tab.del_put_self]
  unfold Chip.guardCmd
  have hx' : s.chip.fresh.core.host.guard.look? p.path.key = s.base.host.guard.look? p.path.key := rfl
  rw [hx']
  cases hg : s.base.host.guard.look? p.path.key with
  | none => exact first hg
  | some g =>
    obtain ⟨e1, e2, e3⟩ := h5 g hg
    have : g = ⟨a, w, g.at'⟩ := by rw [← e1, ← e2]
    simp only []
    rw [if_pos ⟨e1, e2, e3⟩]
    show Chip.hostWrite { core := s.base, ev := s.evBase } _ _ _ _ = _
    rw [hostWrite_twin s.base s.evBase p a _ ga h1 h2 h3, guardComplement_eq _ _ _ _ w g.at' (by rw [hg, ← this]) e3 h4]
    exact fin _ rfl

/-- The row of a guarded command whose effect is on the parts. -/
theorem guardCmd_core (s : State) (p : HostPort) (a : Nat) (w : W32) (h : s.Pair p a w) (ga : GuardedAt a) (d : Core)
    (he : ({ core := s.paired p a, ev := s.evBase } : Chip).guardedEffect p.path a w = { core := d, ev := s.evBase }) :
    s.to (s.chip.run fun x => x.guardCmd p.path a w) = .next (s.after d) := by
  unfold State.to Chip.run
  simp only [guardCmd_eq s p a w h ga, he]; rfl

end Sys2Proof.Machine
end

