-- ==== Sys2Proof/Laws/Units.lean ====
section
/-! SUPPORT. Laws/Units.lean: what an instruction of a loop engine or a signal processor can do: the one place that unfolds how a
unit runs. -/

namespace Sys2Proof.Machine

/-! ### Ranges -/

/-- Saturation to a signed width is the limit to its range. -/
theorem satS_eq_within (w : Nat) (v : Int) : satS w v = within (sMin w) (sMax w) v := by
  have h : sMin w ≤ sMax w := by
    unfold sMin sMax; have : (1 : Int) ≤ ((2 ^ (w - 1) : Nat) : Int) := by exact_mod_cast Nat.one_le_two_pow
    omega
  unfold satS clampI within; split_ifs <;> omega

/-- A value is out of range where the limit changes it. -/
theorem outS_eq_within (w : Nat) (v : Int) : outS w v = decide (within (sMin w) (sMax w) v ≠ v) := by
  have h : sMin w ≤ sMax w := by
    unfold sMin sMax; have : (1 : Int) ≤ ((2 ^ (w - 1) : Nat) : Int) := by exact_mod_cast Nat.one_le_two_pow
    omega
  unfold outS within; rw [Bool.eq_iff_iff]; simp; omega

theorem within_range (lo hi v : Int) (h : lo ≤ hi) : lo ≤ within lo hi v ∧ within lo hi v ≤ hi := by unfold within; omega

theorem toInt_ofInt16 (v : Int) (h : -32768 ≤ v) (h' : v ≤ 32767) : (BitVec.ofInt 16 v).toInt = v := by
  rw [BitVec.toInt_ofInt, Int.bmod_eq_of_le] <;> omega

theorem toInt_ofInt40 (v : Int) (h : -549755813888 ≤ v) (h' : v ≤ 549755813887) : (BitVec.ofInt 40 v).toInt = v := by
  rw [BitVec.toInt_ofInt, Int.bmod_eq_of_le] <;> omega

/-- A scalar register holds 16 bits. -/
theorem Engine.dVal_range (e : Engine) (x : Nat) : -32768 ≤ e.dVal x ∧ e.dVal x ≤ 32767 := by
  unfold Engine.dVal
  have := BitVec.le_toInt (e.d.getD x 0); have := BitVec.toInt_lt (x := e.d.getD x 0); norm_num at *; omega

/-- An accumulator holds 40 bits. -/
theorem Engine.aVal_range (e : Engine) (x : Nat) : -549755813888 ≤ e.aVal x ∧ e.aVal x ≤ 549755813887 := by
  unfold Engine.aVal
  have := BitVec.le_toInt (e.a.getD x 0); have := BitVec.toInt_lt (x := e.a.getD x 0); norm_num at *; omega

/-! ### Loop engines -/

/-- An instruction on an engine that runs replaces the engine, and draws two free values. -/
theorem leOn_eq {s : State} {u : Nat} (h : s.EngineRuns u) (f : Engine → Engine) :
    s.base.leOn u f = s.withEngine u (f (s.engine u)) (s.chip.core.freeCtr + 2) := by
  unfold Core.leOn
  rw [if_pos]
  · rfl
  · have h1 : (s.base.le u).run = true := h.1
    have h2 : (s.base.le u).iso = false := h.2
    rw [h1, h2]; rfl

/-- An instruction on an engine that does not run, or is isolated, changes nothing. -/
theorem leOn_idle {s : State} {u : Nat} (h : ¬ s.EngineRuns u) (f : Engine → Engine) : s.base.leOn u f = s.base := by
  unfold Core.leOn
  rw [if_neg]
  intro hc
  have : ((s.base.le u).run && !(s.base.le u).iso) = true := hc
  simp only [Bool.and_eq_true, Bool.not_eq_true'] at this
  exact h this

theorem Engine.op_eq {e : Engine} (h : e.run = true) (b : Nat) (f : Engine → Engine) : e.op b f = f (e.fetched b) := by
  unfold Engine.op; rw [if_pos h]; rfl

theorem Engine.wd_eq (e : Engine) (x : Nat) (v : Int) (h : -32768 ≤ v) (h' : v ≤ 32767) : e.wd x v = e.gives16 x v := by
  unfold Engine.wd Engine.gives16; simp only [toInt_ofInt16 v h h']

theorem Engine.wa_eq (e : Engine) (x : Nat) (v : Int) (h : -549755813888 ≤ v) (h' : v ≤ 549755813887) : e.wa x v = e.gives40 x v := by
  unfold Engine.wa Engine.gives40; simp only [toInt_ofInt40 v h h']

theorem Engine.wdSat_eq (e : Engine) (x : Nat) (v : Int) : e.wdSat x v = e.gives16Sat x v := by
  have := within_range (-32768) 32767 v (by decide)
  have h1 : satS 16 v = within (-32768) 32767 v := satS_eq_within 16 v
  have h2 : outS 16 v = decide (within (-32768) 32767 v ≠ v) := outS_eq_within 16 v
  unfold Engine.wdSat Engine.wdSat.sat16' Engine.gives16Sat
  rw [h1, h2, wd_eq _ _ _ this.1 this.2]; rfl

theorem Engine.waSat_eq (e : Engine) (x : Nat) (v : Int) : e.waSat x v = e.gives40Sat x v := by
  have := within_range (-549755813888) 549755813887 v (by decide)
  have h1 : satS 40 v = within (-549755813888) 549755813887 v := satS_eq_within 40 v
  have h2 : outS 40 v = decide (within (-549755813888) 549755813887 v ≠ v) := outS_eq_within 40 v
  unfold Engine.waSat Engine.gives40Sat
  rw [h1, h2, wa_eq _ _ _ this.1 this.2]; rfl

/-! ### Signal processors -/

theorem Proc.runs_of {s : State} {u : Nat} (h : s.ProcRuns u) : (s.proc u).runs = true := by
  unfold Proc.runs; rw [h.1, h.2]; rfl

theorem Proc.advance_trap (r : Proc) (j : Option Nat) : (r.advance j).trap = r.trap := by
  unfold Proc.advance; repeat' split
  all_goals rfl

/-- An instruction that traps nothing: its effect, then the branch or the loop. -/
theorem Proc.op_eq {q : Proc} (h : q.runs = true) (b : Nat) (f : Proc → Proc) (r : Proc) (hr : f (q.begun b) = r)
    (ht : r.trap = none) : q.op b f = r.advance q.jump := by
  unfold Proc.op; rw [if_pos h]
  show (if (f (q.begun b)).trap.isSome = true then f (q.begun b) else (f (q.begun b)).advance q.jump) = _
  rw [hr, if_neg (by simp [ht])]

/-- An instruction that traps nothing on a processor that runs replaces the processor, and draws four free values. -/
theorem spOn_eq {s : State} {u : Nat} (h : s.ProcRuns u) (b : Nat) (f : Proc → Proc) (r : Proc) (hr : f ((s.proc u).begun b) = r)
    (ht : r.trap = none) :
    s.base.spOn u (fun q => q.op b f) = s.withProc u (r.advance (s.proc u).jump) (s.chip.core.freeCtr + 4) := by
  have := Proc.op_eq (Proc.runs_of h) b f r hr ht
  have h1 : (s.base.sp u).runs = true := Proc.runs_of h
  unfold Core.spOn; rw [if_pos h1]
  show (match ((s.proc u).op b f).trap with | some code => _ | none => _) = _
  rw [this]; simp only [Proc.advance_trap, ht]
  show ({ (s.base.putSp u ((s.proc u).op b f)) with freeCtr := s.base.freeCtr + 4 } : Core) = _
  rw [this]; rfl

/-- An instruction that traps with a code acts as FLT with that code. -/
theorem spOn_trap {s : State} {u code : Nat} (h : s.ProcRuns u) (f : Proc → Proc)
    (hf : f ((s.proc u).begun 1) = ((s.proc u).begun 1).fltTrap code) (hc : code < 256) :
    s.base.spOn u (fun q => q.op 1 f) = s.base.spFlt u code := by
  have hr := Proc.runs_of h
  have e : (s.proc u).op 1 f = (s.proc u).op 1 (fun q => q.fltTrap code) := by
    unfold Proc.op; rw [if_pos hr, if_pos hr]
    show (if (f ((s.proc u).begun 1)).trap.isSome = true then f ((s.proc u).begun 1)
      else (f ((s.proc u).begun 1)).advance _) = _
    rw [hf]; rfl
  unfold Core.spFlt Core.spOn
  rw [show code % 256 = code from Nat.mod_eq_of_lt hc]
  have e' : (s.base.sp u).op 1 f = (s.base.sp u).op 1 (fun q => q.fltTrap code) := e
  simp only [e']

theorem Proc.accSat_eq (q : Proc) (i : Nat) (v : Int) : q.accSat i v = q.givesSat i v := by
  have h1 : satS 56 v = limit56 v := satS_eq_within 56 v
  have h2 : outS 56 v = decide (limit56 v ≠ v) := outS_eq_within 56 v
  unfold Proc.accSat Proc.givesSat; rw [h1, h2]; rfl

theorem rnd23_eq (v : Int) : rnd23 v = (v + 2 ^ 22) / 2 ^ 23 * 2 ^ 23 := by unfold rnd23 roundShift; norm_num

end Sys2Proof.Machine
end

