-- ==== Sys2Proof/Tests/Slice0.lean ====
section
/-! SUPPORT. Tests/Slice0.lean: ill-formed terms that the check refuses; for each statement with hypotheses a state and operands that meet
them, clause by clause; and single commands against what the manual's rules and examples give. -/

namespace Sys2Proof.Tests

open Sys2Proof Sys2Proof.Machine

/-! ### Small states -/

/-- A state of the parts given. -/
def put (c : Core) : State := { chip := { core := c } }
/-- A chip that is RUNNING. -/
def run : Core := { boot := { st := .running, held := false } }
/-- The same with a PCIe link. -/
def host : Core := { run with host := { plink := true } }
/-- A crown on segment 0 whose cycle runs, with axis 0 in slot 0. -/
def crown : Core :=
  { run with
    role := { role := .crown }, cycle := { running := true }, seg := [(0, { phase := .formed })]
    image := { seg := [(0, { phy := .kr, driveMap := [0] })], axis := [(0, {})], mode := [(0, { present := true })] } }
/-- The task's field of the next state: what a command answers, read by `f`. -/
def got {α : Type} (i : Instr) (s : State) (f : State → α) : Option α :=
  match exec i s with
  | .next t => some (f t)
  | _ => none

/-- A host that is up may complete any pair at the PCIe port. -/
theorem pcie_pair (c : Core) (a : Nat) (w : W32) (h1 : c.boot = host.boot) (h2 : c.host = host.host) (h3 : c.err = {}) :
    (put c).Pair .pcie a w := by
  have r : (put c).base.running = true := by show decide (c.boot.st = .running) = true; rw [h1]; rfl
  have sb : (put c).base.standby = false := by
    show (decide (c.boot.lp = .standby) || decide (c.boot.lp = .waking)) = false; rw [h1]; rfl
  refine ⟨?_, rfl, ?_, ?_, ?_⟩
  · show (!c.boot.held && (c.host.plink && !c.err.isIso 5 0)) = true; rw [h1, h2, h3]; rfl
  · simp [Core.alive, r, sb]
  · intro _; show (c.host.posted.look? _).isSome = false; rw [h2]; rfl
  · intro g hg
    have : c.host.guard.look? 0 = some g := hg
    rw [h2] at this; cases this

/-- A write from the PCIe port reaches every block. -/
theorem pcie_writes (c : Core) (pg : Nat) (h1 : c.boot = host.boot) (h2 : c.host = host.host) (h3 : c.err = {}) :
    (put c).Writes .pcie pg :=
  let h := pcie_pair c pg 0 h1 h2 h3
  ⟨h.1, h.2.1, by
    have r : (put c).base.running = true := by show decide (c.boot.st = .running) = true; rw [h1]; rfl
    have sb : (put c).base.standby = false := by
      show (decide (c.boot.lp = .standby) || decide (c.boot.lp = .waking)) = false; rw [h1]; rfl
    simp [Core.alive, r, sb]⟩

/-! ### Witnesses: loop engines and signal processors -/

/-- Engine 0 with d0 = 3, d1 = −2 and a0 = 9, a1 = −9. -/
def leC (f : Engine → Engine) : Core :=
  { run with eng := { eng := [(0, f { run := true, d := [3, -2] ++ List.replicate 14 0, a := [9, -9, 0, 0] })] } }
/-- The same as a state. -/
def le (f : Engine → Engine) : State := put (leC f)

theorem witness_LeDataOps : (le id).EngineRuns 0 := ⟨rfl, rfl⟩
theorem witness_LeScalingOps : (le id).EngineRuns 0 ∧
    let e := (le id).engine 0
    e.dVal 1 ≤ e.dVal 0 ∧ e.dVal 0 ≤ e.dVal 0 ∧ (8#16).toNat % 16 ≤ 8 ∧ 0 ≤ e.aVal 0 ∧ (3 * 3 : Int) ≤ e.aVal 0 ∧ e.aVal 0 < 4 * 4 ∧
      e.aVal 1 < 0 ∧ e.dVal 0 ≠ 0 ∧ e.dVal 2 = 0 := ⟨⟨rfl, rfl⟩, by decide⟩
/-- An image of the cycle before is held. -/
def leImg : Core := { (leC id) with cycle := { cycle := 1, images := [{ cycle := 0, rtS := 0, words := [(0, [(8, 7)])] }] } }
theorem witness_LeLoads : (put leImg).EngineRuns 0 ∧
    (put leImg).base.prevWord (((put leImg).engine 0).d.getD 2 0).toNat 8 = some 7 ∧ (put leImg).base.prevWord 1 8 = some 0 :=
  ⟨⟨rfl, rfl⟩, by decide, by decide⟩
theorem witness_LeLoads_none : (le id).EngineRuns 0 ∧ (le id).base.prevWord 0 8 = none := ⟨⟨rfl, rfl⟩, by decide⟩
theorem witness_LeStores : (le fun e => { e with scratch := [(512, 5)] }).EngineRuns 0 ∧
    let e := (le fun e => { e with scratch := [(512, 5)] }).engine 0
    e.scratch.look? 512 = some 5 ∧ 511 < 512 ∧ e.buf.length < 63 := ⟨⟨rfl, rfl⟩, by decide⟩
theorem witness_LeStores_places : (∃ o, lawWritable [0x400] o = true) ∧ ∃ o, lawWritable [0x400] o = false := by
  constructor
  · exact ⟨0x400, by decide⟩
  · exact ⟨0x404, by decide⟩
theorem witness_LeControl : (le fun e => { e with z := true, stack := [7] }).EngineRuns 0 ∧
    let e := (le fun e => { e with z := true, stack := [7] }).engine 0
    ([true, e.z, !e.z][1]? = some true) ∧ ([true, e.z, !e.z][2]? = some false) ∧ e.stack.length < 4 ∧ e.stack = 7 :: [] :=
  ⟨⟨rfl, rfl⟩, by decide⟩
theorem witness_LeControl_full : (le fun e => { e with stack := [1, 2, 3, 4] }).EngineRuns 0 ∧
    4 ≤ ((le fun e => { e with stack := [1, 2, 3, 4] }).engine 0).stack.length := ⟨⟨rfl, rfl⟩, by decide⟩
/-- A LAW task of axis 0 on engine 0. -/
def lawR : Running := { r := { task := .law, key := 0, prio := 1, cycle := 0 }, cls := .eng, unit := 0 }
/-- Its state; `b` pairs it. -/
def lawC (b : Bool) : Core := { (leC fun e => { e with paired := b }) with disp := { running := [lawR] } }
theorem witness_LeControl_task : (put (lawC false)).EngineRuns 0 ∧ (put (lawC false)).base.disp.on .eng 0 = some lawR ∧ lawR.unit = 0 ∧
    lawR.r.task = .law ∧ ((put (lawC false)).engine 0).paired = false ∧ ((put (lawC true)).engine 0).paired = true :=
  ⟨⟨rfl, rfl⟩, by decide⟩

/-- Processor 0 with a task. -/
def spC (f : Proc → Proc) : Core :=
  { run with sig := { proc := [(0, f { task := some 0, r := [5, 0, 1, 2], m := [4, -4, 0, 0], p := [16, 17, 18, 19, 20, 21, 22, 23] })] } }
/-- The same as a state. -/
def sp (f : Proc → Proc) : State := put (spC f)
theorem witness_SpAccumulatorOps : (sp id).ProcRuns 0 ∧
    ((((sp id).proc 0).begun 1).moves (((sp id).proc 0).begun 1) ((sp id).base.spEnv 0) (some ⟨0, 0, 0⟩) none).trap = none :=
  ⟨⟨rfl, rfl⟩, by decide⟩
theorem witness_SpSearch : (sp id).ProcRuns 0 ∧ 3 < (((sp id).proc 0).begun 1).m.length := ⟨⟨rfl, rfl⟩, by decide⟩
theorem witness_SpDataMoves : (sp id).ProcRuns 0 ∧
    let q := ((sp id).proc 0).begun 1
    (q.access 0 0).isSome = true ∧ (q.access 1 0).isSome = true ∧ 0 ≠ 1 ∧
      q.mayStore ((sp id).base.spEnv 0).pair 0xFFF = false ∧ q.mayStore ((sp id).base.spEnv 0).pair 0x1400 = true := ⟨⟨rfl, rfl⟩, by decide⟩
theorem witness_SpDataMoves_bad : (sp fun q => { q with nn := List.replicate 8 0xE00000 }).ProcRuns 0 ∧
    (((sp fun q => { q with nn := List.replicate 8 0xE00000 }).proc 0).begun 1).access 0 3 = none := ⟨⟨rfl, rfl⟩, by decide⟩
theorem witness_SpMoveClass : (put { (spC id) with sig := { (spC id).sig with
      proc := [(0, { hand := some 2 })], fifo := [(2, [(1, 2, 3)])] } }).ProcRuns 0 ∧
    ([(1, 2, 3)] : List (Int × Int × Rt)) = (1, 2, 3) :: [] ∧ 16383 < 16384 := ⟨⟨rfl, rfl⟩, by decide⟩
theorem witness_SpAxisStore : (sp id).ProcRuns 0 ∧ (((sp id).proc 0).begun 2).buf.length < 32 := ⟨⟨rfl, rfl⟩, by decide⟩
/-- Modifiers of each mode, with r at either end of its range and beyond. -/
def modes : State := sp fun q => { q with nn := [0, 0x200000, 0x600000, 0x400001, 0x40000E, 0x400000, 0x40000F, 0] }
theorem witness_SpAddressing : modes.ProcRuns 0 ∧
    let n (j : Nat) := (((modes.proc 0).begun 1).nn.getD j 0).toNat
    n 0 / 2 ^ 21 = 0 ∧ n 1 / 2 ^ 21 = 1 ∧ 2 < n 2 / 2 ^ 21 ∧ (∀ j ∈ [3, 4], n j / 2 ^ 21 = 2 ∧ 1 ≤ n j % 16 ∧ n j % 16 ≤ 14) ∧
      n 5 / 2 ^ 21 = 2 ∧ n 5 % 16 = 0 ∧ n 6 / 2 ^ 21 = 2 ∧ n 6 % 16 = 15 := ⟨⟨rfl, rfl⟩, by decide⟩
theorem witness_SpControl : (sp fun q => { q with stack := [9], loops := [⟨1, 2, 3⟩] }).ProcRuns 0 ∧
    let q := ((sp fun q => { q with stack := [9], loops := [⟨1, 2, 3⟩] }).proc 0).begun 1
    q.stack.length < 4 ∧ q.stack = 9 :: [] ∧ q.loops.length < 4 ∧ q.loops = ⟨1, 2, 3⟩ :: [] ∧ 0 < (q.r.getD 0 0).toNat % 65536 ∧
      ([true, q.f.z][0]? = some true) ∧ [true, q.f.z][1]? = some false := ⟨⟨rfl, rfl⟩, by decide⟩
theorem witness_SpControl_full : (sp fun q => { q with stack := [1, 2, 3, 4], loops := List.replicate 4 ⟨1, 2, 3⟩ }).ProcRuns 0 ∧
    let q := ((sp fun q => { q with stack := [1, 2, 3, 4], loops := List.replicate 4 ⟨1, 2, 3⟩ }).proc 0).begun 1
    4 ≤ q.stack.length ∧ 4 ≤ q.loops.length := ⟨⟨rfl, rfl⟩, by decide⟩
theorem witness_SpSpecial : (sp id).ProcRuns 0 ∧
    let q := ((sp id).proc 0).begun 1
    (2 * 2 : Int) ≤ q.rm 0 ∧ q.rm 0 < 3 * 3 ∧ q.rm 1 < 0 ∧ q.rr 0 ≠ 0 ∧ q.rr 1 = 0 ∧ (q.m.getD 0 0).getLsbD 54 = (q.m.getD 0 0).getLsbD 55 :=
  ⟨⟨rfl, rfl⟩, by decide⟩
theorem witness_SpSpecial_angles : (sp id).ProcRuns 0 ∧ (((sp id).proc 0).begun 14).rr 1 = 0 ∧ (((sp id).proc 0).begun 14).rr 0 ≠ 0 :=
  ⟨⟨rfl, rfl⟩, by decide⟩
/-- A FILTER task of axis 0 on processor 0. -/
def filR (t : Task) : Running := { r := { task := t, key := 0, prio := 1, cycle := 0 }, cls := .sp, unit := 0 }
theorem witness_SpProgramEnds : ∀ t, (put { (spC id) with disp := { running := [filR t] } }).ProcRuns 0 ∧
    (put { (spC id) with disp := { running := [filR t] } }).base.disp.on .sp 0 = some (filR t) ∧
    ((put { (spC id) with disp := { running := [filR t] } }).proc 0).hand = none := fun _ => ⟨⟨rfl, rfl⟩, rfl, rfl⟩
/-- Processor 0 with the requests of pairs, and a flag IE. -/
def peakC (req : List Nat) (ie : Bool) : Core := { (spC fun q => { q with f := { q.f with ie := ie } }) with sig := { (spC fun q => { q with f := { q.f with ie := ie } }).sig with req := req } }
theorem witness_SpPeakEntry : let c := (put (peakC [0, 7] true)).base
    (((put (peakC [0, 7] true)).proc 0).iso = false ∧ ((put (peakC [0, 7] true)).proc 0).f.ie = true ∧
      ((put (peakC [0, 7] true)).proc 0).hand = none ∧ ((put (peakC [0, 7] true)).proc 0).jump = none ∧
      ∀ e ∈ ((put (peakC [0, 7] true)).proc 0).pend, e.slots = 0) ∧ (0 ∈ c.sig.req ∧ c.pairHome 0 = 0) ∧
      ∀ k < 0, ¬(k ∈ c.sig.req ∧ c.pairHome k = 0) := by decide
theorem witness_SpPeakEntry_last : let c := (put (peakC [7] true)).base
    (7 ∈ c.sig.req ∧ c.pairHome 7 = 0) ∧ ∀ k < 7, ¬(k ∈ c.sig.req ∧ c.pairHome k = 0) := by decide
theorem witness_SpPeakEntry_none : ((put (peakC [0] false)).proc 0).f.ie = false ∧ ∀ n < 8, n ∉ (put (peakC [] true)).base.sig.req := by decide
theorem witness_SpProgramEnds_rti : (sp fun q => { q with hand := some 1 }).ProcRuns 0 ∧
    ((sp fun q => { q with hand := some 1, handPk := some (1, 2, 3) }).proc 0).hand = some 1 := ⟨⟨rfl, rfl⟩, rfl⟩


/-! ### Witnesses: the cycle, its frames and its tasks -/

/-- A crown whose axis 0 runs task `t` on a unit. -/
def task (t : Task) : Core :=
  { crown with disp := { running := [{ r := { task := t, key := 0, prio := 1, cycle := 0 }, cls := .cu, unit := 0 }] } }
/-- A crown whose sense copies are awaited on segment 0, ring A open. -/
def ringC : Core := { crown with seg := [(0, { phase := .formed, a := { known := true, ret := 16 } })] }

theorem witness_CycleBoundary : (put crown).base.boot.st = .running ∧ (put crown).base.role.role = .crown ∧
    (put crown).base.standby = false ∧ (put crown).base.cycle.running = true := by decide
/-- The state as its old cycle has ended. -/
def ended (c : Core) : Core :=
  let e := (c.at (rtAdd c.cycle.rtS c.len)).endCycle c.cycle.rtS c.len
  { e with cycle := { e.cycle with cycle := e.cycle.cycle + 1, rtS := rtAdd c.cycle.rtS c.len } }
theorem witness_CycleBoundary_ended : (ended (put crown).base).computes = true ∧
    (ended (put { crown with role := { crown.role with yieldTo := some .refused } }).base).computes = false := by decide
theorem witness_CycleBoundary_start : (put { crown with cycle := {} }).base.cycle.running = false ∧
    (put { crown with cycle := {} }).base.role.role = .crown ∧ (put { crown with cycle := {} }).base.boot.st = .running := by decide
theorem witness_CycleBoundary_standby :
    (put { crown with boot := { run.boot with lp := .standby } }).base.standby = true ∧
    (put { crown with boot := { run.boot with lp := .standby } }).base.boot.st = .running ∧
    (put { crown with boot := { run.boot with lp := .standby } }).base.cycle.running = true ∧ (put run).base.cycle.running = false ∧ (put {}).base.boot.st ≠ .running := by decide
theorem witness_CycleFrames : (put crown).base.sends = true ∧ (put run).base.sends = false ∧ (put run).base.cycle.running = false ∧
    (put crown).base.cycle.running = true ∧ (put crown).base.computes = true := by decide
theorem witness_RingUpkeep : let c := (put ringC).base
    c.sends = true ∧ c.segLive 0 = true ∧ (c.sg 0).a.last = none ∧ (c.sg 0).b.last = none ∧ (c.sg 0).a.known = true ∧
      (c.sg 0).a.closed = false ∧ 16 ≤ (c.sg 0).a.ret ∧ (c.sg 0).cut = false ∧ (c.sg 0).phase ≠ .discover := by decide
theorem witness_RingUpkeep_b : let c := (put { crown with seg := [(0, { b := { known := true, ret := 16 } })] }).base
    (c.sg 0).b.known = true ∧ (c.sg 0).b.closed = false ∧ 16 ≤ (c.sg 0).b.ret ∧ (c.sg 0).cut = false := by decide
theorem witness_RingUpkeep_back : let c := (put { crown with seg := [(0, { phase := .formed
                                                                           a := { known := true, ret := 15, last := some 3 }, b := { last := some 4 } })] }).base
    c.sends = true ∧ c.segLive 0 = true ∧ (c.sg 0).a.last.isSome = true ∧ (c.sg 0).b.last.isSome = true ∧ (c.sg 0).a.ret < 16 := by decide
theorem witness_RingUpkeep_lock : let c := (put { crown with time := { lockRun := 256 } }).base
    c.role.role = .crown ∧ c.time.locked = false ∧ 256 ≤ c.time.lockRun := by decide
theorem witness_RingUpkeep_spare : let c := (put { run with role := { role := .spare }, time := { spareRun := 256 } }).base
    c.role.role = .spare ∧ c.role.readyRaised = false ∧ 256 ≤ c.time.spareRun := by decide
theorem witness_RingUpkeep_none : (put { crown with time := { lockRun := 255 } }).base.time.lockRun < 256 ∧
    ∀ g ∈ (put crown).base.segs, (put crown).base.admitted g = [] := by decide
/-- A node at position 0 of segment 0, its slot at 1,000 rt on either side, in a state; both ports linked. -/
def slotC (st : NodeSt) : Core :=
  { crown with
    image := { crown.image with seg := [(0, { phy := .kr, nodes := [(0, { slots := [(0, 1000, 1000)] })] })] }
    port := [(0, { link := true }), (1, { link := true })], seg := [(0, { phase := .formed, nodes := [(0, { st := st })] })] }
theorem witness_ReturnsAndRuns : let c := (put (slotC .admitted)).base
    c.sends = true ∧ c.segLive 0 = true ∧ (∀ ring < 2, (c.po (2 * 0 + (1 - ring))).link = true) ∧
      (c.is 0).nearest 0 0 1000 = some (0, 0) ∧ ((c.sg 0).node 0).st = .admitted ∧ ((c.sl 0).portOf 0 0).runs = 0 ∧
      band (c.is 0).phy 0 = .centred ∧ (c.is 0).nearest 0 0 9000 = some (0, 8000) ∧ band (c.is 0).phy 8000 = .out ∧
      (c.is 0).nearest 1 0 1000 = none ∧ c.segLive 1 = false := by decide
theorem witness_ReturnsAndRuns_lost : let c := (put (slotC .absent)).base
    c.sends = true ∧ c.segLive 0 = true ∧ (c.is 0).nearest 0 0 1000 = some (0, 0) ∧ ((c.sg 0).node 0).st ≠ .admitted := by decide
theorem witness_ReturnsAndRuns_again : let c := (put { (slotC .admitted) with slot := [(0, { port := [(0, { runs := 1 })] })] }).base
    0 < ((c.sl 0).portOf 0 0).runs := by decide
theorem witness_ReturnsAndRuns_noLink : (put crown).base.sends = true ∧ ∀ p < 2, ((put crown).base.po p).link = false := by decide
theorem witness_ChainTasks_deadline : let c := (put { crown with disp := { flow := [(0, { slots := 2 })] } }).base
    c.boot.st = .running ∧ c.cycle.running = true ∧ c.computes = true ∧ (c.disp.flow.look? 0).isSome = true ∧ (c.flow 0).closed = false := by
  decide
theorem witness_ChainTasks_closed : ((put { crown with disp := { flow := [(0, { closed := true })] } }).base.flow 0).closed = true := by
  decide
theorem witness_ChainTasks : ∀ t, ((put (task t)).base.runningTask t 0).isSome = true ∧ (put crown).base.runningTask t 0 = none := by
  intro t; cases t <;> decide
theorem witness_LawAndPairs : let c := (put (lawC false)).base
    c.runningTask .law 0 false = some lawR ∧ c.cf 0 .lawProg = (c.image.leLib : Int) ∧ c.runningTask .pack 0 false = none := by decide
/-- Two copies of axis 0 that agree, and two that differ. -/
def pairCs (w : List WEnt) : List PairCopy :=
  [{ engine := 0, writes := [], sticky := 0, ending := .fin }, { engine := 1, writes := w, sticky := 0, ending := .fin }]
theorem witness_LawAndPairs_copies :
    let c := (put { (lawC true) with eng := { (lawC true).eng with copies := [(0, pairCs [])] } }).base
    c.eng.copies.look 0 [] = pairCs [] ∧ ({ off := 0, val := 0, fmt := .f16 } : WEnt) :: [] ≠ [] := by decide
/-- Two copies that end in the same FLT. -/
def pairFlt : List PairCopy :=
  [{ engine := 0, writes := [], sticky := 0, ending := .flt 7 }, { engine := 1, writes := [], sticky := 0, ending := .flt 7 }]
theorem witness_LawAndPairs_flt : (put { (lawC true) with eng := { (lawC true).eng with copies := [(0, pairFlt)] } }).base.eng.copies.look 0 [] =
    pairFlt := by decide
theorem witness_LawAndPairs_next :
    let c := (put { (lawC true) with disp := { chain := [(0, { tasks := [{ task := .law }, { task := .pack }] })] } }).base
    (c.chainOf 0).after .law = some .pack ∧ c.chainLive 0 = true := by decide
theorem witness_ProfileAndMeasure : ((put (task .profile)).base.runningTask .profile 0).isSome = true ∧
    (put crown).base.runningTask .profile 0 = none := by decide
theorem witness_ProfileAndMeasure_meas : ((put (task .measure)).base.disp.running.find? (fun r =>
    r.r.task = .measure && r.r.key = 0)).isSome = true ∧ ∀ r ∈ (put crown).base.disp.running, ¬(r.r.task = .measure ∧ r.r.key = 0) := by decide
/-- A MEASURE task of area 3 waits. -/
def waitC : Core := { crown with disp := { measWin := true, sp := [{ task := .measure, key := 3, prio := 9, cycle := 0 }] } }
theorem witness_ProfileAndMeasure_wait : ((put waitC).base.disp.sp.filter fun q => decide (q.task = .measure ∧
    ((put waitC).base.disp.measWin = true ∨ q.cycle ≠ (put waitC).base.cycle.cycle))) = (put waitC).base.disp.sp := by decide

/-! ### Witnesses: guarded commands -/

/-- The pair of any command is complete at the port of a host that is up. -/
theorem witness_pairs (f : Core → Core) (hf : (f host).boot = host.boot ∧ (f host).host = host.host ∧ (f host).err = {}) (a : Nat) (w : W32) :
    (put (f host)).Pair .pcie a w := pcie_pair _ a w hf.1 hf.2.1 hf.2.2
/-- The host's chip in the role of a crown with axis 0 in AX_OPEN. -/
def hostAx (st : AxState) : Core :=
  { host with role := crown.role, cycle := crown.cycle, seg := crown.seg, image := crown.image, eng := { axis := [(0, { state := st })] } }
theorem witness_SequencerCommands : (put (hostAx .opened)).Pair .pcie 0x100 (w32 (0x40000000 + 0)) ∧
    let c := (put (hostAx .opened)).paired .pcie 0
    c.standby = false ∧ c.gopBusy = false ∧ c.cycle.running = true ∧ (c.image.mode.look 0 {}).present = true ∧
      (c.admitAct { act := .snapshot, port := 0 }).2 = true ∧ (c.admitAct { act := .netreset, port := 0 }).2 = true ∧
      (∀ a ∈ c.axes, (c.ax a).state = .off ∨ (c.ax a).state = .opened ∨ (c.ax a).state = .halt ∨ (c.ax a).state = .fault) :=
  ⟨pcie_pair _ _ _ rfl rfl rfl, by decide⟩
theorem witness_SequencerCommands_change :
    (put { (hostAx .off) with cycle := { change := some { target := 1, cEff := 9 } } }).Pair .pcie 0x100 0x80000000 ∧
    let c := (put { (hostAx .off) with cycle := { change := some { target := 1, cEff := 9 } } }).paired .pcie 0
    c.standby = false ∧ c.cycle.change = some { target := 1, cEff := 9 } := ⟨pcie_pair _ _ _ rfl rfl rfl, by decide⟩
theorem witness_SequencerCommands_nodes : ∀ st, let h : Core := { (hostAx .off) with
      role := { role := .refused }, seg := [(0, { nodes := [(63, { st := st })] })]
      image := { seg := [(0, { nodes := [(63, {})] })] } }
    (put h).Pair .pcie (pgSeg + 0x40) (w32 (0x40000000 + 63)) ∧ ((put h).base.sg 0).node 63 = { st := st } ∧
      (put h).base.role.role = .refused ∧ (((put h).base.is 0).nodes.look? 63).isSome = true :=
  fun _ => ⟨pcie_pair _ _ _ rfl rfl rfl, rfl, rfl, rfl⟩
theorem witness_TimeTraceAndLogCommands : (put { host with time := { rtState := .track, ptpA := { valid := true }, ptpB := { valid := true } } }).Pair
      .pcie (pgTime + 0x100) 1 ∧
    let c := (put { host with time := { rtState := .track, ptpA := { valid := true }, ptpB := { valid := true } } }).paired .pcie pgTime
    c.time.domValid 1 = true ∧ c.time.domValid 2 = true ∧ c.time.rtState ≠ .free ∧ c.time.residual.natAbs ≤ msRt :=
  ⟨pcie_pair _ _ _ rfl rfl rfl, by decide⟩
/-- Axis 0 fed by channel 15, or remotely. -/
def hostFb (src : FbSource) : Core := { (hostAx .opened) with image := { axis := [(0, { source := src })] } }
theorem witness_SourceAndAlignCommands : (put (hostFb (.remote 0x21))).Pair .pcie (pgCuff + 0x40) (w32 0x10000100) ∧
    let c := (put (hostFb (.remote 0x21))).paired .pcie pgCuff
    c.chanAxis 15 = none ∧ (c.imgAx 0).source = .remote 0x21 ∧ c.hasAx 0 = true := ⟨pcie_pair _ _ _ rfl rfl rfl, by decide⟩
theorem witness_SourceAndAlignCommands_fall : let h : Core := { (hostFb (.channel 15)) with
      cuff := { chan := [(15, { cfg := 1, suspect := true })] } }
    (put h).Pair .pcie (pgCuff + 0x40) (w32 0x1000000F) ∧
    let c := (put h).paired .pcie pgCuff
    let o := (c.ch 15).clearSuspect 15 (c.chanAxis 15)
    ((c.putCh 15 o.ch).raise o.evs).chanAxis 15 = some 0 ∧ o.fall = true := ⟨pcie_pair _ _ _ rfl rfl rfl, by decide⟩
theorem witness_SourceAndAlignCommands_align : (put (hostAx .opened)).Pair .pcie (pgCmt + 0x40) (w32 0x10000000) ∧
    let d := (put (hostAx .opened)).paired .pcie pgCmt
    d.hasAx 0 = true ∧ (d.ax 0).state = .opened ∧ d.cf 0 .cmtSrc = 0 := ⟨pcie_pair _ _ _ rfl rfl rfl, by decide⟩
theorem witness_SourceAndAlignCommands_permits : ∃ c : Core, c.hasAx 0 = true ∧ (c.ax 0).state = .opened ∧ c.cf 0 .cmtSrc = 0 ∧ c.permits 0 = true :=
  ⟨{ (hostAx .opened) with
      gs := { glob := .run, group := [(0, { released := true })], node := [(0, { seen := true, got := true })] }
      seg := [(0, { phase := .formed, nodes := [(0, { st := .admitted })] })]
      image := { crown.image with gs := { axis := [(0, { group := some 0 })] }, seg := [(0, { phy := .kr, nodes := [(0, { safety := true })] })] } },
    by decide⟩
theorem witness_AxisStateCommands : let c := (put (hostAx .off)).paired .pcie pgEng
    c.hasAx 0 = true ∧ (c.slotOf 0).isSome = true ∧ (c.ax 0).pend = none ∧ AxCmd.openCmd.from' (c.ax 0).state = true ∧
      c.cmdReason 0 .openCmd = 0 ∧ AxCmd.run.from' (c.ax 0).state = false := by decide
theorem witness_AxisStateCommands_pair : (put (hostAx .off)).Pair .pcie (pgEng + 0x40) (w32 (2 ^ 28 * 1 + 0)) :=
  pcie_pair _ _ _ rfl rfl rfl
theorem witness_AxisStateCommands_off : let c := (put (hostAx .opened)).paired .pcie pgEng
    AxCmd.off.from' (c.ax 0).state = true ∧ c.cmdReason 0 .off = 0 ∧ AxCmd.openCmd.from' (c.ax 0).state = false := by decide
theorem witness_ProfileCommands : (put (hostAx .opened)).Pair .pcie (pgProf + 0x40) (w32 (2 ^ 28 * 3 + 0)) ∧
    let c := (put (hostAx .opened)).paired .pcie pgProf
    (c.pa 0).mode ≠ .homing ∧ ∃ k : PrCmd, (c.pa 0).refusal (c.prCheck 0 k) k = 0 := ⟨pcie_pair _ _ _ rfl rfl rfl, by decide, ⟨.clr, by decide⟩⟩
theorem witness_ProfileCommands_refused : let c := (put (hostAx .opened)).paired .pcie pgProf
    (c.pa 0).refusal (c.prCheck 0 (.tblTime 5)) (.tblTime 5) ≠ 0 := by decide
theorem witness_SafetyAndVisorCommands : let h : Core := { host with gs := { glob := .run }, image := { gs := { group := [(0, { hostReq := true })] } } }
    (put h).Pair .pcie (pgGs + 0x40) (w32 (0x100 + 1)) ∧
    let c := (put h).paired .pcie pgGs
    c.gs.glob = .run ∧ (∀ g < 8, natBit 1 g = true → (c.image.gs.group.look g {}).hostReq = true) ∧ c.anyPermitted = false :=
  ⟨pcie_pair _ _ _ rfl rfl rfl, by decide⟩
theorem witness_SafetyAndVisorCommands_conf : let h : Core := { host with gs := { glob := .unconfirmed } }
    (put h).Pair .pcie (pgGs + 0x44) 0 ∧ ((put h).paired .pcie pgGs).gs.glob = .unconfirmed ∧ (0 : W32) = ((put h).paired .pcie pgGs).image.gs.schk ∧
      ((put h).paired .pcie pgGs).gs.glob ≠ .run := ⟨pcie_pair _ _ _ rfl rfl rfl, by decide⟩
theorem witness_SafetyAndVisorCommands_armed : let h : Core := { host with vis := { st := .armed } }
    (put h).Pair .pcie (pgVis + 0x180) 3 ∧ ((put h).paired .pcie pgVis).vis.st = .armed ∧ ((put h).paired .pcie pgVis).visOk = true :=
  ⟨pcie_pair _ _ _ rfl rfl rfl, by decide⟩
theorem witness_SafetyAndVisorCommands_arm : ∃ v : Core, v.vis.st = .idle ∧ v.vis.armDue = false ∧ v.vcfg.fits v.tcyc = true ∧
    v.vcfg.sourcesOk v.hasAx (fun n => v.time.pinMode n = 7) = true ∧ v.standby = false ∧ v.vis.memIso = false := ⟨host, by decide⟩
theorem witness_BootCommands : (put host).Pair .pcie (pgBoot + 0x40) 6 ∧
    let c := (put host).paired .pcie pgBoot
    c.boot.hostDue = none ∧ c.boot.st = .running ∧ c.boot.lp = .run ∧ c.gs.glob ≠ .test ∧ c.gs.confDue = none ∧ c.maint.run = [] ∧
      c.iso 5 4 = false ∧ c.boot.qop = none ∧ inCopy true c.boot.qspiAddr = false ∧ (c.admitAct { act := .flash }).2 = true :=
  ⟨pcie_pair _ _ _ rfl rfl rfl, by decide⟩
theorem witness_BootCommands_lp : ∀ l, l = LpState.parked ∨ l = .standby → let h : Core := { host with boot := { host.boot with lp := l } }
    (put h).Pair .spi (pgBoot + 0x40) 3 ∧ (put h).base.boot.lp = l ∧ (put h).base.health.thot = false ∧
      (((put h).paired .spi pgBoot).admitAct { act := .wake, port := 1 }).2 = true := by
  rintro l (rfl | rfl) <;> exact ⟨⟨rfl, rfl, rfl, fun _ => rfl, fun g hg => by cases hg⟩, rfl, rfl, rfl⟩
/-- Lining of target 4 within 0 to 9. -/
def linC : Core := { host with image := { lin := some [⟨4, 0, 9⟩] }, led := { linTgt := 4, linVal := 9 } }
theorem witness_LedgerAndMaintenanceCommands : (put linC).Pair .pcie (pgLed + 0x40) 1 ∧
    let c := (put linC).paired .pcie pgLed
    c.ledgerOk = true ∧ linOk (c.image.lin.getD []) c.led.linTgt c.led.linVal = true ∧
      pendPut c.led.led.pending (.lin { tgt := c.led.linTgt, val := c.led.linVal, inst := c.boot.head.inst }) =
        some [.lin { tgt := 4, val := 9, inst := 0 }] ∧
      c.retestReason 2 41 = 7 ∧ (c.admitAct { act := .retest, region := 3, block := 0 }).2 = true :=
  ⟨pcie_pair _ _ _ rfl rfl rfl, by decide⟩
theorem witness_LedgerAndMaintenanceCommands_retest :
    ((put { linC with maint := { target := 0x201 } }).paired .pcie pgMaint).retestReason 2 1 = 4 ∧
    ((put { linC with maint := { target := 0x201 }, image := { reserve := 1 } }).paired .pcie pgMaint).retestReason 2 1 = 0 := by decide

/-! ### Witnesses: host ports -/

theorem witness_RegisterWrites : (put {}).base.pathUp .pcie = false ∧ decodeAddr (pgTime + 4) = pgTime + 4 ∧ slowPage pgTime = true := by decide
theorem witness_RegisterWrites_ro : let c := (put { run with image := { hostCfg := 1 } }).base
    c.pathUp .spi = true ∧ c.readOnly .spi = true := by decide
theorem witness_RegisterWrites_kinds : (put host).Writes .pcie pgEv ∧ (put host).Writes .pcie pgHost ∧ (put host).Writes .pcie pgVis ∧
    (∃ a, postedReg a = true ∧ (guarded a || guardTwin a) = false ∧ a - a % 0x1000 ≠ pgEv ∧ a - a % 0x1000 ≠ pgHost) ∧
    (selMask (pgVis + 0x48)).isSome = true ∧ (guarded (pgVis + 0x48) || guardTwin (pgVis + 0x48) || postedReg (pgVis + 0x48)) = false ∧
    (∃ a, (guarded a || guardTwin a || postedReg a) = false ∧ selMask a = none ∧ a - a % 0x1000 ≠ pgEv ∧ a - a % 0x1000 ≠ pgHost) ∧
    SlowBlock.time.wf = true ∧ (put host).base.host.posted.look? SlowBlock.time.page = none :=
  ⟨pcie_writes _ _ rfl rfl rfl, pcie_writes _ _ rfl rfl rfl, pcie_writes _ _ rfl rfl rfl, ⟨pgHealth + 0x0C, by decide⟩, by decide, by decide,
    ⟨0x3F00, by decide⟩, by decide, by decide⟩
/-- The value 5 of ENGINE_CMD is pending since ring time 0. -/
def pendC (now : BitVec 64) : Core :=
  { host with host := { plink := true, guard := [(0, { addr := pgEng + 0x40, val := 5, at' := 0 })] }, time := { ring := { raw := now } } }
theorem witness_GuardedPairRules : guarded (pgEng + 0x40) = true ∧ decodeAddr (pgEng + 0x40) = pgEng + 0x40 ∧
    decodeAddr (pgEng + 0xC0) = pgEng + 0xC0 ∧ guarded (pgEng + 0xC0) = false ∧
    (pgEng + 0xC0) - (pgEng + 0xC0) % 0x1000 = (pgEng + 0x40) - (pgEng + 0x40) % 0x1000 ∧
    (put host).Writes .pcie ((pgEng + 0x40) - (pgEng + 0x40) % 0x1000) ∧ slowPage ((pgEng + 0x40) - (pgEng + 0x40) % 0x1000) = false ∧
    (put host).base.host.guard.look? 0 = none :=
  ⟨by decide, by decide, by decide, by decide, by decide, pcie_writes _ _ rfl rfl rfl, by decide, by decide⟩
theorem witness_GuardedPairRules_window : (put (pendC 400000)).base.host.guard.look? 0 = some { addr := pgEng + 0x40, val := 5, at' := 0 } ∧
    ¬400000 < rtDiff (put (pendC 400000)).base.now 0 ∧ 400000 < rtDiff (put (pendC 400008)).base.now 0 ∧
    (0 : W32) ≠ ~~~5 ∧ pgEng + 0x40 ≠ pgEng + 0x44 ∧ (put (pendC 400000)).Writes .pcie pgEng := by
  refine ⟨by decide, by decide, by decide, by decide, by decide, ⟨by decide, by decide, by decide⟩⟩
theorem witness_PlainWrites : (put host).Writes .pcie 0 ∧ (put host).Writes .pcie pgCuff ∧ (put host).Writes .pcie pgVis ∧
    (put host).Writes .pcie pgBoot ∧ (put host).base.standby = false ∧ (put host).base.iso 5 2 = false ∧ (put host).base.iso 5 5 = false ∧
    (∀ x ∈ (put host).base.fedBy 15, ((put host).base.ax x).state = .off) ∧ (cuffMask 0).isSome = true ∧
    pendPut (put host).base.led.led.pending (.reg (pgBoot + 0x30) (3 &&& 3)) = some [.reg (pgBoot + 0x30) 3] :=
  ⟨pcie_writes _ _ rfl rfl rfl, pcie_writes _ _ rfl rfl rfl, pcie_writes _ _ rfl rfl rfl, pcie_writes _ _ rfl rfl rfl, by decide, by decide,
    by decide, by decide, by decide, by decide⟩
theorem witness_PlainWrites_fed : let h := { (hostFb (.channel 15)) with eng := { axis := [(0, { state := .run })] } }
    (put h).Writes .pcie pgCuff ∧ 0 ∈ (put h).base.fedBy 15 ∧ ((put h).base.ax 0).state ≠ .off ∧ ((put h).base.ax 0).state ≠ .opened :=
  ⟨pcie_writes _ _ rfl rfl rfl, by decide, by decide, by decide⟩
/-- Axis 0 in a state, with an integrator word at 0xA80. -/
def hostInt (st : AxState) : Core := { (hostAx st) with image := { crown.image with intWords := [0xA80] } }
theorem witness_PlainWrites_axis : (put (hostAx .opened)).Writes .pcie 0 ∧ (put (hostAx .opened)).base.iso 5 3 = false ∧
    (put (hostAx .opened)).base.hasAx 0 = true ∧ ((put (hostAx .opened)).base.pa 0).mode = .host ∧
    (∃ o, 0x800 ≤ o ∧ o < 0x1000 ∧ o % 4 = 0 ∧ (put (hostInt .opened)).base.cfgReason 0 o 0 = 0) ∧
    ∃ o, 0x800 ≤ o ∧ o < 0x1000 ∧ o % 4 = 0 ∧ (put (hostInt .run)).base.cfgReason 0 o 0 ≠ 0 :=
  ⟨pcie_writes _ _ rfl rfl rfl, by decide, by decide, by decide, ⟨0xA80, by decide⟩, ⟨0xA80, by decide⟩⟩
theorem witness_PlainWrites_full : let h : Core := { host with led := { led := { pending := List.replicate 64 (.reg 0 0) } } }
    (put h).Writes .pcie pgBoot ∧ pendPut (put h).base.led.led.pending (.reg (pgBoot + 0x30) 1) = none :=
  ⟨pcie_writes _ _ rfl rfl rfl, by decide⟩
theorem witness_PopsAndDataRegisters : (put host).base.pathUp .pcie = true ∧ (put host).base.alive pgTime = true ∧
    (put host).base.alive (pgSeg + 0x3000) = true ∧ (put host).base.alive pgCuff = true ∧ (put host).base.alive pgDisp = true ∧
    (put host).base.alive pgVis = true ∧ (put host).base.alive pgEv = true ∧ (put host).base.alive pgBoot = true ∧
    (put host).base.alive pgLed = true ∧ (put host).base.alive pgProf = true ∧ (put host).base.busy pgLed = false ∧
    (put host).base.time.caps = [] ∧ (put host).base.disp.trace = [] ∧ (put host).evBase.log = [] ∧ (put host).base.vis.memIso = false := by decide
theorem witness_PopsAndDataRegisters_full : let c := (put { host with
      time := { caps := [⟨1, 0, true⟩] }, cuff := { chan := [(15, { latch := [⟨1, 2, false, false⟩] })] }
      disp := { trace := [⟨1, 2, 3, 4⟩], trWord := 3 } }).base
    c.time.caps = ⟨1, 0, true⟩ :: [] ∧ (c.ch 15).latch = ⟨1, 2, false, false⟩ :: [] ∧ c.disp.trace = ⟨1, 2, 3, 4⟩ :: [] ∧ c.disp.trWord = 3 := by decide
theorem witness_PcieEndpoint : (put host).base.pathUp .pcie = true ∧ (put host).base.host.d3 = false ∧ pcieFits false 0 65 = false ∧
    pcieFits true 0 1 = true ∧ (put run).base.boot.held = false ∧ (put run).base.iso 5 0 = false ∧ (put run).base.host.plink = false ∧
    (put run).base.standby = false ∧ (put host).base.iso 5 2 = false := by decide
theorem witness_SpiPort : (put run).base.pathUp .spi = true ∧ (spaceOf 0).isSome = true ∧ spaceOf 0xFFFFFFFC = none ∧
    (put run).base.readOnly .spi = false := by decide
theorem witness_SpiPort_open : (put { run with host := { spi := .write 0 } }).base.pathUp .spi = true ∧
    (put { run with host := { spi := .write 0 } }).base.host.spi = .write 0 ∧
    (put { run with host := { spi := .other } }).base.host.spi = .other := by decide
/-- QMP on port 0 with a session of version 2 at SEQ 5, GUARDED writes permitted. -/
def qmpC : Core := { run with image := { qmpCfg := 0xFF010000 }, host := { qmp := [(0, { ver := 2, seq := 5, last := ⟨2, 0, []⟩, at' := 0 })] } }
/-- A request of that session with its tag. -/
def qmpM (type : Nat) (seq : W32) (pl : List Byte) : QmpMsg :=
  let m : QmpMsg := { port := 0, ver := 2, keyId := 0, session := 1, seq := seq, payload := pl, tag := [] }
  { m with tag := Config.hmacTag [] (m.bytes type) }
theorem witness_QmpSessions : ∀ type pl, (put qmpC).QmpAsks (qmpM type 6 pl) type { ver := 2, seq := 5, last := ⟨2, 0, []⟩, at' := 0 } := by
  intro type pl
  refine ⟨(by decide : 0 < 2), (by decide : (put qmpC).base.pathUp (.qmp 0 0) = true), (by decide : (put qmpC).base.qmpOn 0 = true), ?_,
    (by decide : (put qmpC).base.host.qmp.look? (sessionKey 0 1) = some _), (by decide : 1 ≠ 0), (by decide : (5 : W32).toNat < (6 : W32).toNat), rfl,
    (by decide : ((put qmpC).base.qmpRate 0).2 = true)⟩
  simp [Core.tagOk, qmpM, QmpMsg.bytes, State.base, put, qmpC, run]
theorem witness_QmpSessions_hello : qmpVersion 1 9 = some 2 ∧ ((put qmpC).base.host.freeSession 0).isSome = true ∧ ([] : List Byte).length % 8 = 0 ∧
    (put qmpC).base.wmask 0 = true ∧ (put qmpC).base.standby = false ∧ (6 : W32).toNat ≠ 5 ∧ sessionKey 0 1 = 0 := by decide
theorem witness_QmpSessions_image : let c := (put { qmpC with cycle := { images := [⟨7, 0, [], [], []⟩] } }).base
    c.cycle.images.head? = some ⟨7, 0, [], [], []⟩ ∧ c.imageOf 7 = some ⟨7, 0, [], [], []⟩ := by decide

/-! ### Witnesses: feedback, alignment, the observer -/

/-- Channel 0 with configuration words, feeding axis 0. -/
def chC (f : Chan → Chan) : Core := { (hostFb (.channel 0)) with cuff := { chan := [(0, f { cfg := 1, cfg2 := 8, idxtol := 0 })] } }
theorem witness_FeedbackChannels_quad : let c := (put (chC id)).base
    c.chanUp 0 = true ∧ (c.ch 0).type = 1 ∧ (c.ch 0).idxMode ≠ 2 ∧ (∃ k, quadStep (c.ch 0).a (c.ch 0).b true (c.ch 0).b = some k ∧ k ≠ 0) ∧
      rtGe (c.pinTime (0x10 + 4 * 0 + 0) 40) c.cycle.rtS = true :=
  ⟨by decide, by decide, by decide, ⟨_, rfl, by decide⟩, by decide⟩
theorem witness_FeedbackChannels_conv : let c := (put (chC fun x => { x with cfg := 4 })).base
    c.chanUp 0 = true ∧ c.adcUp 0 = true ∧ (c.ch 0).type = 4 ∧ (scCorrect (c.ch 0).lin (c.ch 0).lin2 (sat16 0) (sat16 0)).2.2.2 = false ∧
      (c.ch 0).outWin 0 = false ∧ (c.ch 0).outWin 1 = true := by decide
theorem witness_FeedbackChannels_dark : (put { (chC id) with vis := { iso := true } }).base.visOk = false ∧
    (put { (chC id) with vis := { iso := true } }).base.chanUp 0 = true := by decide
theorem witness_FeedbackChannels_peak : let c := (put { (chC fun x => { x with cfg := 6 }) with sig := { fifo := [(0, [(1, 2, 3), (4, 5, 6)])] } }).base
    c.chanUp 0 = true ∧ c.adcUp 0 = true ∧ (c.ch 0).type = 6 ∧ (c.ch 0).outWin 0 = false ∧ 2 ≤ (c.sig.fifo.look 0 []).length ∧
      ((put (chC fun x => { x with cfg := 6 })).base.sig.fifo.look 0 []).length < 2 := by decide
theorem witness_FeedbackChannels_ssi : let c := (put (chC fun x => { x with cfg := 5, ssiBusy := true })).base
    c.chanUp 0 = true ∧ (c.ch 0).ssiBusy = true ∧ c.standby = false ∧ (c.ch 0).type = 5 ∧ (c.ch 0).ssiRaw = none ∧ (c.ch 0).suspect = false ∧ bit (c.ch 0).cfg2 14 = false ∧
      bit (c.ch 0).cfg2 15 = false := by decide
theorem witness_FeedbackChannels_latch : let c := (put (chC fun x => { x with cfg := 0x6001 })).base
    c.chanUp 0 = true ∧ c.standby = false ∧ (c.ch 0).latSelects true = true ∧ (c.ch 0).latch.length < 8 ∧
      8 ≤ ((put (chC fun x => { x with cfg := 0x6001, latch := List.replicate 8 ⟨0, 0, false, false⟩ })).base.ch 0).latch.length := by decide
theorem witness_FeedbackChannels_standby : (put { (chC id) with boot := { (chC id).boot with lp := .standby } }).base.chanUp 0 = true ∧
    (put { (chC id) with boot := { (chC id).boot with lp := .standby } }).base.standby = true := by decide
/-- Axis 0 with values of configuration fields. -/
def chCf (l : CfgVals) : Core := { (chC id) with cfg := [(0, l)] }
theorem witness_FeedbackChannels_limit : let c := (put (chCf [(.limNegIn, 0), (.limPosIn, 15), (.hmSw, 15)])).base
    c.chanUp 0 = true ∧ c.standby = false ∧ (c.prof.sw.look 0 {}).level ≠ true ∧ c.axes = [0] ∧ c.cf 0 .limNegIn = 0 ∧ c.cf 0 .limPosIn ≠ 0 ∧
      c.cf 0 .hmSw ≠ 0 ∧ (c.pa 0).limP = false ∧ false = natBit (c.cf 0 .limPol).toNat 0 := by decide
theorem witness_FeedbackChannels_noLimit : let c := (put (chCf [(.limNegIn, 15), (.limPosIn, 15), (.hmSw, 15)])).base
    ∀ a ∈ c.axes, c.cf a .limNegIn ≠ 0 ∧ c.cf a .limPosIn ≠ 0 ∧ c.cf a .hmSw ≠ 0 := by decide

/-- Axis 0 in AX_ALIGN at a step. -/
def alnC (g : AlignSt) (sus : Bool) : Core :=
  { (hostFb (.channel 0)) with
    cuff := { chan := [(0, { cfg := 1, suspect := sus })] }, eng := { axis := [(0, { state := .align })] }
    field := { axis := [(0, { align := g })] } }
theorem witness_AlignmentAndObserver_check : ∀ b, let c := (put (alnC { step := .check } b)).base
    (c.ax 0).state = .align ∧ (c.fa 0).align.step = .check ∧ (c.susp 0 || c.badCyc 0 || (c.fa 0).uv) = b := by decide
theorem witness_AlignmentAndObserver_hold : let c := (put (alnC { step := .hold1, hist := [7] } false)).base
    (c.ax 0).state = .align ∧ (c.fa 0).align.still (c.cf 0) = true := by decide
theorem witness_AlignmentAndObserver_hold2 : let c := (put (alnC { step := .hold2, hist := [7] } false)).base
    (c.ax 0).state = .align ∧ (c.fa 0).align.step = .hold2 ∧ (c.fa 0).align.still (c.cf 0) = true := by decide
theorem witness_AlignmentAndObserver_ramp : let c := (put (alnC { step := .ramp1 } false)).base
    (c.ax 0).state = .align ∧ (c.fa 0).align.step = .ramp1 := by decide
theorem witness_AlignmentAndObserver_step : let c := (put (alnC { step := .step } false)).base
    (c.ax 0).state = .align ∧ (c.fa 0).align.step = .step ∧ (c.fa 0).align.theta = 0 := by decide
theorem witness_AlignmentAndObserver_eval : let c := (put (alnC { step := .eval, th1 := 0x4000 } false)).base
    (c.ax 0).state = .align ∧ (c.fa 0).align.step = .eval ∧ alignEval (c.cf 0) 0x4000 0 = 0 ∧ alignEval (c.cf 0) 0x4001 0 ≠ 0 := by decide
theorem witness_AlignmentAndObserver_down : ∀ b, let c := (put (alnC { step := .rampdn, failed := b } false)).base
    (c.ax 0).state = .align ∧ (c.fa 0).align.step = .rampdn ∧ (c.fa 0).align.failed = b := by decide
/-- Axis 0 with observer state and configuration. -/
def obsC (x : ObsAxis) (l : CfgVals) : Core := { (chCf l) with obs := [(0, x)] }
theorem witness_AlignmentAndObserver_rest : let c := (put (obsC { sub := .probe, prb := [(0, 0), (0, 0), (0, 0)] } [(.obsPrbImin, 1)])).base
    (c.ob 0).sub = .probe ∧ (c.ob 0).prb = [(0, 0), (0, 0), (0, 0)] ∧
      probeOutcome (c.cf 0) (probeVals (c.cf 0) c.modeI.tU c.tcyc (0, 0) (0, 0) (0, 0)) = .rest :=
  ⟨rfl, rfl, by simp [probeOutcome, probeVals, isqrt]; decide⟩
/-- A sequence of probes at axis 0, in DETECT. -/
def prbC (p q r : Int × Int) : Core :=
  obsC { sub := .detect, prb := [p, q, r] } [(.obsPrbImin, 1), (.keChk, 1), (.obsKl, 0x4000), (.keHi, 0), (.keLo, 0)]
/-- Its outcome. -/
def prbO (c : Core) (p q r : Int × Int) : Probe := probeOutcome (c.cf 0) (probeVals (c.cf 0) c.modeI.tU c.tcyc p q r)
theorem root25 : isqrt 25 = 5 := by decide
theorem root0 : isqrt 0 = 0 := by decide
theorem witness_AlignmentAndObserver_inconsistent : let c := (put (prbC (0, 0) (5, 0) (5, 0))).base
    (c.ob 0).sub = .detect ∧ (c.ob 0).prb = [(0, 0), (5, 0), (5, 0)] ∧ prbO c (0, 0) (5, 0) (5, 0) = .inconsistent :=
  ⟨rfl, rfl, by simp [prbO, probeOutcome, probeVals, root0, root25, Core.cf, put, prbC, obsC, chCf, State.base, cfgGet, Tab.look, Tab.look?]⟩
theorem witness_AlignmentAndObserver_keHigh : let c := (put (prbC (5, 0) (5, 0) (5, 0))).base
    (c.ob 0).prb = [(5, 0), (5, 0), (5, 0)] ∧ prbO c (5, 0) (5, 0) (5, 0) = .keHigh :=
  ⟨rfl, by
    simp [prbO, probeOutcome, probeVals, root25, Core.cf, put, prbC, obsC, chCf, State.base, cfgGet, Tab.look, Tab.look?, sgn16, sgn, wrapS]
    decide⟩
theorem witness_AlignmentAndObserver_turning : let c := (put (obsC { sub := .detect, prb := [(5, 0), (5, 0), (5, 0)] } [(.obsPrbImin, 1)])).base
    (c.ob 0).prb = [(5, 0), (5, 0), (5, 0)] ∧ prbO c (5, 0) (5, 0) (5, 0) = .turning false :=
  ⟨rfl, by simp [prbO, probeOutcome, probeVals, root25, Core.cf, put, obsC, chCf, State.base, cfgGet, Tab.look, Tab.look?, sgn16, sgn, wrapS]⟩
theorem witness_AlignmentAndObserver_turningLow : let c := (put (obsC { sub := .detect, prb := [(5, 0), (5, 0), (5, 0)] }
      [(.obsPrbImin, 1), (.keChk, 1), (.obsKl, 0x4000), (.keHi, 0x7FFFFFFF), (.keLo, 0x7FFFFFFF)])).base
    (c.ob 0).prb = [(5, 0), (5, 0), (5, 0)] ∧ prbO c (5, 0) (5, 0) (5, 0) = .turning true :=
  ⟨rfl, by
    simp [prbO, probeOutcome, probeVals, root25, Core.cf, put, obsC, chCf, State.base, cfgGet, Tab.look, Tab.look?, sgn16, sgn, wrapS]
    decide⟩
theorem witness_AlignmentAndObserver_hold3 : let c := (put (obsC { sub := .hold, cyc := 9 } [])).base
    (c.ob 0).sub = .hold ∧ msCycles (c.cf 0 .obsHold) c.tcyc ≤ (c.ob 0).cyc ∧ c.parked = false ∧ (c.ob 0).blindRun = 0 ∧
      (c.ob 0).seen ≠ some c.cycle.cycle := by decide
theorem witness_AlignmentAndObserver_blind : ∀ k ∈ [ObsSub.track, .hold], let c := (put (obsC { sub := k, blindRun := 9 } [])).base
    (c.ob 0).sub = k ∧ msCycles (c.cf 0 .obsHold) c.tcyc < (c.ob 0).blindRun ∧ c.parked = false ∧ (c.ob 0).blindRun ≠ 0 := by decide
theorem witness_AlignmentAndObserver_windows : ∀ k ∈ [ObsSub.inhibit, .align, .handoff, .wait, .ramp, .hold],
    let c := (put (obsC { sub := k, seen := some 0 } [])).base
    (c.ob 0).sub = k ∧ c.parked = false ∧ msCycles (c.cf 0 .obsInh) c.tcyc ≤ (c.ob 0).cyc ∧ msCycles (c.cf 0 .obsStAln) c.tcyc ≤ (c.ob 0).cyc ∧
      msCycles (c.cf 0 .obsMerge) c.tcyc ≤ (c.ob 0).cyc ∧ msCycles (c.cf 0 .obsRetryWait) c.tcyc ≤ (c.ob 0).cyc ∧
      msCycles (c.cf 0 .obsStTmo) c.tcyc ≤ (c.ob 0).atSpeed ∧ msCycles (c.cf 0 .obsHold) c.tcyc ≤ (c.ob 0).cyc ∧
      (c.ob 0).seen = some c.cycle.cycle ∧ (c.ob 0).thUse = none := by decide
theorem witness_AlignmentAndObserver_merge : ((put (obsC { sub := .handoff, thUse := some 5 } [])).base.ob 0).thUse ≠ none := by decide
/-- A ratio of 0.5, 1,024 valid cycles taken, with a range. -/
def ratioC (lo hi : Int) (was : Bool) : Core := obsC { keN := 1024, sk := 8, se := 4, outLow := was, outHigh := was } [(.keLo, lo), (.keHi, hi)]
theorem witness_AlignmentAndObserver_ratio : ∀ was, let x (lo hi : Int) := (put (ratioC lo hi was)).base.ob 0
    let r := uq115 4 8
    1024 ≤ (x 0 0).keN ∧ uq115 (x 0 0).se (x 0 0).sk = r ∧ (¬(r : Int) < 9 ∧ ¬(40000 : Int) < r) ∧ ((r : Int) < 40000 ∧ (x 0 0).outLow = was) ∧
      (¬(r : Int) < 9 ∧ (10 : Int) < r) := by decide

/-! ### Witnesses: the Gauntlet and the Visor -/

/-- Input 0 of a type, at a state. -/
def ginC (type : Nat) (x : GsIn) (glob : GsGlobal) : Core :=
  { host with role := { role := .crown }, gs := { glob := glob, input := [(0, x)] }
              image := { gs := { sin := [(0, { type := type })], confIn := 7 } } }
theorem witness_GauntletInputs : ∀ k ∈ [0, 1, 2, 3], (put (ginC k {} .safe)).base.boot.held = false ∧ ((put (ginC k {} .safe)).base.sinCfg 0).type = k := by
  decide
theorem witness_GauntletInputs_disc : ((put (ginC 1 { timer := some 9 } .safe)).base.sin 0).timer = some 9 ∧
    ((put (ginC 1 {} .safe)).base.sin 0).timer = none := by decide
/-- A pulse of both channels of 100 ms. -/
def pulseX (w : BitVec 64) : GsIn := { riseA := some 0, riseB := some 0, fallA := some w, fallB := some w }
theorem witness_GauntletInputs_edge : let c := (put (ginC 3 (pulseX 400000000) .safe)).base
    c.role.role ≠ .spare ∧ (c.sinCfg 0).type = 3 ∧ c.gs.glob = .safe ∧ (c.sin 0).rstF = false ∧
      ((c.sin 0).pulse 400000000 8000000000).isSome = true := by decide
theorem witness_GauntletInputs_edgeElse : let c := (put (ginC 3 (pulseX 400000000) .test)).base
    c.role.role ≠ .spare ∧ (c.sinCfg 0).type = 3 ∧ c.gs.glob ≠ .safe ∧ c.gs.glob ≠ .run ∧ (c.sin 0).pulse 400000000 8000000000 ≠ none := by decide
theorem witness_GauntletInputs_high : let c := (put (ginC 3 { a := true, riseA := some 5 } .safe)).base
    (c.sinCfg 0).type = 3 ∧ 0 ≠ c.image.gs.confIn ∧ (c.sin 0).a = true ∧ (c.sin 0).riseA = some 5 ∧ (c.sin 0).rstF = false := by decide
/-- The confirmation input high on both channels, with its window open or not, and as a group's reset input. -/
def confHigh (due : Option Rt) (g : Tab ImgGroup) : Core :=
  { host with gs := { confDue := due, input := [(0, { a := true, b := true, riseA := some 5, riseB := some 6 })] }
              image := { gs := { sin := [(0, { type := 3 })], confIn := 0, group := g } } }
theorem witness_GauntletInputs_highConf : let c := (put (confHigh (some 9) [])).base
    let d := (put (confHigh none [(1, { rstIn := some 0 })])).base
    (c.sinCfg 0).type = 3 ∧ (c.sin 0).b = true ∧ (c.sin 0).riseB = some 6 ∧ (c.sin 0).rstF = false ∧ 0 = c.image.gs.confIn ∧
      c.gs.confDue.isSome = true ∧ d.gs.confDue = none ∧ (d.image.gs.group.any fun e => e.2.rstIn = some 0) = true := by decide
/-- The confirmation input within its window. -/
def confC : Core :=
  { host with gs := { glob := .unconfirmed, confDue := some 240000000000, input := [(0, pulseX 12000000000)] }, image := { gs := { confIn := 0 } } }
theorem witness_GauntletInputs_conf : let c := (put confC).base
    c.gs.confDue = some 240000000000 ∧ 0 = c.image.gs.confIn ∧ c.gs.glob = .unconfirmed ∧ c.iso 5 5 = false ∧
      (c.sin 0).pulse 12000000000 40000000000 = some (0, 12000000000) ∧ rtGe 0 (rtAdd 240000000000 (-240000000000)) = true ∧
      rtGe 240000000000 12000000000 = true := by decide
theorem witness_GauntletInputs_boot : let c := (put { host with image := { gs := { schk := 5 } } }).base
    c.boot.st = .running ∧ c.gs.glob = .boot ∧ crc32 c.image.gs.block ≠ c.image.gs.schk ∧ crc32 (put host).base.image.gs.block = (put host).base.image.gs.schk ∧
      (none : Option (W32 × Nat × Nat)).map (·.1) ≠ some (put host).base.image.gs.schk := by decide
theorem witness_GauntletInputs_confirmed : let c := (put { host with led := { led := { conf := some (0, 1, 2) } } }).base
    crc32 c.image.gs.block = c.image.gs.schk ∧ c.iso 5 5 = false ∧ c.led.led.conf.map (·.1) = some c.image.gs.schk := by decide
theorem witness_GauntletInputs_axis : let c := (put { (hostAx .degraded) with gs := { axis := [(0, { sbcDue := some 4, degDue := some 5 })] } }).base
    (c.ga 0).sbcDue = some 4 ∧ (c.ga 0).degDue = some 5 ∧ c.parked = false ∧ (c.ax 0).state = .degraded := by decide
/-- Output pair 0 at a step of its sequence. -/
def soutC (k : Nat) : Core := { host with gs := { glob := .safe, out := [(0, { step := k })] }, image := { gs := { sout := [(0, { use := 1 })] } } }
theorem witness_GauntletOutputsAndRecords : ∀ k ∈ [0, 1, 2, 3, 4], let c := (put (soutC k)).base
    c.gsLive 0 = true ∧ (c.gs.out.look 0 {}).step = k ∧ (false, true) ≠ soutExpect k := by decide
theorem witness_GauntletOutputsAndRecords_test : let c := (put { host with gs := { glob := .test } }).base
    c.gs.glob = .test ∧ ∀ m, m < 4 → (c.image.gs.sout.look m {}).use = 0 := ⟨rfl, fun _ _ => rfl⟩
/-- A record of node 0 with connection identifier 0: SCNT 1, no torque off, its CRC after it. -/
def safeRec (scnt : Nat) : List Byte :=
  let r : List Byte := [0x42, 0, BitVec.ofNat 8 (scnt / 256), BitVec.ofNat 8 scnt] ++ List.replicate 16 0
  r ++ beBytes (crc32c (beBytes 0 ++ r))
/-- A crown with a safety node at position 0. -/
def safeC (f : GsNode → GsNode) : Core :=
  { crown with
    image := { crown.image with seg := [(0, { phy := .kr, nodes := [(0, { safety := true })] })] }
    seg := [(0, { phase := .formed, nodes := [(0, { st := .admitted })] })], gs := { node := [(0, f {})] } }
theorem witness_GauntletOutputsAndRecords_heard : let c := (put (safeC id)).base
    c.boot.st = .running ∧ c.cycle.running = true ∧ (c.nodeImg 0).safety = true ∧ (c.gs.node.look 0 {}).got = false ∧
      ((c.sg 0).node 0).st = .admitted ∧ c.role.role ≠ .spare ∧ checkSafety (c.nodeImg 0).connId 0 [] ≠ .good ∧
      ((c.sl 0).suspect.valid && (c.sl 0).suspect.pos = 0) = false := by decide
theorem witness_GauntletOutputsAndRecords_good : checkSafety 0 0 (safeRec 1) = .good ∧
    (({} : GsNode).inWindow 4 (BitVec.ofNat 16 (rec16 (safeRec 1) 2)) (BitVec.ofNat 16 (rec16 (safeRec 1) 8)) 0) = true := by
  constructor
  · simp [checkSafety, crcGood, safeRec, beBytes, leBytes, List.replicate]
  · simp [GsNode.inWindow, safeRec, rec16, beBytes, List.replicate]
theorem witness_GauntletOutputsAndRecords_dead : let c := (put (safeC fun k => { k with missed := 4 })).base
    (c.gs.node.look 0 {}).dead = false ∧ (c.nodeImg 0).sfWd ≤ (c.gs.node.look 0 {}).missed ∧ c.iso 4 4 = false := by decide

/-- A record whose first row is at 100 rt, held at stage 0 of a sequence or past it. -/
def fillR (t0 : Bool) : VFill := { area := 0, s0 := 100, t0 := t0 }
theorem witness_VisorTriggers_fire : ∀ st ∈ [VState.idle, .armed, .post, .wait], ∀ b,
    ({ st := st, fill := some (fillR b) } : VisorState).st = st ∧ ({ st := st, fill := some (fillR b) } : VisorState).fill = some (fillR b) ∧
      (fillR b).t0 = b ∧ rtGe 100 (fillR b).first = true ∧ rtGe 99 (fillR b).first = false := by decide
/-- Unit 0 of a type with its word, the machine in a state. -/
def visC (st : VState) (t2 : Bool) (word : W32) (f : VisorState → VisorState) : Core :=
  { host with
    time := { trgCtl := 0x7 }
    vis := f { st := st, reg := [(0xC, if t2 then 0x1F else 0xF), (0x100, word)], fill := some { area := 0 }, evLast := [(3, 9)] } }
theorem witness_VisorTriggers_event : let c := (put (visC .armed false 0x00030002 id)).base
    c.visOk = true ∧ c.vis.evLast.look? (fld (c.vcfg.tu.getD 0 (0, 0, 0)).1 23 16) = some 9 ∧ c.visUnit 0 2 = true ∧ c.vis.evUsed.look? 0 ≠ some 9 ∧
      c.vis.st = .armed ∧ c.vis.fill = some { area := 0 } ∧ c.vcfg.seq = false := by decide
theorem witness_VisorTriggers_seq : let c := (put (visC .armed true 0x00030002 id)).base
    c.visUnit 0 2 = true ∧ c.vcfg.seq = true ∧ (put (visC .post false 0x00030002 id)).base.vis.st = .post := by decide
theorem witness_VisorTriggers_seq1 : let c := (put { (visC .armed true 0 id) with
      vis := { (visC .armed true 0 id).vis with reg := [(0xC, 0x1F), (0x110, 0x00030002)] } }).base
    c.visUnit 1 2 = true ∧ c.vcfg.seq = true ∧ c.vis.evLast.look? (fld (c.vcfg.tu.getD 1 (0, 0, 0)).1 23 16) = some 9 := by decide
theorem witness_VisorTriggers_used : (put (visC .armed false 0x00030002 fun v => { v with evUsed := [(0, 9)] })).base.vis.evUsed.look? 0 = some 9 := by
  decide
theorem witness_VisorTriggers_pin : let c := (put (visC .armed false 0x0C000003 id)).base
    let pin := fld (c.vcfg.tu.getD 0 (0, 0, 0)).1 25 24
    c.visUnit 0 3 = true ∧ c.time.pinMode pin = 7 ∧ fld (c.vcfg.tu.getD 0 (0, 0, 0)).1 27 26 = 3 ∧
      (bit c.vcfg.share 6 && fld c.vcfg.share 5 4 = pin) = false := by decide
theorem witness_VisorTriggers_shared : let c := (put { (visC .armed false 0x0C000003 id) with
      vis := { (visC .armed false 0x0C000003 id).vis with reg := [(0xC, 0xF), (0x10, 0x40), (0x100, 0x0C000003)] } }).base
    c.visUnit 0 3 = true ∧ (bit c.vcfg.share 6 && fld c.vcfg.share 5 4 = fld (c.vcfg.tu.getD 0 (0, 0, 0)).1 25 24) = true := by decide
theorem witness_VisorTriggers_fall : (true = true ∧ fld (0x04000003 : W32) 27 26 ≠ 2) ∧ (false = false ∧ fld (0x08000003 : W32) 27 26 = 2) := by decide
theorem witness_VisorTriggers_time : let c := (put (visC .armed false 4 id)).base
    c.visUnit 0 4 = true ∧ rtGe 0 (c.vis.fill.getD { area := 0 }).first = true ∧ c.vis.evUsed.look? 0 ≠ some 0 ∧ rtGe (c.at 0).now 0 = true := by decide
theorem witness_VisorTriggers_hold : let c := (put (visC .wait false 4 fun v => { v with shareDue := [3], fill := none })).base
    c.vis.st = .wait ∧ c.vis.holdoff = 0 ∧ (c.vis.free c.vcfg).isSome = true ∧ c.vis.shareDue = [3] ∧
      c.time.pinMode (fld c.vcfg.share 1 0) = 7 := by decide

/-! ### Witnesses: ports, roles, nodes, the mailbox -/

/-- A chip that is not crown, segment 0 over KR with port 0 linked or not, in a role. -/
def roleC (r : Role) (f : RoleState → RoleState) (link : Bool := true) : Core :=
  { host with
    boot := { host.boot with uid := 7, head := { chk := 5 } }, role := f { role := r, listening := true }, port := [(0, { link := link })]
    image := { seg := [(0, { phy := .kr })], role := { capable := true, prio := 3 } } }
theorem witness_PortsAndRoles_up : let c := (put (roleC .none id false)).base
    c.mayLink 0 = true ∧ (c.po 0).link = false ∧ (c.is (0 / 2)).phy = .kr ∧ c.links 0 ≠ 1 := by decide
theorem witness_PortsAndRoles_one : let c := (put { (roleC .none id) with port := [(0, { link := true, training := .retryWait })] }).base
    (c.po 0).link = true ∧ (c.po 0).training = .retryWait ∧ c.links 0 = 1 := by decide
theorem witness_PortsAndRoles_listen : let c := (put (roleC .listen id)).base
    c.ringUp = true ∧ (c.po 0).link = true ∧ c.role.role = .listen ∧ c.role.listening = true ∧ c.own.uid = 7 ∧ c.own.prio = 3 ∧ c.own.chk = 5 ∧
      c.own.tcyc = 125000 ∧ c.role.claims + 1 < 8 ∧ c.image.role.takeoverCyc ≤ c.role.noCrown := by decide
theorem witness_PortsAndRoles_copy : (put run).base.time.spareCfg = none ∧
    (put { run with time := { spareCfg := some (1, 2) } }).base.time.spareCfg ≠ none ∧ 0 ≠ 1 := by decide
/-- Records that are weaker, stronger, its own, and of other parameters. -/
def heardR (prio : Nat) (uid : BitVec 64) (chk : W32) : RoleRec := { prio := prio, uid := uid, chk := chk, tcyc := 125000 }
theorem witness_PortsAndRoles_records : let o := (put (roleC .claim id)).base.own
    ((heardR 2 9 5).prio < o.prio ∧ (heardR 2 9 5).uid ≠ o.uid ∧ (heardR 2 9 5).chk = o.chk ∧ (heardR 2 9 5).tcyc = o.tcyc) ∧
    (¬((heardR 3 6 5).prio < o.prio ∨ (heardR 3 6 5).prio = o.prio ∧ o.uid.toNat < (heardR 3 6 5).uid.toNat) ∧ (heardR 3 6 5).uid ≠ o.uid ∧
      (heardR 3 6 5).chk = o.chk ∧ (heardR 3 6 5).crcOk = true) ∧
    ((heardR 3 8 5).prio = o.prio ∧ o.uid.toNat < (heardR 3 8 5).uid.toNat) ∧ (heardR 3 7 5).uid = o.uid ∧ (heardR 3 6 4).chk ≠ o.chk := by decide
theorem witness_PortsAndRoles_claim : ∀ b, let c := (put (roleC .claim fun r => { r with claims := 7, heldRole := b })).base
    c.ringUp = true ∧ (c.po 0).link = true ∧ c.role.role = .claim ∧ 8 ≤ c.role.claims + 1 ∧ c.role.heldRole = b := by decide
theorem witness_PortsAndRoles_claims : (put (roleC .claim id)).base.role.role = .claim ∧ (put (roleC .claim id)).base.role.claims + 1 < 8 := by decide
theorem witness_PortsAndRoles_spare : let c := (put (roleC .spare id)).base
    c.ringUp = true ∧ (c.po 0).link = true ∧ c.role.role = .spare ∧ c.time.rtsyncSeen = false ∧ c.time.stepped = false ∧ c.time.spareCfg = none ∧
      c.image.role.takeoverCyc ≤ c.role.noCrown := by decide
theorem witness_PortsAndRoles_followed : let c := (put { (roleC .spare id) with time := { rtsyncSeen := true, spareCfg := some (3, 4) } }).base
    c.ringUp = true ∧ c.role.role = .spare ∧ c.time.rtsyncSeen = true ∧ c.time.spareCfg ≠ none := by decide
theorem witness_PortsAndRoles_crown : ∀ r ∈ [Role.crown, .refused, .none], let c := (put (roleC r id)).base
    c.ringUp = true ∧ (c.po 0).link = true ∧ c.role.role = r ∧ (heardR 0 0 0).crcOk = true := by decide

/-- A node at position 0 of a crown's segment. -/
def nodeC (k : Node) (f : Segment → Segment) : Core := { crown with seg := [(0, f { phase := .formed, nodes := [(0, k)] })] }
theorem witness_NodesAndSuspects : let c := (put (nodeC { st := .admitted, unreach := 2, tOut := 16 } id)).base
    ((c.sg 0).node 0).st = .admitted ∧ (c.sg 0).lossCyc ≤ ((c.sg 0).node 0).unreach ∧ (c.sg 0).between 0 = false ∧ (c.sg 0).breaks.length < 2 ∧
      16 ≤ ((c.sg 0).node 0).tOut ∧
      ((c.sg 0).node 0).dev = false ∧ ((put (nodeC { st := .admitted, unreach := 1 } id)).base.sg 0).lossCyc = 2 := by decide
theorem witness_NodesAndSuspects_split : let c := (put { crown with seg := [(0, { phase := .formed, nodes := [(5, { st := .admitted, unreach := 2 })]
                                                                                  breaks := [3, 5] })] }).base
    ((c.sg 0).node 5).st = .admitted ∧ (c.sg 0).lossCyc ≤ ((c.sg 0).node 5).unreach ∧ (c.sg 0).breaks = [3, 5] ∧ 3 ≠ 0xFE ∧
      (c.sg 0).between 5 = true ∧ (c.sg 0).between 3 = false ∧ (c.sg 0).split = false := by decide
theorem witness_NodesAndSuspects_babble : let c := (put { (nodeC {} id) with slot := [(0, { suspect := { cycles := 256 } }), (1, { suspect :=
      { valid := true, clean := 256 } })] }).base
    (c.sl 0).suspect.valid = false ∧ 0 < (c.sl 0).suspect.cycles ∧ (c.is 0).babbleCyc ≤ (c.sl 0).suspect.cycles ∧ (c.sl 1).suspect.valid = true ∧
      256 ≤ (c.sl 1).suspect.clean := by decide
/-- An operation running since cycle 0, now cycle 16. -/
def gopC (o : GopOp) : Core := { crown with cycle := { running := true, gopState := .running, gopOp := o, cycle := 16, gopNodes := [0] } }
theorem witness_NodesAndSuspects_ops : ∀ o ∈ [GopOp.barrier, .snapshot], let c := (put (gopC o)).base
    c.cycle.gopState = .running ∧ c.cycle.gopOp = o ∧ 16 ≤ (c.cycle.cycle - c.cycle.gopStart).toInt ∧
      ((12 + (64 * c.nMax + 159) / 160 : Nat) : Int) ≤ (c.cycle.cycle - c.cycle.gopStart).toInt := by decide

/-- Credit 3 of generation 1 is out at node 0, or was returned by a copy, and an implied one with MSEQ 4 is out, MSEQ 6 acknowledged once. -/
def mbxC (out : Bool := true) (first : Option (List Byte) := none) : Core :=
  { (nodeC { st := .admitted } id) with
    port := [(0, { link := true }), (1, { link := true })]
    slot := [(0, { credits := [(3, { out := out, gen := 1, node := 0, first := first })], acked := [(0, 6)]
                   implied := [{ node := 0, mseq := 4, sent := 0, tries := 0, msg := { mtype := 1, addr := 0, len := 0, tag := 132 } }] })] }
theorem witness_MailboxRecords : let c := (put mbxC).base
    c.mbxUp 0 = true ∧ ((c.sl 0).credits.look 3 {}).out = true ∧ ((c.sl 0).credits.look 3 {}).gen = 1 ∧ ((c.sl 0).credits.look 3 {}).node = 0 ∧
      ((c.sl 0).implied.any fun i => i.node = 0 && i.mseq = 4) = true ∧ ((c.sl 0).implied.any fun i => i.node = 0 && i.mseq = 5) = false ∧
      ((c.sl 0).implied.any fun i => i.node = 0 && i.mseq = 6) = false ∧ (0, 6) ∈ (c.sl 0).acked ∧ (0, 5) ∉ (c.sl 0).acked ∧
      ∀ side < 2, (c.po (2 * 0 + side)).link = true := by decide
theorem witness_MailboxRecords_second : let c := (put (mbxC false (some [7]))).base
    c.mbxUp 0 = true ∧ ((c.sl 0).credits.look 3 {}).out = false ∧ ((c.sl 0).credits.look 3 {}).first = some [7] ∧ ([7] : List Byte) ≠ [8] ∧
      ((c.sl 0).credits.look 3 {}).gen ≠ 2 := by decide
theorem witness_MailboxRecords_stale : ((put (mbxC false)).base.sl 0).credits.look 3 {} = { out := false, gen := 1, node := 0, first := none } := by decide
theorem witness_MailboxRecords_snap : let c := (put { mbxC with cycle := { running := true, gopState := .running, gopOp := .snapshot, gopCyc := 0 } }).base
    c.mbxUp 0 = true ∧ c.cycle.gopState = .running ∧ c.cycle.gopOp = .snapshot ∧ rec32 (List.replicate 16 0) 4 = c.cycle.gopCyc := by decide
/-- Node 0 under admission, with an IDENT or none. -/
def identC (k : Node) : Core := { mbxC with seg := [(0, { phase := .admission, pos := 0, sub := 1, nodes := [(0, k)] })] }
theorem witness_MailboxRecords_ident : let c := (put (identC {})).base
    c.mbxUp 0 = true ∧ (c.sg 0).phase = .admission ∧ (c.sg 0).pos = 0 ∧ (c.sg 0).sub = 1 ∧ ((c.sg 0).node 0).ident = none := by decide
theorem witness_MailboxRecords_identKept : ∀ b, let i : Ident := { part := 0, identity := 0, axes := 1, caps := 0, tRdy := 0, tLoad := 0, good := b }
    i.good = b ∧ (((put (identC { ident := some i })).base.sg 0).node 0).ident = some i ∧ (put (identC { ident := some i })).base.mbxUp 0 = true := by
  decide

/-! ### Witnesses: PTP, ring time, pins -/

/-- Domain 5 on both ports: its configuration word and its state. -/
def ptpC (cfg : W32) (d : PtpDomain) : Core := { host with time := { src := 2, ptpA := d }, image := { time := { domA := cfg } } }
/-- A message of that domain. -/
def ptpM : PtpMsg := { port := 0, domain := 5, seq := 4 }
-- 0x605 is a slave-only instance, 0xA05 master-capable, 0xE05 a boundary clock; 0x1000 one-step, 0x2000 peer to peer, 0x8000 802.1AS.
theorem witness_PtpMessages : let c := (put (ptpC 0x605 { psA := .slave })).base
    c.boot.st = .running ∧ c.ptpUp 0 = true ∧ ptpM.ok = true ∧ c.image.time.domOf ptpM.port ptpM.domain ptpM.udp = some 1 ∧ c.iso 1 1 = false := by
  decide
theorem witness_PtpMessages_hears : let c := (put (ptpC 0x3605 { psA := .slave })).base
    ptpM.mine = true ∧ (c.time.ptp 1).slaveOn 0 = true ∧ (c.time.ptp 1).capable (c.image.time.cfg 1) 0 = true ∧
      domRole (c.image.time.cfg 1) ≠ 0 ∧ domUses (c.image.time.cfg 1) 0 = true ∧ c.image.time.domOf ptpM.port ptpM.domain ptpM.udp = some 1 := by decide
theorem witness_PtpMessages_deaf : let c := (put (ptpC 0xA605 { psA := .slave })).base
    c.image.time.domOf 0 5 false = some 1 ∧ (c.time.ptp 1).slaveOn 0 = true ∧ (c.time.ptp 1).capable (c.image.time.cfg 1) 0 = false ∧
      (c.time.ptp 1).dreq = none ∧ (c.time.ptp 1).wantFup = none ∧ (c.time.ptp 1).preq.look? 0 = none ∧ (c.time.ptp 1).presp.look? 0 = none := by
  decide
theorem witness_PtpMessages_forms : domP2p 0x605 = false ∧ domP2p 0x2605 = true ∧ domOneStep 0x1605 = true ∧ domOneStep 0x605 = false ∧
    domOneStep 0x3605 = true ∧ domP2p 0x3605 = true ∧ domOneStep 0x2605 = false ∧ domRole 0x605 = 1 ∧ 2 ≤ domRole 0xA05 ∧ domRole 0xE05 = 3 := by decide
theorem witness_PtpMessages_master : let c := (put (ptpC 0xA05 { psA := .master })).base
    c.image.time.domOf 0 5 false = some 1 ∧ (c.time.ptp 1).ps 0 = .master ∧ (c.time.ptp 1).slaveOn 0 = false ∧
      ((c.time.ptp 1).ps 0 == .master && (c.time.ptp 1).capable (c.image.time.cfg 1) 0) = true := by decide
theorem witness_PtpMessages_waits : let d := (put (ptpC 0x2605 { psA := .slave, wantFup := some (4, 1, 2), dreq := some (4, 1), preq := [(0, (4, 1))]
                                                                 presp := [(0, (1, 2))] })).base.time.ptp 1
    d.wantFup = some (ptpM.seq, 1, 2) ∧ d.dreq = some (ptpM.seq, 1) ∧ d.preq.look? 0 = some (ptpM.seq, 1) ∧ d.presp.look? 0 = some (1, 2) := by decide
/-- An Announce of a sender and a priority. -/
def annM (sender : BitVec 64) (prio : Nat) : Announce := { prio1 := prio, gm := sender, sender := sender, path := [] }
theorem witness_PtpMessages_announce : let c (w : W32) (d : PtpDomain) := (put (ptpC w d)).base
    (annM 9 1).path.contains (c 0x605 {}).image.time.own.gm = false ∧
    ({ (annM 9 1) with path := [0] } : Announce).path.contains (c 0x605 {}).image.time.own.gm = true ∧
    ((c 0x605 {}).time.ptp 1).parent = none ∧
    ((annM 8 0).sender == (annM 9 1).sender && true) = false ∧ (annM 9 1).better (annM 8 0) = false ∧ (annM 9 1).better (annM 8 2) = true ∧
    ((annM 9 2).sender == (annM 9 1).sender && true) = true ∧ ((some (annM 8 2)).map fun p => p.gm != (annM 9 1).gm) = some true ∧
    ((some (annM 9 2)).map fun p => p.gm != (annM 9 1).gm) = some false ∧
    domRole 0xA05 ≠ 1 ∧ (c 0xA05 {}).image.time.own.better (annM 9 255) = true ∧ (c 0xA05 {}).image.time.own.better (annM 9 1) = false ∧
    ((c 0x605 { psA := .listening }).time.ptp 1).slaveOn 0 = false := by decide
theorem witness_PtpMessages_none : let c := (put (ptpC 0x605 {})).base
    c.ptpUp 0 = true ∧ ({ ptpM with ok := false } : PtpMsg).ok = false ∧ c.image.time.domOf 0 6 false = none ∧
      (put { (ptpC 0x605 {}) with err := { iso := [blkKey 1 1] } }).base.iso 1 1 = true := by decide
theorem witness_PtpMessages_lost : let c := (put (ptpC 0x605 { psA := .slave, valid := true, parent := some {} })).base
    domRole (c.image.time.cfg 1) = 1 ∧ c.iso 1 1 = false ∧ (c.time.ptp 1).valid = true ∧ (c.time.ptp 1).parent = some {} := by decide

/-- Ring time in a state with RT_CTL, source A, the validity of both domains, and what it knows of PREF. -/
def rtC (st : RtState) (ctl : W32) (a b : Bool) (fr : Nat := 0) : Core :=
  { host with time := { rtState := st, src := 1, rtCtl := ctl, ptpA := { valid := a }, ptpB := { valid := b }, slew := some ⟨0, 0, 10, 10⟩
                        prefAt := some 0, prefFor := fr, ring := { raw := 48000000000 } } }
theorem witness_RingTimeAndPins : let t (st : RtState) (ctl : W32) (a b : Bool) := (put (rtC st ctl a b)).base.time
    (t .free 0 false false).manual = false ∧ (t .free 0 false false).rtState ≠ .follow ∧ (t .free 0 false false).pref = 0 ∧
    (t .free 2 false true).pref = 2 ∧ (t .free 2 false true).domValid 2 = true ∧
    (t .holdover 5 false true).pref = 1 ∧ (t .holdover 5 false true).domValid 1 = false ∧
    (bit (t .holdover 5 false true).rtCtl 2 && (t .holdover 5 false true).domValid (3 - 1)) = true ∧
    (bit (t .freerun 1 false true).rtCtl 2 && (t .freerun 1 false true).domValid (3 - 1)) = false ∧
    (t .track 5 false true).pref = 1 ∧ (t .track 5 false true).domValid (t .track 5 false true).src = false ∧
    (bit (t .track 5 false true).rtCtl 2 && (t .track 5 false true).domValid (3 - (t .track 5 false true).src)) = true ∧
    (bit (t .slew 1 false true).rtCtl 2 && (t .slew 1 false true).domValid (3 - (t .slew 1 false true).src)) = false ∧
    (t .track 1 true true).domValid (t .track 1 true true).src = true ∧ bit (t .track 1 true true).rtCtl 3 = false ∧
    (t .holdover 1 false false).rtState = .holdover ∧ (t .track 1 false false).slew = some ⟨0, 0, 10, 10⟩ := by decide
theorem witness_RingTimeAndPins_revert : ∀ fr ∈ [1, 2], let t := (put (rtC .track 0xA true true fr)).base.time
    t.pref = 2 ∧ bit t.rtCtl 3 = true ∧ t.src ≠ 2 ∧ t.domValid 2 = true ∧ t.domValid t.src = true ∧
      (t.revertS * 4000000000 ≤ (rtDiff t.now (if t.prefFor = 2 then t.prefAt.getD t.now else t.now)).toNat ↔ fr = 2) := by decide
theorem witness_RingTimeAndPins_manual : (put { host with time := { manual := true } }).base.time.manual = true ∧
    (put { host with time := { rtState := .follow } }).base.time.rtState = .follow := by decide
/-- Pin 0 in a mode. -/
def pinC (m : W32) (caps : List Capture) : Core := { host with time := { trgCtl := m, caps := caps, pps := [(0, 7)] } }
theorem witness_RingTimeAndPins_edge : let c := (put (pinC 1 [])).base
    c.trgUp = true ∧ c.time.pinMode 0 = 1 ∧ (true != c.time.pinInv 0) = true ∧ (false != c.time.pinInv 0) = false ∧ c.time.caps.length < 64 ∧
      64 ≤ (put (pinC 3 (List.replicate 64 ⟨0, 0, true⟩))).base.time.caps.length ∧ (put (pinC 3 [])).base.time.pinMode 0 = 3 ∧
      (put (pinC 9 [])).base.time.pinInv 0 = true := by decide
theorem witness_RingTimeAndPins_pps : ∀ m ∈ [4, 5, 6], let c := (put (pinC (w32 m) [])).base
    c.trgUp = true ∧ (c.time.ppsBase (c.time.pinMode 0)).isSome = true ∧ c.time.pps.look? 0 = some 7 := by decide

/-! ### Witnesses: faults, maintenance, resets, boot -/

theorem witness_CellFaults : ∀ rb ∈ [(1, 0), (1, 5), (2, 0), (5, 6), (5, 7), (4, 0), (0, 0), (0, 8), (0, 11), (2, 53), (2, 60), (3, 29)],
    let c := (put host).base
    c.boot.held = false ∧ c.iso rb.1 rb.2 = false ∧ rb.2 < blocksOf rb.1 ∧ ¬(c.boot.lp = .standby ∧ (rb.1 = 0 ∨ rb.1 = 2)) ∧
      ¬(rb.1 = 5 ∧ rb.2 = 9) ∧ c.err.lost.look (blkKey rb.1 rb.2) 0 < 3 := by decide
theorem witness_CellFaults_fourth : let c := (put { host with err := { lost := [(blkKey 2 1, 3)] } }).base
    c.boot.held = false ∧ c.iso 2 1 = false ∧ 3 ≤ c.err.lost.look (blkKey 2 1) 0 := by decide
theorem witness_CellFaults_scope : (isoOutcome 3 0 false).safe = .none ∧ ((isoOutcome 4 0 false).safe ≠ .none ∧ (isoOutcome 4 0 false).reset = false) ∧
    (isoOutcome 1 0 false).reset = true := by decide
theorem witness_CellFaults_other : let c := (put { host with err := { iso := [blkKey 0 1] } }).base
    c.iso 0 1 = true ∧ c.iso 0 0 = false ∧ c.iso 5 9 = false ∧
      (decide (0 = 0) && decide (0 < 8) && c.iso 0 (if 0 % 2 = 0 then 0 + 1 else 0 - 1)) = true := by decide
theorem witness_CellFaults_silent : ({} : Core).boot.held = true ∧ blocksOf 5 ≤ 63 ∧
    (put { host with boot := { host.boot with lp := .standby } }).base.boot.lp = .standby := by decide
theorem witness_CellFaults_manager : ∀ b, let c := (put { host with err := { cemStopped := b } }).base
    c.boot.held = false ∧ c.iso 5 9 = false ∧ c.err.cemStopped = b := by decide
theorem witness_CellFaults_sites : (∃ k t, FaultSite.listEntry 3 5 = .listEntry k t) ∧ FaultSite.plain ≠ .programStore ∧
    ¬∃ k t, FaultSite.plain = .listEntry k t :=
  ⟨⟨3, 5, rfl⟩, nofun, nofun⟩
/-- A chip with an item of each kind. -/
def itemsC : Core :=
  { crown with
    disp := { trace := [⟨1, 2, 3, 4⟩, ⟨5, 6, 7, 8⟩] }, time := { caps := [⟨5, 1, true⟩] }, vis := { fill := some { area := 2 } }
    prof := { desc := [(1, 4)], axis := [(0, { tbl := some { desc := 0, pStart := 0, org := 0 } })] }
    slot := [(0, { queue := [(5, [{ mtype := 9, addr := 3, len := 1, tag := 129 }]), (6, [{ mtype := 2, addr := 3, len := 1, tag := 0 }])] })], cuff := { chan := [(0, { latch := [⟨1, 2, false, false⟩] })] } }
theorem witness_LostItems : let c := itemsC
    0 < c.disp.trace.length ∧ c.hasAx 0 = true ∧ (c.pa 0).tbl = some { desc := 0, pStart := 0, org := 0 } ∧
      ((c.prof.descOf 0).first ≤ 3 ∧ 3 < (c.prof.descOf 0).first + (c.prof.descOf 0).count) ∧ c.vis.fill = some { area := 2 } ∧
      c.vis.done.getLsbD 2 = false ∧ (c.sl 0).queue.look 5 [] = [{ mtype := 9, addr := 3, len := 1, tag := 129 }] ∧
      ({ mtype := 9, addr := 3, len := 1, tag := 129 } : DownRec).ackReq = true ∧ 3 ≠ 0xFF ∧ 9 ≠ 0x02 ∧
      (c.sl 0).queue.look 6 [] = [{ mtype := 2, addr := 3, len := 1, tag := 0 }] ∧ ((c.sl 0).freeCredit 1).isSome = true ∧ 0 < c.time.caps.length ∧ 0 < (c.ch 0).latch.length := by decide
theorem test_LostItems : got (.cellFault 2 0 5 (.listEntry 0 5) 7) (put itemsC) (fun t => (t.chip.core.iso 2 0, t.chip.core.err.lost)) =
    some (false, [(blkKey 2 0, 1)]) := by decide
-- R571: the entry that is lost reads NUM 0xFF, and the fault's own event follows it.
theorem test_logEntry : got (.cellFault 5 2 2 (.logEntry 0) 0) { (put host) with chip := { core := host, ev := { log := [⟨3, 0, 0, 0⟩] } } }
    (fun t => t.chip.ev.log.map (·.num)) = some [0xFF, 9] := by decide
theorem witness_EpochPasses : let c := (put { host with err := { safeAt := some 3 }, cycle := { scrubRun := true, reverRun := true, ledgRun := true } }).base
    c.err.safeAt = some 3 ∧ c.health.braced = false ∧ c.cycle.scrubRun = true ∧ c.cycle.reverRun = true ∧ c.cycle.ledgRun = true ∧
      (put host).base.err.safeAt = none ∧ (put { host with health := { braced := true } }).base.health.braced = true := by decide
theorem witness_SuppliesAndTemperature : ∀ b, let c := (put { host with health := { braced := b } }).base
    c.boot.held = false ∧ c.iso 5 6 = false ∧ c.iso 5 7 = false ∧ 6 < 7 ∧ (2 ≤ 6 ∨ c.health.braced = true) ∧ c.health.braced = b ∧
      c.maint.running .retest = false ∧ (c.health.rail.look 0 {}).low = false ∧ (c.health.rail.look 1 {}).low = false ∧ c.standby = false := by decide
/-- An activity that runs. -/
def maintC (k : Act) (f : Core → Core) : Core := f { host with maint := { run := [{ act := k, region := 2, block := 53, due := some 9 }] } }
theorem witness_SuppliesAndTemperature_retest : (put (maintC .retest id)).base.maint.running .retest = true := by decide
theorem witness_MaintenanceEnds : ∀ k ∈ [Act.retest, .qspiUpdate, .frExport], let c := (put (maintC k id)).base
    c.maint.run.find? (fun x => x.act == k) = some { act := k, region := 2, block := 53, due := some 9 } ∧ c.boot.qop = none ∧ c.boot.lp ≠ .waking ∧
      c.cycle.running = false ∧ (put (maintC k fun d => { d with cycle := { running := true } })).base.cycle.running = true := by decide
theorem witness_MaintenanceEnds_flash : ∀ b, (put (maintC .flash fun d => { d with boot := { d.boot with qop := some (b, 0x20000) } })).base.boot.qop =
    some (b, 0x20000) := by decide
/-- An image copy of 192 bytes whose sections are empty: header, directory and check values (R580 to R582), in rows of 24. -/
def copyRows (chk : List Byte) : List (List Byte) :=
  [[0x51, 0x46, 0x49, 0x4D, 1, 0, 0, 64, 0, 0, 0, 192, 0, 0, 0, 0, 0, 0, 0, 0, 0, 0, 0, 1],
   chk ++ [0, 255, 0, 8] ++ List.replicate 16 0,
   List.replicate 12 0 ++ [0x2A, 0x89, 0xE0, 0xF8] ++ [0, 1, 0, 0, 0, 0, 0, 192],
   List.replicate 8 0 ++ [0, 2, 0, 0, 0, 0, 0, 192, 0, 0, 0, 0, 0, 0, 0, 0],
   [0, 3, 0, 0, 0, 0, 0, 192, 0, 0, 0, 0, 0, 0, 0, 0, 0, 4, 0, 0, 0, 0, 0, 192],
   List.replicate 8 0 ++ [0, 5, 0, 0, 0, 0, 0, 192, 0, 0, 0, 0, 0, 0, 0, 0],
   [0, 6, 0, 0, 0, 0, 0, 192, 0, 0, 0, 0, 0, 0, 0, 0, 0, 8, 0, 0, 0, 0, 0, 192],
   List.replicate 8 0 ++ [0, 10, 0, 0, 0, 0, 0, 192, 0, 0, 0, 0, 0, 0, 0, 0]]
/-- The cells of a copy at a flash address. -/
def copyAt (base : Nat) : List Host.Cell :=
  ((copyRows [0x2F, 0x45, 0xE1, 0x34]).flatten.zipIdx base).filterMap fun e => if e.1 = 0xFF then none else some (e.2, e.1)
/-- A flash whose copy A holds it, and whose copy B does where `b`. -/
def flashOf (b : Bool) : List Host.Cell := copyAt 0 ++ if b then copyAt 0x1000000 else []
/-- Its check value, row by row. -/
theorem copy_crc : crc32 (copyRows [0, 0, 0, 0]).flatten = 0x2F45E134 := by
  let row (k : Nat) := (copyRows [0, 0, 0, 0]).getD k []
  have h0 : (row 0).foldl (crcByte 0xEDB88320) 0xFFFFFFFF = 0x678C607 := by decide +kernel
  have h1 : (row 1).foldl (crcByte 0xEDB88320) 0x678C607 = 0x318416E8 := by decide +kernel
  have h2 : (row 2).foldl (crcByte 0xEDB88320) 0x318416E8 = 0x22C9C23C := by decide +kernel
  have h3 : (row 3).foldl (crcByte 0xEDB88320) 0x22C9C23C = 0x91FB6DAB := by decide +kernel
  have h4 : (row 4).foldl (crcByte 0xEDB88320) 0x91FB6DAB = 0x99BCCFD6 := by decide +kernel
  have h5 : (row 5).foldl (crcByte 0xEDB88320) 0x99BCCFD6 = 0x1F354643 := by decide +kernel
  have h6 : (row 6).foldl (crcByte 0xEDB88320) 0x1F354643 = 0x5959DAE6 := by decide +kernel
  have h7 : (row 7).foldl (crcByte 0xEDB88320) 0x5959DAE6 = 0xD0BA1ECB := by decide +kernel
  show ~~~([row 0, row 1, row 2, row 3, row 4, row 5, row 6, row 7].flatten.foldl (crcByte 0xEDB88320) 0xFFFFFFFF) = _
  simp only [List.flatten_cons, List.flatten_nil, List.foldl_append, List.foldl_nil, h0, h1, h2, h3, h4, h5, h6, h7]
  decide
/-- The head of a copy, with the check value that its stream is known to have. -/
theorem head_crc {m : List Host.Cell} {base : Nat} {v : W32} (h : streamCrc m base (flashBE m (base + 8) 4) = v) :
    imageHead m base = { (imageHead m base) with
      crc := if w32 (flashBE m base 4) = 0x5146494D && decide (flashBE m (base + 8) 4 ≤ 16777216) then v else 0 } := by subst h; rfl
theorem copy_stream (b : Bool) : streamCrc (flashOf b) 0 (flashBE (flashOf b) (0 + 8) 4) = 0x2F45E134 := by
  unfold streamCrc
  rw [show flashBytes (flashOf b) 0 24 ++ [0, 0, 0, 0] ++ flashBytes (flashOf b) (0 + 28) (flashBE (flashOf b) (0 + 8) 4 - 28) =
    (copyRows [0, 0, 0, 0]).flatten by cases b <;> decide +kernel]
  exact copy_crc
theorem copy_good (b : Bool) : (imageHead (flashOf b) 0).reject 1 = none := by
  rw [head_crc (copy_stream b)]; cases b <;> decide +kernel
theorem copy_none : (imageHead (flashOf false) 0x1000000).headReject 1 = some (1, 0) := by decide +kernel
/-- A chip that wakes from copy A, which holds an image of a check value or none. -/
def wakeC (chk : W32) (secs : List ImgSection) (m : List Host.Cell) : Core :=
  maintC .wake fun d => { d with boot := { d.boot with lp := .waking, copyB := false, head := { chk := chk, secs := secs }, flash := m } }
theorem witness_MaintenanceEnds_wake : (put (wakeC 0x2F45E134 [] (flashOf false))).base.boot.lp = .waking ∧
    (put (wakeC 0x2F45E134 [] (flashOf false))).base.wakeReason none = none ∧
    (put (wakeC 0 [] (flashOf false))).base.wakeReason none = some (7, 24) ∧
    (put (wakeC 0 [] [])).base.wakeReason none = some (1, 0) := ⟨rfl, by decide +kernel, by decide +kernel, by decide +kernel⟩
/-- A WAKE section whose recorded check value is not that of its bytes. -/
def tornS : ImgSection := { type := 1, wake := true, off := 192, len := 0, scrc := 1 }
theorem witness_MaintenanceEnds_torn : (put (wakeC 0x2F45E134 [tornS] (flashOf false))).base.wakeReason none = some (6, 192) := by decide +kernel
theorem witness_MaintenanceEnds_awake : (put (maintC .wake id)).base.boot.lp ≠ .waking := by decide
theorem witness_Resets : let c := (put { host with boot := { host.boot with hostDue := some 3 }, err := { safeAt := some 4 } }).base
    c.boot.held = false ∧ c.boot.hostDue = some 3 ∧ c.err.safeAt = some 4 ∧ (put host).base.boot.hostDue = none ∧ c.iso 5 5 = false := by decide
theorem witness_Resets_held : ∀ k ∈ [ResetKind.watchdog, .pin, .escalation], let c := (put { boot := { held := true, kind := k } }).base
    c.boot.held = true ∧ c.boot.kind = k := by decide
/-- The boot sequence in a state, with a flash. -/
def bootC (st : BootSt) (strap : Nat) (tried : Option Bool) (m : List Host.Cell := []) : Core :=
  { boot := { st := st, held := false, strap := strap, tried := tried, flash := m } }
theorem witness_BootSequence : let c (st : BootSt) := (put (bootC st 0 none)).base
    (c .reset).boot.st = .reset ∧ (c .reset).boot.held = false ∧ (c .shell).boot.st ≠ .reset ∧ (c .shell).boot.st = .shell ∧
    (c .ledger).boot.st = .ledger ∧ (c .ledger).health.latch = none ∧ (c .apply).boot.st = .apply ∧ (c .shell).boot.st ≠ .apply ∧
    (put (bootC .ledger 3 none)).base.boot.strap % 4 = 3 ∧ (c .ledger).boot.strap % 4 ≠ 3 ∧ (c .shell).boot.st ≠ .image := by decide
theorem witness_BootSequence_shell : (∀ p ∈ [true, false].zip [false, true], p.1 = true ∨ p.2 = true) ∧
    ∃ p ∈ [false].zip [false], p.1 = false ∧ p.2 = false := by decide
/-- What the latch keeps of a reset of a kind. -/
def latchC (kind : Nat) (owed : Bool) : Core :=
  { (bootC .ledger 0 none) with health := { latch := some { kind := kind, rail := 0, mvMin := 0, rt := 0, errs := [], owed := owed } } }
theorem witness_BootSequence_latch : ∀ k ∈ [0, 1, 2, 3], ∀ o, let c := (put (latchC k o)).base
    c.boot.st = .ledger ∧ c.iso 5 5 = false ∧ c.health.latch.map (fun x => (x.kind, x.owed)) = some (k, o) := by decide
/-- The image state with copy A alone, or both. -/
def imgC (strap : Nat) (b : Bool) (tried : Option Bool := none) : Core := (put (bootC .image strap tried (flashOf b))).base
theorem witness_BootSequence_image : (imgC 0 true).boot.st = .image ∧ (imgC 0 true).boot.tried = none ∧ (imgC 0 true).boot.strap % 4 = 0 ∧
    (imgC 1 true).boot.strap % 4 ≠ 0 ∧ (imgC 0 false (some true)).boot.tried = some true := by decide
theorem witness_BootSequence_good (b : Bool) : ((imgC 0 b).copyHead false none none).reject 1 = none := by
  show ({ (imageHead (flashOf b) 0) with badValue := none, readFail := none } : ImgHead).reject 1 = none
  rw [head_crc (copy_stream b)]; cases b <;> decide +kernel
theorem witness_BootSequence_bad (b : Bool) : ((imgC 0 b).copyHead false (some 70) none).reject 1 = some (8, 70) ∧
    ((imgC 0 b).copyHead false none (some 9)).reject 1 = some (9, 9) := by
  show ({ (imageHead (flashOf b) 0) with badValue := some 70, readFail := none } : ImgHead).reject 1 = some (8, 70) ∧
    ({ (imageHead (flashOf b) 0) with badValue := none, readFail := some 9 } : ImgHead).reject 1 = some (9, 9)
  rw [head_crc (copy_stream b)]; cases b <;> decide +kernel
theorem witness_BootSequence_other : ((imgC 0 false).copyHead true none none).headReject 1 = some (1, 0) ∧
    ((imgC 0 true).copyHead true none none).headReject 1 = none := by decide +kernel

/-! ### Witnesses: the machine -/

theorem witness_StepTakesFront : (State.reset.chip.core.boot.held &&
      (decide (State.reset.chip.core.boot.kind = .por) || decide (State.reset.chip.core.boot.kind = .supply))) = true ∧
    ((put host).chip.core.boot.held && (decide ((put host).chip.core.boot.kind = .por) || decide ((put host).chip.core.boot.kind = .supply))) = false := by
  decide
theorem witness_EventIdentityKept : State.reset.EventsAgree ∧ ∃ t, step State.reset = .next t := ⟨⟨by decide, by decide, by decide⟩, ⟨_, rfl⟩⟩
theorem witness_EventLog : (State.reset.chip.ev.suppressed 0 125000 (ev0 3)) = false ∧ State.reset.chip.ev.log.length < 1024 ∧
    (put host).base.iso 5 2 = false ∧ (put host).base.lostLog = [] := by decide
/-- A log that is full. -/
def fullLog : EventUnit := { log := List.replicate 1024 ⟨3, 0, 0, 0⟩ }
theorem witness_EventLog_full : 1024 ≤ fullLog.log.length := Nat.le_of_eq List.length_replicate.symm

/-! ### Ill-formed commands, one for each check -/

/-- The check refuses every command of a list. -/
def refused (l : List Instr) : Bool := l.all fun i => !i.wf

theorem illFormed_le : refused [.leNop 32, .leLdi 0 16 0, .leMov 0 0 16, .leMpy 0 4 0 0, .leAdda 0 0 4, .leSat 0 0 4 0, .leLd 0 0 65536,
    .leLdr 0 0 16 0, .leLdl 0 0 65536, .leBr 0 16 0, .leFlt 0 65536] = true := by decide
theorem illFormed_sp : refused [.spNop 8 none none, .spClr 0 4 none none, .spMpy 0 0 4 0 none none, .spMpy 0 0 0 4 none none, .spAddm 0 0 4 none none,
    .spNop 0 (some ⟨4, 0, 0⟩) none, .spNop 0 (some ⟨0, 8, 0⟩) none, .spNop 0 (some ⟨0, 0, 4⟩) none, .spNop 0 none (some (.load 4 0 0)),
    .spNop 0 none (some (.load 0 8 0)), .spNop 0 none (some (.load 0 0 4)), .spNop 0 none (some (.store 4 0 0 0)), .spNop 0 none (some (.store 0 8 0 0)),
    .spNop 0 none (some (.store 0 0 4 0)), .spNop 0 none (some (.store 0 0 0 4))] = true := by decide
theorem illFormed_spMove : refused [.spMove 0 (.move (.reg 4) (.reg 0)), .spMove 0 (.move (.reg 0) (.acc 4 0)), .spMove 0 (.move (.reg 0) (.acc 0 4)),
    .spMove 0 (.imm (.reg 4) 0), .spMove 0 (.special 4 0), .spMove 0 (.special 0 4), .spMove 0 (.ld (.reg 0) (.direct 16384)),
    .spMove 0 (.ld (.reg 0) (.ptr 8 0)), .spMove 0 (.st (.reg 0) (.ptr 0 4)), .spLds 0 4 0 false, .spLds 0 0 4096 false, .spSts 0 (.reg 4) 0 false,
    .spSetp 0 8 (.imm 0), .spSetn 0 0 (.reg 4), .spAddp 0 0 8192, .spAddp 0 0 (-8193)] = true := by decide
theorem illFormed_spControl : refused [.spBr 0 16 0, .spBr 0 0 32768, .spCall 0 (-32769), .spLoop 0 (.reg 4) 1, .spLoop 0 (.imm 0) 0,
    .spLoop 0 (.imm 0) 257, .spFlt 0 65536, .spExp 0 4 0, .spNorm 0 0 4, .spNormi 0 0 64, .spNormi 0 0 (-65), .spSqrt 0 0 4, .spDiv 0 0 0 4] = true := by
  decide
theorem illFormed_cycle : refused [.senseCopyReturn 4 0 0 true [] [] 0, .senseCopyReturn 0 2 0 true [] [] 0,
    .senseCopyReturn 0 0 0 true [] (List.replicate 97 0) 0, .ringClose 4 0, .uplinkRunReceived ⟨4, 0, 0, false, []⟩,
    .uplinkRunReceived ⟨0, 2, 0, false, []⟩, .releaseDeadline 4, .packDone 256, .measureTaskDone 64 [], .measureTaskDone 0 (List.replicate 17 0)] = true := by
  decide
theorem illFormed_units : refused [.excitationPeak 8 0 0 0, .lineFault 16 true, .limitSwitchChange 16 true 0, .alignStepAdvance 256,
    .safeInputLevelChange 8 false true 0, .soutSwitchOnStep 4 true true, .proofTestDone 16 true, .safetyRecordReceived 0 64 [], .visorTimeTrigger 4,
    .portLinkUp ⟨8, true, 0⟩, .portLinkDown ⟨8, true, true, true, 0⟩, .claimReceived ⟨8, {}⟩, .crownRecordReceived ⟨8, {}, 0⟩ 0, .standbyNoticeReceived ⟨8, {}⟩,
    .senseReturnDeadline 0 ⟨2, 0⟩, .creditTimeout 4, .mbxAck 0 64 0, .ptpSync { port := 2, domain := 0 }, .syncReceiptTimeout 0, .syncReceiptTimeout 3, .ppsEdge 4 true,
    .cellFault 6 0 1 .plain 0, .cellFault 0 64 1 .plain 0, .supplyWarning 7 0, .resetRelease 8, .replicaMeasure [1, 2, 3]] = true := by decide
theorem illFormed_host : refused [.registerWrite .pcie 0x100000 0, .guardedValueWrite .pcie 0x108 0, .postedWriteDone (.port 8), .modeChange .pcie 8,
    .readmit .pcie 0 64, .cuffCfgWrite .pcie 0 0x80 0, .cuffCfgWrite .pcie 0 2 0, .clrSuspect .pcie 256 true, .axRun .pcie 256,
    .axisConfigWrite .pcie 0 0x7FC 0, .axisConfigWrite .pcie 0 0x1000 0, .axisConfigWrite .pcie 0 0x802 0, .perCycleWordWrite .pcie 0 0x800 0,
    .perCycleWordWrite .pcie 0 1 0, .sto .pcie 256, .pcieMemRead false 0x1000000 ⟨1, true⟩, .qmpSessionTimeout 0 0, .qmpSessionTimeout 0 9,
    .qmpSessionTimeout 2 1, .driveCopyReturn 0 2 true []] = true := by decide
theorem wellFormed_some : [Instr.cycleBoundary, .leLdr 31 15 15 65535, .spLoop 7 (.reg 3) 256, .syncReceiptTimeout 2, .guardedValueWrite .spi 0xA0180 0,
    .axisConfigWrite .pcie 255 0xFFC 0].all Instr.wf = true := by decide
theorem decode_no_word : decodeTableWord 32 5 = none ∧ State.reset.withFetchWord 32 5 = State.reset := by decide

/-! ### Single commands against the manual's examples -/

-- The words of the worked examples of R335 and R380, as the spec writes them.
theorem decode_leWords : leDecode 3 0x10120000 = some (.leSub 3 1 2) ∧ leDecode 3 0x41130000 = some (.leMpy 3 1 1 3) ∧
    leDecode 3 0x69400002 = some (.leSat 3 4 1 2) := by decide
theorem decode_spWords : spDecode 3 0x48081000 = some (.spMaxi 3 0 0 (some ⟨0, 0, 1⟩) none) ∧
    spDecode 3 0x0D2A5E58 = some (.spMac 3 1 0 2 (some ⟨1, 1, 1⟩) (some (.store 2 2 3 0))) ∧
    spDecode 3 0xE0500000 = some (.spExp 3 0 1) := by decide
-- R336: an OP that is not listed executes as FLT 0xFF. R334: a word with a bit set in an unused field spells no instruction.
theorem decode_leOther : leDecode 3 0xFC000000 = some (.leFlt 3 0xFF) ∧ leDecode 3 0x10120001 = none := by decide
/-- A data register of engine 0 after a command. -/
def dReg (t : State) (k : Nat) : Int := (t.engine 0).dVal k
-- Worked example of R335 and R336: the proportional term of the d-axis current law.
theorem test_leSub : got (.leSub 0 1 2) (le fun e => { e with d := [0, 0, -1000] ++ List.replicate 13 0 }) (dReg · 1) = some 1000 := by decide
theorem test_leMpy : got (.leMpy 0 1 1 3) (le fun e => { e with d := [0, 1000, 0, 24576] ++ List.replicate 12 0 }) (fun t => (t.engine 0).aVal 1) =
    some 24576000 := by decide
theorem test_leSat : got (.leSat 0 4 1 2) (le fun e => { e with a := [0, 24576000, 0, 0] }) (dReg · 4) = some 3000 := by decide
theorem test_leSat_limits : got (.leSat 0 4 1 2) (le fun e => { e with a := [0, -0x7FFFFFFFF, 0, 0] }) (dReg · 4) = some (-32768) := by decide
-- Worked example of R386: 0.7 at index 1 is kept where 0.7 comes again at index 3.
theorem test_spMaxi_equal : got (.spMaxi 0 0 0 none none)
    (sp fun q => { q with r := [0x599999, 0, 0, 0], m := [0x599999 <<< 23, 0, 0, 0], ic := 3, ix := 1 }) (fun t => ((t.proc 0).ix, (t.proc 0).ic)) =
    some (1, 4) := by decide
theorem test_spMaxi_first : got (.spMaxi 0 0 0 none none) (sp fun q => { q with r := [0x999999, 0, 0, 0], m := [5, 0, 0, 0] })
    (fun t => ((t.proc 0).ix, (t.proc 0).ic)) = some (0, 1) := by decide
-- Worked example of R304: the exponent of 0x3_204C_4B40 is 12.
theorem test_spExp : got (.spExp 0 0 1) (sp fun q => { q with m := [0, 0x3204C4B40, 0, 0] }) (fun t => (t.proc 0).r.getD 0 0) = some 12 := by decide
theorem test_spNorm : got (.spNorm 0 1 0) (sp fun q => { q with r := [12, 0, 0, 0], m := [0, 0x3204C4B40, 0, 0] }) (fun t => (t.proc 0).m.getD 1 0) =
    some (13426772800 * 4096) := by decide
theorem test_spNormi : got (.spNormi 0 1 (-1)) (sp fun q => { q with m := [0, 7, 0, 0] }) (fun t => (t.proc 0).m.getD 1 0) = some 3 := by decide
-- Worked example of R279 to R281: the voltage limit and the three duties.
theorem test_voltageLimit : vLimit (cfgGet [(.cmtMlim, 34406)]) 24576 = 14899 := by decide
theorem test_duties : dutiesOf 1 1 24576 12903 (-1) (-12903) = ((65535, 32765, 0), true, true) := by decide
theorem test_deadTime : condition (cfgGet [(.cmtTdt, 2097), (.cmtIdz, 400)]) 32765 300 = (34337, false) := by decide
-- R232: the forward direction runs 00, 10, 11, 01.
theorem test_quadrature : quadStep false false true false = some 1 ∧ quadStep true false true true = some 1 ∧ quadStep false false false true = some (-1) ∧
    quadStep false false true true = none := by decide
-- Worked example of R107 and R108: segment 0, node 5.
theorem test_delay : let g := (({ dloop2 := 24984 } : Segment).delayRound {} 0 5 7548 384).1.node 5
    g.dA.v / 65536 = 2280 ∧ g.dB.v / 65536 = 9828 := by decide
-- Worked example of R119: equal priorities, the lower UID is stronger.
theorem test_claim : got (.claimReceived ⟨0, { prio := 8, uid := 0xA100000007, chk := 5, tcyc := 125000 }⟩)
    (put { (roleC .listen id) with boot := { host.boot with uid := 0xA100000019, head := { chk := 5 } }, image := { role := { prio := 8 } } })
    (fun t => t.chip.core.role.role) = some .listen := by decide
theorem test_claim_weak : got (.claimReceived ⟨0, { prio := 8, uid := 0xA100000007, chk := 5, tcyc := 125000 }⟩)
    (put { (roleC .listen id) with boot := { host.boot with uid := 0xA100000019, head := { chk := 5 } }, image := { role := { prio := 9 } } })
    (fun t => t.chip.core.role.role) = some .claim := by decide
-- Worked example of R619: a beat of 0.954 ns gives ρ = 1.060, which raises EV_SLACK_MARGIN.
theorem test_replica : got (.replicaMeasure [954, 900, 900, 900]) (put { host with health := { margin := 31130 } })
    (fun t => (t.chip.core.health.rho, t.chip.ev.log.length)) = some (34734, 1) := by decide
-- Worked example of R426: the four words of a record.
theorem test_trace : ({ kind := 3, task := 5, axis := 60, prio := 4, flow := 1, copyB := true, cls := 1, unit := 13, depth := 7, beats := 548 } : TraceIn).rec4
    0x408FE8 0x1A2B = ⟨0x00408FE8, 0x00943C53, 0xFFFF0769, 0x02241A2B⟩ := by decide
-- R6: an epoch of 2^20 cycles of 31.25 µs is 32.768 s.
theorem test_epoch : 1048576 * 125000 = (32768 : Nat) * 4000000 := by decide
-- Worked example of R534: the edge at 1,000,160,500 rt with XCAB 500 and TXLEAD 160,000.
theorem test_shared : got (.visorPinTrigger 0 1000160500 true) (put { (visC .armed false 0x0C000003 id) with
      vis := { (visC .armed false 0x0C000003 id).vis with reg := [(0xC, 0xF), (0x10, 0x40), (0x14, 160000), (0x18, 500), (0x100, 0x0C000003)] } })
    (fun t => t.chip.core.vis.fill.map fun r => r.cand.map fun f => f.t) = some (some [1000000000]) := by decide
-- R577 and R218: a reset is released, and the self-test ends in SHELL.
theorem test_release : got (.resetRelease 4) State.reset (fun t => (t.chip.core.boot.held, t.chip.core.boot.strap, t.chip.ev.log.length)) =
    some (false, 4, 1) := by decide
theorem test_selfTest : got .selfTestDone (put { boot := { held := false } }) (fun t => t.chip.core.boot.st) = some .shell := by decide

end Sys2Proof.Tests
end

section
/-! Feedback: quadrature decoding (R232). The laws of `quadPlace`, `quadStep` and `Chan.inv`, and the statement about them. -/

namespace Sys2Proof.Machine

/-! ### Places of AB -/

theorem quadPlace_lt (a b : Bool) : quadPlace a b < 4 := by
  cases a <;> cases b <;> decide

/-- Two lines that both change lead to the opposite place. -/
theorem quadPlace_not_not (a b : Bool) : quadPlace (!a) (!b) = (quadPlace a b + 2) % 4 := by
  cases a <;> cases b <;> rfl

/-! ### The step between two places -/

/-- Nothing changes: no step. -/
@[simp] theorem quadStep_self (a b : Bool) : quadStep a b a b = some 0 := by
  have hd : (quadPlace a b + 4 - quadPlace a b) % 4 = 0 := by omega
  simp only [quadStep, hd]

/-- Two lines that both change are a double transition, whatever the direction. -/
@[simp] theorem quadStep_not_not (a b : Bool) : quadStep a b (!a) (!b) = none := by
  have hlt := quadPlace_lt a b
  have hd : (quadPlace (!a) (!b) + 4 - quadPlace a b) % 4 = 2 := by
    rw [quadPlace_not_not]; omega
  simp only [quadStep, hd]

/-- To the next place of the forward order the step is +1. -/
theorem quadStep_of_next {a b a' b' : Bool} (h : quadPlace a' b' = (quadPlace a b + 1) % 4) :
    quadStep a b a' b' = some 1 := by
  have hlt := quadPlace_lt a b
  have hd : (quadPlace a' b' + 4 - quadPlace a b) % 4 = 1 := by omega
  simp only [quadStep, hd]

/-- From the next place of the forward order back the step is −1. -/
theorem quadStep_of_prev {a b a' b' : Bool} (h : quadPlace a b = (quadPlace a' b' + 1) % 4) :
    quadStep a b a' b' = some (-1) := by
  have hlt := quadPlace_lt a' b'
  have hd : (quadPlace a' b' + 4 - quadPlace a b) % 4 = 3 := by omega
  simp only [quadStep, hd]

/-! ### The sign of a step under DIRINV -/

theorem Chan.inv_of_not_dirinv {x : Chan} (h : bit x.cfg 3 = false) (k : Int) : x.inv k = k := by
  simp [Chan.inv, h]

theorem Chan.inv_of_dirinv {x : Chan} (h : bit x.cfg 3 = true) (k : Int) : x.inv k = -k := by
  simp [Chan.inv, h]

/-- Settles O38: each entry of the table is a step to the same, the opposite, the next or the previous place of the
forward order. -/
theorem quadratureDecoding : Obligations.QuadratureDecoding := by
  unfold Obligations.QuadratureDecoding
  refine ⟨fun a b => ⟨quadStep_self a b, quadStep_not_not a b⟩, ?forward, ?backward,
    fun _ k => ⟨fun h => Chan.inv_of_not_dirinv h k, fun h => Chan.inv_of_dirinv h k⟩⟩
  case forward => exact ⟨quadStep_of_next rfl, quadStep_of_next rfl, quadStep_of_next rfl, quadStep_of_next rfl⟩
  case backward => exact ⟨quadStep_of_prev rfl, quadStep_of_prev rfl, quadStep_of_prev rfl, quadStep_of_prev rfl⟩

end Sys2Proof.Machine
end

section
/-! Signal processors: the search of MAXI and MINI (R386) and the entry to PEAK (R391). -/

namespace Sys2Proof.Machine

/-! ### Ranges of the registers -/

theorem toInt_ofInt56 (v : Int) (h : -36028797018963968 ≤ v) (h' : v ≤ 36028797018963967) : (BitVec.ofInt 56 v).toInt = v := by
  rw [BitVec.toInt_ofInt, Int.bmod_eq_of_le] <;> omega

/-- A data register holds 24 bits. -/
theorem Proc.rr_range (q : Proc) (i : Nat) : -8388608 ≤ q.rr i ∧ q.rr i ≤ 8388607 := by
  have hlo := BitVec.le_toInt (q.r.getD i 0)
  have hhi := BitVec.toInt_lt (x := q.r.getD i 0)
  unfold Proc.rr; omega

/-- An accumulator that exists holds what is written to it, within its 56 bits. -/
theorem Proc.rm_wm_self {q : Proc} {i : Nat} {v : Int} (hi : i < q.m.length) (h : -36028797018963968 ≤ v)
    (h' : v ≤ 36028797018963967) : (q.wm i v).rm i = v := by
  simp [Proc.wm, Proc.rm, hi, toInt_ofInt56 v h h']

/-- A register placed in m.h fits the accumulator. -/
theorem Proc.rm_wm_placed {q : Proc} {i : Nat} (hi : i < q.m.length) (j : Nat) :
    (q.wm i (placed (q.rr j))).rm i = placed (q.rr j) := by
  obtain ⟨hlo, hhi⟩ := q.rr_range j
  apply Proc.rm_wm_self hi <;> unfold placed <;> omega

/-! ### The search in the terms of R386 -/

@[simp] theorem Proc.gives_ic (q : Proc) (i : Nat) (v : Int) : (q.gives i v).ic = q.ic := rfl
@[simp] theorem Proc.flagsOf_ic (q : Proc) (v : Int) : (q.flagsOf v).ic = q.ic := rfl
theorem Proc.nz_eq_flagsOf (q : Proc) (v : Int) : q.nz v = q.flagsOf v := rfl

/-- A search instruction with the candidate `x` for accumulator `i`: the first candidate and a better one are kept with
their index, and the count stays at 65,535. -/
def Proc.searched (q : Proc) (i : Nat) (x : Int) (better : Bool) : Proc :=
  let g : Proc := if q.ic = 0 ∨ better = true then { (q.gives i x) with ix := q.ic } else q.flagsOf (q.rm i)
  if q.ic < 65534 then { g with ic := q.ic + 1 } else { g with ic := 65535, f := { g.f with v := true, s := true } }

/-- N and Z of what the accumulator holds after the write are those of the placed candidate. -/
theorem Proc.nz_rm_wm_placed {q : Proc} {i : Nat} (hi : i < q.m.length) (j k : Nat) :
    ({ (q.wm i (placed (q.rr j))) with ix := k } : Proc).nz (({ (q.wm i (placed (q.rr j))) with ix := k } : Proc).rm i) =
      { (q.gives i (placed (q.rr j))) with ix := k } := by
  have hm : ({ (q.wm i (placed (q.rr j))) with ix := k } : Proc).rm i = placed (q.rr j) := Proc.rm_wm_placed hi j
  rw [hm]; rfl

/-- The search of the model is that of R386 with the operand placed in m.h. -/
theorem Proc.search_eq {q : Proc} {i : Nat} (hi : i < q.m.length) (j : Nat) (better : Int → Int → Bool) :
    q.search i j better = q.searched i (placed (q.rr j)) (better (placed (q.rr j)) (q.rm i)) := by
  unfold Proc.search Proc.searched
  by_cases h0 : q.ic = 0
  · simp only [h0, true_or, if_true, Proc.nz_rm_wm_placed hi, Proc.gives_ic]
  · by_cases hb : better (placed (q.rr j)) (q.rm i) = true
    · simp only [h0, hb, or_true, if_true, if_false, Proc.nz_rm_wm_placed hi, Proc.gives_ic]
    · simp only [h0, hb, Bool.false_eq_true, or_self, if_false, Proc.nz_eq_flagsOf, Proc.flagsOf_ic]

/-! ### How a parallel instruction and one without moves end -/

/-- An instruction that traps nothing leaves the processor as its effect makes it, the program going on. -/
theorem run_spOn {s : State} {u : Nat} (h : s.ProcRuns u) (b : Nat) (f : Proc → Proc) (r : Proc)
    (hr : f ((s.proc u).begun b) = r) (ht : r.trap = none) :
    ∃ k, s.to (s.chip.runCore fun c => c.spOn u fun q => q.op b f) = .next (s.ranTo u r k) :=
  ⟨s.chip.core.freeCtr + 4, by rw [run_core, spOn_eq h b f r hr ht]; rfl⟩

/-- A parallel instruction whose moves trap nothing: its ALU operation, then its moves. -/
theorem run_spPar {s : State} {u : Nat} (h : s.ProcRuns u) (fa : Option SpFetch) (fb : Option SpXfer) (alu : Proc → Proc)
    (r : Proc) (hr : alu ((s.proc u).begun 1) = r)
    (ht : (((s.proc u).begun 1).moves r (s.base.spEnv u) fa fb).trap = none) :
    ∃ k, s.to (s.chip.runCore fun c => c.spPar u fa fb alu) =
      .next (s.ranTo u (((s.proc u).begun 1).moves r (s.base.spEnv u) fa fb) k) := by
  have hon : s.base.spPar u fa fb alu = _ :=
    spOn_eq h 1 (fun q => q.moves (alu q) (s.base.spEnv u) fa fb) _ (by rw [hr]) ht
  exact ⟨s.chip.core.freeCtr + 4, by rw [run_core, hon]; rfl⟩

/-- Settles O7: `Proc.search_eq` is the ALU operation of MAXI and of MINI, each with its comparison; CLRI and MOVIX are
instructions that trap nothing. -/
theorem spSearch : Obligations.SpSearch := by
  intro s u md s1 ra fa fb hrun
  refine ⟨fun hmd => ⟨?maxi, ?mini⟩, ?clri, ?movix⟩
  case maxi => exact run_spPar hrun fa fb (Proc.aluMaxi md s1) _ (Proc.search_eq hmd s1 _)
  case mini => exact run_spPar hrun fa fb (Proc.aluMini md s1) _ (Proc.search_eq hmd s1 _)
  case clri => exact run_spOn hrun 1 (fun q => { q with ic := 0, ix := 0 }) _ rfl rfl
  case movix =>
    refine run_spOn hrun 1 (fun q => (q.wr ra q.ix).nz q.ix) _ ?_ rfl
    unfold Proc.wr; rw [BitVec.ofInt_natCast]; rfl

/-! ### Who requests PEAK, and which processor takes it -/

/-- Pair `n` requests PEAK at processor `u`. -/
def Core.asksPeak (c : Core) (u n : Nat) : Bool := c.sig.req.contains n && decide (c.pairHome n = u)

theorem Core.asksPeak_iff (c : Core) (u n : Nat) : c.asksPeak u n = true ↔ n ∈ c.sig.req ∧ c.pairHome n = u := by
  simp [Core.asksPeak]

theorem Core.asksPeak_eq_false_iff (c : Core) (u n : Nat) :
    c.asksPeak u n = false ↔ ¬(n ∈ c.sig.req ∧ c.pairHome n = u) := by
  rw [← c.asksPeak_iff, Bool.not_eq_true]

/-- A processor accepts PEAK: in service, with IE, in no handler, the next instruction in no delay slot. -/
theorem Proc.accepts_iff (q : Proc) : q.accepts = true ↔
    q.iso = false ∧ q.f.ie = true ∧ q.hand = none ∧ q.jump = none ∧ ∀ e ∈ q.pend, e.slots = 0 := by
  simp [Proc.accepts, Proc.noSlot, and_assoc]

/-! ### The entry -/

/-- A processor that does not accept PEAK goes on. -/
theorem Core.spPeakEntry_of_not_accepts {c : Core} {u : Nat} (h : (c.sp u).accepts = false) : c.spPeakEntry u = c := by
  simp [Core.spPeakEntry, h]

/-- A processor at which no pair requests PEAK goes on. -/
theorem Core.spPeakEntry_of_no_request {c : Core} {u : Nat} (h : ∀ n < 8, c.asksPeak u n = false) :
    c.spPeakEntry u = c := by
  have hf : (List.range 8).find? (c.asksPeak u) = none := by simpa [List.find?_eq_none] using h
  unfold Core.asksPeak at hf
  simp only [Core.spPeakEntry, hf, ite_self]

/-- A processor that accepts PEAK enters the handler of the lowest pair that requests it, whose request is then met. -/
theorem Core.spPeakEntry_of_lowest {c : Core} {u n : Nat} (h : (c.sp u).accepts = true) (hn : n < 8)
    (hask : c.asksPeak u n = true) (hlow : ∀ k < n, c.asksPeak u k = false) :
    c.spPeakEntry u = { c with sig := { c.sig with
      req := c.sig.req.filter fun k => k != n
      reqAt := c.sig.reqAt.del n
      proc := c.sig.proc.put u { ((c.sp u).enter n (c.image.spVec.look n 0)
        ((c.sp u).total - c.sig.reqAt.look n (c.sp u).total).toNat) with handPk := (c.sig.fifo.look n []).head? } } } := by
  have hf : (List.range 8).find? (c.asksPeak u) = some n := by
    rw [List.find?_range_eq_some]
    exact ⟨hask, List.mem_range.mpr hn, fun k hk => by simp [hlow k hk]⟩
  unfold Core.asksPeak at hf
  simp only [Core.spPeakEntry, h, hf, Bool.not_true, Bool.false_eq_true, if_false]; rfl

/-- Settles O15: the lowest requesting pair of a processor that accepts, and nothing where it does not accept or none requests. -/
theorem spPeakEntry : Obligations.SpPeakEntry := by
  intro s u
  refine ⟨fun n hn hready hask hlow => ?taken, fun hidle => ?idle⟩
  case taken =>
    refine (run_core s fun c => c.spPeakEntry u).trans ?_
    rw [Core.spPeakEntry_of_lowest (c := s.base) ((Proc.accepts_iff _).mpr hready) hn ((s.base.asksPeak_iff u n).mpr hask)
      fun k hk => (s.base.asksPeak_eq_false_iff u k).mpr (hlow k hk)]
    rfl
  case idle =>
    have hsame : s.base.spPeakEntry u = s.base := by
      rcases hidle with hnot | hnone
      · exact Core.spPeakEntry_of_not_accepts (Bool.eq_false_iff.mpr (mt (Proc.accepts_iff _).mp hnot))
      · exact Core.spPeakEntry_of_no_request fun n hn => (s.base.asksPeak_eq_false_iff u n).mpr (hnone n hn)
    exact (run_core s fun c => c.spPeakEntry u).trans (by rw [hsame])

end Sys2Proof.Machine
end

section
/-! Events: the event log and its counters at a raise (R564), and the order in which the events of one command are raised. -/

namespace Sys2Proof.Machine

/-! ### The log with its counters, apart from routing and messages -/

/-- The event log and what counts it (R564): the event unit without its routing, its messages and its rate limits. -/
def EventUnit.logPart (u : EventUnit) : EventUnit :=
  { log := u.log, raised := u.raised, logged := u.logged, ovf := u.ovf, seq := u.seq }

@[simp] theorem EventUnit.logPart_log (u : EventUnit) : u.logPart.log = u.log := rfl

@[simp] theorem EventUnit.logPart_rerouted (u : EventUnit) (r : Tab W32) (d : Bool) :
    ({ u with route := r, routeDef := d } : EventUnit).logPart = u.logPart := rfl

/-- Units that agree in their log and counters, field by field. -/
theorem EventUnit.logPart_eq_iff {u v : EventUnit} : u.logPart = v.logPart ↔
    u.log = v.log ∧ u.seq = v.seq ∧ u.raised = v.raised ∧ u.logged = v.logged ∧ u.ovf = v.ovf := by
  simp only [EventUnit.logPart, EventUnit.mk.injEq]
  tauto

@[simp] theorem EventUnit.sendMsix_logPart (u : EventUnit) (v : Nat) : (u.sendMsix v).logPart = u.logPart := by
  unfold EventUnit.sendMsix; split <;> rfl

@[simp] theorem EventUnit.signal_logPart (u : EventUnit) (v : Nat) : (u.signal v).logPart = u.logPart :=
  EventUnit.sendMsix_logPart _ v

@[simp] theorem EventUnit.setPending_logPart (u : EventUnit) (n : Nat) : (u.setPending n).logPart = u.logPart := by
  unfold EventUnit.setPending
  dsimp only
  split
  · split
    · exact EventUnit.signal_logPart _ _
    · rfl
  · rfl

@[simp] theorem EventUnit.startWindow_logPart (u : EventUnit) (rt : Rt) (e : Ev) : (u.startWindow rt e).logPart = u.logPart := by
  unfold EventUnit.startWindow; split <;> rfl

/-- What the log makes of an event depends on the log and its counters alone. -/
theorem EventUnit.offer_logPart (u : EventUnit) (iso : Bool) (rt : Rt) (e : Ev) :
    (u.offer iso rt e).logPart = u.logPart.offer iso rt e := by
  unfold EventUnit.offer
  rw [EventUnit.logPart_log]
  split <;> rfl

/-! ### An event offered to the log -/

/-- A log with room takes the event as its newest entry. -/
theorem EventUnit.offer_of_room {u : EventUnit} (h : u.log.length < 1024) (rt : Rt) (e : Ev) :
    u.offer false rt e = { u with raised := u.raised + 1, logged := u.logged + 1, seq := u.seq + 1
                                  log := u.log ++ [{ num := e.num, seq := u.seq, rt := rt, detail := e.detail }] } := by
  unfold EventUnit.offer; rw [if_neg (by simpa using h)]

/-- A full log counts the event and keeps its entries. -/
theorem EventUnit.offer_of_full {u : EventUnit} (h : 1024 ≤ u.log.length) (iso : Bool) (rt : Rt) (e : Ev) :
    u.offer iso rt e = { u with raised := u.raised + 1, ovf := u.ovf + 1 } := by
  unfold EventUnit.offer; rw [if_pos (by simp [h])]

/-- Every event offered is raised, whether logged or not. -/
theorem EventUnit.offer_raised (u : EventUnit) (iso : Bool) (rt : Rt) (e : Ev) : (u.offer iso rt e).raised = u.raised + 1 := by
  unfold EventUnit.offer; split <;> rfl

/-- The event identity (R564): the three counters move together. -/
theorem EventUnit.offer_identity {u : EventUnit} (h : u.raised = u.logged + u.ovf) (iso : Bool) (rt : Rt) (e : Ev) :
    (u.offer iso rt e).raised = (u.offer iso rt e).logged + (u.offer iso rt e).ovf := by
  unfold EventUnit.offer
  split
  · show u.raised + 1 = u.logged + (u.ovf + 1)
    rw [h, add_assoc]
  · show u.raised + 1 = u.logged + 1 + u.ovf
    rw [h, add_right_comm]

/-- A raise that no rate limit suppresses is, for the log and its counters, the offer: the window of the limit and the pending bit
lie outside them. -/
theorem EventUnit.raise_logPart {u : EventUnit} {rt : Rt} {tcyc : Nat} {e : Ev} (h : u.suppressed rt tcyc e = false) (iso : Bool) :
    (u.raise iso rt tcyc e).logPart = (u.offer iso rt e).logPart := by
  have hoffer : ((u.startWindow rt e).offer iso rt e).logPart = (u.offer iso rt e).logPart := by
    rw [EventUnit.offer_logPart, EventUnit.startWindow_logPart, ← EventUnit.offer_logPart]
  unfold EventUnit.raise
  rw [if_neg (Bool.eq_false_iff.mp h)]
  cases iso
  · exact (EventUnit.setPending_logPart _ _).trans hoffer
  · exact hoffer

/-- No routing changes what a raise makes of the log and its counters (R564). -/
theorem EventUnit.raise_rerouted_logPart {u : EventUnit} {rt : Rt} {tcyc : Nat} {e : Ev} (h : u.suppressed rt tcyc e = false)
    (iso : Bool) (r : Tab W32) (d : Bool) :
    (({ u with route := r, routeDef := d } : EventUnit).raise iso rt tcyc e).logPart = (u.raise iso rt tcyc e).logPart := by
  have hs : ({ u with route := r, routeDef := d } : EventUnit).suppressed rt tcyc e = false := h
  rw [EventUnit.raise_logPart hs, EventUnit.raise_logPart h, EventUnit.offer_logPart, EventUnit.logPart_rerouted,
    ← EventUnit.offer_logPart]

/-! ### The order of the events of one command -/

theorem insertEv_perm (e : Ev) (l : List Ev) : (insertEv e l).Perm (e :: l) := by
  induction l with
  | nil => exact .refl _
  | cons f t ih =>
    unfold insertEv
    split
    · exact .refl _
    · exact (ih.cons f).trans (.swap e f t)

/-- An event inserted into a list in ascending number leaves it so. -/
theorem insertEv_ascending (e : Ev) {l : List Ev} (h : l.Pairwise fun a b => a.num ≤ b.num) :
    (insertEv e l).Pairwise fun a b => a.num ≤ b.num := by
  induction l with
  | nil => exact List.pairwise_singleton _ _
  | cons f t ih =>
    obtain ⟨hf, ht⟩ := List.pairwise_cons.mp h
    unfold insertEv
    split
    case isTrue hlt =>
      exact List.pairwise_cons.mpr ⟨List.forall_mem_cons.mpr ⟨hlt.le, fun g hg => hlt.le.trans (hf g hg)⟩, h⟩
    case isFalse hge =>
      refine List.pairwise_cons.mpr ⟨fun g hg => ?_, ih ht⟩
      rcases List.mem_cons.mp ((insertEv_perm e t).mem_iff.mp hg) with rfl | hg
      · exact Nat.le_of_not_lt hge
      · exact hf g hg

/-- Inserting the events of `es` one by one into `l` loses and adds none. -/
theorem foldl_insertEv_perm (es l : List Ev) : (es.foldl (fun acc e => insertEv e acc) l).Perm (es ++ l) := by
  induction es generalizing l with
  | nil => exact .refl _
  | cons e es ih => exact (ih _).trans (((insertEv_perm e l).append_left es).trans List.perm_middle)

theorem foldl_insertEv_ascending (es : List Ev) {l : List Ev} (h : l.Pairwise fun a b => a.num ≤ b.num) :
    (es.foldl (fun acc e => insertEv e acc) l).Pairwise fun a b => a.num ≤ b.num := by
  induction es generalizing l with
  | nil => exact h
  | cons e es ih => exact ih (insertEv_ascending e h)

theorem sortEv_perm (es : List Ev) : (sortEv es).Perm es := by
  simpa [sortEv] using foldl_insertEv_perm es []

theorem sortEv_ascending (es : List Ev) : (sortEv es).Pairwise fun a b => a.num ≤ b.num :=
  foldl_insertEv_ascending es .nil

/-! ### The events at the end of a command -/

/-- The event unit raises event after event at the one ring time: what the Visor sees of them does not move it. -/
theorem Chip.raises_ev (es : List Ev) (x : Chip) :
    (es.foldl Chip.raise1 x).ev = es.foldl (fun u e => u.raise (x.core.iso 5 2) x.core.now x.core.tcyc e) x.ev := by
  induction es generalizing x with
  | nil => rfl
  | cons e es ih =>
    obtain ⟨v, hv⟩ := x.raise1_core e
    rw [List.foldl_cons, List.foldl_cons, ih, x.raise1_ev, hv]
    rfl

/-- The event unit after a command: the entries it lost are marked (R571), then its events are raised in ascending number. -/
theorem State.after_ev (s : State) (c : Core) : (s.after c).chip.ev =
    (sortEv c.evq).foldl (fun u e => u.raise (c.iso 5 2) c.now c.tcyc e) (c.lostLog.foldl (fun u e => u.lose e.1 e.2) s.evBase) :=
  Chip.raises_ev (sortEv c.evq) _

/-- Settles O58: a raise is an offer to the log (`EventUnit.raise_logPart`), whatever the routing; the events of a command are
raised in the order of `sortEv`. -/
theorem eventLog : Obligations.EventLog := by
  refine ⟨fun u rt tcyc e hs => ?raise, fun s c hiso hlost => ?command⟩
  case raise =>
    obtain ⟨hlog, hseq, hraised, hlogged, hovf⟩ := EventUnit.logPart_eq_iff.mp (EventUnit.raise_logPart hs false)
    refine ⟨hraised.trans (u.offer_raised false rt e), fun hroom => ?room, fun hfull => ?full, fun hid => ?identity,
      fun r d => EventUnit.logPart_eq_iff.mp (EventUnit.raise_rerouted_logPart hs false r d)⟩
    case room =>
      rw [hlog, hseq, hlogged, hovf, EventUnit.offer_of_room hroom]
      exact ⟨rfl, rfl, rfl, rfl⟩
    case full =>
      rw [hlog, hseq, hlogged, hovf, EventUnit.offer_of_full hfull]
      exact ⟨rfl, rfl, rfl, rfl⟩
    case identity =>
      rw [hraised, hlogged, hovf]
      exact EventUnit.offer_identity hid false rt e
  case command =>
    refine ⟨sortEv c.evq, sortEv_perm _, sortEv_ascending _, ?_⟩
    rw [s.after_ev, hiso, hlost]; rfl

end Sys2Proof.Machine
end

section
/-! The machine: how every command ends, and the event identity that every step keeps (R564). -/

namespace Sys2Proof.Machine

/-! ### The event identity of an event unit -/

/-- The identity of R564 in the event unit: what was raised was logged or counted in EVENTS_OVF, and the log fits its 1,024 entries. -/
def EventUnit.Balanced (u : EventUnit) : Prop := u.raised = u.logged + u.ovf ∧ u.log.length ≤ 1024

theorem State.eventsAgree_iff (s : State) : s.EventsAgree ↔ s.chip.ev.Balanced ∧ s.chip.core.evq = [] := by
  simp only [State.EventsAgree, EventUnit.Balanced, and_assoc]

/-- Routing, messages and rate limits have no part in the identity. -/
theorem EventUnit.Balanced.of_logPart {u v : EventUnit} (h : u.Balanced) (hl : v.logPart = u.logPart) : v.Balanced := by
  obtain ⟨hlog, -, hraised, hlogged, hovf⟩ := EventUnit.logPart_eq_iff.mp hl
  unfold EventUnit.Balanced
  rw [hlog, hraised, hlogged, hovf]
  exact h

theorem EventUnit.Balanced.empty : EventUnit.Balanced {} := ⟨rfl, Nat.zero_le _⟩

theorem EventUnit.Balanced.offer {u : EventUnit} (h : u.Balanced) (iso : Bool) (rt : Rt) (e : Ev) : (u.offer iso rt e).Balanced := by
  refine ⟨EventUnit.offer_identity h.1 iso rt e, ?_⟩
  by_cases hfull : (iso || decide (1024 ≤ u.log.length)) = true
  · rw [EventUnit.offer, if_pos hfull]; exact h.2
  · rw [EventUnit.offer, if_neg hfull]
    simp only [Bool.or_eq_true, decide_eq_true_eq, not_or] at hfull
    simp only [List.length_append, List.length_singleton]; omega

/-- A raise is suppressed by a rate limit, or is an offer to the log. -/
theorem EventUnit.Balanced.raise {u : EventUnit} (h : u.Balanced) (iso : Bool) (rt : Rt) (tcyc : Nat) (e : Ev) :
    (u.raise iso rt tcyc e).Balanced := by
  by_cases hs : u.suppressed rt tcyc e = true
  · rw [EventUnit.raise, if_pos hs]; exact h
  · exact (h.offer iso rt e).of_logPart (EventUnit.raise_logPart (Bool.eq_false_iff.mpr hs) iso)

/-- A lost entry stays an entry (R571). -/
theorem EventUnit.Balanced.lose {u : EventUnit} (h : u.Balanced) (i k : Nat) : (u.lose i k).Balanced :=
  ⟨h.1, by simpa [EventUnit.lose] using h.2⟩

theorem EventUnit.Balanced.clrLog {u : EventUnit} : u.clrLog.Balanced :=
  ⟨(BitVec.sub_add_cancel _ _).symm, Nat.zero_le _⟩

theorem EventUnit.Balanced.clrCount {u : EventUnit} (h : u.Balanced) : u.clrCount.Balanced := ⟨rfl, h.2⟩

/-- A fold whose every step keeps a property keeps it. -/
theorem foldl_keeps {α β : Type} {P : α → Prop} {f : α → β → α} (hf : ∀ a b, P a → P (f a b)) (l : List β) {a : α} (h : P a) :
    P (l.foldl f a) := by
  induction l generalizing a with
  | nil => exact h
  | cons b l ih => exact ih (hf a b h)

/-! ### Messages and acknowledgements leave the log and its counters alone -/

theorem EventUnit.foldl_logPart {β : Type} {f : EventUnit → β → EventUnit} (hf : ∀ u b, (f u b).logPart = u.logPart) (l : List β)
    (u : EventUnit) : (l.foldl f u).logPart = u.logPart :=
  foldl_keeps (P := fun v => v.logPart = u.logPart) (fun v b hv => (hf v b).trans hv) l rfl

@[simp] theorem EventUnit.signalNew_logPart (old u : EventUnit) : (EventUnit.signalNew old u).logPart = u.logPart :=
  EventUnit.foldl_logPart (fun w v => by split; exacts [EventUnit.signal_logPart w v, rfl]) _ u

@[simp] theorem EventUnit.flushPba_logPart (u : EventUnit) : u.flushPba.logPart = u.logPart :=
  EventUnit.foldl_logPart (fun w v => by split <;> rfl) _ u

theorem Chip.vectorAck_logPart (x : Chip) (w : W32) : (x.vectorAck w).ev.logPart = x.ev.logPart := by
  unfold Chip.vectorAck
  split
  · rfl
  · exact EventUnit.foldl_logPart (fun u v => by split; exacts [EventUnit.signal_logPart u v, rfl]) _ _

theorem Chip.pendClear_logPart (x : Chip) (k : Nat) (w : W32) : (x.pendClear k w).ev.logPart = x.ev.logPart := by
  unfold Chip.pendClear; split <;> rfl

theorem Chip.setRoute_logPart (x : Chip) (n : Nat) (w : W32) : (x.setRoute n w).ev.logPart = x.ev.logPart := by
  unfold Chip.setRoute
  dsimp only
  split
  · rfl
  · exact EventUnit.signalNew_logPart _ _

theorem Chip.msixWrite_logPart (x : Chip) (p : Path) (i : Nat) (w : W32) : (x.msixWrite p i w).ev.logPart = x.ev.logPart := by
  cases p with
  | pcie =>
    unfold Chip.msixWrite
    dsimp only
    split
    · rfl
    · exact EventUnit.flushPba_logPart _
  | spi => rfl
  | qmp _ _ => rfl

/-! ### Accesses of the host paths keep the identity -/

theorem Chip.onCore_balanced {x : Chip} (h : x.ev.Balanced) (f : Core → Core) : (x.onCore f).ev.Balanced := h

theorem Chip.guardedEffect_balanced {x : Chip} (h : x.ev.Balanced) (p : Path) (a : Nat) (w : W32) :
    (x.guardedEffect p a w).ev.Balanced := by
  by_cases hev : a = pgEv + 0x100
  · rw [Chip.guardedEffect, if_pos hev, Chip.evCmd]
    split
    · exact EventUnit.Balanced.clrLog
    · exact h.clrCount
    · exact h
  · rw [Chip.guardedEffect, if_neg hev]
    exact h

theorem Chip.guardedNow_balanced {x : Chip} (h : x.ev.Balanced) (p : Path) (a : Nat) (w : W32) :
    (x.guardedNow p a w).ev.Balanced := by
  unfold Chip.guardedNow
  refine Chip.guardedEffect_balanced ?_ p a w
  split <;> exact h

theorem Chip.guardComplement_balanced {x : Chip} (h : x.ev.Balanced) (p : Path) (a : Nat) (n : W32) :
    (x.guardComplement p a n).ev.Balanced := by
  unfold Chip.guardComplement
  dsimp only
  split
  · split <;> exact h
  · split
    · exact h
    · split
      · exact h
      · split
        · exact Chip.guardedNow_balanced (x := (x.onCore fun c => c.guardExpire p).onCore fun c => c.guardDrop p) h p a _
        · exact h

theorem Chip.regWrite_balanced {x : Chip} (h : x.ev.Balanced) (p : Path) (addr : Nat) (w : W32) :
    (x.regWrite p addr w).ev.Balanced := by
  unfold Chip.regWrite
  dsimp only
  split
  · split <;> exact h
  split
  · exact h
  split
  · exact Chip.guardComplement_balanced h p _ w
  split
  · exact h.of_logPart (x.vectorAck_logPart w)
  split
  · exact h.of_logPart (x.pendClear_logPart _ w)
  split
  · exact h.of_logPart (x.setRoute_logPart _ w)
  split
  · exact h.of_logPart (x.msixWrite_logPart p _ w)
  split
  · exact h
  split <;> exact h

theorem Chip.hostWrite_balanced {x : Chip} (h : x.ev.Balanced) (p : Path) (bar2 : Bool) (addr : Nat) (w : W32) :
    (x.hostWrite p bar2 addr w).ev.Balanced := by
  unfold Chip.hostWrite
  split_ifs
  · exact h
  · exact h
  · exact h
  · exact Chip.regWrite_balanced h p addr w

/-- A pop takes an entry out of the log and leaves the counters. -/
theorem Chip.logPop_balanced {x : Chip} (h : x.ev.Balanced) (p : Path) : (x.logPop p).ev.Balanced :=
  ⟨h.1, by simp only [Chip.logPop, List.length_drop]; have := h.2; omega⟩

theorem Chip.readEffect_balanced {x : Chip} (h : x.ev.Balanced) (p : Path) (addr : Nat) : (x.readEffect p addr).ev.Balanced := by
  by_cases halive : (!x.core.alive (decodeAddr addr - decodeAddr addr % 0x1000)) = true
  · rw [Chip.readEffect, if_pos halive]
    exact h
  by_cases hpop : decodeAddr addr = pgEv + 0x10
  · rw [Chip.readEffect, if_neg halive, if_pos hpop]
    exact Chip.logPop_balanced h p
  · rw [Chip.readEffect, if_neg halive, if_neg hpop]
    exact h

theorem Chip.readWord_balanced {x : Chip} (h : x.ev.Balanced) (p : Path) (bar2 : Bool) (addr : Nat) :
    (x.readWord p bar2 addr).1.ev.Balanced := by
  unfold Chip.readWord
  dsimp only
  split
  · exact h
  · exact Chip.readEffect_balanced (x := { x with core := (x.core.value (x.rd p addr)).1 }) h p addr

theorem Chip.hostRead_balanced {x : Chip} (h : x.ev.Balanced) (p : Path) (bar2 : Bool) (addr : Nat) :
    (x.hostRead p bar2 addr).ev.Balanced := by
  unfold Chip.hostRead
  split
  · exact h
  · exact Chip.readWord_balanced h p bar2 addr

theorem Chip.guardCmd_balanced {x : Chip} (h : x.ev.Balanced) (p : Path) (a : Nat) (w : W32) : (x.guardCmd p a w).ev.Balanced := by
  have hpair := Chip.hostWrite_balanced (Chip.hostWrite_balanced h p false a w) p false (a + 0x80) (~~~w)
  unfold Chip.guardCmd
  split
  · split
    · exact Chip.hostWrite_balanced h p false _ _
    · exact hpair
  · exact hpair

theorem Chip.access_balanced {x : Chip} (h : x.ev.Balanced) (p : Path) (a : Nat) (w : Option W32) : (x.access p a w).ev.Balanced := by
  cases w with
  | some w => exact Chip.hostWrite_balanced h p false a w
  | none => exact Chip.hostRead_balanced h p false a

/-! ### The ports -/

theorem Chip.pcieWrite_balanced {x : Chip} (h : x.ev.Balanced) (bar2 : Bool) (addr : Nat) (ws : List W32) (be : Bool) :
    (x.pcieWrite bar2 addr ws be).ev.Balanced := by
  unfold Chip.pcieWrite
  split_ifs
  · exact h
  · exact h
  · exact foldl_keeps (P := fun y : Chip => y.ev.Balanced) (fun y e hy => Chip.hostWrite_balanced hy .pcie bar2 _ e.2) _ h

theorem Chip.pcieRead_balanced {x : Chip} (h : x.ev.Balanced) (bar2 : Bool) (addr n : Nat) (be : Bool) :
    (x.pcieRead bar2 addr n be).ev.Balanced := by
  unfold Chip.pcieRead
  split_ifs
  · exact h
  · exact h
  · exact foldl_keeps (P := fun y : Chip => y.ev.Balanced) (fun y i hy => Chip.hostRead_balanced hy .pcie bar2 _) _ h

theorem Chip.pcieFlr_balanced {x : Chip} (h : x.ev.Balanced) : x.pcieFlr.ev.Balanced := by
  unfold Chip.pcieFlr; split <;> exact h

theorem Chip.pcieConfig_balanced {x : Chip} (h : x.ev.Balanced) (r : CfgReq) : (x.pcieConfig r).ev.Balanced := by
  unfold Chip.pcieConfig
  split
  · exact h
  · cases r with
    | msix e m =>
      dsimp only
      split
      · exact h
      · exact h.of_logPart (EventUnit.flushPba_logPart _)
    | power d => exact h
    | write i w => exact h
    | read i => exact h

theorem Chip.spiWord_balanced {x : Chip} (h : x.ev.Balanced) (addr w : W32) : (x.spiWord addr w).ev.Balanced := by
  unfold Chip.spiWord
  split
  · exact Chip.hostWrite_balanced h .spi _ _ w
  · split <;> exact h

theorem Chip.spiWrite_balanced {x : Chip} (h : x.ev.Balanced) (addr : W32) (ws : List W32) : (x.spiWrite addr ws).ev.Balanced := by
  unfold Chip.spiWrite
  split
  · exact h
  · exact foldl_keeps (P := fun y : Chip => y.ev.Balanced) (fun y e hy => Chip.spiWord_balanced hy _ e.2) _ h

theorem Chip.spiReadWord_balanced {x : Chip} (h : x.ev.Balanced) (addr : W32) (late : Bool) :
    (x.spiReadWord addr late).ev.Balanced := by
  unfold Chip.spiReadWord
  split
  · exact h
  · dsimp only
    split
    · exact Chip.hostRead_balanced h .spi _ _
    · exact h

theorem Chip.spiRead_balanced {x : Chip} (h : x.ev.Balanced) (addr : W32) (late : List Bool) : (x.spiRead addr late).ev.Balanced := by
  unfold Chip.spiRead
  split
  · exact h
  · exact foldl_keeps (P := fun y : Chip => y.ev.Balanced) (fun y e hy => Chip.spiReadWord_balanced hy _ e.2) _ h

theorem Chip.spiStatus_balanced {x : Chip} (h : x.ev.Balanced) : x.spiStatus.ev.Balanced := by
  unfold Chip.spiStatus; split <;> exact h

/-- A request of a QMP session keeps the identity where what its type does keeps it. -/
theorem Chip.qmpRequest_balanced {x : Chip} (h : x.ev.Balanced) (m : QmpMsg) (type : Nat) {f : Chip → Session → Chip × Nat × List W32}
    (hf : ∀ y t, y.ev.Balanced → (f y t).1.ev.Balanced) : (x.qmpRequest m type f).ev.Balanced := by
  unfold Chip.qmpRequest
  dsimp only
  split
  · exact h
  · split
    · exact h
    · split_ifs
      · exact h
      · exact h
      · exact h
      · exact h
      · exact h
      · exact hf _ _ h

theorem Chip.qmpWords_balanced {x : Chip} (h : x.ev.Balanced) (p : Path) (l : List W32) : (x.qmpWords p l).1.ev.Balanced := by
  induction l generalizing x with
  | nil => exact h
  | cons a l ih =>
    unfold Chip.qmpWords
    dsimp only
    refine ih ?_
    split
    · exact Chip.readWord_balanced h p _ _
    · exact h

theorem Chip.qmpPair_balanced {x : Chip} (h : x.ev.Balanced) (p : Path) (addr w : W32) : (x.qmpPair p addr w).1.ev.Balanced := by
  unfold Chip.qmpPair
  split
  · exact h
  · dsimp only
    split <;> exact h
  · dsimp only
    split_ifs
    · exact h
    · exact Chip.regWrite_balanced h p _ w
    · exact Chip.regWrite_balanced h p _ w
    · exact h

theorem Chip.qmpPairs_balanced {x : Chip} (h : x.ev.Balanced) (p : Path) (l : List W32) : (x.qmpPairs p l).1.ev.Balanced := by
  induction l using List.twoStepInduction generalizing x with
  | nil => exact h
  | singleton a => exact h
  | cons_cons a w l ih _ => exact ih (Chip.qmpPair_balanced h p a w)

theorem Chip.qmpRead_balanced {x : Chip} (h : x.ev.Balanced) (m : QmpMsg) : (x.qmpRead m).ev.Balanced := by
  unfold Chip.qmpRead
  refine Chip.qmpRequest_balanced h m 2 fun y t hy => ?_
  dsimp only
  split_ifs
  · exact hy
  · exact hy
  · exact Chip.qmpWords_balanced hy _ _

theorem Chip.qmpWrite_balanced {x : Chip} (h : x.ev.Balanced) (m : QmpMsg) : (x.qmpWrite m).ev.Balanced := by
  unfold Chip.qmpWrite
  refine Chip.qmpRequest_balanced h m 3 fun y t hy => ?_
  dsimp only
  split
  · exact hy
  · exact Chip.qmpPairs_balanced hy _ _

theorem Chip.qmpOfs_balanced {x : Chip} (h : x.ev.Balanced) (m : QmpMsg) : (x.qmpOfs m).ev.Balanced := by
  unfold Chip.qmpOfs
  refine Chip.qmpRequest_balanced h m 4 fun y t hy => ?_
  dsimp only
  split_ifs <;> exact hy

theorem Chip.qmpViewread_balanced {x : Chip} (h : x.ev.Balanced) (m : QmpMsg) (cyc : W32) (pairs : List (Nat × Nat)) :
    (x.qmpViewread m cyc pairs).ev.Balanced := by
  unfold Chip.qmpViewread
  refine Chip.qmpRequest_balanced h m 5 fun y t hy => ?_
  split
  · exact hy
  · split
    · exact hy
    · split <;> exact hy

theorem Chip.qmpGuarded_balanced {x : Chip} (h : x.ev.Balanced) (m : QmpMsg) (off : Nat) (w : W32) :
    (x.qmpGuarded m off w).ev.Balanced := by
  unfold Chip.qmpGuarded
  refine Chip.qmpRequest_balanced h m 6 fun y t hy => ?_
  dsimp only
  split
  · exact hy
  · split
    · exact hy
    · split
      · exact hy
      · split
        · exact hy
        · split <;> exact Chip.guardedNow_balanced hy _ _ w

theorem Chip.qmpUnknown_balanced {x : Chip} (h : x.ev.Balanced) (m : QmpMsg) (type : Nat) : (x.qmpUnknown m type).ev.Balanced :=
  Chip.qmpRequest_balanced h m type fun _ _ hy => hy

theorem Chip.qmpClose_balanced {x : Chip} (h : x.ev.Balanced) (m : QmpMsg) : (x.qmpClose m).ev.Balanced := by
  have hreq : (x.qmpRequest m 0xF fun x _ => (x, 0, [])).ev.Balanced := Chip.qmpRequest_balanced h m 0xF fun _ _ hy => hy
  unfold Chip.qmpClose
  dsimp only
  split
  · split <;> exact hreq
  · exact hreq

/-! ### The end of a command -/

theorem Chip.raise1_balanced {x : Chip} (h : x.ev.Balanced) (e : Ev) : (x.raise1 e).ev.Balanced := by
  rw [Chip.raise1_ev]; exact h.raise _ _ _ e

theorem Chip.commit_balanced {x : Chip} (h : x.ev.Balanced) : x.commit.ev.Balanced :=
  foldl_keeps (P := fun y : Chip => y.ev.Balanced) (fun _ e hy => Chip.raise1_balanced hy e) _
    (foldl_keeps (fun _ e hu => hu.lose e.1 e.2) x.core.lostLog h)

theorem Chip.commit_evq (x : Chip) : x.commit.core.evq = [] := by
  obtain ⟨v, hv⟩ := x.commit_core
  rw [hv]

theorem Chip.applyDone_balanced {x : Chip} (h : x.ev.Balanced) : x.applyDone.ev.Balanced := by
  have happly := Chip.commit_balanced (Chip.onCore_balanced h Core.bootApply)
  by_cases hst : x.core.boot.st = .apply
  · rw [Chip.applyDone, if_pos hst]
    exact happly.of_logPart (EventUnit.logPart_rerouted _ _ _)
  · rw [Chip.applyDone, if_neg hst]
    exact h

/-- What a command does between its beginning and its end, where it keeps the event identity. -/
def Chip.KeepsBalance (f : Chip → Chip) : Prop := ∀ x : Chip, x.ev.Balanced → (f x).ev.Balanced

/-- A command that acts on the parts leaves the event unit to its end. -/
theorem Chip.keepsBalance_onCore (f : Core → Core) : Chip.KeepsBalance fun x => x.onCore f := fun _ h => Chip.onCore_balanced h f

/-- A command that may assert a reset leaves the event unit, or resets it. -/
theorem Chip.keepsBalance_reset (f : Core → Core) :
    Chip.KeepsBalance fun y => let c := f y.core; { core := c, ev := if c.boot.held then {} else y.ev } := by
  intro x h
  dsimp only
  split
  · exact EventUnit.Balanced.empty
  · exact h

/-- A command on the parts, as the end of a command. -/
theorem runs_core {o : Out} {s : State} (f : Core → Core) (h : o = s.to (s.chip.runCore f)) :
    ∃ g, Chip.KeepsBalance g ∧ o = s.to (s.chip.run g) := ⟨_, Chip.keepsBalance_onCore f, h⟩

/-- A command that may assert a reset. -/
theorem runs_reset {o : Out} {s : State} (f : Core → Core) (h : o = s.to (s.chip.runReset f)) :
    ∃ g, Chip.KeepsBalance g ∧ o = s.to (s.chip.run g) := ⟨_, Chip.keepsBalance_reset f, h⟩

/-- The row of a guarded command. -/
theorem runs_guardCmd {o : Out} {s : State} {p : Path} {a : Nat} {w : W32} (h : o = s.to (s.chip.run fun x => x.guardCmd p a w)) :
    ∃ g, Chip.KeepsBalance g ∧ o = s.to (s.chip.run g) := ⟨_, fun _ hx => Chip.guardCmd_balanced hx p a w, h⟩

/-- A write at a host port. -/
theorem runs_hostWrite {o : Out} {s : State} {p : Path} {b : Bool} {a : Nat} {w : W32}
    (h : o = s.to (s.chip.run fun x => x.hostWrite p b a w)) : ∃ g, Chip.KeepsBalance g ∧ o = s.to (s.chip.run g) :=
  ⟨_, fun _ hx => Chip.hostWrite_balanced hx p b a w, h⟩

/-- A read at a host port. -/
theorem runs_hostRead {o : Out} {s : State} {p : Path} {b : Bool} {a : Nat} (h : o = s.to (s.chip.run fun x => x.hostRead p b a)) :
    ∃ g, Chip.KeepsBalance g ∧ o = s.to (s.chip.run g) := ⟨_, fun _ hx => Chip.hostRead_balanced hx p b a, h⟩

/-- An access to a data register. -/
theorem runs_access {o : Out} {s : State} {p : Path} {a : Nat} {w : Option W32} (h : o = s.to (s.chip.run fun x => x.access p a w)) :
    ∃ g, Chip.KeepsBalance g ∧ o = s.to (s.chip.run g) := ⟨_, fun _ hx => Chip.access_balanced hx p a w, h⟩

/-- Every command runs from its beginning to its end on the chip, and what it does between keeps the event identity. -/
theorem exec_eq_run (i : Instr) (s : State) : ∃ f, Chip.KeepsBalance f ∧ exec i s = s.to (s.chip.run f) := by
  cases i with
  | bootApplyDone => exact ⟨_, fun _ h => Chip.applyDone_balanced h, rfl⟩
  | escalationResetStart | supplyResetLevel | powerOnReset | pinReset | heartbeatMissing | hostResetDelayExpiry =>
    exact runs_reset _ rfl
  | modeChange | modeCancel | barrier | snapshot | netreset | retry | readmit | deadmit | selectA | selectB | hold | release
  | alignNow | clrSuspect | setRef | align | clrAlign | axOpen | axRun | axOff | clearFault | clrSlackMin | trClear | move | vel
  | stop | tblTime | tblCam | gearOn | knuckle | gearOff | addOfs | setOfs | home | clr | vmVel | vmStop | sto | ss1 | withdraw
  | proofTest | gauntletConfCmd | arm | disarm | force | clrStats | clrLog | clrCount | hostReset | park | unpark | standby
  | wake | qspiErase | qspiProg | linStore | linDelete | linClearAll | pendClear | clrMin | frSnap | qspiUpdate | retest
  | frExport | maintEnd => exact runs_guardCmd rfl
  | registerWrite | viewOpen | cuffCfgWrite | axisConfigWrite | perCycleWordWrite | visorDoneFree | vectorAck | bootClassWrite =>
    exact runs_hostWrite rfl
  | guardedValueWrite p addr w =>
    refine ⟨_, fun x h => ?_, rfl⟩
    split
    · exact Chip.hostWrite_balanced h _ _ _ _
    · exact h
  | linkSegRefusePop | timeCapPop | cuffLatchPop | dispatchTrPop | visorMdataRead | eventsLogPop | bootShellDataRead =>
    exact runs_hostRead rfl
  | profileTblDataAccess | bootQspiDataAccess | ledgerDataAccess => exact runs_access rfl
  | spiWrite addr ws => exact ⟨_, fun _ h => Chip.spiWrite_balanced h addr ws, rfl⟩
  | spiRead addr late => exact ⟨_, fun _ h => Chip.spiRead_balanced h addr late, rfl⟩
  | spiStatus => exact ⟨_, fun _ h => Chip.spiStatus_balanced h, rfl⟩
  | pcieMemWrite bar2 addr ws be => exact ⟨_, fun _ h => Chip.pcieWrite_balanced h bar2 addr ws be, rfl⟩
  | pcieMemRead bar2 addr q => exact ⟨_, fun _ h => Chip.pcieRead_balanced h bar2 addr q.n q.be, rfl⟩
  | pcieFlr => exact ⟨_, fun _ h => Chip.pcieFlr_balanced h, rfl⟩
  | pcieConfigRequest r => exact ⟨_, fun _ h => Chip.pcieConfig_balanced h r, rfl⟩
  | qmpRead m => exact ⟨_, fun _ h => Chip.qmpRead_balanced h m, rfl⟩
  | qmpWrite m => exact ⟨_, fun _ h => Chip.qmpWrite_balanced h m, rfl⟩
  | qmpOfs m => exact ⟨_, fun _ h => Chip.qmpOfs_balanced h m, rfl⟩
  | qmpViewread m cyc pairs => exact ⟨_, fun _ h => Chip.qmpViewread_balanced h m cyc pairs, rfl⟩
  | qmpGuarded m off w => exact ⟨_, fun _ h => Chip.qmpGuarded_balanced h m off w, rfl⟩
  | qmpClose m => exact ⟨_, fun _ h => Chip.qmpClose_balanced h m, rfl⟩
  | qmpUnknownType m type => exact ⟨_, fun _ h => Chip.qmpUnknown_balanced h m type, rfl⟩
  | _ => exact runs_core _ rfl

/-- Settles O60: `exec_eq_run` for the command a step takes, `Chip.commit_balanced` for its end; a clock of an empty queue reaches
neither the event unit nor the waiting events. -/
theorem eventIdentityKept : Obligations.EventIdentityKept := by
  intro s t hs hstep
  rw [State.eventsAgree_iff] at hs ⊢
  obtain ⟨hev, hevq⟩ := hs
  unfold step at hstep
  split at hstep
  case h_1 =>
    cases hstep
    unfold Chip.tick
    split
    · exact ⟨hev, hevq⟩
    · exact ⟨hev, hevq⟩
  case h_2 i rest _ =>
    obtain ⟨f, hf, hrun⟩ := exec_eq_run i { s with pending := rest }
    rw [hrun] at hstep
    cases hstep
    exact ⟨Chip.commit_balanced (hf _ hev), Chip.commit_evq _⟩

/-- Settles O57: every command is a `Chip.run`, at whose end no event waits; `State.after_ev` and the laws of `sortEv` say what the
event unit sees. -/
theorem everyCommandEnds : Obligations.EveryCommandEnds := by
  refine ⟨fun i s => ?ends, fun s c => ⟨Chip.commit_core _, s.after_ev c⟩, fun es => ⟨sortEv_perm es, sortEv_ascending es⟩⟩
  obtain ⟨f, -, hrun⟩ := exec_eq_run i s
  exact ⟨_, hrun, rfl, Chip.commit_evq _⟩

/-- Settles O56: `step` takes the front command; an empty queue is `Chip.tick`. -/
theorem stepTakesFront : Obligations.StepTakesFront := by
  refine fun s i q => ⟨rfl, fun hheld => ?held, fun hfree => ?free⟩
  case held =>
    have htick : s.chip.tick = s.chip := if_pos hheld
    show Host.Outcome.next { s with pending := [], chip := s.chip.tick } = _
    rw [htick]
  case free =>
    have htick : s.chip.tick = s.chip.onCore fun c => { c with time := c.time.advance 8 } := if_neg (by rw [hfree]; decide)
    show Host.Outcome.next { s with pending := [], chip := s.chip.tick } = _
    rw [htick]; rfl

/-- Settles O59: each clause is a field of `State.reset`; every event routes by the default, and the empty log agrees. -/
theorem resetState : Obligations.ResetState :=
  ⟨rfl, rfl, rfl, rfl, rfl, rfl, rfl, rfl, rfl, rfl, rfl, rfl, rfl, rfl, fun _ => rfl,
    (State.eventsAgree_iff _).mpr ⟨EventUnit.Balanced.empty, rfl⟩⟩

end Sys2Proof.Machine
end

section
/-! Loop engines: data operations, scaling, loads, stores, control and the ends of a LAW task (R330 to R342, R360, R361). -/

namespace Sys2Proof.Machine

/-! ### How an instruction ends -/

/-- An instruction on an engine that runs: its effect on the engine, and nothing else of the chip. What it draws from the parts, `f`
takes from them. -/
theorem run_le {s : State} {u : Nat} (h : s.EngineRuns u) (f : Core → Engine → Engine) (r : Engine)
    (hr : f s.base (s.engine u) = r) :
    ∃ k, s.to (s.chip.runCore fun c => c.leOn u (f c)) = .next (s.after (s.withEngine u r k)) :=
  ⟨s.chip.core.freeCtr + 2, by rw [run_core, leOn_eq h, hr]⟩

/-- An instruction of `b` beats: its effect `g` on the engine as fetched. -/
theorem run_leOp {s : State} {u : Nat} (h : s.EngineRuns u) (b : Nat) (g : Core → Engine → Engine) (r : Engine)
    (hr : g s.base ((s.engine u).fetched b) = r) :
    ∃ k, s.to (s.chip.runCore fun c => c.leOn u fun e => e.op b (g c)) = .next (s.after (s.withEngine u r k)) :=
  run_le h (fun c e => e.op b (g c)) r (by rw [Engine.op_eq h.1, hr])

@[simp] theorem Engine.fetched_rd (e : Engine) (b x : Nat) : (e.fetched b).rd x = e.dVal x := rfl
@[simp] theorem Engine.fetched_ra (e : Engine) (b A : Nat) : (e.fetched b).ra A = e.aVal A := rfl

/-! ### Results that fit their register -/

theorem Engine.wd_ofInt16 (e : Engine) (x : Nat) (v : W16) : e.wd x v.toInt = e.gives16 x v.toInt := by
  have hlo := v.le_toInt
  have hhi := v.toInt_lt
  exact Engine.wd_eq e x _ (by norm_num at hlo ⊢; omega) (by norm_num at hhi ⊢; omega)

/-- A value between two of the registers fits a register. -/
theorem Engine.wd_of_between (e g : Engine) (x y z : Nat) (v : Int) (h : g.dVal y ≤ v) (h' : v ≤ g.dVal z) :
    e.wd x v = e.gives16 x v := by
  have hy := g.dVal_range y
  have hz := g.dVal_range z
  exact Engine.wd_eq e x v (by omega) (by omega)

/-- An arithmetic shift right keeps the range of the register. -/
theorem Engine.dVal_div_range (e : Engine) (x n : Nat) :
    -32768 ≤ e.dVal x / (2 ^ n : Nat) ∧ e.dVal x / (2 ^ n : Nat) ≤ 32767 := by
  have hx := e.dVal_range x
  have hpos : (0 : Int) < (2 ^ n : Nat) := by positivity
  have hone : (1 : Int) ≤ (2 ^ n : Nat) := hpos
  exact ⟨(Int.le_ediv_iff_mul_le hpos).mpr (by nlinarith), (Int.ediv_le_iff_le_mul hpos).mpr (by nlinarith)⟩

/-- The product of two scalar registers fits an accumulator. -/
theorem Engine.dVal_mul_range (e : Engine) (x y : Nat) :
    -549755813888 ≤ e.dVal x * e.dVal y ∧ e.dVal x * e.dVal y ≤ 549755813887 := by
  obtain ⟨hx, hx'⟩ := e.dVal_range x
  obtain ⟨hy, hy'⟩ := e.dVal_range y
  constructor <;> nlinarith

/-- Settles O1: each instruction is a fetch and the register write of its result, limited by `Engine.wdSat_eq` and
`Engine.waSat_eq`, or of a result that fits. -/
theorem leDataOps : Obligations.LeDataOps := by
  refine ⟨fun s u x y A m hrun => ?limited, fun s u x y A m hrun => ?plain, fun s u A b x y m hrun => ?wide⟩
  case limited =>
    refine ⟨?add, ?sub, ?neg, ?abs, ?asl, ?mova⟩
    case add => exact run_leOp hrun 1 (fun _ e => e.wdSat x (e.rd x + e.rd y)) _ (Engine.wdSat_eq _ _ _)
    case sub => exact run_leOp hrun 1 (fun _ e => e.wdSat x (e.rd x - e.rd y)) _ (Engine.wdSat_eq _ _ _)
    case neg => exact run_leOp hrun 1 (fun _ e => e.wdSat x (-(e.rd y))) _ (Engine.wdSat_eq _ _ _)
    case abs => exact run_leOp hrun 1 (fun _ e => e.wdSat x ((e.rd y).natAbs : Int)) _ (Engine.wdSat_eq _ _ _)
    case asl =>
      refine run_leOp hrun 1 (fun _ e => e.wdSat x (e.rd x * (2 ^ (m.toNat % 16) : Nat))) _ ?_
      rw [Engine.wdSat_eq, Engine.fetched_rd, Nat.cast_pow, Nat.cast_ofNat]
    case mova => exact run_leOp hrun 1 (fun _ e => e.wdSat x (e.ra A)) _ (Engine.wdSat_eq _ _ _)
  case plain =>
    refine ⟨?nop, ?ldi, ?mov, ?min, ?max, ?cmp, ?asr, ?tsta⟩
    case nop => exact run_leOp hrun 1 (fun _ e => e) _ rfl
    case ldi => exact run_leOp hrun 1 (fun _ e => e.wd x m.toInt) _ (Engine.wd_ofInt16 _ x m)
    case mov => exact run_leOp hrun 1 (fun _ e => e.wd x (e.rd y)) _ (Engine.wd_of_between _ _ x y y _ le_rfl le_rfl)
    case min =>
      refine run_leOp hrun 1 (fun _ e => e.wd x (Min.min (e.rd x) (e.rd y))) _ ?_
      rcases le_total ((s.engine u).dVal x) ((s.engine u).dVal y) with hle | hle
      · exact Engine.wd_of_between _ (s.engine u) x x x _ (by simp [hle]) (by simp)
      · exact Engine.wd_of_between _ (s.engine u) x y y _ (by simp [hle]) (by simp)
    case max =>
      refine run_leOp hrun 1 (fun _ e => e.wd x (Max.max (e.rd x) (e.rd y))) _ ?_
      rcases le_total ((s.engine u).dVal x) ((s.engine u).dVal y) with hle | hle
      · exact Engine.wd_of_between _ (s.engine u) x y y _ (by simp) (by simp [hle])
      · exact Engine.wd_of_between _ (s.engine u) x x x _ (by simp) (by simp [hle])
    case cmp => exact run_leOp hrun 1 (fun _ e => e.nz (e.rd x - e.rd y)) _ rfl
    case asr =>
      refine run_leOp hrun 1 (fun _ e => e.wd x (e.rd x / (2 ^ (m.toNat % 16) : Nat))) _ ?_
      have hfit := (s.engine u).dVal_div_range x (m.toNat % 16)
      rw [Engine.fetched_rd, Engine.wd_eq _ _ _ hfit.1 hfit.2, Nat.cast_pow, Nat.cast_ofNat]
    case tsta => exact run_leOp hrun 1 (fun _ e => e.nz (e.ra A)) _ rfl
  case wide =>
    refine ⟨?mpy, ?mac, ?msu, ?maci, ?lda, ?adda, ?suba⟩
    case mpy =>
      have hfit := (s.engine u).dVal_mul_range x y
      exact run_leOp hrun 1 (fun _ e => e.wa A (e.rd x * e.rd y)) _ (Engine.wa_eq _ _ _ hfit.1 hfit.2)
    case mac => exact run_leOp hrun 1 (fun _ e => e.waSat A (e.ra A + e.rd x * e.rd y)) _ (Engine.waSat_eq _ _ _)
    case msu => exact run_leOp hrun 1 (fun _ e => e.waSat A (e.ra A - e.rd x * e.rd y)) _ (Engine.waSat_eq _ _ _)
    case maci => exact run_leOp hrun 1 (fun _ e => e.waSat A (e.ra A + e.rd x * m.toInt)) _ (Engine.waSat_eq _ _ _)
    case lda =>
      have hx := (s.engine u).dVal_range x
      exact run_leOp hrun 1 (fun _ e => e.wa A (e.rd x * 32768)) _
        (Engine.wa_eq _ _ _ (by rw [Engine.fetched_rd]; omega) (by rw [Engine.fetched_rd]; omega))
    case adda => exact run_leOp hrun 1 (fun _ e => e.waSat A (e.ra A + e.ra b)) _ (Engine.waSat_eq _ _ _)
    case suba => exact run_leOp hrun 1 (fun _ e => e.waSat A (e.ra A - e.ra b)) _ (Engine.waSat_eq _ _ _)

/-! ### Scaling -/

/-- The integer square root, bit by bit: with the bits above `k` found in `r`, the root is found. -/
theorem isqrtAux_spec (n k r : Nat) (hlo : r * r ≤ n) (hhi : n < (r + 2 ^ k) * (r + 2 ^ k)) :
    isqrtAux n k r * isqrtAux n k r ≤ n ∧ n < (isqrtAux n k r + 1) * (isqrtAux n k r + 1) := by
  induction k generalizing r with
  | zero => exact ⟨hlo, hhi⟩
  | succ k ih =>
    unfold isqrtAux
    dsimp only
    split
    · rename_i hle
      exact ih _ hle (by rwa [show r + 2 ^ k + 2 ^ k = r + 2 ^ (k + 1) by ring])
    · rename_i hgt
      exact ih _ hlo (by omega)

/-- The integer square root of a number below 2^128 is the only one. -/
theorem isqrt_eq {n r : Nat} (hn : n < 2 ^ 128) (hlo : r * r ≤ n) (hhi : n < (r + 1) * (r + 1)) : isqrt n = r := by
  obtain ⟨hl, hh⟩ := isqrtAux_spec n 64 0 (by omega) (by norm_num at hn ⊢; omega)
  have h1 : isqrtAux n 64 0 < r + 1 := by nlinarith
  have h2 : r < isqrtAux n 64 0 + 1 := by nlinarith
  unfold isqrt; omega

/-- The shift count of SHA, m[4:0] signed. -/
theorem wrapS_5 (n : Nat) : wrapS 5 (n : Int) = if n % 32 < 16 then ((n % 32 : Nat) : Int) else ((n % 32 : Nat) : Int) - 32 := by
  unfold wrapS
  rw [BitVec.toInt_ofInt, Int.bmod_def]
  push_cast
  split <;> split <;> omega

/-- CLMP within bounds that do not cross. -/
theorem clampI_eq_within {lo hi : Int} (h : lo ≤ hi) (v : Int) : clampI lo hi v = within lo hi v := by
  unfold clampI within; split_ifs <;> omega

/-- A root that is limited, with V and S (SQRT). -/
theorem Engine.wd_min_ov (e : Engine) (x r : Nat) :
    (e.wd x (Min.min (r : Int) 32767)).ov (decide (32767 < (r : Int))) = e.gives16Sat x r := by
  have hr : within (-32768) 32767 (r : Int) = Min.min (r : Int) 32767 := by unfold within; omega
  have hv : decide (within (-32768) 32767 (r : Int) ≠ r) = decide (32767 < (r : Int)) := by
    rw [hr, decide_eq_decide]; omega
  rw [Engine.wd_eq _ _ _ (by omega) (by omega)]
  unfold Engine.gives16Sat
  simp only [hr] at hv ⊢
  rw [hv]; rfl

theorem Engine.sha_eq {e : Engine} (hr : e.run = true) (A : Nat) (m : W16) :
    let sh : Int := if m.toNat % 32 < 16 then m.toNat % 32 else m.toNat % 32 - 32
    e.sha A m = (e.fetched 1).gives40Sat A (if 0 ≤ sh then e.aVal A * 2 ^ sh.toNat else e.aVal A / 2 ^ sh.natAbs) := by
  intro sh
  have hsh : wrapS 5 m.toNat = sh := by rw [wrapS_5]; push_cast; rfl
  rw [Engine.sha, Engine.op_eq hr, hsh]
  simp only [Engine.waSat_eq, Engine.fetched_ra]
  push_cast
  rw [apply_ite (Engine.gives40Sat _ A)]

theorem Engine.clmp_eq {e : Engine} (hr : e.run = true) (k A x y : Nat) (hxy : e.dVal x ≤ e.dVal y) :
    let r := within (e.dVal x * 2 ^ 15) (e.dVal y * 2 ^ 15) (e.aVal A)
    e.clmp k A x y = { ((e.fetched 1).gives40 A r) with v := decide (r ≠ e.aVal A) } := by
  intro r
  have hx := e.dVal_range x
  have hy := e.dVal_range y
  have hle : e.dVal x * 32768 ≤ e.dVal y * 32768 := by omega
  have hfit := within_range (e.dVal x * 32768) (e.dVal y * 32768) (e.aVal A) hle
  rw [Engine.clmp, Engine.op_eq hr]
  simp only [Engine.fetched_rd, Engine.fetched_ra, if_neg (not_lt.mpr hle), clampI_eq_within hle]
  rw [Engine.wa_eq _ _ _ (by omega) (by omega)]
  rfl

theorem Engine.sat_eq {e : Engine} (hr : e.run = true) (k x A : Nat) {m : W16} (hm : m.toNat % 16 ≤ 8) :
    e.sat k x A m = (e.fetched 1).gives16Sat x ((e.aVal A * 2 ^ (m.toNat % 16) + 2 ^ 14) / 2 ^ 15) := by
  rw [Engine.sat, Engine.op_eq hr]
  simp only [if_pos hm, Engine.wdSat_eq, Engine.fetched_ra, roundShift]
  push_cast
  rfl

theorem Engine.sqrt_eq {e : Engine} (hr : e.run = true) (x : Nat) {A r : Nat} (hpos : 0 ≤ e.aVal A) (hlo : (r * r : Int) ≤ e.aVal A)
    (hhi : e.aVal A < ((r + 1) * (r + 1) : Int)) : e.sqrt x A = (e.fetched 8).gives16Sat x r := by
  have hA := e.aVal_range A
  have hroot : isqrt (e.aVal A).toNat = r := by
    apply isqrt_eq
    · omega
    · zify; rwa [Int.toNat_of_nonneg hpos]
    · zify; rwa [Int.toNat_of_nonneg hpos]
  rw [Engine.sqrt, Engine.op_eq hr]
  simp only [Engine.fetched_ra, if_neg (not_lt.mpr hpos), hroot]
  exact Engine.wd_min_ov _ x r

theorem Engine.sqrt_of_neg {e : Engine} (hr : e.run = true) (x : Nat) {A : Nat} (hneg : e.aVal A < 0) :
    e.sqrt x A = { ((e.fetched 8).gives16 x 0) with v := true, s := true } := by
  rw [Engine.sqrt, Engine.op_eq hr]
  refine (if_pos hneg).trans ?_
  rw [Engine.wd_eq _ _ _ (by decide) (by decide), Engine.ov, Bool.or_true]

theorem Engine.div_eq {e : Engine} (hr : e.run = true) (x A : Nat) {y : Nat} (hy : e.dVal y ≠ 0) :
    e.div x A y = (e.fetched 18).gives16Sat x (Int.fdiv (e.aVal A) (e.dVal y)) := by
  rw [Engine.div, Engine.op_eq hr]
  simp only [Engine.fetched_rd, Engine.fetched_ra, if_neg hy, Engine.wdSat_eq]

theorem Engine.div_of_zero {e : Engine} (hr : e.run = true) (x A : Nat) {y : Nat} (hy : e.dVal y = 0) :
    e.div x A y =
      { ((e.fetched 18).gives16 x (if 0 ≤ e.aVal A then 32767 else -32768)) with v := false, dz := true } := by
  have hfit : -32768 ≤ (if 0 ≤ e.aVal A then (32767 : Int) else -32768) ∧
      (if 0 ≤ e.aVal A then (32767 : Int) else -32768) ≤ 32767 := by split <;> decide
  rw [Engine.div, Engine.op_eq hr]
  refine (if_pos hy).trans ?_
  rw [Engine.fetched_ra, Engine.wd_eq _ _ _ hfit.1 hfit.2, Engine.ov, Bool.or_false]

/-- Settles O2: each instruction is its law above. -/
theorem leScalingOps : Obligations.LeScalingOps := by
  intro s u A x y m hrun
  have hr := hrun.1
  exact ⟨run_le hrun (fun _ e => e.sha A m) _ (Engine.sha_eq hr A m),
    fun hxy => run_le hrun (fun c e => e.clmp c.freeCtr A x y) _ (Engine.clmp_eq hr _ A x y hxy),
    fun hm => run_le hrun (fun c e => e.sat c.freeCtr x A m) _ (Engine.sat_eq hr _ x A hm),
    fun r hpos hlo hhi => run_le hrun (fun _ e => e.sqrt x A) _ (Engine.sqrt_eq hr x hpos hlo hhi),
    fun hneg => run_le hrun (fun _ e => e.sqrt x A) _ (Engine.sqrt_of_neg hr x hneg),
    fun hy => run_le hrun (fun _ e => e.div x A y) _ (Engine.div_eq hr x A hy),
    fun hy => run_le hrun (fun _ e => e.div x A y) _ (Engine.div_of_zero hr x A hy)⟩

/-! ### Loads -/

/-- A wrap to `n` bits is the signed value of the low `n` bits. -/
theorem wrapS_eq_signed {n : Nat} (hn : 0 < n) (v : Int) : wrapS n v = signed n v := by
  obtain ⟨n, rfl⟩ : ∃ m, n = m + 1 := ⟨n - 1, by omega⟩
  have hhalf : (((2 ^ (n + 1) : Nat) : Int) + 1) / 2 = 2 ^ n := by push_cast; rw [pow_succ]; omega
  unfold wrapS signed
  rw [BitVec.toInt_ofInt, Int.bmod_def, hhalf]
  push_cast
  rfl

theorem signed_16_range (v : Int) : -32768 ≤ signed 16 v ∧ signed 16 v ≤ 32767 := by
  unfold signed; norm_num; split <;> omega

theorem signed_32_range (v : Int) : -2147483648 ≤ signed 32 v ∧ signed 32 v ≤ 2147483647 := by
  unfold signed; norm_num; split <;> omega

theorem signed_40_range (v : Int) : -549755813888 ≤ signed 40 v ∧ signed 40 v ≤ 549755813887 := by
  unfold signed; norm_num; split <;> omega

@[simp] theorem Engine.fetched_seen (e : Engine) (b off : Nat) (w : W32) : (e.fetched b).seen off w = e.seen off w := rfl

/-- A F16 word loads with its sign. -/
theorem Engine.wd_rF16 (e : Engine) (x : Nat) (w : W32) : e.wd x (rF16 w) = e.gives16 x (signed 16 w.toNat) := by
  have hfit := signed_16_range w.toNat
  rw [rF16, wrapS_eq_signed (by decide), Engine.wd_eq _ _ _ hfit.1 hfit.2]

/-- A 32-bit word fits an accumulator. -/
theorem Engine.wa_toInt (e : Engine) (A : Nat) (w : W32) : e.wa A w.toInt = e.gives40 A w.toInt := by
  have hlo := w.le_toInt
  have hhi := w.toInt_lt
  exact Engine.wa_eq e A _ (by norm_num at hlo ⊢; omega) (by norm_num at hhi ⊢; omega)

/-- A F24 word rounded to Q15, with HS where it is limited (R342). -/
theorem Engine.handoff_eq (e : Engine) (x : Nat) (w : W32) :
    let q := (signed 24 w.toNat + 128) / 256
    e.handoff x w = { (e.gives16Sat x q) with hs := e.hs || decide (within (-32768) 32767 q ≠ q) } := by
  intro q
  have hq : (rF24 w + 128) / 256 = q := by rw [rF24, wrapS_eq_signed (by decide)]
  have ho : outS 16 q = decide (within (-32768) 32767 q ≠ q) := outS_eq_within 16 q
  rw [Engine.handoff, hq, Engine.wdSat_eq, ho]

/-- The difference of an accumulator and a word, in the word's 32 bits (SUBW). -/
theorem toInt_ofInt_sub (a : Int) (w : W32) : (BitVec.ofInt 32 a - w).toInt = signed 32 (a - w.toNat) := by
  rw [← wrapS_eq_signed (by decide), wrapS, BitVec.toInt_sub, BitVec.toInt_ofInt, BitVec.toInt_ofInt, BitVec.toInt_eq_toNat_bmod,
    Int.sub_bmod_bmod, Int.bmod_sub_bmod]

/-- A word of an image that is not held reads 0, with V and S. -/
theorem Engine.wd_zero_ov (e : Engine) (x : Nat) : (e.wd x 0).ov true = { (e.gives16 x 0) with v := true, s := true } := by
  rw [Engine.wd_eq _ _ _ (by decide) (by decide), Engine.ov, Bool.or_true]

/-- Settles O3: each load writes what the task sees at its offset, in the format of the instruction. -/
theorem leLoads : Obligations.LeLoads := by
  intro s u x y A off hrun
  refine ⟨?ld, ?ldx, ?ldw, ?subw, ?ldac, fun v hfar => ?ldr, fun v hfar => ?ldrx, fun hfar => ⟨?ldrNone, ?ldrxNone⟩⟩
  case ld => exact run_leOp hrun 4 (fun c e => e.wd x (rF16 (e.seen off (c.leWord u off)))) _ (Engine.wd_rF16 _ x _)
  case ldx => exact run_leOp hrun 4 (fun c e => e.handoff x (e.seen off (c.leWord u off))) _ (Engine.handoff_eq _ x _)
  case ldw => exact run_leOp hrun 4 (fun c e => e.wa A (e.seen off (c.leWord u off)).toInt) _ (Engine.wa_toInt _ A _)
  case subw =>
    refine run_leOp hrun 4 (fun c e => e.wa A (BitVec.ofInt 32 (e.ra A) - e.seen off (c.leWord u off)).toInt) _ ?_
    have hfit := signed_32_range ((s.engine u).aVal A - ((s.engine u).seen off (s.base.leWord u off)).toNat)
    rw [toInt_ofInt_sub, Engine.fetched_ra, Engine.fetched_seen, Engine.wa_eq _ _ _ (by omega) (by omega)]
    rfl
  case ldac =>
    refine run_leOp hrun 5 (fun c e => e.wa A (rPair 40 (e.seen off (c.leWord u off)) (e.seen (off + 4) (c.leWord u (off + 4))))) _ ?_
    have hfit := signed_40_range (((s.engine u).seen off (s.base.leWord u off)).toNat +
      4294967296 * ((s.engine u).seen (off + 4) (s.base.leWord u (off + 4))).toNat)
    rw [rPair, wrapS_eq_signed (by decide), Engine.fetched_seen, Engine.fetched_seen, Engine.wa_eq _ _ _ hfit.1 hfit.2]
    rfl
  case ldr =>
    refine run_le hrun (fun c e => e.ldr x (c.leOther u y off)) _ ?_
    rw [show s.base.leOther u y off = some v from hfar, Engine.ldr, Engine.op_eq hrun.1]
    exact Engine.wd_rF16 _ x v
  case ldrx =>
    refine run_le hrun (fun c e => e.ldrx x (c.leOther u y off)) _ ?_
    rw [show s.base.leOther u y off = some v from hfar, Engine.ldrx, Engine.op_eq hrun.1]
    exact Engine.handoff_eq _ x v
  case ldrNone =>
    refine run_le hrun (fun c e => e.ldr x (c.leOther u y off)) _ ?_
    rw [show s.base.leOther u y off = none from hfar, Engine.ldr, Engine.op_eq hrun.1]
    exact Engine.wd_zero_ov _ x
  case ldrxNone =>
    refine run_le hrun (fun c e => e.ldrx x (c.leOther u y off)) _ ?_
    rw [show s.base.leOther u y off = none from hfar, Engine.ldrx, Engine.op_eq hrun.1]
    exact Engine.wd_zero_ov _ x

/-! ### Stores -/

/-- A store to a LAW-writable word. -/
theorem run_leStore {s : State} {u off : Nat} (h : s.EngineRuns u) (hw : lawWritable s.base.image.intWords off = true)
    (f : Engine → Engine) (r : Engine) (hr : f (s.engine u) = r) :
    ∃ k, s.to (s.chip.runCore fun c => c.leStore u off f) = .next (s.after (s.withEngine u r k)) := by
  obtain ⟨k, hk⟩ := run_le h (fun _ => f) r hr
  exact ⟨k, by rw [← hk, run_core, run_core, Core.leStore, if_pos hw]⟩

/-- A store to any other word executes as FLT 0xFE. -/
theorem run_leStore_refused {s : State} {off : Nat} (u : Nat) (hw : lawWritable s.base.image.intWords off = false)
    (f : Engine → Engine) : s.to (s.chip.runCore fun c => c.leStore u off f) = exec (.leFlt u 0xFE) s := by
  rw [run_core, Core.leStore, if_neg (by rw [hw]; decide)]
  rfl

/-- Entries for which the write buffer has room are appended. -/
theorem Engine.push_of_room {e : Engine} {ws : List WEnt} (h : e.buf.length + ws.length ≤ 64) :
    e.push ws = { e with buf := e.buf ++ ws } := by
  rw [Engine.push, List.take_of_length_le (by simpa using h)]

/-- A value of a signed width keeps its value when it is wrapped to that width. -/
theorem wrapS_of_range {n : Nat} {v : Int} (hn : 0 < n) (h : -2 ^ (n - 1) ≤ v) (h' : v < 2 ^ (n - 1)) : wrapS n v = v := by
  obtain ⟨n, rfl⟩ : ∃ m, n = m + 1 := ⟨n - 1, by omega⟩
  rw [Nat.add_sub_cancel] at h h'
  rw [wrapS, BitVec.toInt_ofInt]
  apply Int.bmod_eq_of_le_mul_two <;> push_cast <;> rw [pow_succ] <;> omega

theorem Engine.wF16_dVal (e : Engine) (x : Nat) : wF16 (e.dVal x) = BitVec.ofInt 32 (e.dVal x) := by
  have hx := e.dVal_range x
  rw [wF16, wrapS_of_range (by decide) (by norm_num; omega) (by norm_num; omega)]
  rfl

theorem Engine.wF24_dVal (e : Engine) (x : Nat) : wF24 (e.dVal x * 256) = BitVec.ofInt 32 (e.dVal x * 256) := by
  have hx := e.dVal_range x
  rw [wF24, wrapS_of_range (by decide) (by norm_num; omega) (by norm_num; omega)]
  rfl

theorem Engine.wPair_aVal (e : Engine) (A : Nat) :
    wPair 40 (e.aVal A) = (BitVec.ofInt 32 (e.aVal A), BitVec.ofInt 32 (e.aVal A / 2 ^ 32)) := by
  have hA := e.aVal_range A
  rw [wPair, wrapS_of_range (by decide) (by norm_num; omega) (by norm_num; omega)]
  rfl

theorem Engine.stac_of_room {e : Engine} (hr : e.run = true) (A off : Nat) (h : e.buf.length + 2 ≤ 64) :
    e.stac A off = { (e.fetched 3) with buf := e.buf ++
      [{ off := off, val := BitVec.ofInt 32 (e.aVal A), fmt := .a40 },
        { off := off + 4, val := BitVec.ofInt 32 (e.aVal A / 2 ^ 32), fmt := .a40 }] } := by
  rw [Engine.stac, Engine.op_eq hr]
  simp only [Engine.fetched_ra, Engine.wPair_aVal]
  exact Engine.push_of_room h

/-- Settles O4: the constant table is read only, scratch belongs to the task, and a store to the axis store is an entry of the
write buffer where LAW may write the word. -/
theorem leStores : Obligations.LeStores := by
  refine ⟨fun s u x m hrun => ?scratch, fun s u x A off hrun hroom => ?buffer⟩
  case scratch =>
    refine ⟨fun hm => ?ldlConst, fun w hm hw => ?ldlScratch, fun hm => ?stlScratch, fun hm => ?stlConst⟩
    case ldlConst =>
      refine run_le hrun (fun c e => e.ldl c.freeCtr x m fun i => c.image.leConst.look i 0) _ ?_
      rw [Engine.ldl, Engine.op_eq hrun.1]
      exact (if_pos hm).trans (Engine.wd_ofInt16 _ x _)
    case ldlScratch =>
      refine run_le hrun (fun c e => e.ldl c.freeCtr x m fun i => c.image.leConst.look i 0) _ ?_
      have hlook : ((s.engine u).fetched 1).scratch.look m (Config.freeBits 16 s.base.freeCtr) = w := by
        show ((s.engine u).scratch.look? m).getD _ = w
        rw [hw]; rfl
      rw [Engine.ldl, Engine.op_eq hrun.1]
      refine (if_neg (not_lt.mpr hm)).trans ?_
      simp only [hlook, Engine.wd_ofInt16]
      rfl
    case stlScratch =>
      obtain ⟨k, hk⟩ := run_leOp hrun 1 (fun _ e => { e with scratch := e.scratch.put m (e.d.getD x 0) }) _ rfl
      refine ⟨k, Eq.trans ?_ hk⟩
      show s.to (s.chip.runCore fun c => c.leStl u x m) = _
      rw [run_core, run_core, Core.leStl, if_neg (not_lt.mpr hm)]
      rfl
    case stlConst =>
      show s.to (s.chip.runCore fun c => c.leStl u x m) = _
      rw [run_core, Core.leStl, if_pos hm]
      rfl
  case buffer =>
    have hroom1 : ∀ b, ((s.engine u).fetched b).buf.length + 1 ≤ 64 := fun b => by
      show (s.engine u).buf.length + 1 ≤ 64; omega
    have hroom2 : ∀ b, ((s.engine u).fetched b).buf.length + 2 ≤ 64 := fun b => by
      show (s.engine u).buf.length + 2 ≤ 64; omega
    refine ⟨fun hw => ⟨?st, ?stx, ?stw⟩, fun hw hw4 => ?stac, fun hw => ⟨?noSt, ?noStx, ?noStw, ?noStac⟩, fun hw4 => ?noStac4⟩
    case st =>
      refine run_leStore hrun hw (fun e => e.st x off) _ ?_
      rw [Engine.st, Engine.op_eq hrun.1, Engine.push_of_room (hroom1 2), Engine.fetched_rd, Engine.wF16_dVal]
      rfl
    case stx =>
      refine run_leStore hrun hw (fun e => e.stx x off) _ ?_
      rw [Engine.stx, Engine.op_eq hrun.1, Engine.push_of_room (hroom1 2), Engine.fetched_rd, Engine.wF24_dVal]
      rfl
    case stw =>
      refine run_leStore hrun hw (fun e => e.stw A off) _ ?_
      rw [Engine.stw, Engine.op_eq hrun.1, Engine.push_of_room (hroom1 2), Engine.fetched_ra, w32i]
      rfl
    case stac =>
      obtain ⟨k, hk⟩ := run_leStore hrun hw (fun e => e.stac A off) _ (Engine.stac_of_room hrun.1 A off (hroom2 3))
      refine ⟨k, Eq.trans ?_ hk⟩
      show s.to (s.chip.runCore fun c => c.leStac u A off) = _
      rw [run_core, run_core, Core.leStac, if_pos hw4]
    case noSt => exact run_leStore_refused u hw fun e => e.st x off
    case noStx => exact run_leStore_refused u hw fun e => e.stx x off
    case noStw => exact run_leStore_refused u hw fun e => e.stw A off
    case noStac =>
      show s.to (s.chip.runCore fun c => c.leStac u A off) = _
      by_cases hw4 : lawWritable s.base.image.intWords (off + 4) = true
      · rw [← run_leStore_refused u hw fun e => e.stac A off, run_core, run_core, Core.leStac, if_pos hw4]
      · rw [run_core, Core.leStac, if_neg hw4]
        rfl
    case noStac4 =>
      show s.to (s.chip.runCore fun c => c.leStac u A off) = _
      rw [run_core, Core.leStac, if_neg (by rw [hw4]; decide)]
      rfl

/-! ### Control, and the ends of a LAW task -/

/-- A listed condition code of BR. -/
theorem Engine.cond_of_listed {e : Engine} {cc : Nat} {b : Bool} (k : Nat)
    (h : [true, e.z, !e.z, e.n, !e.n, e.n || e.z, !(e.n || e.z), e.v, !e.v][cc]? = some b) : e.cond k cc = b := by
  rcases cc with _ | _ | _ | _ | _ | _ | _ | _ | _ | cc
  case succ.succ.succ.succ.succ.succ.succ.succ.succ => simp at h
  all_goals exact Option.some.inj h

/-- The target of a displacement, which counts from the branch itself. -/
theorem Engine.fetched_goto (e : Engine) (b : Nat) (m : W16) :
    (e.fetched b).goto m = { (e.fetched b) with pc := (((e.pc : Int) + m.toInt) % 2048).toNat } := by
  have hpc : ((((e.pc + 1) % 2048 : Nat) : Int) - 1 + m.toInt) % 2048 = ((e.pc : Int) + m.toInt) % 2048 := by omega
  show { (e.fetched b) with pc := ((((e.pc + 1) % 2048 : Nat) : Int) - 1 + m.toInt) % 2048 |>.toNat } = _
  rw [hpc]

theorem Engine.br_taken {e : Engine} (hr : e.run = true) {k cc : Nat} (h : e.cond k cc = true) (m : W16) :
    e.br k cc m = { (e.fetched 2) with pc := (((e.pc : Int) + m.toInt) % 2048).toNat } := by
  rw [Engine.br, if_pos h, Engine.op_eq hr, Engine.fetched_goto]

theorem Engine.br_passed {e : Engine} (hr : e.run = true) {k cc : Nat} (h : e.cond k cc = false) (m : W16) :
    e.br k cc m = e.fetched 1 := by
  rw [Engine.br, if_neg (by rw [h]; decide), Engine.op_eq hr, id]

theorem Engine.call_eq {e : Engine} (hr : e.run = true) (m : W16) :
    e.call m = { (e.fetched 2) with pc := (((e.pc : Int) + m.toInt) % 2048).toNat, stack := ((e.pc + 1) % 2048) :: e.stack } := by
  rw [Engine.call, Engine.op_eq hr, Engine.fetched_goto]
  rfl

theorem Engine.ret_eq {e : Engine} (hr : e.run = true) {t : Nat} {rest : List Nat} (hstack : e.stack = t :: rest) :
    e.ret = { (e.fetched 2) with pc := t, stack := rest } := by
  rw [Engine.ret, Engine.op_eq hr, show (e.fetched 2).stack = t :: rest from hstack]

@[simp] theorem State.base_le (s : State) (u : Nat) : s.base.le u = s.engine u := rfl

/-- The running task of an engine's LAW ends in FLT: what FLT does is what its trap does. -/
theorem run_leTrap {s : State} {u : Nat} {r : Running} (h : s.EngineRuns u) (hr : s.base.disp.on .eng u = some r) (code : Nat) :
    s.base.leTrap u code =
      (s.withEngine u ((s.engine u).fetched 1) (s.chip.core.freeCtr + 2)).taskFlt r (code % 256) := by
  have hin : ((s.base.le u).run && !(s.base.le u).iso) = true := by
    rw [s.base_le, h.1, h.2]; rfl
  rw [Core.leTrap, if_pos hin, hr]
  dsimp only
  rw [leOn_eq h, Engine.op_eq h.1, id]

/-- END of an engine's LAW task. -/
theorem run_leEnd {s : State} {u : Nat} {r : Running} (h : s.EngineRuns u) (hr : s.base.disp.on .eng u = some r) :
    s.base.leEnd u = (s.withEngine u ((s.engine u).fetched 1) (s.chip.core.freeCtr + 2)).lawEnd r := by
  have hin : ((s.base.le u).run && !(s.base.le u).iso) = true := by
    rw [s.base_le, h.1, h.2]; rfl
  rw [Core.leEnd, if_pos hin, hr]
  dsimp only
  rw [leOn_eq h, Engine.op_eq h.1, id]

theorem State.withEngine_look (s : State) (u k : Nat) (e : Engine) : (s.withEngine u e k).eng.eng.look u {} = e :=
  Tab.look_put_self _ _ _ _

/-- Settles O5: BR by `Engine.cond_of_listed`, CALL and RET by the depth of the return stack, and the ends of a task by what
`Core.lawEnd` and `Core.taskFlt` do with a paired and with an unpaired engine. -/
theorem leControl : Obligations.LeControl := by
  refine ⟨fun s u cc m hrun => ?branch, fun s u code r hrun hon hunit htask => ⟨s.chip.core.freeCtr + 2, ?ends⟩⟩
  case branch =>
    have hr := hrun.1
    refine ⟨fun hc => ?taken, fun hc => ?passed, fun hroom => ?call, fun hfull => ?callFull, fun t rest hstack => ?ret,
      fun hempty => ?retEmpty⟩
    case taken =>
      exact run_le hrun (fun c e => e.br c.freeCtr cc m) _ (Engine.br_taken hr (Engine.cond_of_listed _ hc) m)
    case passed =>
      exact run_le hrun (fun c e => e.br c.freeCtr cc m) _ (Engine.br_passed hr (Engine.cond_of_listed _ hc) m)
    case call =>
      obtain ⟨k, hk⟩ := run_le hrun (fun _ e => e.call m) _ (Engine.call_eq hr m)
      refine ⟨k, Eq.trans ?_ hk⟩
      show s.to (s.chip.runCore fun c => c.leCall u m) = _
      rw [run_core, run_core, Core.leCall, s.base_le, if_neg (not_le.mpr hroom)]
    case callFull =>
      show s.to (s.chip.runCore fun c => c.leCall u m) = _
      rw [run_core, Core.leCall, s.base_le, if_pos hfull]
      rfl
    case ret =>
      obtain ⟨k, hk⟩ := run_le hrun (fun _ => Engine.ret) _ (Engine.ret_eq hr hstack)
      refine ⟨k, Eq.trans ?_ hk⟩
      show s.to (s.chip.runCore fun c => c.leRet u) = _
      rw [run_core, run_core, Core.leRet, s.base_le, hstack]
      rfl
    case retEmpty =>
      show s.to (s.chip.runCore fun c => c.leRet u) = _
      rw [run_core, Core.leRet, s.base_le, hempty]
      rfl
  case ends =>
    have hlook := s.withEngine_look u (s.chip.core.freeCtr + 2) ((s.engine u).fetched 1)
    refine ⟨fun hpair => ?endAlone, fun hpair => ?endPaired, fun hpair => ?fltPaired, fun hpair => ?fltAlone⟩
    case endAlone =>
      show s.to (s.chip.runCore fun c => c.leEnd u) = _
      have hp : ((s.engine u).fetched 1).paired = false := hpair
      rw [run_core, run_leEnd hrun hon, Core.lawEnd, hunit]
      simp only [hlook, hp, Bool.false_eq_true, if_false]
      rfl
    case endPaired =>
      show s.to (s.chip.runCore fun c => c.leEnd u) = _
      have hp : ((s.engine u).fetched 1).paired = true := hpair
      rw [run_core, run_leEnd hrun hon, Core.lawEnd, hunit]
      simp only [hlook, hp, if_true]
      rfl
    case fltPaired =>
      show s.to (s.chip.runCore fun c => c.leTrap u code) = _
      have hp : ((s.engine u).fetched 1).paired = true := hpair
      rw [run_core, run_leTrap hrun hon, Core.taskFlt, htask]
      simp only [hunit, hlook, hp, if_true]
      rfl
    case fltAlone =>
      show s.to (s.chip.runCore fun c => c.leTrap u code) = _
      have hp : ((s.engine u).fetched 1).paired = false := hpair
      rw [run_core, run_leTrap hrun hon, Core.taskFlt, htask]
      simp only [hunit, hlook, hp, Bool.false_eq_true, if_false]

end Sys2Proof.Machine
end

section
/-! Signal processors: accumulator operations, moves, the axis store, addressing and control (R374 to R394, R401). -/

namespace Sys2Proof.Machine

/-! ### How an instruction ends -/

/-- An instruction of `b` beats that traps nothing leaves the processor as its effect makes it, the program going on. What it draws
from the parts, `g` takes from them. -/
theorem run_spOp {s : State} {u : Nat} (h : s.ProcRuns u) (b : Nat) (g : Core → Proc → Proc) (r : Proc)
    (hr : g s.base ((s.proc u).begun b) = r) (ht : r.trap = none) :
    ∃ k, s.to (s.chip.runCore fun c => c.spOn u fun q => q.op b (g c)) = .next (s.ranTo u r k) :=
  ⟨s.chip.core.freeCtr + 4, by rw [run_core, spOn_eq h b (g s.base) r hr ht]; rfl⟩

/-- An instruction that traps with a code executes as FLT with that code. -/
theorem run_spTrap {s : State} {u code : Nat} (h : s.ProcRuns u) (g : Core → Proc → Proc)
    (hg : g s.base ((s.proc u).begun 1) = ((s.proc u).begun 1).fltTrap code) (hc : code < 256) :
    s.to (s.chip.runCore fun c => c.spOn u fun q => q.op 1 (g c)) = exec (.spFlt u code) s := by
  rw [run_core, spOn_trap h (g s.base) hg hc]; rfl

@[simp] theorem State.base_sp (s : State) (u : Nat) : s.base.sp u = s.proc u := rfl

/-- Settles O6: each ALU operation is the accumulator write of its result, limited by `Proc.accSat_eq` or as it is. -/
theorem spAccumulatorOps : Obligations.SpAccumulatorOps := by
  refine ⟨fun s u md s1 s2 m2 fa fb hrun => ?plain, fun s u md s1 s2 fa fb hrun => ?rounding⟩
  case plain =>
    refine ⟨?clr, ?mpy, ?mac, ?msu, ?add, ?sub, ?addm, ?putm, ?cpym⟩
    case clr => exact run_spPar hrun fa fb (Proc.aluClr md) _ rfl
    case mpy => exact run_spPar hrun fa fb (Proc.aluMpy md s1 s2) _ rfl
    case mac => exact run_spPar hrun fa fb (Proc.aluMac md s1 s2) _ (Proc.accSat_eq _ _ _)
    case msu => exact run_spPar hrun fa fb (Proc.aluMsu md s1 s2) _ (Proc.accSat_eq _ _ _)
    case add => exact run_spPar hrun fa fb (Proc.aluAdd md s1) _ (Proc.accSat_eq _ _ _)
    case sub => exact run_spPar hrun fa fb (Proc.aluSub md s1) _ (Proc.accSat_eq _ _ _)
    case addm => exact run_spPar hrun fa fb (Proc.aluAddm md m2) _ (Proc.accSat_eq _ _ _)
    case putm => exact run_spPar hrun fa fb (Proc.aluPutm md s1) _ rfl
    case cpym => exact run_spPar hrun fa fb (Proc.aluCpym md m2) _ rfl
  case rounding =>
    refine ⟨?mpyr, ?macr, ?negm, ?absm, ?aslm, ?asrm, ?rnd, ?cmpa⟩
    case mpyr =>
      refine run_spPar hrun fa fb (Proc.aluMpyr md s1 s2) _ ?_
      rw [Proc.aluMpyr, rnd23_eq]; rfl
    case macr =>
      refine run_spPar hrun fa fb (Proc.aluMacr md s1 s2) _ ?_
      have hsat (v : Int) : satS 56 v = limit56 v := satS_eq_within 56 v
      have hout (v : Int) : outS 56 v = decide (limit56 v ≠ v) := outS_eq_within 56 v
      rw [Proc.aluMacr]
      simp only [hsat, hout, rnd23_eq]
      rfl
    case negm => exact run_spPar hrun fa fb (Proc.aluNegm md) _ (Proc.accSat_eq _ _ _)
    case absm => exact run_spPar hrun fa fb (Proc.aluAbsm md) _ (Proc.accSat_eq _ _ _)
    case aslm => exact run_spPar hrun fa fb (Proc.aluAslm md) _ (Proc.accSat_eq _ _ _)
    case asrm => exact run_spPar hrun fa fb (Proc.aluAsrm md) _ rfl
    case rnd =>
      refine run_spPar hrun fa fb (Proc.aluRnd md) _ ?_
      rw [Proc.aluRnd, rnd23_eq, Proc.accSat_eq]
    case cmpa => exact run_spPar hrun fa fb (Proc.aluCmpa md s1) _ rfl

/-! ### The moves of a parallel instruction (R376, R381) -/

section
variable {q : Proc} {env : SpEnv} {x upd ad p : Nat}

/-- A fetch alone: the load arrives after one slot, the pointer takes its update. -/
theorem Proc.moves_fetch (h : q.access x upd = some (ad, p)) (q1 : Proc) (r : Nat) :
    q.moves q1 env (some ⟨r, x, upd⟩) none =
      { q1 with pend := q1.pend ++ [pendReg r (q.memRd env.k env.const ad) 1], p := q1.p.set x (BitVec.ofNat 14 p) } := by
  simp [Proc.moves, h]

/-- A load by the second field. -/
theorem Proc.moves_load (h : q.access x upd = some (ad, p)) (q1 : Proc) (r : Nat) :
    q.moves q1 env none (some (.load r x upd)) =
      { q1 with pend := q1.pend ++ [pendReg r (q.memRd (env.k + 1) env.const ad) 1], p := q1.p.set x (BitVec.ofNat 14 p) } := by
  simp [Proc.moves, h]

/-- Two loads of two registers through two pointers. -/
theorem Proc.moves_fetch_load {x' upd' ad' p' r r' : Nat} (h : q.access x upd = some (ad, p))
    (h' : q.access x' upd' = some (ad', p')) (hx : x ≠ x') (hr : r ≠ r') (q1 : Proc) :
    q.moves q1 env (some ⟨r, x, upd⟩) (some (.load r' x' upd')) =
      { q1 with pend := q1.pend ++ [pendReg r (q.memRd env.k env.const ad) 1] ++ [pendReg r' (q.memRd (env.k + 1) env.const ad') 1]
                p := (q1.p.set x (BitVec.ofNat 14 p)).set x' (BitVec.ofNat 14 p') } := by
  simp [Proc.moves, h, h', hx.symm, hr.symm]

/-- A permitted store of an accumulator part, beside an operation that keeps what permits it. -/
theorem Proc.moves_store (h : q.access x upd = some (ad, p)) (hs : q.mayStore env.pair ad = true) (m part : Nat) :
    q.moves q env none (some (.store m x upd part)) =
      { q with mem := q.mem.put ad (accPart (q.m.getD m 0) part), p := q.p.set x (BitVec.ofNat 14 p) } := by
  simp [Proc.moves, Proc.memWr, h, hs]

/-- A store elsewhere than permitted. -/
theorem Proc.moves_store_refused (h : q.access x upd = some (ad, p)) (hs : q.mayStore env.pair ad = false) (q1 : Proc)
    (m part : Nat) : q.moves q1 env none (some (.store m x upd part)) = q.fltTrap 0xFE := by
  simp [Proc.moves, h, hs]

/-- An access outside its ring, or in a mode not listed, by the first field. -/
theorem Proc.moves_bad_fetch (h : q.access x upd = none) (q1 : Proc) (r : Nat) (fb : Option SpXfer) :
    q.moves q1 env (some ⟨r, x, upd⟩) fb = q.fltTrap 0xFF := by
  simp [Proc.moves, h]

/-- The same by the second field. -/
theorem Proc.moves_bad_load (h : q.access x upd = none) (q1 : Proc) (r : Nat) (fa : Option SpFetch) :
    q.moves q1 env fa (some (.load r x upd)) = q.fltTrap 0xFF := by
  simp [Proc.moves, h]

theorem Proc.moves_bad_store (h : q.access x upd = none) (q1 : Proc) (m part : Nat) (fa : Option SpFetch) :
    q.moves q1 env fa (some (.store m x upd part)) = q.fltTrap 0xFF := by
  simp [Proc.moves, h]

end

/-- NOP with two moves that trap nothing. -/
theorem run_spNop {s : State} {u : Nat} (h : s.ProcRuns u) (fa : Option SpFetch) (fb : Option SpXfer) (r : Proc)
    (hr : ((s.proc u).begun 1).moves ((s.proc u).begun 1) (s.base.spEnv u) fa fb = r) (ht : r.trap = none) :
    ∃ k, exec (.spNop u fa fb) s = .next (s.ranTo u r k) := by
  obtain ⟨k, hk⟩ := run_spPar h fa fb Proc.aluNop _ rfl (by rw [Proc.aluNop, hr, ht])
  exact ⟨k, by rw [Proc.aluNop, hr] at hk; exact hk⟩

/-- NOP with a move that traps. -/
theorem run_spNop_trap {s : State} {u code : Nat} (h : s.ProcRuns u) (fa : Option SpFetch) (fb : Option SpXfer)
    (hr : ((s.proc u).begun 1).moves ((s.proc u).begun 1) (s.base.spEnv u) fa fb = ((s.proc u).begun 1).fltTrap code)
    (hc : code < 256) : exec (.spNop u fa fb) s = exec (.spFlt u code) s :=
  run_spTrap h (fun c q => q.moves q (c.spEnv u) fa fb) hr hc

/-- Settles O8, by the laws of `Proc.moves`. -/
theorem spDataMoves : Obligations.SpDataMoves := by
  intro s u x upd x' upd' r r' m part hrun
  refine ⟨run_spNop hrun none none _ rfl rfl, fun ad p hacc => ⟨?fetch, ?load, fun hst => ?store, fun hst => ?refused,
    fun ad' p' hacc' hx hr => ?both⟩, fun hacc => ⟨?badFetch, ?badLoad, ?badStore⟩⟩
  case fetch => exact run_spNop hrun _ none _ (Proc.moves_fetch hacc _ r) rfl
  case load => exact run_spNop hrun none _ _ (Proc.moves_load hacc _ r) rfl
  case store => exact run_spNop hrun none _ _ (Proc.moves_store hacc hst m part) rfl
  case refused => exact run_spNop_trap hrun none _ (Proc.moves_store_refused hacc hst _ m part) (by decide)
  case both => exact run_spNop hrun _ _ _ (Proc.moves_fetch_load hacc hacc' hx hr _) rfl
  case badFetch => exact run_spNop_trap hrun _ none (Proc.moves_bad_fetch hacc _ r none) (by decide)
  case badLoad => exact run_spNop_trap hrun none _ (Proc.moves_bad_load hacc _ r none) (by decide)
  case badStore => exact run_spNop_trap hrun none _ (Proc.moves_bad_store hacc _ m part none) (by decide)

/-! ### The move class (R380, R390) -/

/-- A move that reads no PK_TH: it pops nothing. -/
theorem Core.spMoveIns_keeps (c : Core) (u : Nat) {mv : SpMove} (h : ∀ d, mv ≠ .special d 3) :
    c.spMoveIns u mv = c.spOn u fun q => q.moveIns (c.spEnv u) (c.spPeak u) mv := by
  unfold Core.spMoveIns
  cases mv with
  | special d sr =>
    have hsr : decide (sr = 3) = false := decide_eq_false fun he => h d (by rw [he])
    simp only [hsr, Bool.false_and]
  | move | imm | ld | st => rfl

/-- A special register of the handler's pair, whose oldest peak is known (R390). -/
theorem Core.spPeak_eq {c : Core} {u n : Nat} {sn cs : Int} {t : Rt} {rest : List (Int × Int × Rt)} (hn : (c.sp u).hand = some n)
    (hf : c.sig.fifo.look n [] = (sn, cs, t) :: rest) {sr : Nat} {w : W24}
    (hw : [BitVec.ofInt 24 (sn * 256), BitVec.ofInt 24 (cs * 256), BitVec.ofNat 24 t.toNat,
      BitVec.ofNat 24 (t.toNat / 2 ^ 24)][sr]? = some w) : c.spPeak u sr = w := by
  unfold Core.spPeak
  simp only [hn, hf, Nat.shiftRight_eq_div_pow]
  rcases sr with _ | _ | _ | _ | sr
  case succ.succ.succ.succ => simp at hw
  all_goals exact Option.some.inj hw

/-- Settles O9: `Proc.moveIns` case by case; reading PK_TH pops the pair's oldest peak after it. -/
theorem spMoveClass : Obligations.SpMoveClass := by
  intro s u i ad n sr d src v hrun
  have hmove : ∀ mv : SpMove, (∀ d, mv ≠ .special d 3) →
      exec (.spMove u mv) s = s.to (s.chip.runCore fun c => c.spOn u fun q => q.moveIns (c.spEnv u) (c.spPeak u) mv) := by
    intro mv hmv
    show s.to (s.chip.runCore fun c => c.spMoveIns u mv) = _
    rw [run_core, run_core, Core.spMoveIns_keeps _ _ hmv]
  refine ⟨?move, ?imm, fun had => ?load, fun had hst => ?store, fun had hst => ?refused, fun sn cs t rest hhand hfifo => ⟨fun w hlt hw => ?peak, ?pop⟩⟩
  case move =>
    rw [hmove _ fun d => by simp]
    exact run_spOp hrun 1 (fun _ q => q.setLoc d (q.loc src)) _ rfl (by cases d <;> rfl)
  case imm =>
    rw [hmove _ fun d => by simp]
    exact run_spOp hrun 1 (fun _ q => q.setLoc d v) _ rfl (by cases d <;> rfl)
  case load =>
    rw [hmove _ fun d => by simp]
    refine run_spOp hrun 1 (fun c q => { q with pend := q.pend ++
      [pendReg i (q.memRd (c.spEnv u).k (c.spEnv u).const (ad % 16384)) 1] }) _ ?_ rfl
    simp only [Nat.mod_eq_of_lt had]; rfl
  case store =>
    rw [hmove _ fun d => by simp]
    refine run_spOp hrun 1 (fun c q => if q.mayStore (c.spEnv u).pair (ad % 16384) then
      q.memWr (c.spEnv u).pair (ad % 16384) (q.loc src) else q.fltTrap 0xFE) _ ?_ rfl
    have hst' : ((s.proc u).begun 1).mayStore (s.base.spEnv u).pair ad = true := hst
    simp only [Nat.mod_eq_of_lt had, Proc.memWr, hst', if_true]
  case refused =>
    rw [hmove _ fun d => by simp]
    refine run_spTrap hrun (fun c q => if q.mayStore (c.spEnv u).pair (ad % 16384) then
      q.memWr (c.spEnv u).pair (ad % 16384) (q.loc src) else q.fltTrap 0xFE) ?_ (by decide)
    have hst' : ((s.proc u).begun 1).mayStore (s.base.spEnv u).pair ad = false := hst
    simp only [Nat.mod_eq_of_lt had, hst', Bool.false_eq_true, if_false]
  case peak =>
    rw [hmove _ fun d hd => by injection hd; omega]
    refine run_spOp hrun 1 (fun c q => q.setLoc (.reg i) (c.spPeak u sr)) _ ?_ rfl
    rw [Core.spPeak_eq (c := s.base) hhand hfifo hw]; rfl
  case pop =>
    have hpeak := Core.spPeak_eq (c := s.base) hhand hfifo (sr := 3) rfl
    have hon := spOn_eq hrun 1 (fun q => q.setLoc (.reg i) (s.base.spPeak u 3)) _ rfl rfl
    rw [hpeak] at hon
    refine ⟨s.chip.core.freeCtr + 4, ?_⟩
    show s.to (s.chip.runCore fun c => c.spMoveIns u (.special i 3)) = _
    have hmv : s.base.spMoveIns u (.special i 3) = (s.base.spOn u fun q => q.op 1 fun q => q.setLoc (.reg i)
        (BitVec.ofNat 24 (t.toNat / 2 ^ 24))).popPeak n := by
      unfold Core.spMoveIns
      simp only [s.base_sp, Proc.runs_of hrun, hhand, decide_true, Bool.and_self, ← hpeak]
      rfl
    rw [run_core, hmv, hon]
    rfl

/-! ### The axis store (R397, R401) -/

/-- An entry for which the write buffer has room is appended. -/
theorem Proc.push_of_room {q : Proc} {e : WEnt} (h : q.buf.length < 32) : q.push e = { q with buf := q.buf ++ [e] } := by
  rw [Proc.push, List.take_of_length_le (by simpa using h)]

theorem within_16_range (v : Int) : -32768 ≤ within (-32768) 32767 v ∧ within (-32768) 32767 v ≤ 32767 := within_range _ _ v (by decide)

/-- A F16 word of a limited value. -/
theorem wF16_satS (v : Int) : wF16 (satS 16 v) = BitVec.ofInt 32 (within (-32768) 32767 v) := by
  have hfit := within_16_range v
  rw [show satS 16 v = within (-32768) 32767 v from satS_eq_within 16 v, wF16,
    wrapS_of_range (by decide) (by norm_num; omega) (by norm_num; omega)]
  rfl

/-- A F24 word of a limited value. -/
theorem wF24_satS (v : Int) : wF24 (satS 24 v) = BitVec.ofInt 32 (within (-8388608) 8388607 v) := by
  have hfit := within_range (-8388608) 8388607 v (by decide)
  rw [show satS 24 v = within (-8388608) 8388607 v from satS_eq_within 24 v, wF24,
    wrapS_of_range (by decide) (by norm_num; omega) (by norm_num; omega)]
  rfl

/-- A data register needs no limit. -/
theorem Proc.within_rr (q : Proc) (i : Nat) : within (-8388608) 8388607 (q.rr i) = q.rr i := by
  have hfit := q.rr_range i
  unfold within; omega

/-- The effect of a F16 store (R401): V, S and HS where the value is limited. -/
def Proc.stored16 (q : Proc) (off : Nat) (v : Int) : Proc :=
  let r := (v + 128) / 256
  let g : Proc := { q with buf := q.buf ++ [{ off := off, val := BitVec.ofInt 32 (within (-32768) 32767 r), fmt := .f16 }] }
  if within (-32768) 32767 r = r then g else { g with f := { g.f with v := true, s := true, hs := true } }

theorem Proc.stored16_trap (q : Proc) (off : Nat) (v : Int) : (q.stored16 off v).trap = q.trap := by
  unfold Proc.stored16; dsimp only; split <;> rfl

/-- STS of F16: the store of the value that its source gives, rounded and limited. -/
def Proc.sts16 (off : Nat) (value : Proc → Int) (q : Proc) : Proc :=
  let r := (value q + 128) / 256
  let g := q.push { off := off, val := wF16 (satS 16 r), fmt := .f16 }
  if outS 16 r then { g with f := { g.f with v := true, s := true, hs := true } } else g

theorem Proc.sts16_eq {q : Proc} (h : q.buf.length < 32) (off : Nat) (value : Proc → Int) :
    Proc.sts16 off value q = q.stored16 off (value q) := by
  have hout : outS 16 ((value q + 128) / 256) = decide (within (-32768) 32767 ((value q + 128) / 256) ≠ (value q + 128) / 256) :=
    outS_eq_within 16 _
  unfold Proc.stored16 Proc.sts16
  simp only [wF16_satS, Proc.push_of_room h, hout, decide_eq_true_eq, ite_not]

/-- Settles O10: a load arrives after two slots with what the program sees, a store enters the write buffer. -/
theorem spAxisStore : Obligations.SpAxisStore := by
  intro s u x m off hrun
  refine ⟨?lds16, ?lds24, ?ldsm, fun hroom => ⟨?reg24, ?acc24, ?reg16, ?acc16, ?stsw⟩⟩
  case lds16 =>
    refine run_spOp hrun 4 (fun c q => { q with pend := q.pend ++ [pendReg x (BitVec.ofInt 24 (rF16 (q.seen off (c.spWord u off)) * 256)) 2] }) _ ?_ rfl
    rw [rF16, wrapS_eq_signed (by decide)]
    rfl
  case lds24 =>
    refine run_spOp hrun 4 (fun c q => { q with pend := q.pend ++ [pendReg x (BitVec.ofInt 24 (rF24 (q.seen off (c.spWord u off)))) 2] }) _ ?_ rfl
    rw [rF24, wrapS_eq_signed (by decide)]
    rfl
  case ldsm =>
    refine run_spOp hrun 4 (fun c q => { q with pend := q.pend ++
      [{ dst := .acc m, val := BitVec.ofInt 56 (q.seen off (c.spWord u off)).toInt, slots := 2 }] }) _ ?_ rfl
    simp only [BitVec.zeroExtend_eq_setWidth, BitVec.setWidth_eq]
    rfl
  case reg24 =>
    refine run_spOp hrun 2 (fun _ q => q.push { off := off, val := wF24 (satS 24 (q.rr x)), fmt := .f24 }) _ ?_ rfl
    rw [wF24_satS, Proc.within_rr, Proc.push_of_room hroom]
  case acc24 =>
    refine run_spOp hrun 2 (fun _ q => q.push { off := off, val := wF24 (satS 24 (roundShift 23 (q.rm m))), fmt := .f24 }) _ ?_ rfl
    rw [wF24_satS, Proc.push_of_room hroom]
    rfl
  case reg16 =>
    exact run_spOp hrun 2 (fun _ => Proc.sts16 off fun q => q.rr x) _ (Proc.sts16_eq hroom off _) (Proc.stored16_trap _ off _)
  case acc16 =>
    exact run_spOp hrun 2 (fun _ => Proc.sts16 off fun q => roundShift 23 (q.rm m)) _ (Proc.sts16_eq hroom off _)
      (Proc.stored16_trap _ off _)
  case stsw =>
    refine run_spOp hrun 2 (fun _ q => q.push { off := off, val := w32i (q.rm m), fmt := .i32 }) _ ?_ rfl
    rw [Proc.push_of_room hroom, w32i]

/-! ### Addressing (R378, R379) -/

/-- The mode of a pointer, bits 23 to 21 of its modifier. -/
theorem modifierMode (n : W24) : (n.toNat >>> 21) % 8 = n.toNat / 2 ^ 21 := by
  have := n.isLt
  rw [Nat.shiftRight_eq_div_pow]; omega

section
variable {q : Proc} {j : Nat} {d : Int}

theorem Proc.stepped_linear (hm : (q.nn.getD j 0).toNat / 2 ^ 21 = 0) :
    q.stepped j d = some ((((q.p.getD j 0).toNat : Int) + d) % 16384).toNat := by
  have hmode : ((q.nn.getD j 0).toNat >>> 21) % 8 = 0 := by rw [modifierMode, hm]
  unfold Proc.stepped
  simp only [hmode, if_true]
  rfl

theorem Proc.stepped_ring (hm : (q.nn.getD j 0).toNat / 2 ^ 21 = 1) :
    let b : Int := (q.b.getD j 0).toNat
    q.stepped j d = some ((b + ((q.p.getD j 0).toNat - b + d) % (((q.nn.getD j 0).toNat / 512 % 4096 + 1 : Nat) : Int)) % 16384).toNat := by
  intro b
  have hmode : ((q.nn.getD j 0).toNat >>> 21) % 8 = 1 := by rw [modifierMode, hm]
  have hspan : (q.nn.getD j 0).toNat >>> 9 = (q.nn.getD j 0).toNat / 512 := Nat.shiftRight_eq_div_pow _ 9
  unfold Proc.stepped
  simp only [hmode, hspan, one_ne_zero, if_false, if_true]
  rfl

theorem revBits_lt (r x : Nat) : revBits r x < 2 ^ r := by
  induction r generalizing x with
  | zero => simp [revBits]
  | succ r ih =>
    have := ih (x / 2)
    have : x % 2 * 2 ^ r ≤ 1 * 2 ^ r := Nat.mul_le_mul_right _ (by omega)
    rw [revBits, pow_succ]; omega

/-- Counting the reversed bits on by one, or back by one. -/
theorem Proc.stepped_reversed (hm : (q.nn.getD j 0).toNat / 2 ^ 21 = 2) (h1 : 1 ≤ (q.nn.getD j 0).toNat % 16)
    (h14 : (q.nn.getD j 0).toNat % 16 ≤ 14) :
    let r := (q.nn.getD j 0).toNat % 16
    let k := (q.p.getD j 0).toNat
    let count := (revBits r (k % 2 ^ r) + (if d < 0 then 2 ^ r - 1 else 1)) % 2 ^ r
    q.stepped j d = some (k / 2 ^ r * 2 ^ r + revBits r count) := by
  intro r k count
  have hr : ¬(r = 0 ∨ 14 < r) := by omega
  have hcount : (((revBits r (k % 2 ^ r) : Nat) : Int) + (if d < 0 then -1 else 1)) % ((2 ^ r : Nat) : Int) = (count : Nat) := by
    have hlow := revBits_lt r (k % 2 ^ r)
    by_cases hd : d < 0
    · have hsum : ((revBits r (k % 2 ^ r) + (2 ^ r - 1) : Nat) : Int) = (revBits r (k % 2 ^ r) : Nat) + -1 + ((2 ^ r : Nat) : Int) := by omega
      show _ = (((revBits r (k % 2 ^ r) + (if d < 0 then 2 ^ r - 1 else 1)) % 2 ^ r : Nat) : Int)
      rw [if_pos hd, if_pos hd, Int.natCast_mod, hsum, Int.add_emod_right]
    · show _ = (((revBits r (k % 2 ^ r) + (if d < 0 then 2 ^ r - 1 else 1)) % 2 ^ r : Nat) : Int)
      rw [if_neg hd, if_neg hd]; push_cast; rfl
  have hmode : ((q.nn.getD j 0).toNat >>> 21) % 8 = 2 := by rw [modifierMode, hm]
  unfold Proc.stepped
  simp only [hmode, OfNat.ofNat_ne_zero, if_false, OfNat.ofNat_ne_one, if_true]
  rw [if_neg hr]
  show some _ = some _
  rw [show ((revBits r (q.rp j % 2 ^ r) : Nat) : Int) = (revBits r (k % 2 ^ r) : Nat) from rfl, hcount]
  rfl

theorem Proc.stepped_badSpan (hm : (q.nn.getD j 0).toNat / 2 ^ 21 = 2)
    (hr : (q.nn.getD j 0).toNat % 16 = 0 ∨ (q.nn.getD j 0).toNat % 16 = 15) : q.stepped j d = none := by
  have hr' : (q.nn.getD j 0).toNat % 16 = 0 ∨ 14 < (q.nn.getD j 0).toNat % 16 := by omega
  have hmode : ((q.nn.getD j 0).toNat >>> 21) % 8 = 2 := by rw [modifierMode, hm]
  unfold Proc.stepped
  simp only [hmode, OfNat.ofNat_ne_zero, if_false, OfNat.ofNat_ne_one, if_true]
  exact if_pos hr'

theorem Proc.stepped_badMode (hm : 2 < (q.nn.getD j 0).toNat / 2 ^ 21) : q.stepped j d = none := by
  have hmode : ((q.nn.getD j 0).toNat >>> 21) % 8 = (q.nn.getD j 0).toNat / 2 ^ 21 := modifierMode _
  unfold Proc.stepped
  simp only [hmode]
  rw [if_neg (by omega), if_neg (by omega), if_neg (by omega)]

end

/-- ADDP to an address that its step gives. -/
theorem run_spAddp {s : State} {u j p : Nat} {d : Int} (h : s.ProcRuns u) (hp : ((s.proc u).begun 1).stepped j d = some p) :
    ∃ k, exec (.spAddp u j d) s = .next (s.ranTo u { ((s.proc u).begun 1) with
      pend := ((s.proc u).begun 1).pend ++ [{ dst := .ptr j, val := BitVec.ofNat 56 p, slots := 1 }] } k) :=
  run_spOp h 1 (fun _ q => match q.stepped j d with
    | some p => { q with pend := q.pend ++ [{ dst := .ptr j, val := BitVec.ofNat 56 p, slots := 1 }] }
    | none => q.fltTrap 0xFF) _ (by rw [hp]) rfl

/-- ADDP with a step that gives none. -/
theorem run_spAddp_trap {s : State} {u j : Nat} {d : Int} (h : s.ProcRuns u) (hp : ((s.proc u).begun 1).stepped j d = none) :
    exec (.spAddp u j d) s = exec (.spFlt u 0xFF) s :=
  run_spTrap h (fun _ q => match q.stepped j d with
    | some p => { q with pend := q.pend ++ [{ dst := .ptr j, val := BitVec.ofNat 56 p, slots := 1 }] }
    | none => q.fltTrap 0xFF) (by rw [hp]) (by decide)

/-- Settles O11: SETP and SETN write after a slot; ADDP by the laws of `Proc.stepped`. -/
theorem spAddressing : Obligations.SpAddressing := by
  intro s u j v d hrun
  exact ⟨run_spOp hrun 1 (fun _ q => { q with pend := q.pend ++ [{ dst := .ptrBase j, val := (q.val v).zeroExtend 56, slots := 1 }] }) _ rfl rfl,
    run_spOp hrun 1 (fun _ q => { q with pend := q.pend ++ [{ dst := .modif j, val := (q.val v).zeroExtend 56, slots := 1 }] }) _ rfl rfl,
    fun hm => run_spAddp hrun (Proc.stepped_linear hm), fun hm => run_spAddp hrun (Proc.stepped_ring hm),
    fun hm h1 h14 => run_spAddp hrun (Proc.stepped_reversed hm h1 h14),
    fun hm hr => run_spAddp_trap hrun (Proc.stepped_badSpan hm hr), fun hm => run_spAddp_trap hrun (Proc.stepped_badMode hm)⟩

/-! ### Control (R388, R389, R394) -/

/-- A listed condition code of BR. -/
theorem Proc.cond_of_listed {q : Proc} {cc : Nat} {b : Bool} (k : Nat)
    (h : [true, q.f.z, !q.f.z, q.f.n, !q.f.n, q.f.n || q.f.z, !(q.f.n || q.f.z), q.f.v, !q.f.v][cc]? = some b) :
    q.cond k cc = b := by
  rcases cc with _ | _ | _ | _ | _ | _ | _ | _ | _ | cc
  case succ.succ.succ.succ.succ.succ.succ.succ.succ => simp at h
  all_goals exact Option.some.inj h

/-- Results that arrive leave the loop stack alone. -/
theorem Proc.arrive_loops (q : Proc) : q.arrive.loops = q.loops := by
  unfold Proc.arrive
  exact foldl_keeps (P := fun g : Proc => g.loops = q.loops) (fun g e hg => by split <;> exact hg) _ rfl

theorem Proc.begun_loops (q : Proc) (b : Nat) : (q.begun b).loops = q.loops := q.arrive_loops

/-- The effect of LOOP below depth 4 (R389). -/
def Proc.looped (v : SpVal) (len : Nat) (q : Proc) : Proc :=
  let cnt := (q.val v).toNat % 65536
  if cnt = 0 then { q with pc := (q.pc + len) % 8192 }
  else { q with loops := { lc := cnt, lb := (q.pc + 1) % 8192, ln := len } :: q.loops }

theorem Proc.looped_trap (q : Proc) (v : SpVal) (len : Nat) : (Proc.looped v len q).trap = q.trap := by
  unfold Proc.looped; dsimp only; split <;> rfl

theorem Proc.loopIns_of_room {q : Proc} (h : q.loops.length < 4) (v : SpVal) (len : Nat) :
    q.loopIns v len = q.op 2 (Proc.looped v len) := if_neg (not_le.mpr h)

theorem Proc.loopIns_of_full {q : Proc} (h : 4 ≤ q.loops.length) (v : SpVal) (len : Nat) :
    q.loopIns v len = q.op 1 fun q => q.fltTrap 0xFF := if_pos h

/-- What a processor executes matters at its present state alone. -/
theorem Core.spOn_congr {c : Core} {u : Nat} {f g : Proc → Proc} (h : f (c.sp u) = g (c.sp u)) : c.spOn u f = c.spOn u g := by
  unfold Core.spOn; rw [h]

/-- Settles O12: each instruction of the control class by its case. -/
theorem spControl : Obligations.SpControl := by
  intro s u cc len m v hrun
  refine ⟨fun hc => ?taken, fun hc => ?passed, fun hroom => ?call, fun hfull => ?callFull, fun t rest hstack => ?ret,
    fun hempty => ?retEmpty, fun hroom => ?loop, fun hfull => ?loopFull, fun l rest hl => ?savl, fun hroom hpos => ?rstl, ?di, ?ei⟩
  case taken =>
    refine run_spOp hrun 1 (fun c q => if q.cond c.freeCtr cc then q.jumpTo ((q.pc : Int) + m) else q) _ ?_ rfl
    rw [if_pos (Proc.cond_of_listed _ hc)]; rfl
  case passed =>
    refine run_spOp hrun 1 (fun c q => if q.cond c.freeCtr cc then q.jumpTo ((q.pc : Int) + m) else q) _ ?_ rfl
    rw [if_neg (by rw [Proc.cond_of_listed _ hc]; decide)]
  case call =>
    refine run_spOp hrun 1 (fun _ q => if 4 ≤ q.stack.length then q.fltTrap 0xFF
      else { (q.jumpTo ((q.pc : Int) + m)) with stack := (q.pc + 2) % 8192 :: q.stack }) _ ?_ rfl
    rw [if_neg (not_le.mpr hroom)]; rfl
  case callFull =>
    refine run_spTrap hrun (fun _ q => if 4 ≤ q.stack.length then q.fltTrap 0xFF
      else { (q.jumpTo ((q.pc : Int) + m)) with stack := (q.pc + 2) % 8192 :: q.stack }) ?_ (by decide)
    rw [if_pos hfull]
  case ret =>
    refine run_spOp hrun 1 (fun _ q => match q.stack with
      | t :: r => { (q.jumpTo t) with stack := r }
      | [] => q.fltTrap 0xFF) _ ?_ rfl
    rw [hstack]; rfl
  case retEmpty =>
    refine run_spTrap hrun (fun _ q => match q.stack with
      | t :: r => { (q.jumpTo t) with stack := r }
      | [] => q.fltTrap 0xFF) ?_ (by decide)
    rw [hempty]
  case loop =>
    obtain ⟨k, hk⟩ := run_spOp hrun 2 (fun _ => Proc.looped v len) _ rfl (Proc.looped_trap _ v len)
    refine ⟨k, Eq.trans ?_ hk⟩
    have hloops : (s.proc u).loops.length < 4 := by rw [← Proc.begun_loops]; exact hroom
    show s.to (s.chip.runCore fun c => c.spOn u fun q => q.loopIns v len) = _
    rw [run_core, run_core, Core.spOn_congr (g := fun q => q.op 2 (Proc.looped v len)) (Proc.loopIns_of_room hloops v len)]
  case loopFull =>
    have hloops : 4 ≤ (s.proc u).loops.length := by rw [← Proc.begun_loops]; exact hfull
    rw [← run_spTrap hrun (fun _ q => q.fltTrap 0xFF) rfl (by decide)]
    show s.to (s.chip.runCore fun c => c.spOn u fun q => q.loopIns v len) = _
    rw [run_core, run_core, Core.spOn_congr (g := fun q => q.op 1 fun q => q.fltTrap 0xFF) (Proc.loopIns_of_full hloops v len)]
  case savl =>
    refine run_spOp hrun 1 (fun _ q => match q.loops with
      | l :: rest => { (((q.wr 0 l.lc).wr 1 l.lb).wr 2 l.ln) with loops := rest }
      | [] => q.wr 0 0) _ ?_ rfl
    rw [hl]; rfl
  case rstl =>
    refine run_spOp hrun 1 (fun _ q =>
      let lc := (q.r.getD 0 0).toNat % 65536
      if lc = 0 then q
      else if 4 ≤ q.loops.length then q.fltTrap 0xFF
      else { q with loops := { lc := lc, lb := (q.r.getD 1 0).toNat % 8192, ln := (q.r.getD 2 0).toNat % 512 } :: q.loops }) _ ?_ rfl
    simp only [Nat.ne_of_gt hpos, not_le.mpr hroom, if_false]
  case di => exact run_spOp hrun 1 (fun _ q => { q with f := { q.f with ie := false } }) _ rfl rfl
  case ei => exact run_spOp hrun 1 (fun _ q => { q with f := { q.f with ie := true } }) _ rfl rfl

end Sys2Proof.Machine
end

section
/-! Signal processors: the special class, and the ends of tasks and handlers (R383 to R385, R392, R396, R397). -/

namespace Sys2Proof

/-- The second of two writes of one key stands. -/
@[simp] theorem Tab.put_put {α : Type} (t : Tab α) (k : Nat) (v w : α) : (t.put k v).put k w = t.put k w := by
  induction t with
  | nil => simp [Tab.put]
  | cons e t ih =>
    obtain ⟨i, x⟩ := e
    rcases lt_trichotomy k i with hlt | heq | hgt
    · simp [Tab.put, hlt]
    · simp [Tab.put, heq]
    · simp [Tab.put, not_lt_of_gt hgt, Nat.ne_of_gt hgt, ih]

end Sys2Proof

namespace Sys2Proof.Machine

/-! ### Exponents and shifts (R383, R385) -/

/-- The run of bits below bit `k` that repeat the sign, where the first that does not lies `n` below. -/
theorem signRun_eq (a : A56) {k n : Nat} (hn : n ≤ k) (hrun : ∀ i < n, a.getLsbD (k - 1 - i) = a.getLsbD 55)
    (hend : n < k → a.getLsbD (k - 1 - n) ≠ a.getLsbD 55) : signRun a k = n := by
  induction k generalizing n with
  | zero => rw [Nat.le_zero.mp hn]; rfl
  | succ k ih =>
    unfold signRun
    cases n with
    | zero => rw [if_neg (by simpa using hend (Nat.succ_pos k))]
    | succ n =>
      rw [if_pos (by simpa using hrun 0 (Nat.succ_pos n))]
      congr 1
      refine ih (by omega) (fun i hi => ?_) (fun hk => ?_)
      · have := hrun (i + 1) (by omega)
        rwa [show k + 1 - 1 - (i + 1) = k - 1 - i by omega] at this
      · have := hend (by omega)
        rwa [show k + 1 - 1 - (n + 1) = k - 1 - n by omega] at this

/-- A shift of an accumulator by a count within ±55, limited. -/
theorem Proc.normBy_eq (q : Proc) (ma : Nat) (n : Int) :
    let c := within (-55) 55 n
    q.normBy ma n = q.givesSat ma (if 0 ≤ c then q.rm ma * 2 ^ c.toNat else q.rm ma / 2 ^ c.natAbs) := by
  intro c
  have hc : clampI (-55) 55 n = c := clampI_eq_within (by decide) n
  unfold Proc.normBy
  simp only [hc, Proc.accSat_eq]
  push_cast
  rw [apply_ite (Proc.givesSat q ma)]

/-! ### Root and quotient (R383) -/

theorem Proc.rm_range (q : Proc) (i : Nat) : -36028797018963968 ≤ q.rm i ∧ q.rm i ≤ 36028797018963967 := by
  have hlo := BitVec.le_toInt (q.m.getD i 0)
  have hhi := BitVec.toInt_lt (x := q.m.getD i 0)
  unfold Proc.rm; omega

/-- The flags of an operation that writes V, with S, and DZ. -/
def Proc.flagged (q : Proc) (v dz : Bool) : Proc := { q with f := { q.f with v := v, s := q.f.s || v, dz := q.f.dz || dz } }

theorem Proc.ov_eq_flagged (q : Proc) (b : Bool) : q.ov b = q.flagged b false := by
  unfold Proc.ov Proc.flagged; rw [Bool.or_false]

/-! ### Angles, sines and cosines (R383, log entry 9) -/

/-- `v` lies within `k` units of 2^`sh` of the exact value `t`, which is known to 128; where it is a multiple of the unit, within `k` of
that multiple. -/
def Near (k sh : Nat) (exact : Prop) (v t : Int) : Prop :=
  (exact → (v - (t + 2 ^ (sh - 1)) / 2 ^ sh).natAbs ≤ k) ∧ (¬exact → (v * 2 ^ sh - t).natAbs ≤ k * 2 ^ sh + 128)

theorem clampI_range {lo hi : Int} (h : lo ≤ hi) (v : Int) : lo ≤ clampI lo hi v ∧ clampI lo hi v ≤ hi := by
  unfold clampI; split_ifs <;> omega

/-- Whatever the open choice, the value formed lies near the exact one. -/
theorem withinK_near {k sh : Nat} (hk : 1 ≤ k) (hsh : sh ≠ 0) {exact : Bool} {P : Prop} (hP : P ↔ exact = true) (t e : Int) :
    Near k sh P (withinK k sh exact t e) t := by
  refine ⟨fun hex => ?multiple, fun hex => ?open'⟩
  case multiple =>
    obtain ⟨hlo, hhi⟩ := clampI_range (lo := -k) (hi := k) (by omega) e
    unfold withinK roundShift
    simp only [hP.mp hex, if_true, hsh, if_false]
    push_cast
    omega
  case open' =>
    obtain ⟨hlo, hhi⟩ := clampI_range (lo := 1 - k) (hi := k) (by omega) e
    have hpos : 0 < 2 ^ sh := Nat.two_pow_pos sh
    have hdiv := Nat.div_add_mod (t.natAbs + 128) (2 ^ sh)
    have hmod := Nat.mod_lt (t.natAbs + 128) hpos
    unfold withinK
    simp only [Bool.eq_false_iff.mpr (mt hP.mpr hex), Bool.false_eq_true, if_false]
    generalize clampI (1 - k) k e = d at hlo hhi
    generalize (t.natAbs + 128) / 2 ^ sh = m at hdiv
    generalize (t.natAbs + 128) % 2 ^ sh = r at hdiv hmod
    zify at hdiv hmod hpos ⊢
    generalize (2 : Int) ^ sh = B at *
    have hup : d * B ≤ k * B := by nlinarith
    have hdown : (1 - k) * B ≤ d * B := by nlinarith
    have hrem : (0 : Int) ≤ r := Int.natCast_nonneg r
    rw [abs_le]
    rcases lt_or_ge t 0 with ht | ht
    · rw [abs_of_neg ht] at hdiv
      rw [if_pos ht]
      constructor <;> nlinarith
    · rw [abs_of_nonneg ht] at hdiv
      rw [if_neg (not_lt.mpr ht)]
      constructor <;> nlinarith

/-- ATAN2 of a pair that is not the origin. -/
theorem atan2K_near (y x e : Int) :
    ∃ a : Int, Near 256 16 (x = 0 ∨ y = 0 ∨ x.natAbs = y.natAbs) a (atan2Turn y x) ∧ (atan2K 256 24 y x e : Int) = a % 2 ^ 24 := by
  refine ⟨_, withinK_near (k := 256) (by decide) (by decide) (exact := x = 0 || y = 0 || x.natAbs = y.natAbs) (by simp [or_assoc]) (atan2Turn y x) e, ?_⟩
  unfold atan2K
  rw [Int.toNat_of_nonneg (Int.emod_nonneg _ (by norm_num))]
  norm_num

/-- SINCOS of an angle. -/
theorem cosSinK_near (a : Nat) (e : Int × Int) :
    ∃ si co : Int, Near 4 17 (a % 2 ^ 22 = 0) si (cosSinTurn (a * 2 ^ 16)).2 ∧
      Near 4 17 (a % 2 ^ 22 = 0) co (cosSinTurn (a * 2 ^ 16)).1 ∧
      cosSinK 4 24 23 a e = (within (-8388608) 8388607 co, within (-8388608) 8388607 si) := by
  have hsat (v : Int) : satS 24 v = within (-8388608) 8388607 v := satS_eq_within 24 v
  have hq : a % 2 ^ 22 = 0 ↔ decide ((a : Int) % (2 ^ 22 : Nat) = 0) = true := by rw [decide_eq_true_eq]; omega
  refine ⟨_, _, withinK_near (k := 4) (by decide) (by decide) hq _ e.2, withinK_near (k := 4) (by decide) (by decide) hq _ e.1, ?_⟩
  unfold cosSinK
  simp only [← hsat]
  norm_num

/-- Settles O13: each instruction by its law above; the error of an angle, a sine or a cosine stays open within `withinK_near`. -/
theorem spSpecial : Obligations.SpSpecial := by
  refine ⟨fun s u ra ma mb cnt hrun => ?exact, fun s u ra rb hrun => ?angles⟩
  case exact =>
    refine ⟨fun n hn hsame hend => ?exp, ?norm, ?normi, fun r hlo hhi => ?sqrt, fun hneg => ?sqrtNeg, fun hr => ?div, fun hr => ?divZero⟩
    case exp =>
      refine run_spOp hrun 1 (fun _ q => let e := expOf (q.m.getD ma 0); (q.wr ra e).nz e) _ ?_ rfl
      have hexp : expOf (((s.proc u).begun 1).m.getD ma 0) = (n : Int) - 9 := by
        rw [expOf, signRun_eq _ hn (k := 55) hsame hend]
      simp only [hexp]
      rfl
    case norm => exact run_spOp hrun 1 (fun _ q => q.normBy ma (q.rr ra)) _ (Proc.normBy_eq _ ma _) rfl
    case normi => exact run_spOp hrun 1 (fun _ q => q.normBy ma cnt) _ (Proc.normBy_eq _ ma _) rfl
    case sqrt =>
      refine run_spOp hrun 24 _ _ ?_ rfl
      have hm := ((s.proc u).begun 24).rm_range mb
      have hpos : 0 ≤ ((s.proc u).begun 24).rm mb := le_trans (by positivity) hlo
      have hroot : isqrt (((s.proc u).begun 24).rm mb).toNat = r := by
        apply isqrt_eq
        · omega
        · zify; rwa [Int.toNat_of_nonneg hpos]
        · zify; rwa [Int.toNat_of_nonneg hpos]
      refine (if_neg (not_lt.mpr hpos)).trans ?_
      rw [hroot, Proc.ov_eq_flagged]; rfl
    case sqrtNeg =>
      refine run_spOp hrun 24 _ _ ?_ rfl
      refine (if_pos hneg).trans ?_
      rw [Proc.ov_eq_flagged]; rfl
    case div =>
      refine run_spOp hrun 28 _ _ ?_ rfl
      refine (if_neg hr).trans ?_
      rw [Proc.accSat_eq]; rfl
    case divZero =>
      refine run_spOp hrun 28 _ _ ?_ rfl
      refine (if_pos hr).trans ?_
      rw [Proc.ov_eq_flagged]
      simp only [Proc.flagged, Bool.or_true]
      rfl
  case angles =>
    refine ⟨fun h0 => ?origin, fun h0 => ?atan2, ?sincos⟩
    case origin =>
      refine run_spOp hrun 14 _ _ ?_ rfl
      refine (if_pos (by simpa using h0)).trans ?_
      rfl
    case atan2 =>
      obtain ⟨a, hnear, ha⟩ := atan2K_near (((s.proc u).begun 14).rr ra) (((s.proc u).begun 14).rr rb)
        (Config.angleErr (((s.proc u).begun 14).rr ra) (((s.proc u).begun 14).rr rb))
      refine ⟨a, hnear, run_spOp hrun 14 _ _ ?_ rfl⟩
      refine (if_neg (by simpa using h0)).trans ?_
      rw [ha]; rfl
    case sincos =>
      obtain ⟨si, co, hsi, hco, hv⟩ := cosSinK_near (((s.proc u).begun 8).r.getD ra 0).toNat
        (Config.trigErr (((s.proc u).begun 8).r.getD ra 0).toNat)
      refine ⟨si, co, hsi, hco, run_spOp hrun 8 _ _ ?_ rfl⟩
      simp only [hv]; rfl

/-! ### The ends of tasks and handlers (R392, R396, R397, R402) -/

/-- Results that arrive leave the handler alone. -/
theorem Proc.arrive_hand (q : Proc) : q.arrive.hand = q.hand := by
  unfold Proc.arrive
  exact foldl_keeps (P := fun g : Proc => g.hand = q.hand) (fun g e hg => by split <;> exact hg) _ rfl

@[simp] theorem State.withProc_sp (s : State) (u k : Nat) (q : Proc) : (s.withProc u q k).sp u = q := Tab.look_put_self _ _ _ _

/-- An instruction that traps ends its program with the code, on the processor as it left it. -/
theorem Core.spOn_of_trap {c : Core} {u code : Nat} {f : Proc → Proc} {q : Proc} (h : (c.sp u).runs = true) (hf : f (c.sp u) = q)
    (ht : q.trap = some code) :
    c.spOn u f = ({ (c.putSp u { q with trap := none }) with freeCtr := c.freeCtr + 4 } : Core).spFault u (code % 256) := by
  have hput : (({ (c.putSp u q) with freeCtr := c.freeCtr + 4 } : Core).putSp u { q with trap := none }) =
      { (c.putSp u { q with trap := none }) with freeCtr := c.freeCtr + 4 } := by
    simp only [Core.putSp, Tab.put_put]
  unfold Core.spOn
  rw [if_pos h, hf]
  dsimp only
  rw [ht]
  exact congrArg (fun d : Core => d.spFault u (code % 256)) hput

/-- FLT of a program that runs: the program ends in it. -/
theorem spFlt_eq {s : State} {u : Nat} (h : s.ProcRuns u) (code : Nat) :
    s.base.spFlt u code =
      (s.withProc u { ((s.proc u).begun 1) with trap := none } (s.chip.core.freeCtr + 4)).spFault u (code % 256) := by
  have hop : (s.proc u).op 1 (fun q => q.fltTrap (code % 256)) = ((s.proc u).begun 1).fltTrap (code % 256) := by
    unfold Proc.op; rw [if_pos (Proc.runs_of h)]; rfl
  have htrap := Core.spOn_of_trap (c := s.base) (f := fun q => q.op 1 fun q => q.fltTrap (code % 256)) (Proc.runs_of h) hop rfl
  rw [Nat.mod_mod] at htrap
  exact htrap

/-- A handler's sticky flags. -/
theorem SpFlags.sticky_ne_zero (f : SpFlags) : (f.sticky != 0) = (f.s || f.hs || f.dz) := by
  unfold SpFlags.sticky b2n; cases f.s <;> cases f.hs <;> cases f.dz <;> rfl

/-- END of a task that runs on processor `u`: what the kind of its task does with what the task has stored (R397). -/
theorem run_spEnd {s : State} {u : Nat} {r : Running} (h : s.ProcRuns u) (hhand : (s.proc u).hand = none)
    (hon : s.base.disp.on .sp u = some r) :
    let q := s.proc u
    let c := s.withProc u ((q.begun 1).advance q.jump) (s.chip.core.freeCtr + 4)
    (r.r.task = .filter → s.base.spEnd u = ((c.commitBuf r.r.key q.buf).spSticky r.r.key 1 q.f.sticky).taskEnds r .filter) ∧
    (r.r.task = .observe → s.base.spEnd u =
      (((c.commitBuf r.r.key q.buf).spSticky r.r.key 2 q.f.sticky).obsTake r.r.key).taskEnds r .observe) ∧
    (r.r.task = .measure → s.base.spEnd u = c.measureDone r.r.key (forN 16 fun i => q.seen (4 * i) 0)) := by
  intro q c
  have hc : (s.base.spOn u fun q => q.op 1 id) = c := spOn_eq h 1 id _ rfl rfl
  have hin : ((s.base.sp u).runs && (s.base.sp u).hand.isNone) = true := by
    rw [s.base_sp, Proc.runs_of h, hhand]; rfl
  refine ⟨fun ht => ?_, fun ht => ?_, fun ht => ?_⟩ <;>
  · unfold Core.spEnd
    simp only [hon, hin, ht, hc]
    rfl

/-- Settles O14: END by `run_spEnd`, FLT by `spFlt_eq` and what `Core.spFault` does with a task and with a handler, RTI by
`Core.spReturn`. -/
theorem spProgramEnds : Obligations.SpProgramEnds := by
  intro s u code hrun
  refine ⟨fun r hhand hon => ⟨s.chip.core.freeCtr + 4, ?ends⟩, fun r hhand hon => ⟨s.chip.core.freeCtr + 4, ?fltTask⟩,
    fun n hhand => ⟨s.chip.core.freeCtr + 4, ?fltHandler⟩, fun n hhand => ?rti⟩
  case ends =>
    obtain ⟨hfilter, hobserve, hmeasure⟩ := run_spEnd hrun hhand hon
    exact ⟨fun ht => by rw [← hfilter ht]; rfl, fun ht => by rw [← hobserve ht]; rfl, fun ht => by rw [← hmeasure ht]; rfl⟩
  case fltTask =>
    show s.to (s.chip.runCore fun c => c.spFlt u code) = _
    have hh : ({ ((s.proc u).begun 1) with trap := none } : Proc).hand = none := (Proc.arrive_hand _).trans hhand
    rw [run_core, spFlt_eq hrun, Core.spFault]
    simp only [State.withProc_sp, hh, State.withProc_disp, hon]
  case fltHandler =>
    show s.to (s.chip.runCore fun c => c.spFlt u code) = _
    have hh : ({ ((s.proc u).begun 1) with trap := none } : Proc).hand = some n := (Proc.arrive_hand _).trans hhand
    rw [run_core, spFlt_eq hrun, Core.spFault]
    simp only [State.withProc_sp, hh] <;> rfl
  case rti =>
    have hret : s.base.spRti u = s.base.spReturn u n false := by
      unfold Core.spRti
      rw [s.base_sp, hhand, hrun.1]
    show s.to (s.chip.runCore fun c => c.spRti u) = _
    rw [run_core, hret]
    unfold Core.spReturn Proc.rti
    simp only [SpFlags.sticky_ne_zero, List.isEmpty_iff, Bool.false_eq_true, if_false, s.base_sp]
    rfl

end Sys2Proof.Machine
end

section
/-! The cycle: its boundary, its frames and its compute window (R61, R71, R98, R422, R664). -/

namespace Sys2Proof.Machine

/-- A command on the parts ends in the state its function gives. -/
theorem next_core {s : State} {f : Core → Core} {d : Core} (h : f s.base = d) : s.to (s.chip.runCore f) = .next (s.after d) := by
  rw [run_core, h]

/-! ### The first boundary after a ring start -/

/-- A crown before the first boundary of its ring, whose raw count is not a multiple of 8: ring time is 1 rt, and reads 0 to a host (R188). -/
def unevenCrown : State :=
  { chip := { core := { boot := { st := .running, held := false }, role := { role := .crown }, cycle := { cycle := 1 }, time := { ring := { raw := 1 } } } } }

/-- The boundary of `unevenCrown`, with S at a given time. -/
def unevenBoundary (t : Rt) : Core :=
  ({ unevenCrown.base with cycle := { unevenCrown.base.cycle with running := true, rtS := t } } : Core).boundaryWork

theorem unevenBoundary_rtS : (unevenBoundary 1).cycle.rtS = 1 ∧ (unevenBoundary 0).cycle.rtS = 0 := by decide

theorem unevenCrown_boundary : exec .cycleBoundary unevenCrown = .next (unevenCrown.after (unevenBoundary 1)) := rfl

theorem State.after_cycle (s : State) (c : Core) : (s.after c).chip.core.cycle = c.cycle := by
  obtain ⟨v, hv⟩ := Chip.commit_core { core := c, ev := { s.chip.ev with sent := [] } }
  exact (congrArg Core.cycle hv).trans rfl

/-- Refutes O16: S of the first boundary is ring time itself (`TimeState.now`), not the time with the raw count's low 3 bits as 0 that the
statement gives (`Core.now`, R188); at a raw count of 1 they are 1 and 0. -/
theorem not_cycleBoundary : ¬ Obligations.CycleBoundary := by
  intro h
  have hfirst := (h unevenCrown).2.1 rfl (.inl rfl) rfl rfl
  have hs : unevenCrown.after (unevenBoundary 1) = unevenCrown.after (unevenBoundary 0) :=
    Host.Outcome.next.inj (unevenCrown_boundary.symm.trans hfirst)
  have hS := congrArg (fun s : State => s.chip.core.cycle.rtS) hs
  simp only [State.after_cycle, unevenBoundary_rtS] at hS
  exact absurd hS (by decide)

/-! ### Frames and the compute window -/

theorem Core.running_iff (c : Core) : c.running = true ↔ c.boot.st = .running := by simp [Core.running]

section
variable {c : Core}

/-- A cycle of this chip is computed now. -/
def Core.live (c : Core) : Prop := c.boot.st = .running ∧ c.cycle.running = true ∧ c.computes = true

theorem Core.live_iff : c.live ↔ ¬(!c.running || !c.cycle.running || !c.computes) = true := by
  simp [Core.live, Core.running, and_assoc]

theorem Core.computeWindow_idle (h : ¬c.live) : c.computeWindow = c := if_pos (not_not.mp (mt Core.live_iff.mpr h))

theorem Core.driveLaunch_idle (h : ¬c.live) : c.driveLaunch = c := if_pos (not_not.mp (mt Core.live_iff.mpr h))

theorem Core.computeWindow_live (h : c.live) :
    c.computeWindow =
      let cw := c.at (c.instant c.modeI.tCw0)
      let fixed := cw.segs.foldl Core.fixSlots cw
      (fixed.axes.foldl Core.windowAxis fixed).gsEvaluate.commitPoint := if_neg (Core.live_iff.mp h)

theorem Core.senseLaunch_idle (h : c.sends = false) : c.senseLaunch = c := if_pos (by rw [h]; rfl)

theorem Core.senseLaunch_sends (h : c.sends = true) :
    c.senseLaunch =
      let sf := c.at (c.instant c.modeI.tSf)
      let sent := sf.segs.foldl Core.senseFrame sf
      { sent with role := { sent.role with notices := sent.role.notices - 1 } } := if_neg (by rw [h]; decide)

end

/-- The cycle's image as DRIVE_FRAME_LAUNCH completes it. -/
def Core.imaged (c : Core) : Core :=
  let l := c.at (c.instant c.modeI.tRel)
  let m := if l.sends = true then l.segs.foldl Core.driveFrame l else l
  let d := m.segs.foldl Core.countSlots m
  ({ d with disp := d.disp.update d.cycle.cycle } : Core).completeImage

/-- Position words of the axes go into the history of their profiles. -/
def Core.historied (c : Core) : Core :=
  c.axes.foldl (fun (x : Core) a => x.updPa a fun p => { p with hist := ((x.cycle.rtS, x.word a oPos) :: p.hist).take 2 }) c

theorem Core.driveLaunch_live {c : Core} {i : CycleImage} {rest : List CycleImage} (h : c.live)
    (hi : c.imaged.historied.cycle.images = i :: rest) : c.driveLaunch = (c.imaged.historied.visRow i).measOpen := by
  have hd : c.driveLaunch = (match c.imaged.historied.cycle.images.head? with
      | some i => c.imaged.historied.visRow i
      | none => c.imaged.historied).measOpen := if_neg (Core.live_iff.mp h)
  rw [hd, hi]; rfl

theorem Core.setWords_cycle (c : Core) (a : Nat) (ws : List (Nat × W32)) : (c.setWords a ws).cycle = c.cycle :=
  foldl_keeps (P := fun d : Core => d.cycle = c.cycle) (f := fun (d : Core) (e : Nat × W32) => d.setWord a e.1 e.2) (fun _ _ h => h) ws rfl

theorem Core.axWords_cycle (c : Core) (a : Nat) : (c.axWords a).cycle = c.cycle := Core.setWords_cycle ..

theorem Core.completeImage_images (c : Core) :
    c.completeImage.cycle.images.length ≤ 8 ∧ c.completeImage.cycle.images.head?.map (·.cycle) = some c.cycle.cycle := by
  have hc : (c.axes.foldl Core.axWords c).cycle = c.cycle :=
    foldl_keeps (P := fun d : Core => d.cycle = c.cycle) (fun d a h => (d.axWords_cycle a).trans h) c.axes rfl
  exact ⟨List.length_take_le .., congrArg (fun y : CycleState => some y.cycle) hc⟩

/-- Settles O17: the launches and the window by whether the chip sends or computes; the image is put before the seven held. -/
theorem cycleFrames : Obligations.CycleFrames := by
  refine ⟨fun s => ⟨fun h => ?sent, fun h => ?notSent, fun h => ?window, fun h => ⟨?noWindow, ?noDrive⟩⟩,
    fun s hst hrun hcomp => ⟨fun i rest hi => ?drive, ?images⟩⟩
  case sent => exact next_core (f := Core.senseLaunch) (Core.senseLaunch_sends h)
  case notSent => exact next_core (f := Core.senseLaunch) (Core.senseLaunch_idle h)
  case window => exact next_core (f := Core.computeWindow) (Core.computeWindow_live h)
  case noWindow => exact next_core (f := Core.computeWindow) (Core.computeWindow_idle h)
  case noDrive => exact next_core (f := Core.driveLaunch) (Core.driveLaunch_idle h)
  case drive => exact next_core (f := Core.driveLaunch) (Core.driveLaunch_live ⟨hst, hrun, hcomp⟩ hi)
  case images => exact Core.completeImage_images _

end Sys2Proof.Machine
end

section
/-! The rings and the slots: returns and their deadlines, the lock of ring time, uplink runs (R99 to R105, R157 to R168, R212). -/

namespace Sys2Proof.Machine

/-! ### Rings open and close -/

/-- The second miss in a row is a miss after one. -/
theorem RingDir.missed_eq (r : RingDir) : r.missed =
    if 1 ≤ r.miss then { r with known := true, closed := false, miss := r.miss + 1, ret := 0, late := true }
    else { r with miss := r.miss + 1, ret := 0, late := true } :=
  if_congr (by omega) rfl rfl

section
variable {c : Core} {g hop : Nat}

theorem Core.senseDeadline_missed_a (hs : c.sends = true) (hl : c.segLive g = true) (h : (c.sg g).a.last = none) :
    c.senseDeadline g 0 hop = (c.putSg g { (c.sg g) with a := (c.sg g).a.missed }).discover g 0 hop := by
  simp [Core.senseDeadline, hs, hl, h]

theorem Core.senseDeadline_missed_b (hs : c.sends = true) (hl : c.segLive g = true) (h : (c.sg g).b.last = none) :
    c.senseDeadline g 1 hop = (c.putSg g { (c.sg g) with b := (c.sg g).b.missed }).discover g 1 hop := by
  simp [Core.senseDeadline, hs, hl, h]

theorem Core.senseDeadline_returned_a (h : (c.sg g).a.last.isSome = true) : c.senseDeadline g 0 hop = c := by
  simp [Core.senseDeadline, Option.isSome_iff_ne_none.mp h]

theorem Core.senseDeadline_returned_b (h : (c.sg g).b.last.isSome = true) : c.senseDeadline g 1 hop = c := by
  simp [Core.senseDeadline, Option.isSome_iff_ne_none.mp h]

/-- A ring is known and open. -/
def RingDir.shut (r : RingDir) : Prop := r.known = true ∧ r.closed = false

theorem RingDir.close_of_returns {r : RingDir} (h : r.shut) (hret : 16 ≤ r.ret) : r.close = ({ r with closed := true }, true) := by
  obtain ⟨hk, hc⟩ := h
  simp [RingDir.close, hk, hc, hret]

theorem RingDir.close_of_not {r : RingDir} (h : ¬r.shut ∨ r.ret < 16) : r.close = (r, false) := by
  refine if_neg fun h' => ?_
  simp only [Bool.and_eq_true, Bool.not_eq_true', decide_eq_true_eq] at h'
  obtain ⟨⟨hk, hc⟩, hret⟩ := h'
  rcases h with h | h
  · exact h ⟨hk, hc⟩
  · omega

theorem Core.ringClose_a (h : (c.sg g).a.shut) (hret : 16 ≤ (c.sg g).a.ret) (hcut : (c.sg g).cut = false) :
    c.ringClose g 0 =
      (c.putSg g { (c.sg g) with a := { (c.sg g).a with closed := true } }).raise [evSeg EvNo.ringClosed g 0] := by
  simp [Core.ringClose, RingDir.close_of_returns h hret, hcut]

theorem Core.ringClose_b (h : (c.sg g).b.shut) (hret : 16 ≤ (c.sg g).b.ret) (hcut : (c.sg g).cut = false) :
    c.ringClose g 1 =
      (c.putSg g { (c.sg g) with b := { (c.sg g).b with closed := true } }).raise [evSeg EvNo.ringClosed g 1] := by
  simp [Core.ringClose, RingDir.close_of_returns h hret, hcut]

theorem Core.ringClose_of_cut {ring : Nat} (hcut : (c.sg g).cut = true) : c.ringClose g ring = c := by
  simp [Core.ringClose, hcut]

theorem Core.ringClose_a_of_not (h : ¬(c.sg g).a.shut ∨ (c.sg g).a.ret < 16) : c.ringClose g 0 = c := by
  simp [Core.ringClose, RingDir.close_of_not h]

theorem Core.ringClose_b_of_not (h : ¬(c.sg g).b.shut ∨ (c.sg g).b.ret < 16) : c.ringClose g 1 = c := by
  simp [Core.ringClose, RingDir.close_of_not h]

end

/-! ### The lock of ring time and the means of the slots -/

section
variable {c : Core}

theorem Core.lockGained_crown (hr : c.role.role = .crown) (hl : c.time.locked = false) (h : 256 ≤ c.time.lockRun) :
    c.lockGained = ({ c with time := { c.time with locked := true } } : Core).raise [ev0 EvNo.rtLocked] :=
  if_pos (by simp [hr, hl, h])

theorem Core.lockGained_spare (hr : c.role.role = .spare) (hl : c.role.readyRaised = false) (h : 256 ≤ c.time.spareRun) :
    c.lockGained = ({ c with role := { c.role with readyRaised := true } } : Core).raise [ev0 EvNo.spareReady] :=
  (if_neg (by simp [hr])).trans (if_pos (by simp [hr, hl, h]))

theorem Core.lockGained_early (hr : c.role.role = .crown) (h : c.time.lockRun < 256) : c.lockGained = c :=
  (if_neg (by simp; omega)).trans (if_neg (by simp [hr]))

end

/-- A fold no step of which moves its start ends there. -/
theorem foldl_fixed_mem {α β : Type} {f : α → β → α} {a : α} : ∀ l : List β, (∀ b ∈ l, f a b = a) → l.foldl f a = a
  | [], _ => rfl
  | b :: l, h => by
    rw [List.foldl_cons, h b (List.mem_cons_self ..)]
    exact foldl_fixed_mem l fun x hx => h x (List.mem_cons_of_mem b hx)

theorem Core.slotMeans_none {c : Core} (h : ∀ g ∈ c.segs, c.admitted g = []) : c.slotMeans = c :=
  foldl_fixed_mem c.segs fun g hg => by rw [h g hg]; rfl

/-- Settles O18: a missed copy and a closing ring by their ring, the lock by the chip's role. -/
theorem ringUpkeep : Obligations.RingUpkeep := by
  refine ⟨fun s g hop => ⟨fun hs hl => ⟨fun h => ?missA, fun h => ?missB, fun h => ?backA, fun h => ?backB⟩, fun d ring _ h => ?later,
    fun h hret hcut => ?closeA, fun h hret hcut => ?closeB, fun h => ?openA, fun h => ?openB⟩,
    fun s => ⟨fun hr hl h => ?locked, fun hr hl h => ?ready, fun hr h => ?early, ?means, fun h => ?noNode⟩⟩
  case missA => exact next_core (f := fun c => c.senseDeadline g 0 hop) ((Core.senseDeadline_missed_a hs hl h).trans (by rw [RingDir.missed_eq]))
  case missB => exact next_core (f := fun c => c.senseDeadline g 1 hop) ((Core.senseDeadline_missed_b hs hl h).trans (by rw [RingDir.missed_eq]))
  case backA => exact next_core (f := fun c => c.senseDeadline g 0 hop) (Core.senseDeadline_returned_a h)
  case backB => exact next_core (f := fun c => c.senseDeadline g 1 hop) (Core.senseDeadline_returned_b h)
  case later => exact if_neg h
  case closeA => exact next_core (f := fun c => c.ringClose g 0) (Core.ringClose_a h hret hcut)
  case closeB => exact next_core (f := fun c => c.ringClose g 1) (Core.ringClose_b h hret hcut)
  case openA =>
    refine next_core (f := fun c => c.ringClose g 0) ?_
    rcases or_assoc.mpr h with h | h
    · exact Core.ringClose_a_of_not h
    · exact Core.ringClose_of_cut h
  case openB =>
    refine next_core (f := fun c => c.ringClose g 1) ?_
    rcases or_assoc.mpr h with h | h
    · exact Core.ringClose_b_of_not h
    · exact Core.ringClose_of_cut h
  case locked => exact next_core (f := Core.lockGained) (Core.lockGained_crown hr hl h)
  case ready => exact next_core (f := Core.lockGained) (Core.lockGained_spare hr hl h)
  case early => exact next_core (f := Core.lockGained) (Core.lockGained_early hr h)
  case means => rfl
  case noNode => exact next_core (f := Core.slotMeans) (Core.slotMeans_none h)

/-! ### Returning copies -/

section
variable {c : Core} {g ring hop : Nat} {t : Int} {good : Bool} {recs : List (List Byte)} {area : List Byte}

theorem Core.senseReturn_unheard (h : c.segLive g = false ∨ (c.po (2 * g + (1 - ring))).link = false) (hr : ring < 2) :
    c.senseReturn g ring t good recs area hop = c := by
  refine if_pos ?_
  obtain rfl | rfl : ring = 0 ∨ ring = 1 := by omega
  all_goals rcases h with h | h <;> simp_all

theorem Core.senseReturn_heard (hs : c.sends = true) (hl : c.segLive g = true) (hr : ring < 2)
    (hp : (c.po (2 * g + (1 - ring))).link = true) :
    ¬(!c.sends || !c.segLive g || !(c.po (2 * g + if ring = 0 then 1 else 0)).link) = true := by
  obtain rfl | rfl : ring = 0 ∨ ring = 1 := by omega
  all_goals simp_all

/-- A copy of this segment, by its ring, comes past its deadline. -/
abbrev Segment.past (x : Segment) (t : Int) (r : RingDir) : Prop := r.late = true ∨ 0 < x.dloop2 ∧ x.dloop2 + 800 < 2 * t

theorem Segment.tooLate_a (x : Segment) (t : Int) : x.tooLate 0 t = true ↔ x.past t x.a := by
  simp [Segment.tooLate, Segment.past]

theorem Segment.tooLate_b (x : Segment) (t : Int) : x.tooLate 1 t = true ↔ x.past t x.b := by
  simp [Segment.tooLate, Segment.past]

/-- D_loop of a pair of returns: their sum, where both came. -/
def Segment.loopOf (x : Segment) (a b : RingDir) : Int := match a.last, b.last with | some i, some j => i + j | _, _ => x.dloop2

/-- D_loop as the last returns of both rings give it. -/
def Segment.looped (y : Segment) : Segment :=
  match y.a.last, y.b.last with
  | some i, some j => { y with dloop2 := i + j }
  | _, _ => y

theorem Segment.looped_eq (y : Segment) : y.looped = { y with dloop2 := y.loopOf y.a y.b } := by
  unfold Segment.looped Segment.loopOf
  split <;> rfl

/-- The segment once a good copy has been recorded. -/
def Segment.recorded (x : Segment) (ring : Nat) (t : Int) : Segment :=
  (if x.tooLate ring t then x else if ring = 0 then { x with a := x.a.returned t } else { x with b := x.b.returned t }).looped

theorem Segment.recorded_of_late {x : Segment} {ring : Nat} {t : Int} (h : x.tooLate ring t = true) :
    x.recorded ring t = { x with dloop2 := x.loopOf x.a x.b } := by
  rw [Segment.recorded, if_pos h, Segment.looped_eq]

theorem Segment.recorded_a {x : Segment} {t : Int} (h : ¬x.tooLate 0 t = true) :
    x.recorded 0 t = { x with a := x.a.returned t, dloop2 := x.loopOf (x.a.returned t) x.b } := by
  rw [Segment.recorded, if_neg h, Segment.looped_eq]; rfl

theorem Segment.recorded_b {x : Segment} {t : Int} (h : ¬x.tooLate 1 t = true) :
    x.recorded 1 t = { x with b := x.b.returned t, dloop2 := x.loopOf x.a (x.b.returned t) } := by
  rw [Segment.recorded, if_neg h, Segment.looped_eq]; rfl

/-- A good copy is recorded in the direction of its ring unless it comes past its deadline. -/
theorem Segment.recorded_eq (x : Segment) {ring : Nat} (t : Int) (hr : ring < 2) (a' b' : RingDir)
    (ha : a' = if ring = 0 ∧ ¬x.past t x.a then x.a.returned t else x.a)
    (hb : b' = if ring = 1 ∧ ¬x.past t x.b then x.b.returned t else x.b) :
    x.recorded ring t = { x with a := a', b := b', dloop2 := x.loopOf a' b' } := by
  obtain rfl | rfl : ring = 0 ∨ ring = 1 := by omega
  · rw [if_neg (by simp)] at hb
    subst hb
    by_cases hp : x.past t x.a
    · rw [if_neg (by simp [hp])] at ha
      subst ha
      exact Segment.recorded_of_late ((x.tooLate_a t).mpr hp)
    · rw [if_pos ⟨rfl, hp⟩] at ha
      subst ha
      exact Segment.recorded_a (mt (x.tooLate_a t).mp hp)
  · rw [if_neg (by simp)] at ha
    subst ha
    by_cases hp : x.past t x.b
    · rw [if_neg (by simp [hp])] at hb
      subst hb
      exact Segment.recorded_of_late ((x.tooLate_b t).mpr hp)
    · rw [if_pos ⟨rfl, hp⟩] at hb
      subst hb
      exact Segment.recorded_b (mt (x.tooLate_b t).mp hp)

theorem Core.senseReturn_good (hs : c.sends = true) (hl : c.segLive g = true) (hr : ring < 2)
    (hp : (c.po (2 * g + (1 - ring))).link = true) :
    c.senseReturn g ring t true recs area hop =
      let d := (c.at (rtAdd (c.instant c.modeI.tSf) t)).countFrame (2 * g + (1 - ring)) true
      (((d.putSg g ((d.sg g).recorded ring t)).discover g 0 hop).placeholders g (1 - ring) recs).mbxArea g (area.take 64) := by
  refine (if_neg (Core.senseReturn_heard hs hl hr hp)).trans ?_
  obtain rfl | rfl : ring = 0 ∨ ring = 1 := by omega
  · rfl
  · rfl

theorem Core.senseReturn_bad (hs : c.sends = true) (hl : c.segLive g = true) (hr : ring < 2)
    (hp : (c.po (2 * g + (1 - ring))).link = true) :
    c.senseReturn g ring t false recs area hop =
      let d := (c.at (rtAdd (c.instant c.modeI.tSf) t)).countFrame (2 * g + (1 - ring)) false
      d.putSl g { (d.sl g) with
        frmret := halfInc (d.sl g).frmret (1 - ring)
        suspect := if ring = 0 then { (d.sl g).suspect with badB := true } else { (d.sl g).suspect with badA := true } } := by
  refine (if_neg (Core.senseReturn_heard hs hl hr hp)).trans ?_
  obtain rfl | rfl : ring = 0 ∨ ring = 1 := by omega
  · rfl
  · rfl

end

/-! ### Uplink runs -/

section
variable {c : Core} {u : UplinkRun}

/-- A run is received at a live, linked port of a crown. -/
def Core.runHeard (c : Core) (u : UplinkRun) : Prop :=
  c.sends = true ∧ c.segLive u.seg = true ∧ (c.po (2 * u.seg + u.side)).link = true

/-- The slot of the admitted node that a run is nearest to. -/
def Core.nearSlot (d : Core) (u : UplinkRun) : Option (Nat × Int) :=
  ((d.is u.seg).nearest d.cycle.mode u.side (rtDiff u.stamp d.cycle.rtS)).filter fun e => ((d.sg u.seg).node e.1).st = .admitted

/-- Another run comes to a slot. -/
def Core.another (x : Core) (u : UplinkRun) (p : Nat) : Core :=
  (x.dropFirst u.seg p u.side).putSl u.seg (((x.dropFirst u.seg p u.side).sl u.seg).updPort p u.side fun k => { k with runs := k.runs + 1 })

theorem Core.uplinkRun_unlinked (h : (c.po (2 * u.seg + u.side)).link = false) : c.uplinkRun u = c := if_pos (by simp [h])

/-- What a received run does. -/
theorem Core.uplinkRun_heard (h : c.runHeard u) :
    c.uplinkRun u =
      let d := c.at u.stamp
      let off := rtDiff u.stamp d.cycle.rtS
      if u.merged then d.mergedRun u ((d.nearSlot u).map (·.1))
      else
        match d.nearSlot u with
        | none => d.outOfSlot u.seg u.side off (runSrc u.records)
        | some (p, eps) =>
          if 0 < ((d.sl u.seg).portOf p u.side).runs || band (d.is u.seg).phy eps = .out then
            (d.another u p).outOfSlot u.seg u.side off (runSrc u.records)
          else d.inSlot u p off eps := by
  obtain ⟨hs, hl, hp⟩ := h
  exact if_neg (by simp [hs, hl, hp])

theorem Core.nearSlot_none {d : Core}
    (h : ∀ p eps, (d.is u.seg).nearest d.cycle.mode u.side (rtDiff u.stamp d.cycle.rtS) = some (p, eps) →
      ¬((d.sg u.seg).node p).st = .admitted) : d.nearSlot u = none := by
  refine Option.filter_eq_none_iff.mpr fun e he => ?_
  simpa using h e.1 e.2 he

theorem Core.nearSlot_some {d : Core} {p : Nat} {eps : Int}
    (h : (d.is u.seg).nearest d.cycle.mode u.side (rtDiff u.stamp d.cycle.rtS) = some (p, eps))
    (hk : ((d.sg u.seg).node p).st = .admitted) : d.nearSlot u = some (p, eps) :=
  Option.filter_eq_some_iff.mpr ⟨h, by simpa using hk⟩

theorem Core.inSlot_centred {p : Nat} {off eps : Int} (h : band (c.is u.seg).phy eps = .centred) :
    c.inSlot u p off eps =
      ((c.putSl u.seg (((c.sl u.seg).updPort p u.side fun k => { k with runs := 1, first := some (off, runSrc u.records) }).countEps
        p u.side eps)).heard u.seg p u.side).runRecords u.seg p u.side u.records := by
  simp only [Core.inSlot, h, reduceCtorEq, if_false, Core.raise_nil]

end

/-- Settles O19: a returning copy by its ring, a run by the slot that it is nearest to. -/
theorem returnsAndRuns : Obligations.ReturnsAndRuns := by
  intro s g ring hop t good recs area u c hs
  refine ⟨fun hl hr hp => ⟨?bad, ?good⟩, fun h hr => ?unheard, fun hl hp => ?runs, fun h => ?noLink⟩
  case bad => exact next_core (f := fun c => c.senseReturn g ring t false recs area hop) (Core.senseReturn_bad hs hl hr hp)
  case good =>
    refine next_core (f := fun c => c.senseReturn g ring t true recs area hop) ((Core.senseReturn_good hs hl hr hp).trans ?_)
    dsimp only
    rw [Segment.recorded_eq _ t hr _ _ rfl rfl]
    rfl
  case unheard => exact next_core (f := fun c => c.senseReturn g ring t good recs area hop) (Core.senseReturn_unheard h hr)
  case runs =>
    have heard : c.uplinkRun u = _ := Core.uplinkRun_heard ⟨hs, hl, hp⟩
    refine ⟨fun hm hlost => ?mergedLost, fun hm hlost => ?lost,
      fun p eps hnear hknown => ⟨fun hm => ?merged, fun hm hruns => ?another, fun hm hruns hband => ?first⟩⟩
    case mergedLost =>
      refine next_core (f := fun c => c.uplinkRun u) (heard.trans ?_)
      dsimp only
      rw [if_pos hm, Core.nearSlot_none hlost]
      rfl
    case lost =>
      refine next_core (f := fun c => c.uplinkRun u) (heard.trans ?_)
      dsimp only
      rw [if_neg (by simp [hm]), Core.nearSlot_none hlost]
    case merged =>
      refine next_core (f := fun c => c.uplinkRun u) (heard.trans ?_)
      dsimp only
      rw [if_pos hm, Core.nearSlot_some hnear hknown]
      rfl
    case another =>
      refine next_core (f := fun c => c.uplinkRun u) (heard.trans ?_)
      dsimp only
      rw [if_neg (by simp [hm]), Core.nearSlot_some hnear hknown]
      exact if_pos (by simpa using hruns)
    case first =>
      refine next_core (f := fun c => c.uplinkRun u) (heard.trans ?_)
      dsimp only
      rw [if_neg (by simp [hm]), Core.nearSlot_some hnear hknown]
      exact (if_neg (by simp [hruns, hband])).trans (Core.inSlot_centred hband)
  case noLink => exact next_core (f := fun c => c.uplinkRun u) (Core.uplinkRun_unlinked h)

end Sys2Proof.Machine
end

section
/-! The tasks of an axis's chain, the LAW pairs, PROFILE and MEASURE, and the release deadline (R245, R337, R361, R411 to R419). -/

namespace Sys2Proof.Machine

/-! ### The release deadline -/

theorem DispState.traced_flow (d : DispState) (rt : Rt) (cycle : W32) (t : TraceIn) : (d.traced rt cycle t).1.flow = d.flow := by
  unfold DispState.traced
  dsimp only
  split_ifs <;> rfl

theorem Core.tr_flow (c : Core) (t : TraceIn) : (c.tr t).disp.flow = c.disp.flow := c.disp.traced_flow ..

theorem Core.applied_disp (c : Core) (a : Nat) (d : Drive) : (c.applied a d).disp = c.disp := rfl

theorem Flow.advance_entries (n : Nat) (f : Flow) : (f.advance n).entries = f.entries ∧ (f.advance n).slots = f.slots := by
  induction n generalizing f with
  | zero => exact ⟨rfl, rfl⟩
  | succ n ih =>
    by_cases hend : f.slots ≤ f.ptr
    · rw [Flow.advance, if_pos hend]; exact ⟨rfl, rfl⟩
    · rw [Flow.advance, if_neg hend]
      cases f.entries.look? f.ptr with
      | none => exact ⟨rfl, rfl⟩
      | some _ => exact ih _

/-- The empty marker is put into slots. -/
def Flow.marked (f : Flow) (holes : List Nat) : Flow := holes.foldl (fun f s => { f with entries := f.entries.put s .marker }) f

theorem Flow.marked_filled (holes : List Nat) (f : Flow) (i : Nat) (h : i ∈ holes ∨ (f.entries.look? i).isSome = true) :
    ((f.marked holes).entries.look? i).isSome = true := by
  induction holes generalizing f with
  | nil => exact h.resolve_left List.not_mem_nil
  | cons s holes ih =>
    refine ih _ ?_
    by_cases hs : i = s
    · subst hs
      exact .inr (by rw [Tab.look?_put_self]; rfl)
    · rw [Tab.look?_put_ne _ _ _ _ hs]
      exact h.imp_left fun h => (List.mem_cons.mp h).resolve_left hs

theorem Flow.marked_slots (holes : List Nat) (f : Flow) : (f.marked holes).slots = f.slots :=
  foldl_keeps (P := fun g : Flow => g.slots = f.slots) (f := fun (g : Flow) s => { g with entries := g.entries.put s .marker })
    (fun _ _ h => h) holes rfl

/-- A closed flow holds an entry in every slot. -/
theorem Flow.close_filled (f : Flow) (d : Rt) :
    (f.close d).1.closed = true ∧ ∀ i < (f.close d).1.slots, ((f.close d).1.entries.look? i).isSome = true := by
  have hadv := (f.marked f.unfilled).advance_entries (f.marked f.unfilled).slots
  refine ⟨rfl, fun i hi => ?_⟩
  have hslots : (f.close d).1.slots = f.slots := hadv.2.trans (f.marked_slots _)
  have hentries : (f.close d).1.entries = (f.marked f.unfilled).entries := hadv.1
  rw [hslots] at hi
  rw [hentries]
  refine Flow.marked_filled _ _ _ ?_
  by_cases hf : (f.entries.look? i).isSome = true
  · exact .inr hf
  · exact .inl (List.mem_filter.mpr ⟨List.mem_range.mpr hi, by simpa using hf⟩)

section
variable {c : Core} {f : Nat}

theorem Core.releaseDeadline_closed (h : (c.flow f).closed = true) : c.releaseDeadline f = c := if_pos (by rw [h]; simp)

/-- At D_f the flow is closed, as its unfinished chains' ends have left it; what follows leaves the flows alone. -/
theorem Core.releaseDeadline_flow (hlive : c.live) (hf : (c.disp.flow.look? f).isSome = true) (h : (c.flow f).closed = false) :
    ∃ (x : Flow) (d : Rt), (c.releaseDeadline f).flow f = (x.close d).1 := by
  have hgo : ¬(!c.running || !c.cycle.running || !c.computes || !(c.disp.flow.look? f).isSome || (c.flow f).closed) = true := by
    have := Core.live_iff.mp hlive
    rw [hf, h]
    simpa using this
  rw [Core.releaseDeadline, if_neg hgo]
  extract_lets d atD m holes unfilled ended x
  refine ⟨x, d, ?_⟩
  rcases x.close d with ⟨y, late⟩
  dsimp -zeta only
  extract_lets closed released reported raised braced checked
  have hclosed : closed.disp.flow = ended.disp.flow.put f y := rfl
  have hreleased : released.disp.flow = closed.disp.flow :=
    foldl_keeps (P := fun d : Core => d.disp.flow = closed.disp.flow) (fun d s h => (d.tr_flow _).trans h) _ rfl
  have hraised : raised.disp.flow = released.disp.flow := released.tr_flow _
  have hbraced : braced.disp.flow = raised.disp.flow := by
    dsimp only [braced]
    split_ifs <;> rfl
  have happlied : ∀ l : List (Nat × Nat), (l.foldl (fun (c : Core) e =>
      if c.isObs e.1 = true then c.applied e.1 ((y.entries.look? e.2).getD Drive.marker) else c) checked).disp.flow = braced.disp.flow :=
    fun l => foldl_keeps (P := fun d : Core => d.disp.flow = braced.disp.flow)
      (fun d e h => by split_ifs; exacts [h, h]) l rfl
  rw [Core.flow, happlied, hbraced, hraised, hreleased, hclosed]
  exact Tab.look_put_self ..

end

/-! ### The tasks of a chain -/

section
variable {c : Core} {a : Nat} {r : Running}

theorem Core.feedbackDone_some (h : c.runningTask .feedback a = some r) :
    c.feedbackDone a = (c.feedbackTask a).taskEnds r .feedback := by rw [Core.feedbackDone, h]

theorem Core.feedbackDone_none (h : c.runningTask .feedback a = none) : c.feedbackDone a = c := by rw [Core.feedbackDone, h]

theorem Core.filterDone_some (h : c.runningTask .filter a = some r) :
    c.filterDone a = ((c.setWords a (filterTask (c.cf a) (c.word a)).1).spSticky a 1
      (b2n (filterTask (c.cf a) (c.word a)).2)).taskEnds r .filter := by rw [Core.filterDone, h]

theorem Core.observeDone_some (h : c.runningTask .observe a = some r) :
    c.observeDone a = (c.observeTask a).taskEnds r .observe := by rw [Core.observeDone, h]

theorem Core.commuteInDone_pass (h : c.runningTask .commuteIn a = some r) {x : FieldAxis}
    (hx : (((c.passed r.unit).updFa a fun x => { x with flags := 0 }).fa a).checks
      (((c.passed r.unit).updFa a fun x => { x with flags := 0 }).cf a) (recS16 (c.senseBytes a) 4) (recS16 (c.senseBytes a) 6)
      (recS16 (c.senseBytes a) 8) (rec16 (c.senseBytes a) 24) = (x, .pass, false)) :
    c.commuteInDone a =
      ((((c.passed r.unit).updFa a fun x => { x with flags := 0 }).updFa a fun _ => x).cinPass a).taskEnds r .commuteIn := by
  rw [Core.commuteInDone, h]
  simp only [hx, Bool.false_eq_true, if_false]

theorem Core.commuteOutDone_some (h : c.runningTask .commuteOut a = some r) :
    c.commuteOutDone a = ((c.passed r.unit).coutPass a).taskEnds r .commuteOut := by rw [Core.commuteOutDone, h]

theorem Core.packDone_some (h : c.runningTask .pack a = some r) :
    c.packDone a = (((c.updFa a fun x => { x with flagsLast := (c.word a oCmtFlags).setWidth 8 }).complete r).updChain a
      fun x => { x with endc := 0 }).fillSlot a (c.packRecord a) (some c.now) := by rw [Core.packDone, h]; rfl

theorem Core.packDone_none (h : c.runningTask .pack a = none) : c.packDone a = c := by rw [Core.packDone, h]

end

/-- Settles O20: each task by its unit's entry, the deadline by what closing a flow leaves in it. -/
theorem chainTasks : Obligations.ChainTasks := by
  intro s a f r
  refine ⟨fun hst hrun hcomp hf hopen => ?deadline, fun h => ?closed, fun h => ?feedback, fun h => ?filter, fun h => ?observe,
    fun h x hx => ?commuteIn, fun h => ?commuteOut, fun h => ?pack, fun h => ?noFeedback, fun h => ?noPack⟩
  case deadline =>
    obtain ⟨x, d, hflow⟩ := Core.releaseDeadline_flow ⟨hst, hrun, hcomp⟩ hf hopen
    exact ⟨_, next_core (f := fun c => c.releaseDeadline f) rfl, hflow ▸ x.close_filled d⟩
  case closed => exact next_core (f := fun c => c.releaseDeadline f) (Core.releaseDeadline_closed h)
  case feedback => exact next_core (f := fun c => c.feedbackDone a) (Core.feedbackDone_some h)
  case filter => exact next_core (f := fun c => c.filterDone a) (Core.filterDone_some h)
  case observe => exact next_core (f := fun c => c.observeDone a) (Core.observeDone_some h)
  case commuteIn => exact next_core (f := fun c => c.commuteInDone a) (Core.commuteInDone_pass h hx)
  case commuteOut => exact next_core (f := fun c => c.commuteOutDone a) (Core.commuteOutDone_some h)
  case pack => exact next_core (f := fun c => c.packDone a) (Core.packDone_some h)
  case noFeedback => exact next_core (f := fun c => c.feedbackDone a) (Core.feedbackDone_none h)
  case noPack => exact next_core (f := fun c => c.packDone a) (Core.packDone_none h)

end Sys2Proof.Machine
end

section
/-! LAW tasks and their pairs (R337, R340, R360, R361), PROFILE and MEASURE (R418, R419, R532). -/

namespace Sys2Proof.Machine

/-! ### LAW -/

section
variable {c : Core} {a : Nat} {copyB : Bool} {t : Task} {r : Running}

theorem Core.lawTaskEnd_library (h : c.runningTask .law a copyB = some r) (hl : c.cf a .lawProg = (c.image.leLib : Int)) :
    c.lawTaskEnd a copyB =
      let o := lawTask (c.lawIn a)
      ({ c with eng := { c.eng with eng := c.eng.eng.upd r.unit {} fun e =>
        { e with buf := o.writes, s := e.s || o.sat, beats := o.beats, total := e.total + w32 o.beats } } } : Core).lawEnd r := by
  rw [Core.lawTaskEnd, h]
  dsimp only
  rw [if_pos hl]

theorem Core.taskOverrun_some (h : c.runningTask t a copyB = some r) : c.taskOverrun t a copyB = c.taskFlt r 0xFD := by
  rw [Core.taskOverrun, h]

theorem Core.taskOverrun_none (h : c.runningTask t a copyB = none) : c.taskOverrun t a copyB = c := by rw [Core.taskOverrun, h]

/-! ### Pairs -/

variable {x y : PairCopy}

/-- The copies of an axis's pair are taken from the comparator. -/
def Core.compared (c : Core) (a : Nat) : Core := { c with eng := { c.eng with copies := c.eng.copies.del a } }

/-- The copies agree in writes, sticky flags and ending. -/
def PairCopy.Agrees (x y : PairCopy) : Prop := x.writes = y.writes ∧ x.sticky = y.sticky ∧ x.ending = y.ending

/-- The commit of a pair that agrees. -/
def Core.pairCommit (c : Core) (a : Nat) (x : PairCopy) : Core :=
  ((c.compared a).lawCommit a x.writes x.sticky true).updAx a fun z => { z with plate := 0 }

theorem Core.pairCompare_fin (hc : c.eng.copies.look a [] = [x, y]) (hxy : x.Agrees y) (hx : x.ending = .fin) {n : Task}
    (hn : ((c.pairCommit a x).chainOf a).after .law = some n) (hlive : (c.pairCommit a x).chainLive a = true) :
    c.pairCompare a = (c.pairCommit a x).postNext a n := by
  rw [Core.pairCompare, hc]
  refine (if_pos hxy).trans ?_
  rw [hx]
  change (match ((c.pairCommit a x).chainOf a).after .law with
    | some n => if (c.pairCommit a x).chainLive a = true then (c.pairCommit a x).postNext a n else c.pairCommit a x
    | none => c.pairCommit a x) = _
  rw [hn]
  exact if_pos hlive

theorem Core.pairCompare_flt (hc : c.eng.copies.look a [] = [x, y]) (hxy : x.Agrees y) {k : Nat} (hx : x.ending = .flt k) :
    c.pairCompare a =
      ((({ (c.compared a) with eng := { (c.compared a).eng with lawFlt := (c.compared a).eng.lawFlt + 2 } } : Core).raise
        [evAxis EvNo.lawFault a k]).axisFault a 5 k).cancelEmpty a 5 := by
  rw [Core.pairCompare, hc]
  refine (if_pos hxy).trans ?_
  rw [hx]
  rfl

theorem b2n_bne {α : Type} [BEq α] [LawfulBEq α] [DecidableEq α] (u v : α) : b2n (u != v) = if u ≠ v then 1 else 0 := by
  by_cases h : u = v
  · subst h; simp [b2n]
  · simp [b2n, h]

/-- One more mismatch of an engine. -/
def Engine.mismatched (e : Engine) : Engine := { e with mism := e.mism + 1 }

theorem Core.pairCompare_differ (hc : c.eng.copies.look a [] = [x, y]) (hxy : ¬x.Agrees y) :
    c.pairCompare a =
      ((({ (c.compared a) with eng := { (c.compared a).eng with
            misms := (c.compared a).eng.misms + 1
            lawFlt := (c.compared a).eng.lawFlt + w32 ((if x.ending ≠ .fin then 1 else 0) + (if y.ending ≠ .fin then 1 else 0))
            eng := ((c.compared a).eng.eng.upd x.engine {} Engine.mismatched).upd y.engine {} Engine.mismatched } } : Core).raise
        [evAxis EvNo.pairMismatch a]).axisFault a 4).cancelEmpty a 4 := by
  rw [Core.pairCompare, hc]
  refine (if_neg hxy).trans ?_
  rw [b2n_bne, b2n_bne]
  rfl

end

/-- Settles O21: a pair by whether its copies agree. -/
theorem lawAndPairs : Obligations.LawAndPairs := by
  intro s a copyB t r x y
  refine ⟨fun h hl => ?library, fun hc => ⟨fun hw hs hx hy n hn hlive => ?fin, fun h => ?differ, fun k hw hs hx hy => ?flt⟩,
    fun h => ?overrun, fun h => ?none⟩
  case library => exact next_core (f := fun c => c.lawTaskEnd a copyB) (Core.lawTaskEnd_library h hl)
  case fin => exact next_core (f := fun c => c.pairCompare a) (Core.pairCompare_fin hc ⟨hw, hs, hx.trans hy.symm⟩ hx hn hlive)
  case differ =>
    refine next_core (f := fun c => c.pairCompare a) (Core.pairCompare_differ hc fun ⟨hw, hs, he⟩ => ?_)
    rcases h with h | h | h
    · exact h hw
    · exact h hs
    · exact h he
  case flt => exact next_core (f := fun c => c.pairCompare a) (Core.pairCompare_flt hc ⟨hw, hs, hx.trans hy.symm⟩ hx)
  case overrun => exact next_core (f := fun c => c.taskOverrun t a copyB) (Core.taskOverrun_some h)
  case none => exact next_core (f := fun c => c.taskOverrun t a copyB) (Core.taskOverrun_none h)

end Sys2Proof.Machine
end

section
/-! PROFILE and MEASURE tasks (R418, R419, R532). -/

namespace Sys2Proof.Machine

/-! ### PROFILE -/

theorem Core.clearSusp_cfg (c : Core) (a : Nat) : (c.clearSusp a).cfg = c.cfg := by
  unfold Core.clearSusp
  cases c.source a with
  | channel n => dsimp only; split_ifs <;> rfl
  | remote t => dsimp only; split_ifs <;> rfl

theorem Core.takeRef_cfg (c : Core) (a : Nat) (v : W32) : (c.takeRef a v).cfg = c.cfg := by
  unfold Core.takeRef
  cases c.source a with
  | channel n => dsimp only; split_ifs <;> rfl
  | remote t => dsimp only; split_ifs <;> rfl

/-- The result of a PROFILE task is held and counted, and the command that it has taken up is done. -/
def Core.profCounted (c : Core) (a : Nat) (res : ProfRes) : Core :=
  let d := (c.updPa a fun _ => { res.x with lead := ((c.masterOf a).ref (c.cf a .prLeadk)).2 }).raise res.evs
  { d with prof := { d.prof with
    knCnt := c.prof.knCnt + w32 res.kn
    mlostCnt := c.prof.mlostCnt + (if res.mlost = true then 1 else 0)
    cmdStat := if (c.pa a).pend.isSome = true ∧ res.x.pend = none ∧ fld c.prof.cmdStat 7 0 = a ∧ fld c.prof.cmdStat 13 12 = 1
      then (c.prof.cmdStat &&& ~~~0x3000) ||| 0x2000 else c.prof.cmdStat } }

/-- The source's SUSPECT is cleared where the task orders it. -/
def Core.profCleared (c : Core) (a : Nat) (res : ProfRes) : Core := if res.clearSuspect = true then c.clearSusp a else c

/-- The reference is taken at the index where the task orders it. -/
def Core.profBased (c : Core) (a : Nat) (res : ProfRes) (idx : Option W32) : Core :=
  match res.newRef, idx with
  | true, some v => c.takeRef a v
  | _, _ => c

theorem Core.profCleared_cfg (c : Core) (a : Nat) (res : ProfRes) : (c.profCleared a res).cfg = c.cfg := by
  unfold Core.profCleared
  split_ifs
  · exact c.clearSusp_cfg a
  · rfl

theorem Core.profBased_cfg (c : Core) (a : Nat) (res : ProfRes) (idx : Option W32) : (c.profBased a res idx).cfg = c.cfg := by
  unfold Core.profBased
  split
  · exact c.takeRef_cfg a _
  · rfl

theorem Core.profBased_eq (c : Core) (a : Nat) (res : ProfRes) (idx : Option W32) :
    c.profBased a res idx = if res.newRef then (match idx with | some v => c.takeRef a v | none => c) else c := by
  unfold Core.profBased
  cases res.newRef
  · rfl
  · cases idx <;> rfl

theorem Core.cf_mlostReact {c d : Core} (h : d.cfg = c.cfg) (a : Nat) : d.cf a .mlostReact = c.cf a .mlostReact :=
  congrArg (fun t : Tab CfgVals => cfgGet (t.look a []) .mlostReact) h

theorem Core.profileDone_some {c : Core} {a : Nat} {r : Running} (h : c.runningTask .profile a = some r) :
    c.profileDone a =
      let i := c.profIn a r.r.cycle
      let res := (c.pa a).task i
      let based := ((c.profCounted a res).profCleared a res).profBased a res i.idx
      (if res.mlost = true then based.react a (c.cf a .mlostReact).toNat dgMlost 6 else based).complete r := by
  rw [Core.profileDone, h]
  dsimp -zeta only
  extract_lets i x had res lead held counted prof reported cleared based reacted res' based'
  have hreported : reported = c.profCounted a res := by
    have htaken : (had && res.x.pend.isNone && decide (fld counted.prof.cmdStat 7 0 = a) && decide (fld counted.prof.cmdStat 13 12 = 1)) =
        true ↔ (c.pa a).pend.isSome = true ∧ res.x.pend = none ∧ fld c.prof.cmdStat 7 0 = a ∧ fld c.prof.cmdStat 13 12 = 1 := by
      simp only [Bool.and_eq_true, decide_eq_true_eq, Option.isNone_iff_eq_none, and_assoc]
      rfl
    have hlost : (if res.mlost = true then counted.prof.mlostCnt + 1 else counted.prof.mlostCnt) =
        c.prof.mlostCnt + (if res.mlost = true then 1 else 0) := by
      split_ifs
      · rfl
      · exact (BitVec.add_zero _).symm
    dsimp only [reported]
    rw [if_congr htaken rfl rfl, hlost]
    rfl
  have hbased : based = based' := by
    dsimp only [based, based', cleared]
    rw [hreported, Core.profBased_eq]
    rfl
  have hcf : based.cf a .mlostReact = c.cf a .mlostReact := by
    rw [hbased]
    exact Core.cf_mlostReact ((Core.profBased_cfg ..).trans (Core.profCleared_cfg ..)) a
  dsimp only [reacted]
  rw [hcf, hbased]

theorem Core.profileDone_none {c : Core} {a : Nat} (h : c.runningTask .profile a = none) : c.profileDone a = c := by
  rw [Core.profileDone, h]

/-! ### MEASURE -/

section
variable {c : Core} {area : Nat} {ws : List W32}

theorem Core.measureDone_some {r : Running}
    (h : c.disp.running.find? (fun r => r.r.task = .measure && r.r.key = area) = some r) :
    c.measureDone area ws = ((({ c with vis := { c.vis with
      mem := memSetBytes 0 c.vis.mem (area * c.vcfg.areaSize + 576) (wordsBytes (ws.take 16)) } } : Core).measEnd area 4).complete r) := by
  rw [Core.measureDone, h]

theorem Core.measureDone_none (h : ∀ r ∈ c.disp.running, ¬(r.r.task = .measure ∧ r.r.key = area)) : c.measureDone area ws = c := by
  have hnone : c.disp.running.find? (fun r => r.r.task = .measure && r.r.key = area) = none :=
    List.find?_eq_none.mpr fun r hr => by simpa using h r hr
  rw [Core.measureDone, hnone]

/-- A waiting MEASURE task ends with the interval. -/
def Core.measCancel (x : Core) (q : Ready) : Core :=
  let y := x.tr { (x.trOf 5 q) with reason := 8 }
  ({ y with disp := y.disp.tallied q.due (·.ended (.cancelled 8)) } : Core).measEnd q.key 8

theorem Core.measWindowEnd_eq {w : List Ready}
    (h : (c.disp.sp.filter fun q => decide (q.task = .measure ∧ (c.disp.measWin = true ∨ q.cycle ≠ c.cycle.cycle))) = w) :
    c.measWindowEnd = w.foldl Core.measCancel
      { c with disp := { c.disp with measWin := false, sp := c.disp.sp.filter fun q => !w.contains q } } := by
  have hw : (c.disp.sp.filter fun r => r.task = .measure && r.cycle != c.cycle.cycle || r.task = .measure && c.disp.measWin) = w := by
    rw [← h]
    refine List.filter_congr fun q _ => Bool.eq_iff_iff.mpr ?_
    simp only [Bool.or_eq_true, Bool.and_eq_true, decide_eq_true_eq, bne_iff_ne, ne_eq]
    tauto
  rw [Core.measWindowEnd, hw]
  rfl

end

/-- Settles O22: the PROFILE task's result step by step, the MEASURE tasks by what runs and what waits. -/
theorem profileAndMeasure : Obligations.ProfileAndMeasure := by
  intro s a area ws
  refine ⟨fun r h => ?profile, fun h => ?noProfile, fun r h => ?measure, fun h => ?noMeasure, fun w h => ?window⟩
  case profile => exact next_core (f := fun c => c.profileDone a) (Core.profileDone_some h)
  case noProfile => exact next_core (f := fun c => c.profileDone a) (Core.profileDone_none h)
  case measure => exact next_core (f := fun c => c.measureDone area ws) (Core.measureDone_some h)
  case noMeasure => exact next_core (f := fun c => c.measureDone area ws) (Core.measureDone_none h)
  case window => exact next_core (f := Core.measWindowEnd) (Core.measWindowEnd_eq h)

end Sys2Proof.Machine
end

section
/-! The guarded commands: the effect of each guarded register on `State.paired`, and the fields of a command word (R553). -/

namespace Sys2Proof.Machine

/-! ### The effect of each guarded register -/

/-- A guarded command whose effect is on the parts, by that effect. -/
theorem guardCmd_on {s : State} {p : HostPort} {a b : Nat} {w : W32} (f : Core → Core) (h : s.Pair p a w) (ga : GuardedAt a)
    (hf : ∀ x : Chip, x.guardedEffect p.path a w = x.onCore f) (hb : s.paired p a = s.paired p b) :
    s.to (s.chip.run fun x => x.guardCmd p.path a w) = .next (s.after (f (s.paired p b))) :=
  guardCmd_core s p a w h ga _ ((hf _).trans (by rw [hb]; rfl))

section
variable {s : State} {p : HostPort} {w : W32}

theorem run_modeReq (h : s.Pair p 0x100 w) :
    s.to (s.chip.run fun x => x.guardCmd p.path 0x100 w) = .next (s.after ((s.paired p 0).modeReq w)) :=
  guardCmd_on (fun c => c.modeReq w) h ⟨by decide, by decide, by decide, by decide, by decide⟩ (fun _ => rfl) rfl

theorem run_gopReq (h : s.Pair p 0x104 w) :
    s.to (s.chip.run fun x => x.guardCmd p.path 0x104 w) = .next (s.after ((s.paired p 0).gopReq w p.path.code)) :=
  guardCmd_on (fun c => c.gopReq w p.path.code) h ⟨by decide, by decide, by decide, by decide, by decide⟩ (fun _ => rfl) rfl

theorem run_bootCmd (h : s.Pair p (pgBoot + 0x40) w) :
    s.to (s.chip.run fun x => x.guardCmd p.path (pgBoot + 0x40) w) = .next (s.after ((s.paired p pgBoot).bootCmd w p.path.code)) :=
  guardCmd_on (fun c => c.bootCmd w p.path.code) h ⟨by decide, by decide, by decide, by decide, by decide⟩ (fun _ => rfl) rfl

theorem run_healthCmd (h : s.Pair p (pgHealth + 0x100) w) :
    s.to (s.chip.run fun x => x.guardCmd p.path (pgHealth + 0x100) w) = .next (s.after ((s.paired p pgHealth).healthCmd w)) :=
  guardCmd_on (fun c => c.healthCmd w) h ⟨by decide, by decide, by decide, by decide, by decide⟩ (fun _ => rfl) rfl

theorem run_ledCmd (h : s.Pair p (pgLed + 0x40) w) :
    s.to (s.chip.run fun x => x.guardCmd p.path (pgLed + 0x40) w) = .next (s.after ((s.paired p pgLed).ledCmd w)) :=
  guardCmd_on (fun c => c.ledCmd w) h ⟨by decide, by decide, by decide, by decide, by decide⟩ (fun _ => rfl) rfl

theorem run_maintCmd (h : s.Pair p (pgMaint + 0x40) w) :
    s.to (s.chip.run fun x => x.guardCmd p.path (pgMaint + 0x40) w) = .next (s.after ((s.paired p pgMaint).maintCmd w p.path.code)) :=
  guardCmd_on (fun c => c.maintCmd w p.path.code) h ⟨by decide, by decide, by decide, by decide, by decide⟩ (fun _ => rfl) rfl

theorem run_roleCmd (h : s.Pair p 0x14040 w) :
    s.to (s.chip.run fun x => x.guardCmd p.path 0x14040 w) = .next (s.after ((s.paired p 0).roleCmd w)) :=
  guardCmd_on (fun c => c.roleCmd w) h ⟨by decide, by decide, by decide, by decide, by decide⟩ (fun _ => rfl) rfl

theorem run_timeCmd (h : s.Pair p (pgTime + 0x100) w) :
    s.to (s.chip.run fun x => x.guardCmd p.path (pgTime + 0x100) w) = .next (s.after ((s.paired p pgTime).timeCmd w)) :=
  guardCmd_on (fun c => c.timeCmd w) h ⟨by decide, by decide, by decide, by decide, by decide⟩ (fun _ => rfl) rfl

theorem run_dispCmd (h : s.Pair p (pgDisp + 0x100) w) :
    s.to (s.chip.run fun x => x.guardCmd p.path (pgDisp + 0x100) w) = .next (s.after ((s.paired p pgDisp).dispCmd w)) :=
  guardCmd_on (fun c => c.dispCmd w) h ⟨by decide, by decide, by decide, by decide, by decide⟩ (fun _ => rfl) rfl

theorem run_axCommand (h : s.Pair p (pgEng + 0x40) w) :
    s.to (s.chip.run fun x => x.guardCmd p.path (pgEng + 0x40) w) = .next (s.after ((s.paired p pgEng).axCommand (fld w 7 0) (fld w 31 28))) :=
  guardCmd_on (fun c => c.axCommand (fld w 7 0) (fld w 31 28)) h ⟨by decide, by decide, by decide, by decide, by decide⟩ (fun _ => rfl) rfl

theorem run_cmtCmd (h : s.Pair p (pgCmt + 0x40) w) :
    s.to (s.chip.run fun x => x.guardCmd p.path (pgCmt + 0x40) w) = .next (s.after ((s.paired p pgCmt).cmtCmd w)) :=
  guardCmd_on (fun c => c.cmtCmd w) h ⟨by decide, by decide, by decide, by decide, by decide⟩ (fun _ => rfl) rfl

theorem run_profCmd (h : s.Pair p (pgProf + 0x40) w) :
    s.to (s.chip.run fun x => x.guardCmd p.path (pgProf + 0x40) w) = .next (s.after ((s.paired p pgProf).profCmd w)) :=
  guardCmd_on (fun c => c.profCmd w) h ⟨by decide, by decide, by decide, by decide, by decide⟩ (fun _ => rfl) rfl

theorem run_cuffCmd (h : s.Pair p (pgCuff + 0x40) w) :
    s.to (s.chip.run fun x => x.guardCmd p.path (pgCuff + 0x40) w) = .next (s.after ((s.paired p pgCuff).cuffCmd w)) :=
  guardCmd_on (fun c => c.cuffCmd w) h ⟨by decide, by decide, by decide, by decide, by decide⟩ (fun _ => rfl) rfl

theorem run_gsReq (h : s.Pair p (pgGs + 0x40) w) :
    s.to (s.chip.run fun x => x.guardCmd p.path (pgGs + 0x40) w) = .next (s.after ((s.paired p pgGs).gsReq w)) :=
  guardCmd_on (fun c => c.gsReq w) h ⟨by decide, by decide, by decide, by decide, by decide⟩ (fun _ => rfl) rfl

theorem run_confCmd (h : s.Pair p (pgGs + 0x44) w) :
    s.to (s.chip.run fun x => x.guardCmd p.path (pgGs + 0x44) w) = .next (s.after ((s.paired p pgGs).confCmd w)) :=
  guardCmd_on (fun c => c.confCmd w) h ⟨by decide, by decide, by decide, by decide, by decide⟩ (fun _ => rfl) rfl

theorem run_visCmd (h : s.Pair p (pgVis + 0x180) w) :
    s.to (s.chip.run fun x => x.guardCmd p.path (pgVis + 0x180) w) = .next (s.after ((s.paired p pgVis).visCmd w)) :=
  guardCmd_on (fun c => c.visCmd w) h ⟨by decide, by decide, by decide, by decide, by decide⟩ (fun _ => rfl) rfl

/-- LINK_SEG_CMD of a segment. -/
theorem run_segCmd {g : Nat} (hg : g < 4) (h : s.Pair p (pgSeg + 0x1000 * g + 0x40) w) :
    s.to (s.chip.run fun x => x.guardCmd p.path (pgSeg + 0x1000 * g + 0x40) w) = .next (s.after ((s.paired p 0).segCmd g w)) := by
  interval_cases g
  all_goals exact guardCmd_on (fun c => c.segCmd _ w) h ⟨by decide, by decide, by decide, by decide, by decide⟩ (fun _ => rfl) rfl

/-- EVENTS_CMD, whose effect is on the event unit. -/
theorem run_evCmd (h : s.Pair p (pgEv + 0x100) w) :
    s.to (s.chip.run fun x => x.guardCmd p.path (pgEv + 0x100) w) =
      let x : Chip := ({ core := s.paired p pgEv, ev := s.evBase } : Chip).evCmd w
      .next (s.afterBoth x.core x.ev) := by
  unfold State.to Chip.run
  dsimp only
  rw [guardCmd_eq s p _ w h ⟨by decide, by decide, by decide, by decide, by decide⟩]
  rfl

end

/-! ### The fields of a command word -/

/-- A command word: a code of 4 bits above, an axis, a channel or a group mask below. -/
theorem fld_command {code a : Nat} (hc : code < 16) (ha : a < 256) :
    fld (w32 (2 ^ 28 * code + a)) 31 28 = code ∧ fld (w32 (2 ^ 28 * code + a)) 7 0 = a := by
  have hw : (w32 (2 ^ 28 * code + a)).toNat = 2 ^ 28 * code + a := by
    rw [w32, BitVec.toNat_ofNat]
    omega
  simp only [fld, hw, Nat.shiftRight_eq_div_pow]
  omega

end Sys2Proof.Machine
end

section
/-! The sequencer's commands and those of roles and nodes (R72 to R85, R115, R126). -/

namespace Sys2Proof.Machine

theorem fld_mode : ∀ m < 8, (fld (w32 (0x40000000 + m)) 31 30 = 1 ∧ fld (w32 (0x40000000 + m)) 2 0 = m) := by decide

theorem fld_readmit : ∀ pos < 64, (fld (w32 (0x40000000 + pos)) 31 30 = 1 ∧ fld (w32 (0x40000000 + pos)) 5 0 = pos) := by decide

theorem fld_deadmit : ∀ pos < 64, (fld (w32 (0x80000000 + pos)) 31 30 = 2 ∧ fld (w32 (0x80000000 + pos)) 5 0 = pos) := by decide

section
variable {c : Core}

/-- The sequencer takes requests: no STANDBY, no operation running, a cycle running. -/
def Core.seqFree (c : Core) : Prop := c.standby = false ∧ c.gopBusy = false ∧ c.cycle.running = true

/-! ### Mode changes -/

theorem Core.modeChangeCmd_accepted (h : c.seqFree) {m : Nat} (hm : (c.image.mode.look m {}).present = true) :
    c.modeChangeCmd m = { c with cycle := { c.cycle with
      change := some { target := m, cEff := c.cycle.cycle + 1 + w32 c.image.aLead }
      modeEff := c.cycle.cycle + 1 + w32 c.image.aLead, gopOp := .mode, gopState := .running, gopReason := 0, gopMissing := 0
      gopStart := c.cycle.cycle + 1 } } := by
  obtain ⟨hs, hb, hr⟩ := h
  simp [Core.modeChangeCmd, hs, hb, hm, hr]

theorem Core.modeCancelCmd_undecided (hs : c.standby = false) {x : ModeChange} (hx : c.cycle.change = some x) (hd : x.decision = none) :
    c.modeCancelCmd = { c with cycle := { c.cycle with change := some { x with cancelled := true } } } := by
  simp [Core.modeCancelCmd, hs, hx, hd]

theorem Core.modeReq_change {m : Nat} (hm : m < 8) : c.modeReq (w32 (0x40000000 + m)) = c.modeChangeCmd m := by
  obtain ⟨hcode, harg⟩ := fld_mode m hm
  rw [Core.modeReq, if_pos hcode, harg]

theorem Core.modeReq_cancel : c.modeReq 0x80000000 = c.modeCancelCmd := (if_neg (by decide)).trans (if_pos (by decide))

/-! ### Global operations -/

/-- An operation starts in the next cycle, on the nodes admitted now. -/
def Core.gopStarted (c : Core) (op : GopOp) (at' : W32) : Core :=
  { c with cycle := { c.cycle with
      gopOp := op, gopState := .running, gopReason := 0, gopMissing := 0, gopStart := c.cycle.cycle + 1, gopNodes := c.admittedAll
      gopAcked := [], gopCyc := at' } }

theorem Core.gopReason_barrier (h : c.seqFree) : c.gopReason .barrier = 0 := by
  obtain ⟨hs, hb, hr⟩ := h
  simp [Core.gopReason, hs, hb, hr]

theorem Core.gopReason_snapshot (h : c.seqFree) : c.gopReason .snapshot = 0 := by
  obtain ⟨hs, hb, hr⟩ := h
  simp [Core.gopReason, hs, hb, hr]

theorem Core.gopReason_netreset (h : c.seqFree) (hq : ∀ a ∈ c.axes, (c.ax a).state = .off ∨ (c.ax a).state = .opened ∨
    (c.ax a).state = .halt ∨ (c.ax a).state = .fault) : c.gopReason .netreset = 0 := by
  obtain ⟨hs, hb, hr⟩ := h
  suffices ∀ a ∈ c.axes, ¬(c.ax a).state = .off → ¬(c.ax a).state = .opened → ¬(c.ax a).state = .halt → (c.ax a).state = .fault by
    simpa [Core.gopReason, hs, hb, hr] using this
  intro a ha h1 h2 h3
  have := hq a ha
  tauto

theorem Core.barrierCmd_accepted (h : c.seqFree) : c.barrierCmd = c.gopStarted .barrier c.cycle.gopCyc := by
  rw [Core.barrierCmd, Core.gopReason_barrier h]; rfl

theorem Core.gopLocked_accepted {op : GopOp} {a : Act} {port : Nat} (h : c.gopReason op = 0)
    (hd : (c.admitAct { act := a, port := port }).2 = true) :
    c.gopLocked op a port = (c.admitAct { act := a, port := port }).1.gopStart op := by
  rw [Core.gopLocked, h]
  exact if_pos hd

theorem Core.admitAct_cycle (c : Core) (a : Activity) : (c.admitAct a).1.cycle = c.cycle := rfl

theorem Core.snapshotCmd_accepted (h : c.seqFree) {port : Nat} (hd : (c.admitAct { act := .snapshot, port := port }).2 = true) :
    c.snapshotCmd port = (c.admitAct { act := .snapshot, port := port }).1.gopStarted .snapshot (c.cycle.cycle + 1 + 3) :=
  Core.gopLocked_accepted (Core.gopReason_snapshot h) hd

/-- The operation resets the nodes, and NODECMD commands them to. -/
def Core.nodesReset (e : Core) : Core := e.segs.foldl (fun (x : Core) k => x.putSl k ((x.sl k).enqueue 4 (nodeCmd 0xFF 1))) e

theorem Core.netresetCmd_accepted (h : c.gopReason .netreset = 0) {port : Nat}
    (hd : (c.admitAct { act := .netreset, port := port }).2 = true) :
    c.netresetCmd port = ((c.admitAct { act := .netreset, port := port }).1.gopStarted .netreset c.cycle.gopCyc).nodesReset := by
  have hl : c.gopLocked .netreset .netreset port = (c.admitAct { act := .netreset, port := port }).1.gopStarted .netreset c.cycle.gopCyc :=
    Core.gopLocked_accepted h hd
  rw [Core.netresetCmd, hl, h]
  exact if_pos rfl

end

/-- Settles O23: each command word by its fields, then the checks of its command. -/
theorem sequencerCommands : Obligations.SequencerCommands := by
  intro s p m g pos hm hg hpos
  refine ⟨fun h hf hp => ?change, fun x h hs hx hd => ?cancel, fun h hf => ?barrier, fun h hf hd => ?snapshot, fun h hf hq hd => ?netreset,
    fun h hr => ?retry, fun h hst hin => ?readmit, fun h hst => ?deadmit⟩
  case change =>
    have word : w32 (0x40000000 + m % 8) = w32 (0x40000000 + m) := by rw [Nat.mod_eq_of_lt hm]
    refine (congrArg (fun w => s.to (s.chip.run fun x => x.guardCmd p.path 0x100 w)) word).trans ((run_modeReq h).trans ?_)
    rw [Core.modeReq_change hm, Core.modeChangeCmd_accepted hf hp]
  case cancel =>
    refine (run_modeReq h).trans ?_
    rw [Core.modeReq_cancel, Core.modeCancelCmd_undecided hs hx hd]
  case barrier =>
    refine (run_gopReq h).trans ?_
    rw [Core.gopReq, if_pos (by decide), Core.barrierCmd_accepted hf]
    rfl
  case snapshot =>
    refine (run_gopReq h).trans ?_
    rw [Core.gopReq, if_neg (by decide), if_pos (by decide), Core.snapshotCmd_accepted hf hd]
    rfl
  case netreset =>
    refine (run_gopReq h).trans ?_
    rw [Core.gopReq, if_neg (by decide), if_neg (by decide), if_pos (by decide), Core.netresetCmd_accepted (Core.gopReason_netreset hf hq) hd]
    rfl
  case retry =>
    refine (run_roleCmd h).trans ?_
    rw [Core.roleCmd, if_pos (by decide), Core.retryCmd, if_pos hr]
  case readmit =>
    obtain ⟨hcode, harg⟩ := fld_readmit pos hpos
    have word : w32 (0x40000000 + pos % 64) = w32 (0x40000000 + pos) := by rw [Nat.mod_eq_of_lt hpos]
    refine (congrArg (fun w => s.to (s.chip.run fun x => x.guardCmd p.path (pgSeg + 0x1000 * g + 0x40) w)) word).trans
      ((run_segCmd hg h).trans ?_)
    rw [Core.segCmd, if_pos hcode, harg, Core.readmitCmd, if_pos ⟨hst, hin⟩]
  case deadmit =>
    obtain ⟨hcode, harg⟩ := fld_deadmit pos hpos
    have word : w32 (0x80000000 + pos % 64) = w32 (0x80000000 + pos) := by rw [Nat.mod_eq_of_lt hpos]
    refine (congrArg (fun w => s.to (s.chip.run fun x => x.guardCmd p.path (pgSeg + 0x1000 * g + 0x40) w)) word).trans
      ((run_segCmd hg h).trans ?_)
    rw [Core.segCmd, if_neg (by rw [hcode]; decide), if_pos hcode, harg, Core.deadmitCmd, if_pos hst]

end Sys2Proof.Machine
end

section
/-! The commands of time, trace, event log and health (R223, R424, R431, R573, R634). -/

namespace Sys2Proof.Machine

section
variable {t : TimeState}

theorem TimeState.cmdSelect_valid {d : Nat} (hd : t.domValid d = true) (hf : t.rtState ≠ .free) :
    t.cmdSelect d = ({ t with manual := true } : TimeState).switchTo d := if_neg (by simp [hd, hf])

theorem TimeState.cmdHold_eq (hf : t.rtState ≠ .free) : t.cmdHold = ({ t with manual := true } : TimeState).holdover := if_neg (by simp [hf])

theorem TimeState.cmdAlignNow_near (hr : t.residual.natAbs ≤ msRt) (hs : t.rtState = .track ∨ t.rtState = .slew) :
    t.cmdAlignNow = (t.startSlew, []) := (if_neg (by omega)).trans (if_pos (by simpa using hs))

end

theorem Core.putRing_quiet (c : Core) (t : TimeState) : c.putRing (t, []) = { c with time := t } := Core.raise_nil _

/-- Settles O24: each command by its code, and by what permits it. -/
theorem timeTraceAndLogCommands : Obligations.TimeTraceAndLogCommands := by
  intro s p
  refine ⟨fun h hd hf => ?selectA, fun h hd hf => ?selectB, fun h hf => ?hold, fun h => ?release, fun h hr hs => ?alignNow,
    fun h => ?clrSlackMin, fun h => ?trClear, fun h => ?clrLog, fun h => ?clrCount, fun h => ?clrMin, fun h => ?frSnap⟩
  case selectA =>
    refine (run_timeCmd h).trans ?_
    change _ = Host.Outcome.next (s.after (Core.putRing _ _))
    rw [← TimeState.cmdSelect_valid hd hf]
    rfl
  case selectB =>
    refine (run_timeCmd h).trans ?_
    change _ = Host.Outcome.next (s.after (Core.putRing _ _))
    rw [← TimeState.cmdSelect_valid hd hf]
    rfl
  case hold =>
    refine (run_timeCmd h).trans ?_
    change _ = Host.Outcome.next (s.after (Core.putRing _ _))
    rw [← TimeState.cmdHold_eq hf]
    rfl
  case release =>
    refine (run_timeCmd h).trans ?_
    rw [← Core.putRing_quiet]
    rfl
  case alignNow =>
    refine (run_timeCmd h).trans ?_
    rw [← Core.putRing_quiet, ← TimeState.cmdAlignNow_near hr hs]
    rfl
  case clrSlackMin => exact run_dispCmd h
  case trClear => exact run_dispCmd h
  case clrLog => exact run_evCmd h
  case clrCount => exact run_evCmd h
  case clrMin => exact run_healthCmd h
  case frSnap => exact run_healthCmd h

end Sys2Proof.Machine
end

section
/-! CLR_ALIGN and the angle of the index (R275, R289). -/

namespace Sys2Proof.Machine

theorem State.after_field (s : State) (c : Core) : (s.after c).chip.core.field = c.field := by
  obtain ⟨v, hv⟩ := Chip.commit_core { core := c, ev := { s.chip.ev with sent := [] } }
  exact (congrArg Core.field hv).trans rfl

/-- An axis in AX_OPEN after a search that ended before its index was seen: the index still has to give THIDX. -/
def indexDue : State :=
  { chip := { core := {
      boot := { st := .running, held := false }, host := { plink := true }, image := { axis := [(0, {})] }
      eng := { axis := [(0, { state := .opened })] }, field := { axis := [(0, { alnValid := true, thDue := true })] } } } }

theorem indexDue_pair : indexDue.Pair .pcie (pgCmt + 0x40) (w32 (0x20000000 + 0)) :=
  ⟨rfl, rfl, rfl, fun _ => rfl, fun _ hg => nomatch hg⟩

theorem indexDue_clrAlign : exec (.clrAlign .pcie 0) indexDue = .next (indexDue.after ((indexDue.paired .pcie pgCmt).clrAlign 0)) :=
  run_cmtCmd indexDue_pair

/-- Refutes O25: CLR_ALIGN of an axis that waits for its index clears `thDue` too, which the statement keeps: the index that
comes later is no longer taken for the offset that was cleared. -/
theorem not_sourceAndAlignCommands : ¬ Obligations.SourceAndAlignCommands := by
  intro h
  obtain ⟨-, -, -, -, -, -, hclr⟩ := h indexDue .pcie 0 0 (by decide) (by decide)
  have heq := indexDue_clrAlign.symm.trans (hclr indexDue_pair rfl rfl)
  injection heq with heq
  have hfield := congrArg (fun s : State => (s.chip.core.field.axis.look 0 {}).thDue) heq
  simp only [State.after_field] at hfield
  exact absurd hfield (by decide)

end Sys2Proof.Machine
end

section
/-! The commands of an axis's state: OPEN, RUN, OFF and CLEAR_FAULT (R354 to R356). -/

namespace Sys2Proof.Machine

section
variable {c : Core} {a code : Nat} {k : AxCmd}

/-- ENGINE_CMD_STAT shows a command's result and reason. -/
def Core.axStat (c : Core) (a code res r : Nat) : Core :=
  { c with eng := { c.eng with cmdStat := w32 (a + 256 * code + 4096 * res + 65536 * (r % 16)) } }

/-- The axis may be commanded: it is in the image, has a slot, and no command of it is pending. -/
def Core.commandable (c : Core) (a : Nat) : Prop := c.hasAx a = true ∧ (c.slotOf a).isSome = true ∧ (c.ax a).pend = none

theorem Core.cmdCheck_eq (hk : axCmdOf code = some k) (h : c.commandable a) :
    c.cmdCheck a code = if k.from' (c.ax a).state = true then c.cmdReason a k else 1 := by
  obtain ⟨hax, hslot, hpend⟩ := h
  simp [Core.cmdCheck, hk, hax, Option.isSome_iff_ne_none.mp hslot, hpend]
  cases k.from' (c.ax a).state
  · rfl
  · rfl

theorem cmdStatWord_eq (ha : a < 256) (hc : code < 16) (res r : Nat) :
    cmdStatWord a code res r = w32 (a + 256 * code + 4096 * res + 65536 * (r % 16)) := by
  rw [cmdStatWord, Nat.mod_eq_of_lt ha, Nat.mod_eq_of_lt hc]

theorem Core.axCommand_accepted (ha : a < 256) (hc : code < 16) (hk : axCmdOf code = some k) (h : c.cmdCheck a code = 0) :
    c.axCommand a code = (c.axStat a code 1 0).updAx a fun x => { x with pend := some k } := by
  unfold Core.axCommand
  dsimp only
  rw [if_pos h, h, hk, cmdStatWord_eq ha hc]
  rfl

theorem Core.axCommand_refused (ha : a < 256) (hc : code < 16) {r : Nat} (h : c.cmdCheck a code = r) (hr : r ≠ 0) :
    c.axCommand a code = (c.axStat a code 3 r).raise [evAxis EvNo.axCmdRefused a r] := by
  unfold Core.axCommand
  dsimp only
  rw [h, if_neg hr, cmdStatWord_eq ha hc]
  rfl

end

section
variable {s : State} {p : HostPort} {a code : Nat} {k : AxCmd}

/-- A command of an axis's state, by the code that its instruction writes. -/
theorem run_axCmd (i : Instr) (hi : exec i s = s.to (s.chip.run fun x => x.guardCmd p.path (pgEng + 0x40) (w32 (2 ^ 28 * code + a % 256))))
    (ha : a < 256) (hc : code < 16) (h : s.Pair p (pgEng + 0x40) (w32 (2 ^ 28 * code + a))) :
    exec i s = .next (s.after ((s.paired p pgEng).axCommand a code)) := by
  rw [Nat.mod_eq_of_lt ha] at hi
  obtain ⟨hcode, harg⟩ := fld_command hc ha
  rw [hi, run_axCommand h, hcode, harg]

/-- An accepted command is pending; one whose state does not permit it is refused with reason 1. -/
theorem axCmd_answers (i : Instr)
    (hi : exec i s = s.to (s.chip.run fun x => x.guardCmd p.path (pgEng + 0x40) (w32 (2 ^ 28 * code + a % 256))))
    (hk : axCmdOf code = some k) (ha : a < 256) (hc : code < 16) (h : s.Pair p (pgEng + 0x40) (w32 (2 ^ 28 * code + a))) :
    let c := s.paired p pgEng
    (c.hasAx a = true → (c.slotOf a).isSome = true → (c.ax a).pend = none → k.from' (c.ax a).state = true → c.cmdReason a k = 0 →
      exec i s = .next (s.after ((c.axStat a code 1 0).updAx a fun x => { x with pend := some k }))) ∧
    (c.hasAx a = true → (c.slotOf a).isSome = true → (c.ax a).pend = none → k.from' (c.ax a).state = false →
      exec i s = .next (s.after ((c.axStat a code 3 1).raise [evAxis EvNo.axCmdRefused a 1]))) := by
  refine ⟨fun hax hslot hpend hfrom hreason => ?_, fun hax hslot hpend hfrom => ?_⟩
  · rw [run_axCmd i hi ha hc h, Core.axCommand_accepted ha hc hk]
    rw [Core.cmdCheck_eq hk ⟨hax, hslot, hpend⟩, if_pos hfrom, hreason]
  · rw [run_axCmd i hi ha hc h, Core.axCommand_refused ha hc (r := 1) ?_ (by decide)]
    rw [Core.cmdCheck_eq hk ⟨hax, hslot, hpend⟩, if_neg (by simp [hfrom])]

end

/-- Settles O26: each command by its code, its first check by the axis's state. -/
theorem axisStateCommands : Obligations.AxisStateCommands := by
  intro s p a ha
  refine ⟨axCmd_answers _ rfl rfl ha (by decide), axCmd_answers _ rfl rfl ha (by decide), axCmd_answers _ rfl rfl ha (by decide),
    axCmd_answers _ rfl rfl ha (by decide), fun x => ?run, fun x => ?off, fun x => ?clearFault⟩
  case run => exact decide_eq_true_iff
  case off => exact decide_eq_true_iff
  case clearFault => exact decide_eq_true_iff

end Sys2Proof.Machine
end

section
/-! The profile commands and those of the virtual masters (R450, R456, R462 to R464). -/

namespace Sys2Proof.Machine

section
variable {c : Core} {a code : Nat} {k : PrCmd}

/-- PROFILE_CMD_STAT shows a word. -/
def Core.profStat (c : Core) (w : W32) : Core := { c with prof := { c.prof with cmdStat := w } }

/-- The command at a code of PROFILE_CMD. -/
def Core.profCode (c : Core) (code a : Nat) : Core :=
  match code with
  | 1 => c.moveCmd a
  | 2 => c.velCmd a
  | 3 => c.stopCmd a
  | 4 => c.tblTimeCmd a
  | 5 => c.tblCamCmd a
  | 6 => c.gearOnCmd a
  | 7 => c.knuckleCmd a
  | 8 => c.gearOffCmd a
  | 9 => c.addOfsCmd a
  | 10 => c.setOfsCmd a
  | 11 => c.homeCmd a
  | 12 => c.clrCmd a
  | 13 => c.vmVelCmd a
  | 14 => c.vmStopCmd a
  | k => c.prRefuse a k 2

theorem Core.profCmd_eq (c : Core) (w : W32) : c.profCmd w = c.profCode (fld w 31 28) (fld w 7 0) := rfl

/-- The receipt of a command that fails a running homing. -/
def Core.homingEnds (c : Core) (a : Nat) (k : PrCmd) (ends : Bool) : Core :=
  if ends = true ∧ (c.prCheck a k).valid = true ∧ (c.pa a).mode = .homing
    then c.updPa a fun x => { x with hm := { x.hm with abort := true } } else c

theorem Core.homingEnds_eq (c : Core) (a : Nat) (k : PrCmd) :
    (if (c.prCheck a k).valid && k.failsHoming && (c.pa a).mode = .homing then c.updPa a fun x => { x with hm := { x.hm with abort := true } }
      else c) = c.homingEnds a k k.failsHoming :=
  if_congr (by simp only [Bool.and_eq_true, decide_eq_true_eq]; tauto) rfl rfl

theorem Core.prCommand_accepted (ha : a < 256) (hc : code < 16) (h : (c.pa a).refusal (c.prCheck a k) k = 0) :
    c.prCommand a code k =
      ((c.homingEnds a k k.failsHoming).updPa a fun x => { x with pend := some (k, (c.homingEnds a k k.failsHoming).prDue) }).profStat
        (w32 (a + 256 * code + 4096)) := by
  unfold Core.prCommand
  dsimp only
  rw [h, Core.homingEnds_eq, if_neg (by decide), cmdStatWord_eq ha hc]
  rfl

theorem Core.prCommand_refused (ha : a < 256) (hc : code < 16) {r : Nat} (h : (c.pa a).refusal (c.prCheck a k) k = r) (hr : r ≠ 0) :
    c.prCommand a code k =
      ((c.homingEnds a k k.failsHoming).profStat (w32 (a + 256 * code + 3 * 4096 + 65536 * (r % 16)))).raise [evMotionFault a 0x11] := by
  unfold Core.prCommand
  dsimp only
  rw [h, Core.homingEnds_eq, if_pos (by simpa using hr), Core.prRefuse, cmdStatWord_eq ha hc, Nat.mul_comm 4096 3]
  rfl

theorem Core.homingEnds_due (c : Core) (a : Nat) (k : PrCmd) (ends : Bool) : (c.homingEnds a k ends).prDue = c.prDue := by
  unfold Core.homingEnds
  split_ifs
  · rfl
  · rfl

end

section
variable {s : State} {p : HostPort} {a code : Nat} {k : PrCmd}

/-- A profile command, by the code that its instruction writes. -/
theorem run_prCmd (i : Instr) (hi : exec i s = s.to (s.chip.run fun x => x.guardCmd p.path (pgProf + 0x40) (w32 (2 ^ 28 * code + a % 256))))
    (hk : (s.paired p pgProf).profCode code a = (s.paired p pgProf).prCommand a code k)
    (ha : a < 256) (hc : code < 16) (h : s.Pair p (pgProf + 0x40) (w32 (2 ^ 28 * code + a))) :
    exec i s = .next (s.after ((s.paired p pgProf).prCommand a code k)) := by
  rw [Nat.mod_eq_of_lt ha] at hi
  obtain ⟨hcode, harg⟩ := fld_command hc ha
  rw [hi, run_profCmd h, Core.profCmd_eq, hcode, harg, hk]

/-- An accepted profile command is pending for its cycle; a refused one is reported with its reason. -/
theorem prCmd_answers (i : Instr)
    (hi : exec i s = s.to (s.chip.run fun x => x.guardCmd p.path (pgProf + 0x40) (w32 (2 ^ 28 * code + a % 256))))
    (hk : (s.paired p pgProf).profCode code a = (s.paired p pgProf).prCommand a code k)
    (ha : a < 256) (hc : code < 16) (h : s.Pair p (pgProf + 0x40) (w32 (2 ^ 28 * code + a))) :
    let c := s.paired p pgProf
    let h := c.homingEnds a k k.failsHoming
    ((c.pa a).refusal (c.prCheck a k) k = 0 →
      exec i s = .next (s.after ((h.updPa a fun x => { x with pend := some (k, c.prDue) }).profStat (w32 (a + 256 * code + 4096))))) ∧
    (∀ r, (c.pa a).refusal (c.prCheck a k) k = r → r ≠ 0 → exec i s = .next (s.after
      ((h.profStat (w32 (a + 256 * code + 3 * 4096 + 65536 * (r % 16)))).raise [evMotionFault a 0x11]))) := by
  refine ⟨fun hok => ?_, fun r href hr => ?_⟩
  · rw [run_prCmd i hi hk ha hc h, Core.prCommand_accepted ha hc hok, Core.homingEnds_due]
  · rw [run_prCmd i hi hk ha hc h, Core.prCommand_refused ha hc href hr]

end

/-- Settles O27: each command by its code; the checks, the receipt and the due cycle are those of every command. -/
theorem profileCommands : Obligations.ProfileCommands := by
  intro s p a ha
  refine ⟨prCmd_answers _ rfl rfl ha (by decide), prCmd_answers _ rfl rfl ha (by decide), prCmd_answers _ rfl rfl ha (by decide),
    prCmd_answers _ rfl rfl ha (by decide), prCmd_answers _ rfl rfl ha (by decide), prCmd_answers _ rfl rfl ha (by decide),
    prCmd_answers _ rfl rfl ha (by decide), prCmd_answers _ rfl rfl ha (by decide), prCmd_answers _ rfl rfl ha (by decide),
    prCmd_answers _ rfl rfl ha (by decide), prCmd_answers _ rfl rfl ha (by decide), prCmd_answers _ rfl rfl ha (by decide),
    fun h => ?vmVel, fun h => ?vmStop⟩
  case vmVel => exact run_profCmd h
  case vmStop => exact run_profCmd h

end Sys2Proof.Machine
end

section
/-! The host's requests to the Gauntlet and the Visor's commands (R482, R509, R513, R521 to R523). -/

namespace Sys2Proof.Machine

/-- GAUNTLET_REQ: the code in [11:8], the mask of groups below. -/
theorem fld_gsRequest {code mask : Nat} (hc : code < 16) (hm : mask < 256) :
    fld (w32 (0x100 * code + mask)) 11 8 = code ∧ fld (w32 (0x100 * code + mask)) 7 0 = mask := by
  have hw : (w32 (0x100 * code + mask)).toNat = 0x100 * code + mask := by
    rw [w32, BitVec.toNat_ofNat]
    omega
  simp only [fld, hw, Nat.shiftRight_eq_div_pow]
  omega

section
variable {c : Core} {mask demand : Nat}

/-- Every group of the mask may be asked for: the Gauntlet is in RUN and each has HOSTREQ. -/
def Core.gsAsks (c : Core) (mask : Nat) : Prop :=
  c.gs.glob = .run ∧ ∀ g < 8, natBit mask g = true → (c.image.gs.group.look g {}).hostReq = true

theorem Core.gsRequest_granted (h : c.gsAsks mask) :
    c.gsRequest mask demand = { c with gs := (maskGroups mask).foldl (fun (s : GsState) g => s.hostDemand g c.now demand) c.gs } := by
  obtain ⟨hrun, hreq⟩ := h
  have hall : ¬((maskGroups mask).any fun g => !(c.image.gs.group.look g {}).hostReq) = true := by
    simpa [maskGroups] using hreq
  rw [Core.gsRequest, if_neg (by simp [hrun]), if_neg hall]

theorem Core.gsRequest_notRun (h : c.gs.glob ≠ .run) : c.gsRequest mask demand = c.gsRefuse 1 := if_pos (by simpa using h)

/-- The request at a code of GAUNTLET_REQ. -/
def Core.gsCode (c : Core) (code mask : Nat) : Core :=
  match code with
  | 1 => c.gsRequest mask 2
  | 2 => c.gsRequest mask 1
  | 3 => c.gsRequest mask 0
  | 4 => c.proofTest
  | _ => c.gsRefuse 2

theorem Core.gsReq_eq (c : Core) (w : W32) : c.gsReq w = c.gsCode (fld w 11 8) (fld w 7 0) := rfl

theorem Core.proofTest_permitted (hp : c.anyPermitted = false) (h : c.gs.glob = .safe ∨ c.gs.glob = .run) :
    c.proofTest = ({ c with gs := { c.gs with out := c.gs.out.each fun _ o => o.want false } } : Core).gsEnter .test :=
  (if_neg (by simp [hp])).trans (if_pos h)

theorem Core.confCmd_confirmed {w : W32} (h : c.gs.glob = .unconfirmed) (hw : w = c.image.gs.schk) :
    c.confCmd w = { c with gs := { c.gs with confDue := some (rtAdd c.now (240000000000 : Nat)) } } := if_pos (by simp [h, hw])

/-! ### The Visor -/

theorem Core.visArm_idle (hst : c.vis.st = .idle) (hd : c.vis.armDue = false) (hf : c.vcfg.fits c.tcyc = true)
    (hs : c.vcfg.sourcesOk c.hasAx (fun n => c.time.pinMode n = 7) = true) (hsb : c.standby = false) (hm : c.vis.memIso = false)
    (hi : c.vis.iso = false) : c.visArm = { c with vis := { c.vis with armDue := true, covEnd := none } } := by
  simp [Core.visArm, hst, hd, hf, hs, hsb, hm, hi]

theorem Core.visDisarm_armed (h : c.vis.st = .armed) : c.visDisarm = { c with vis := { c.vis with st := .idle, fill := none } } := by
  rw [Core.visDisarm, h]

theorem Core.visForce_armed (h : c.vis.st = .armed) (hok : c.visOk = true) :
    c.visForce = c.putVis (c.vis.fire c.vcfg { t := c.now, unit := 4, type := 0 }) := (if_pos h).trans (if_pos hok)

end

section
variable {s : State} {p : HostPort} {mask code : Nat}

/-- A request to the Gauntlet, by the code that its instruction writes. -/
theorem run_gsRequest (i : Instr) (hi : exec i s = s.to (s.chip.run fun x => x.guardCmd p.path (pgGs + 0x40) (w32 (0x100 * code + mask % 256))))
    (hc : code < 16) (hm : mask < 256) (h : s.Pair p (pgGs + 0x40) (w32 (0x100 * code + mask))) :
    exec i s = .next (s.after ((s.paired p pgGs).gsCode code mask)) := by
  rw [Nat.mod_eq_of_lt hm] at hi
  obtain ⟨hcode, harg⟩ := fld_gsRequest hc hm
  rw [hi, run_gsReq h, Core.gsReq_eq, hcode, harg]

end

/-- Settles O28: each request by its code and its checks. -/
theorem safetyAndVisorCommands : Obligations.SafetyAndVisorCommands := by
  intro s p mask w hm
  refine ⟨fun h ha => ?sto, fun h ha => ?ss1, fun h ha => ?withdraw, fun h hn => ?refused, fun h hp hg => ?proofTest, fun h hg hw => ?conf,
    fun h hst hd hf hs hsb hmem hiso => ?arm, fun h hst => ?disarm, fun h hst hok => ?force, fun h => ?clrStats⟩
  case sto =>
    refine (run_gsRequest (code := 1) _ rfl (by decide) hm h).trans ?_
    rw [Core.gsCode, Core.gsRequest_granted ha]
    rfl
  case ss1 =>
    refine (run_gsRequest (code := 2) _ rfl (by decide) hm h).trans ?_
    rw [Core.gsCode, Core.gsRequest_granted ha]
    rfl
  case withdraw =>
    refine (run_gsRequest (code := 3) _ rfl (by decide) hm h).trans ?_
    rw [Core.gsCode, Core.gsRequest_granted ha]
    rfl
  case refused =>
    refine (run_gsRequest (code := 1) _ rfl (by decide) hm h).trans ?_
    rw [Core.gsCode, Core.gsRequest_notRun hn]
    rfl
  case proofTest =>
    refine (run_gsReq h).trans ?_
    rw [← Core.proofTest_permitted hp hg]
    rfl
  case conf =>
    refine (run_confCmd h).trans ?_
    rw [Core.confCmd_confirmed hg hw]
  case arm =>
    refine (run_visCmd h).trans ?_
    rw [← Core.visArm_idle hst hd hf hs hsb hmem hiso]
    rfl
  case disarm =>
    refine (run_visCmd h).trans ?_
    rw [← Core.visDisarm_armed hst]
    rfl
  case force =>
    refine (run_visCmd h).trans ?_
    change Host.Outcome.next (s.after (Core.visForce _)) = _
    rw [Core.visForce_armed hst hok]
    rfl
  case clrStats => exact run_visCmd h

end Sys2Proof.Machine
end

section
/-! Reset, low-power and flash commands (R586, R596 to R604, R624). -/

namespace Sys2Proof.Machine

section
variable {c : Core} {port : Nat} {erase : Bool}

theorem Core.hostResetCmd_none (h : c.boot.hostDue = none) :
    c.hostResetCmd = { c with boot := { c.boot with hostDue := some (rtAdd c.now 40000) } } := by rw [Core.hostResetCmd, h]

theorem Core.parkCmd_run (hr : c.running = true) (hl : c.boot.lp = .run) : c.parkCmd = c.refuseRuns.lpSet .parked := by
  rw [Core.parkCmd, if_neg (by simp [hr]), if_neg (by simp [hl])]

theorem Core.unparkCmd_parked (hr : c.running = true) (hl : c.boot.lp = .parked) (ht : c.health.thot = false) :
    c.unparkCmd = c.lpSet .run := by
  rw [Core.unparkCmd, if_neg (by simp [hr]), if_neg (by simp [hl, ht])]

theorem Core.standbyCmd_idle (hr : c.running = true) (hl : c.boot.lp = .run ∨ c.boot.lp = .parked) (hg : c.gs.glob ≠ .test)
    (hc : c.gs.confDue = none) (hm : c.maint.run = []) : c.standbyCmd = c.refuseRuns.lpSet .standby := by
  rw [Core.standbyCmd, if_neg (by simp [hr]), if_neg (by rcases hl with h | h <;> simp [h]), if_neg (by simp [hg, hc]),
    if_neg (by simp [hm])]

theorem Core.wakeCmd_standby (hr : c.running = true) (hl : c.boot.lp = .standby) (hi : c.iso 5 4 = false)
    (hd : (c.admitAct { act := .wake, port := port }).2 = true) :
    c.wakeCmd port =
      let d := c.admitAct { act := .wake, port := port }
      { d.1 with boot := { d.1.boot with lp := .waking } } := by
  rw [Core.wakeCmd, if_neg (by simp [hr]), if_neg (by simp [hl]), if_neg (by simp [hi])]
  exact if_pos hd

/-- A flash operation starts at the addressed sector or page. -/
def Core.flashStart (x : Core) (erase : Bool) (a port : Nat) : Core :=
  { x with boot := { x.boot with qop := some (erase, a), qport := port } }

/-- The update that a port runs holds the flash's lock. -/
def Core.ownsFlash (c : Core) (port : Nat) : Bool := c.maint.run.any fun x => x.act == .qspiUpdate && x.port = port

/-- The flash takes a command: it is in service, the sector is not of the booted copy, and no operation runs. -/
def Core.flashFree (c : Core) : Prop :=
  c.iso 5 4 = false ∧ (c.boot.st = .bootfail ∨ inCopy c.boot.copyB c.boot.qspiAddr = false) ∧ c.boot.qop = none

theorem Core.flashCmd_free (h : c.flashFree) :
    c.flashCmd port erase =
      if c.ownsFlash port = true then c.flashStart erase c.boot.qspiAddr port
      else
        let d := c.admitAct { act := .flash, port := port }
        if d.2 = true then d.1.flashStart erase c.boot.qspiAddr port else d.1.bootRefuse 6 false := by
  obtain ⟨hi, hs, hq⟩ := h
  have hsector : ¬(c.boot.st != .bootfail && inCopy c.boot.copyB c.boot.qspiAddr) = true := by
    rcases hs with h | h <;> simp [h]
  unfold Core.flashCmd
  dsimp only
  rw [if_neg (by simp [hi]), if_neg hsector, if_neg (by simp [hq])]
  rfl

theorem Core.flashCmd_own (h : c.flashFree) (ho : c.ownsFlash port = true) :
    c.flashCmd port erase = c.flashStart erase c.boot.qspiAddr port := (Core.flashCmd_free h).trans (if_pos ho)

theorem Core.flashCmd_locked (h : c.flashFree) (ho : c.ownsFlash port = false)
    (hd : (c.admitAct { act := .flash, port := port }).2 = true) :
    c.flashCmd port erase = (c.admitAct { act := .flash, port := port }).1.flashStart erase c.boot.qspiAddr port :=
  (Core.flashCmd_free h).trans ((if_neg (by simp [ho])).trans (if_pos hd))

end

/-- A flash command, by the code that its instruction writes. -/
theorem run_flashCmd {s : State} {p : HostPort} {w : W32} {i : Instr} {erase : Bool}
    (hi : exec i s = s.to (s.chip.run fun x => x.guardCmd p.path (pgBoot + 0x40) w))
    (hw : (s.paired p pgBoot).bootCmd w p.path.code = (s.paired p pgBoot).flashCmd p.path.code erase)
    (h : s.Pair p (pgBoot + 0x40) w) : exec i s = .next (s.after ((s.paired p pgBoot).flashCmd p.path.code erase)) := by
  rw [hi, run_bootCmd h, hw]

/-- Settles O29: each command by its code and its checks. -/
theorem bootCommands : Obligations.BootCommands := by
  intro s p
  refine ⟨fun h hd => ?hostReset, fun h hr hl => ?park, fun h hr hl ht => ?unpark, fun h hr hl hg hc hm => ?standby,
    fun h hr hl hi hd => ?wake, fun h hi hs hq => ⟨fun ho => ?eraseOwn, fun ho hd => ?eraseLocked⟩,
    fun h hi hs hq => ⟨fun ho => ?progOwn, fun ho hd => ?progLocked⟩⟩
  case hostReset =>
    refine (run_bootCmd h).trans ?_
    rw [← Core.hostResetCmd_none hd]
    rfl
  case park =>
    refine (run_bootCmd h).trans ?_
    change Host.Outcome.next (s.after (Core.parkCmd _)) = _
    rw [Core.parkCmd_run ((Core.running_iff _).mpr hr) hl]
    rfl
  case unpark =>
    refine (run_bootCmd h).trans ?_
    change Host.Outcome.next (s.after (Core.unparkCmd _)) = _
    rw [Core.unparkCmd_parked ((Core.running_iff _).mpr hr) hl ht]
    rfl
  case standby =>
    refine (run_bootCmd h).trans ?_
    change Host.Outcome.next (s.after (Core.standbyCmd _)) = _
    rw [Core.standbyCmd_idle ((Core.running_iff _).mpr hr) hl hg hc hm]
    rfl
  case wake =>
    refine (run_bootCmd h).trans ?_
    change Host.Outcome.next (s.after (Core.wakeCmd _ _)) = _
    rw [Core.wakeCmd_standby ((Core.running_iff _).mpr hr) hl hi hd]
  case eraseOwn => exact (run_flashCmd rfl rfl h).trans (by rw [Core.flashCmd_own ⟨hi, hs, hq⟩ ho]; rfl)
  case eraseLocked => exact (run_flashCmd rfl rfl h).trans (by rw [Core.flashCmd_locked ⟨hi, hs, hq⟩ ho hd]; rfl)
  case progOwn => exact (run_flashCmd rfl rfl h).trans (by rw [Core.flashCmd_own ⟨hi, hs, hq⟩ ho]; rfl)
  case progLocked => exact (run_flashCmd rfl rfl h).trans (by rw [Core.flashCmd_locked ⟨hi, hs, hq⟩ ho hd]; rfl)

end Sys2Proof.Machine
end

section
/-! Lining, pending writes and maintenance commands (R591, R595, R602, R624 to R626). -/

namespace Sys2Proof.Machine

section
variable {c : Core}

theorem Core.linStoreCmd_stored (hk : c.ledgerOk = true) (hb : linOk (c.image.lin.getD []) c.led.linTgt c.led.linVal = true)
    {q : List PendWrite}
    (hq : pendPut c.led.led.pending (.lin { tgt := c.led.linTgt, val := c.led.linVal, inst := c.boot.head.inst }) = some q) :
    c.linStoreCmd = (c.updLed fun l => { l with pending := q }).raise [ev0 EvNo.bootWriteStored] := by
  have hl : c.led.linStore (c.image.lin.getD []) c.boot.head.inst = ({ c.led with led := { c.led.led with pending := q } }, true, false) := by
    rw [LedgerState.linStore, if_pos hb, hq]
  rw [Core.linStoreCmd, if_neg (by simp [hk]), hl]
  dsimp only
  rw [if_pos rfl, Bool.or_false]
  rfl

theorem Core.linDeleteCmd_ok (hk : c.ledgerOk = true) : c.linDeleteCmd = { c with led := c.led.linDelete } := if_pos hk

theorem Core.linClearCmd_ok (hk : c.ledgerOk = true) : c.linClearCmd = { c with led := c.led.linClear } := if_pos hk

theorem Core.pendClearCmd_ok (hk : c.ledgerOk = true) : c.pendClearCmd = { c with led := c.led.pendClear } := if_pos hk

/-- RETEST of a block starts. -/
theorem Core.retestCmd_starts {port : Nat} (hr : c.retestReason (fld c.maint.target 10 8) (fld c.maint.target 5 0) = 0)
    (hd : (c.admitAct { act := .retest, port := port, region := fld c.maint.target 10 8, block := fld c.maint.target 5 0 }).2 = true) :
    c.retestCmd port =
      let d := c.admitAct { act := .retest, port := port, region := fld c.maint.target 10 8, block := fld c.maint.target 5 0 }
      { d.1 with maint := { d.1.maint with
        rstat := 1, count := d.1.maint.count.upd (blkKey (fld c.maint.target 10 8) (fld c.maint.target 5 0)) 0 (· + 1) } } := by
  unfold Core.retestCmd
  dsimp only
  rw [if_neg (by simp [hr]), if_pos hd]

end

/-- Settles O30: each command by its code and its checks. -/
theorem ledgerAndMaintenanceCommands : Obligations.LedgerAndMaintenanceCommands := by
  intro s p
  refine ⟨fun q h hk hb hq => ?linStore, fun h hk => ?linDelete, fun h hk => ?linClear, fun h hk => ?pendClear, fun h => ?qspiUpdate,
    fun h => ?frExport, fun h => ?retest, fun h => ?maintEnd⟩
  case linStore =>
    refine (run_ledCmd h).trans ?_
    change Host.Outcome.next (s.after (Core.linStoreCmd _)) = _
    rw [Core.linStoreCmd_stored hk hb hq]
    rfl
  case linDelete =>
    refine (run_ledCmd h).trans ?_
    change Host.Outcome.next (s.after (Core.linDeleteCmd _)) = _
    rw [Core.linDeleteCmd_ok hk]
    rfl
  case linClear =>
    refine (run_ledCmd h).trans ?_
    change Host.Outcome.next (s.after (Core.linClearCmd _)) = _
    rw [Core.linClearCmd_ok hk]
    rfl
  case pendClear =>
    refine (run_ledCmd h).trans ?_
    change Host.Outcome.next (s.after (Core.pendClearCmd _)) = _
    rw [Core.pendClearCmd_ok hk]
    rfl
  case qspiUpdate => exact run_maintCmd h
  case frExport => exact run_maintCmd h
  case retest =>
    intro r b d hr hd
    refine (run_maintCmd h).trans ?_
    change Host.Outcome.next (s.after (Core.retestCmd _ _)) = _
    rw [Core.retestCmd_starts hr hd]
  case maintEnd => exact run_maintCmd h

end Sys2Proof.Machine
end

section
/-! A register write acts by its decoded offset (R547 to R554). -/

namespace Sys2Proof.Machine

/-- The page of an offset. -/
def pageOf (a : Nat) : Nat := a - a % 0x1000

section
variable {c : Core} {u : EventUnit} {p : Path} {addr : Nat} {w : W32}

/-- A write that reaches its block, by its decoded offset. -/
theorem Chip.regWrite_reached (h : c.alive (pageOf (decodeAddr addr)) = true) :
    Chip.regWrite { core := c, ev := u } p addr w =
      let x : Chip := { core := c, ev := u }
      let a := decodeAddr addr
      let o := a % 0x1000
      let page := pageOf a
      if guarded a then x.onCore fun c => c.guardValue p a w
      else if guardTwin a then x.guardComplement p (a - 0x80) w
      else if a = pgEv + 0x20 then x.vectorAck w
      else if page = pgEv ∧ 0x040 ≤ o ∧ o < 0x060 then x.pendClear ((o - 0x040) / 4) w
      else if page = pgEv ∧ 0x400 ≤ o ∧ o < 0x800 then x.setRoute ((o - 0x400) / 4) w
      else if page = pgHost ∧ 0x800 ≤ o ∧ o < 0x900 then x.msixWrite p ((o - 0x800) / 4) w
      else if postedReg a then x.onCore fun c => c.post' p a w
      else match selMask a with
        | some m => x.onCore fun c => c.setSel p a (w &&& m)
        | none => x.onCore fun c => c.plainWrite p a w := by
  refine if_neg ?_
  rw [show (decodeAddr addr - decodeAddr addr % 0x1000) = pageOf (decodeAddr addr) from rfl, h]
  decide

/-- A write to the parts, on another page than those of EVENTS and HOSTIF. -/
theorem Chip.regWrite_parts (h : c.alive (pageOf (decodeAddr addr)) = true) (hg : (guarded (decodeAddr addr) || guardTwin (decodeAddr addr)) = false)
    (he : pageOf (decodeAddr addr) ≠ pgEv) (hh : pageOf (decodeAddr addr) ≠ pgHost) :
    Chip.regWrite { core := c, ev := u } p addr w =
      { core := if postedReg (decodeAddr addr) then c.post' p (decodeAddr addr) w
          else match selMask (decodeAddr addr) with
            | some m => c.setSel p (decodeAddr addr) (w &&& m)
            | none => c.plainWrite p (decodeAddr addr) w
        ev := u } := by
  obtain ⟨hg, ht⟩ := Bool.or_eq_false_iff.mp hg
  have hack : decodeAddr addr ≠ pgEv + 0x20 := fun h => he (by rw [h]; rfl)
  rw [Chip.regWrite_reached h]
  dsimp only
  rw [if_neg (by simp [hg]), if_neg (by simp [ht]), if_neg hack, if_neg (fun h => he h.1), if_neg (fun h => he h.1),
    if_neg (fun h => hh h.1)]
  by_cases hp : postedReg (decodeAddr addr) = true
  · rw [if_pos hp, if_pos hp]; rfl
  · rw [if_neg hp, if_neg hp]
    cases selMask (decodeAddr addr) with
    | some m => rfl
    | none => rfl

/-- An offset that decodes to itself, on a page of its own, and is of no guarded pair. -/
def OwnOffset (a page : Nat) : Prop := decodeAddr a = a ∧ pageOf a = page ∧ guarded a = false ∧ guardTwin a = false

/-- The guarded registers lie in the lower half of their pages, and so do their complements. -/
theorem guarded_low {a : Nat} (h : guarded a = true) : a % 0x1000 ≤ 0x180 ∧ 0x40 ≤ a % 0x1000 := by
  simp only [guarded, Bool.or_eq_true, decide_eq_true_eq, pgBoot, pgHealth, pgLed, pgEv, pgMaint, pgSeg, pgTime, pgDisp, pgEng, pgCmt,
    pgProf, pgCuff, pgGs, pgVis] at h
  omega

theorem ownOffset_of {page o : Nat} (hn : narrowPage page = false) (hp : page % 0x1000 = 0) (h : page < 0x100000) (ho : o < 0x1000)
    (h4 : o % 4 = 0) (hlow : o < 0x40 ∨ 0x200 < o) : OwnOffset (page + o) page := by
  have hpage : pageOf (page + o) = page := by unfold pageOf; omega
  refine ⟨?_, hpage, Bool.eq_false_iff.mpr fun hg => ?_, Bool.eq_false_iff.mpr fun ht => ?_⟩
  · have ha' : (page + o) % 0x100000 / 4 * 4 = page + o := by omega
    unfold decodeAddr
    dsimp only
    rw [ha', if_neg]
    rw [show page + o - (page + o) % 0x1000 = page from hpage, hn]
    decide
  · have := guarded_low hg
    omega
  · simp only [guardTwin, Bool.and_eq_true, decide_eq_true_eq] at ht
    have := guarded_low ht.2
    omega

/-- EVENTS_PEND_k lies between the guarded EVENTS_CMD's registers. -/
theorem pendOffset : ∀ k < 8, OwnOffset (pgEv + 0x40 + 4 * k) pgEv := by
  intro k hk
  interval_cases k
  all_goals exact ⟨by decide, by decide, by decide, by decide⟩

theorem routeOffset {n : Nat} (h : n < 256) : OwnOffset (pgEv + (0x400 + 4 * n)) pgEv :=
  ownOffset_of (by decide) (by decide) (by decide) (by omega) (by omega) (.inr (by omega))

theorem msixOffset {n : Nat} (h : n < 64) : OwnOffset (pgHost + (0x800 + 4 * n)) pgHost :=
  ownOffset_of (by decide) (by decide) (by decide) (by omega) (by omega) (.inr (by omega))

/-- A write at an offset of EVENTS or HOSTIF that is of no guarded pair. -/
theorem Chip.regWrite_unit {a page : Nat} (ho : OwnOffset a page) (h : c.alive page = true) (hack : a ≠ pgEv + 0x20) :
    Chip.regWrite { core := c, ev := u } p a w =
      let x : Chip := { core := c, ev := u }
      let o := a % 0x1000
      if page = pgEv ∧ 0x040 ≤ o ∧ o < 0x060 then x.pendClear ((o - 0x040) / 4) w
      else if page = pgEv ∧ 0x400 ≤ o ∧ o < 0x800 then x.setRoute ((o - 0x400) / 4) w
      else if page = pgHost ∧ 0x800 ≤ o ∧ o < 0x900 then x.msixWrite p ((o - 0x800) / 4) w
      else if postedReg a then x.onCore fun c => c.post' p a w
      else match selMask a with
        | some m => x.onCore fun c => c.setSel p a (w &&& m)
        | none => x.onCore fun c => c.plainWrite p a w := by
  obtain ⟨hd, hp, hg, ht⟩ := ho
  rw [Chip.regWrite_reached (by rw [hd, hp]; exact h)]
  dsimp only
  rw [hd, hp, if_neg (by simp [hg]), if_neg (by simp [ht]), if_neg hack]

theorem Chip.regWrite_route (h : c.alive pgEv = true) {n : Nat} (hn : n < 256) :
    Chip.regWrite { core := c, ev := u } p (pgEv + (0x400 + 4 * n)) w = ({ core := c, ev := u } : Chip).setRoute n w := by
  have ho : (pgEv + (0x400 + 4 * n)) % 0x1000 = 0x400 + 4 * n := by unfold pgEv; omega
  rw [Chip.regWrite_unit (routeOffset hn) h (by unfold pgEv; omega)]
  dsimp only
  rw [ho, if_neg (by omega), if_pos ⟨rfl, by omega, by omega⟩]
  congr 1
  omega

theorem Chip.regWrite_pend (h : c.alive pgEv = true) {k : Nat} (hk : k < 8) :
    Chip.regWrite { core := c, ev := u } p (pgEv + 0x40 + 4 * k) w = ({ core := c, ev := u } : Chip).pendClear k w := by
  have ho : (pgEv + 0x40 + 4 * k) % 0x1000 = 0x40 + 4 * k := by unfold pgEv; omega
  rw [Chip.regWrite_unit (pendOffset k hk) h (by unfold pgEv; omega)]
  dsimp only
  rw [ho, if_pos ⟨rfl, by omega, by omega⟩]
  congr 1
  omega

theorem Chip.regWrite_msix (h : c.alive pgHost = true) {n : Nat} (hn : n < 64) :
    Chip.regWrite { core := c, ev := u } p (pgHost + (0x800 + 4 * n)) w = ({ core := c, ev := u } : Chip).msixWrite p n w := by
  have ho : (pgHost + (0x800 + 4 * n)) % 0x1000 = 0x800 + 4 * n := by unfold pgHost; omega
  rw [Chip.regWrite_unit (msixOffset hn) h (by unfold pgEv pgHost; omega)]
  dsimp only
  rw [ho, if_neg (by decide +revert), if_neg (by decide +revert), if_pos ⟨rfl, by omega, by omega⟩]
  congr 1
  omega

end

/-! ### From a host port -/

section
variable {s : State} {p : HostPort} {addr : Nat} {w : W32}

/-- A write from a port that is up and not read-only is that of the register. -/
theorem run_regWrite (h1 : s.base.pathUp p.path = true) (h2 : s.base.readOnly p.path = false) :
    s.to (s.chip.run fun x => x.hostWrite p.path false addr w) =
      let x := Chip.regWrite { core := s.base, ev := s.evBase } p.path addr w
      .next (s.afterBoth x.core x.ev) := by
  have hx : Chip.hostWrite { core := s.base, ev := s.evBase } p.path false addr w =
      Chip.regWrite { core := s.base, ev := s.evBase } p.path addr w := by
    unfold Chip.hostWrite
    dsimp only
    rw [if_neg (by simp [h1]), if_neg (by simp [h2])]
    rfl
  rw [run_both, hx]

/-- A write from a port to a register of the parts. -/
theorem run_regWrite_parts (h : s.Writes p (pageOf (decodeAddr addr)))
    (hg : (guarded (decodeAddr addr) || guardTwin (decodeAddr addr)) = false)
    (he : pageOf (decodeAddr addr) ≠ pgEv) (hh : pageOf (decodeAddr addr) ≠ pgHost) :
    s.to (s.chip.run fun x => x.hostWrite p.path false addr w) =
      .next (s.after (if postedReg (decodeAddr addr) then s.base.post' p.path (decodeAddr addr) w
          else match selMask (decodeAddr addr) with
            | some m => s.base.setSel p.path (decodeAddr addr) (w &&& m)
            | none => s.base.plainWrite p.path (decodeAddr addr) w)) := by
  obtain ⟨h1, h2, h3⟩ := h
  rw [run_regWrite h1 h2, Chip.regWrite_parts h3 hg he hh]
  rfl

end

/-- Settles O31: what reaches its block acts by its decoded offset. -/
theorem registerWrites : Obligations.RegisterWrites := by
  intro s p addr w c a page
  refine ⟨fun h => ?down, fun h1 h2 => ?readOnly, fun h hp hg he hh => ?posted, fun m h hm hg he hh => ?sel, fun h hg hm he hh => ?plain,
    fun h n hn => ?route, fun h k hk => ?pend, fun h n hn => ?msix, fun b hb => ⟨fun h => ?notPosted, fun q h => ?done⟩⟩
  case down =>
    have hx : Chip.hostWrite { core := s.base, ev := s.evBase } p.path false addr w = { core := s.base, ev := s.evBase } := if_pos (by rw [h]; rfl)
    exact (run_both s _).trans (by rw [hx]; rfl)
  case readOnly =>
    have hx : Chip.hostWrite { core := s.base, ev := s.evBase } p.path false addr w = { core := s.base.spiFrameErr, ev := s.evBase } :=
      (if_neg (by rw [h1]; decide)).trans (if_pos h2)
    exact (run_both s _).trans (by rw [hx]; rfl)
  case posted =>
    refine (run_regWrite_parts h hg he hh).trans ?_
    rw [if_pos hp]
    rfl
  case sel =>
    obtain ⟨hg, hp⟩ := Bool.or_eq_false_iff.mp hg
    refine (run_regWrite_parts h hg he hh).trans ?_
    rw [if_neg (by simpa using hp), hm]
  case plain =>
    obtain ⟨hg, hp⟩ := Bool.or_eq_false_iff.mp hg
    refine (run_regWrite_parts h hg he hh).trans ?_
    rw [if_neg (by simpa using hp), hm]
  case route =>
    obtain ⟨h1, h2, h3⟩ := h
    refine (run_regWrite h1 h2).trans ?_
    rw [Nat.add_assoc, Chip.regWrite_route h3 hn]
    rfl
  case pend =>
    obtain ⟨h1, h2, h3⟩ := h
    refine (run_regWrite h1 h2).trans ?_
    rw [Chip.regWrite_pend h3 hk, Chip.pendClear]
    by_cases hi : s.base.iso 5 2 = true
    · rw [if_pos hi, if_pos hi]
    · rw [if_neg hi, if_neg hi]
  case msix =>
    obtain ⟨h1, h2, h3⟩ := h
    refine (run_regWrite h1 h2).trans ?_
    rw [Nat.add_assoc, Chip.regWrite_msix h3 hn]
    cases p
    · rfl
    · rfl
  case notPosted => exact next_core (f := fun c => c.postedDone b.page) (by rw [Core.postedDone, h])
  case done => exact next_core (f := fun c => c.postedDone b.page) (by rw [Core.postedDone, h] <;> rfl)

end Sys2Proof.Machine
end

section
/-! The value and the complement of a guarded pair (R553). -/

namespace Sys2Proof.Machine

section
variable {c : Core} {p : Path} {g : Guarded} {a : Nat} {w : W32}

theorem Core.guardExpire_none (h : c.host.guard.look? p.key = none) : c.guardExpire p = c := by rw [Core.guardExpire, h]

theorem Core.guardExpire_open (h : c.host.guard.look? p.key = some g) (hl : ¬(400000 : Int) < rtDiff c.now g.at') : c.guardExpire p = c := by
  rw [Core.guardExpire, h]
  exact if_neg hl

theorem Core.guardExpire_late (h : c.host.guard.look? p.key = some g) (hl : (400000 : Int) < rtDiff c.now g.at') :
    c.guardExpire p = (c.guardDrop p).guardFail p 1 := by
  rw [Core.guardExpire, h]
  exact if_pos hl

theorem Tab.look?_del_self {α : Type} (t : Tab α) (k : Nat) : (t.del k).look? k = none := by
  induction t with
  | nil => rfl
  | cons e t ih =>
    obtain ⟨i, v⟩ := e
    by_cases h : i = k
    · rw [Tab.del, List.filter_cons_of_neg (by simp [h])]
      exact ih
    · rw [Tab.del, List.filter_cons_of_pos (by simp [h]), Tab.look?, if_neg h]
      exact ih

/-- The block of a guarded register takes the pair: it is not a BUSY block of the slow domain. -/
def Core.takesPair (c : Core) (a : Nat) : Prop := slowPage (a - a % 0x1000) = true → c.busy (a - a % 0x1000) = false

theorem Core.takesPair_iff : c.takesPair a ↔ ¬(slowPage (a - a % 0x1000) && c.busy (a - a % 0x1000)) = true := by
  unfold Core.takesPair
  cases slowPage (a - a % 0x1000)
  · simp
  · simp

/-- A value becomes pending at its port. -/
def Core.guardPend (c : Core) (p : Path) (a : Nat) (w : W32) : Core :=
  { c with host := { c.host with guard := c.host.guard.put p.key { addr := a, val := w, at' := c.now } } }

theorem Core.guardValue_eq (h : c.takesPair a) :
    c.guardValue p a w =
      (if ((c.guardExpire p).host.guard.look? p.key).isSome then (c.guardExpire p).guardFail p 4 else c.guardExpire p).guardPend p a w :=
  if_neg (Core.takesPair_iff.mp h)

theorem Core.guardValue_first (h : c.takesPair a) (hn : c.host.guard.look? p.key = none) : c.guardValue p a w = c.guardPend p a w := by
  rw [Core.guardValue_eq h, Core.guardExpire_none hn, hn]
  rfl

theorem Core.guardValue_again (h : c.takesPair a) (hg : c.host.guard.look? p.key = some g) (hl : ¬(400000 : Int) < rtDiff c.now g.at') :
    c.guardValue p a w = (c.guardFail p 4).guardPend p a w := by
  rw [Core.guardValue_eq h, Core.guardExpire_open hg hl, hg]
  rfl

theorem Core.guardValue_late (h : c.takesPair a) (hg : c.host.guard.look? p.key = some g) (hl : (400000 : Int) < rtDiff c.now g.at') :
    c.guardValue p a w = ((c.guardDrop p).guardFail p 1).guardPend p a w := by
  have hdrop : ((c.guardDrop p).guardFail p 1).host.guard.look? p.key = none := Tab.look?_del_self c.host.guard p.key
  rw [Core.guardValue_eq h, Core.guardExpire_late hg hl, hdrop]
  rfl

/-! ### The complement -/

variable {u : EventUnit} {n : W32}

theorem Chip.guardComplement_none (h : c.takesPair a) (hn : (c.guardExpire p).host.guard.look? p.key = none)
    (hb : (c.guardExpire p).host.posted = c.host.posted) :
    Chip.guardComplement { core := c, ev := u } p a n = { core := (c.guardExpire p).guardFail p 3, ev := u } := by
  have hbusy : ¬(slowPage (a - a % 0x1000) && (c.guardExpire p).busy (a - a % 0x1000)) = true := by
    rw [Core.busy, hb]
    exact Core.takesPair_iff.mp h
  unfold Chip.guardComplement Chip.onCore
  dsimp only
  rw [hn]
  exact if_neg hbusy

theorem Chip.guardComplement_some (h : c.takesPair a) (hg : c.host.guard.look? p.key = some g) (hl : ¬(400000 : Int) < rtDiff c.now g.at') :
    Chip.guardComplement { core := c, ev := u } p a n =
      if (g.addr != a) = true then { core := c.guardFail p 3, ev := u }
      else if n = ~~~g.val then Chip.guardedNow { core := c.guardDrop p, ev := u } p a g.val
      else { core := (c.guardDrop p).guardFail p 2, ev := u } := by
  unfold Chip.guardComplement Chip.onCore
  dsimp only
  rw [Core.guardExpire_open hg hl, hg]
  exact if_neg (Core.takesPair_iff.mp h)

end

/-! ### From a host port -/

section
variable {s : State} {p : HostPort} {a : Nat} {w n : W32}

/-- A value write from a port. -/
theorem run_guardValue (ga : GuardedAt a) (h : s.Writes p (a - a % 0x1000)) {d : Core} (hd : s.base.guardValue p.path a w = d) :
    exec (.guardedValueWrite p a w) s = .next (s.after d) := by
  obtain ⟨h1, h2, h3⟩ := h
  have hx : exec (.guardedValueWrite p a w) s = s.to (s.chip.run fun x => x.hostWrite p.path false a w) := by
    show s.to (s.chip.run fun x => if guarded (decodeAddr a) then x.hostWrite p.path false a w else x) = _
    rw [ga.self, ga.wg]
    rfl
  rw [hx, run_both, hostWrite_value _ _ _ _ _ ga h1 h2 h3, hd]
  rfl

/-- A write of the complement from a port. -/
theorem run_guardComplement (ga : GuardedAt a) (h : s.Writes p (a - a % 0x1000)) {d : Core}
    (hd : Chip.guardComplement { core := s.base, ev := s.evBase } p.path a n = { core := d, ev := s.evBase }) :
    exec (.registerWrite p (a + 0x80) n) s = .next (s.after d) := by
  obtain ⟨h1, h2, h3⟩ := h
  refine (run_both s fun x => x.hostWrite p.path false (a + 0x80) n).trans ?_
  rw [hostWrite_twin _ _ _ _ _ ga h1 h2 h3, hd]
  rfl

end

/-- Settles O32: a value by what is pending at its port, a complement by the value that it meets. -/
theorem guardedPairRules : Obligations.GuardedPairRules := by
  intro s p a w n hg hself htwin htn hpage hw hb c k
  have ga : GuardedAt a := ⟨hself, htwin, hg, htn, hpage⟩
  have ht : s.base.takesPair a := hb
  refine ⟨fun h => ?first, fun g h hl => ?again, fun g h hl => ?late, fun g h hl ha hn => ?otherValue, fun g h hl ha => ?otherOffset,
    fun h => ?noValue, fun g h hl => ?lateTwin, fun g h => ?expiry, fun h => ?noExpiry⟩
  case first => exact run_guardValue ga hw (Core.guardValue_first ht h)
  case again => exact run_guardValue ga hw (Core.guardValue_again ht h hl)
  case late => exact run_guardValue ga hw (Core.guardValue_late ht h hl)
  case otherValue =>
    exact run_guardComplement ga hw ((Chip.guardComplement_some ht h hl).trans ((if_neg (by simp [ha])).trans (if_neg hn)))
  case otherOffset => exact run_guardComplement ga hw ((Chip.guardComplement_some ht h hl).trans (if_pos (by simpa using ha)))
  case noValue =>
    have he := Core.guardExpire_none h
    refine run_guardComplement ga hw ((Chip.guardComplement_none ht (by rw [he]; exact h) (by rw [he])).trans ?_)
    rw [he]
  case lateTwin =>
    have he := Core.guardExpire_late h hl
    refine run_guardComplement ga hw ((Chip.guardComplement_none ht ?_ (by rw [he]; rfl)).trans ?_)
    · rw [he]
      exact Tab.look?_del_self _ _
    · rw [he]
      rfl
  case expiry => exact next_core (f := fun c => c.guardTimeout p.path) (by rw [Core.guardTimeout, h]; rfl)
  case noExpiry => exact next_core (f := fun c => c.guardTimeout p.path) (by rw [Core.guardTimeout, h])

end Sys2Proof.Machine
end

section
/-! Writes with rules of their own (R78, R256, R357 to R359, R522, R541, R554, R559, R566, R595). -/

namespace Sys2Proof.Machine

section
variable {s : State} {p : HostPort} {w : W32} {a page : Nat}

/-- A write at a plain register of the parts. -/
theorem run_plainWrite (h : s.Writes p page) (ho : OwnOffset a page) (he : page ≠ pgEv) (hh : page ≠ pgHost)
    (hp : postedReg a = false) (hs : selMask a = none) :
    s.to (s.chip.run fun x => x.hostWrite p.path false a w) = .next (s.after (s.base.plainWrite p.path a w)) := by
  obtain ⟨hd, hpage, hg, ht⟩ := ho
  have hpg : pageOf (decodeAddr a) = page := by rw [hd, hpage]
  rw [run_regWrite_parts (by rw [hpg]; exact h) (by rw [hd, hg, ht]; rfl) (by rw [hpg]; exact he) (by rw [hpg]; exact hh), hd,
    if_neg (by simp [hp]), hs]

/-! ### The configuration of a channel -/

theorem cuffOffset {n reg : Nat} (hn : n < 16) (hr : reg < 0x80) (h4 : reg % 4 = 0) : OwnOffset (pgCuff + 0x400 + 0x80 * n + reg) pgCuff := by
  have := ownOffset_of (page := pgCuff) (o := 0x400 + 0x80 * n + reg) (by decide) (by decide) (by decide) (by omega) (by omega) (.inr (by omega))
  rwa [← Nat.add_assoc, ← Nat.add_assoc] at this

theorem Core.plainWrite_cuff {c : Core} {q : Path} {n reg : Nat} {m : W32} (hn : n < 16) (hr : reg < 0x80) (hm : cuffMask reg = some m) :
    c.plainWrite q (pgCuff + 0x400 + 0x80 * n + reg) w = c.cuffWrite q n reg (w &&& m) := by
  have ho : (pgCuff + 0x400 + 0x80 * n + reg) % 0x1000 = 0x400 + 0x80 * n + reg := by unfold pgCuff; omega
  have hch : (0x400 + 0x80 * n + reg - 0x400) / 0x80 = n := by omega
  have hreg : (0x400 + 0x80 * n + reg) % 0x80 = reg := by omega
  have hpage : pgCuff + 0x400 + 0x80 * n + reg - (0x400 + 0x80 * n + reg) = pgCuff := by omega
  unfold Core.plainWrite
  dsimp only
  rw [ho, hpage, hch, hreg, hm]
  dsimp only
  iterate 13 rw [if_neg (by simp only [pgCuff, pgBoot, pgHealth, pgTime, pgGs, pgLed, pgMaint, pgSeg, pgPort]; omega)]
  rw [if_pos ⟨rfl, by omega, by omega⟩]

theorem run_cuffWrite {n reg : Nat} {m : W32} (h : s.Writes p pgCuff) (hn : n < 16) (hr : reg < 0x80) (h4 : reg % 4 = 0)
    (hm : cuffMask reg = some m) :
    exec (.cuffCfgWrite p n reg w) s = .next (s.after (s.base.cuffWrite p.path n reg (w &&& m))) := by
  have hp : postedReg (pgCuff + 0x400 + 0x80 * n + reg) = false := by
    simp only [postedReg, pgCuff, pgHealth, pgLed, pgTime, pgGs, pgPort, Bool.or_eq_false_iff, Bool.and_eq_false_iff, decide_eq_false_iff_not]
    omega
  have hs : selMask (pgCuff + 0x400 + 0x80 * n + reg) = none := by
    unfold selMask
    iterate 4 rw [if_neg (by simp only [pgCuff, pgSeg, pgCmt, pgEng, pgDisp, pgProf, pgVis]; omega)]
  exact (run_plainWrite h (cuffOffset hn hr h4) (by decide) (by decide) hp hs).trans (by rw [Core.plainWrite_cuff hn hr hm])

/-- The axes that the channel feeds are in AX_OFF or AX_OPEN. -/
theorem fedBy_closed {c : Core} {n : Nat} :
    ((c.fedBy n).all fun a => (c.ax a).state = .off || (c.ax a).state = .opened) = true ↔
      ∀ x ∈ c.fedBy n, (c.ax x).state = .off ∨ (c.ax x).state = .opened := by
  simp [List.all_eq_true]

theorem Core.cuffWrite_staged {c : Core} {q : Path} {n reg : Nat} (h : ∀ x ∈ c.fedBy n, (c.ax x).state = .off ∨ (c.ax x).state = .opened)
    (hv : cuffValueOk n reg w = true) : c.cuffWrite q n reg w = c.stage q (pgCuff + 0x400 + 0x80 * n + reg) w false := by
  unfold Core.cuffWrite
  dsimp only
  rw [fedBy_closed.mpr h, hv]
  rfl

theorem Core.cuffWrite_refused {c : Core} {q : Path} {n reg x : Nat} (hx : x ∈ c.fedBy n) (h1 : (c.ax x).state ≠ .off)
    (h2 : (c.ax x).state ≠ .opened) :
    c.cuffWrite q n reg w =
      ({ c with cuff := { c.cuff with cfgref := c.cuff.cfgref ||| (1 <<< n) } } : Core).raise [evChan EvNo.fbCfgRefused n] := by
  have hno : ((c.fedBy n).all fun a => (c.ax a).state = .off || (c.ax a).state = .opened) = false :=
    Bool.eq_false_iff.mpr fun h => (fedBy_closed.mp h x hx).elim h1 h2
  unfold Core.cuffWrite
  dsimp only
  rw [hno]
  rfl

/-! ### The mirror -/

/-- A write of BAR2 from a port to a running chip that is not in STANDBY, while the mirror's block is in service. -/
theorem run_bar2 {a off : Nat} (h : s.Writes p 0) (hsb : s.base.standby = false) (hi : s.base.iso 5 3 = false) (ha : a < 256)
    (ho : off < 0x1000) (h4 : off % 4 = 0) :
    s.to (s.chip.run fun x => x.hostWrite p.path true (0x10000 * a + off) w) = .next (s.after
      (if off < 0x800 then s.base.wordWrite p.path a off w else s.base.cfgWrite p.path a off w)) := by
  obtain ⟨h1, h2, h3⟩ := h
  have hrun : s.base.running = true := by
    simp only [Core.alive, Bool.and_eq_true, Bool.or_eq_true] at h3
    exact h3.1.resolve_right (by decide)
  have hk : (0x10000 * a + off) % 0x1000000 / 4 * 4 = 0x10000 * a + off := by omega
  have haxis : (0x10000 * a + off) / 0x10000 = a := by omega
  have hoff : (0x10000 * a + off) % 0x10000 = off := by omega
  have hb : s.base.bar2Write p.path (0x10000 * a + off) w =
      if off < 0x800 then s.base.wordWrite p.path a off w else s.base.cfgWrite p.path a off w := by
    unfold Core.bar2Write
    dsimp only
    rw [hk, haxis, hoff, if_neg (by simp [hrun]), if_neg (by simp [hsb]), if_neg (by simp [hi])]
    split
    · rfl
    · rfl
  have hx : Chip.hostWrite { core := s.base, ev := s.evBase } p.path true (0x10000 * a + off) w =
      { core := s.base.bar2Write p.path (0x10000 * a + off) w, ev := s.evBase } :=
    ((if_neg (by simp [h1])).trans (if_neg (by simp [h2]))).trans (if_pos rfl)
  rw [run_both, hx, hb]
  rfl

theorem Core.cfgWrite_staged {c : Core} {q : Path} {a off : Nat} (h : c.cfgReason a off w = 0) :
    c.cfgWrite q a off w = { (c.stage q (bar2Key + a * 0x10000 + off) w false) with eng := { c.eng with cfgImg := false } } := by
  unfold Core.cfgWrite
  dsimp only
  rw [h]
  rfl

theorem Core.cfgWrite_refused {c : Core} {q : Path} {a off : Nat} (h : c.cfgReason a off w ≠ 0) :
    c.cfgWrite q a off w = c.refuseCfg q a off (c.cfgReason a off w) := if_pos (by simpa using h)

section
variable {c : Core} {q : Path}

/-- A per-cycle word that the host may write at any time, or while the axis is in mode HOST. -/
theorem Core.wordReason_free (h : c.hasAx a = true) {off : Nat} (ho : off = oTqIn ∨ off = oCrvHost) : c.wordReason a off = 0 :=
  (if_neg (by simp [h])).trans (if_pos (by simpa using ho))

theorem Core.wordReason_host (h : c.hasAx a = true) (hm : (c.pa a).mode = .host) {off : Nat} (ho : off = oPin ∨ off = oPin + 4 ∨ off = oNin) :
    c.wordReason a off = 0 := by
  unfold Core.wordReason
  rw [if_neg (by simp [h])]
  split
  · rfl
  · exact if_pos (by rcases ho with rfl | rfl | rfl <;> simp [hm])

theorem Core.wordReason_other (hm : (c.pa a).mode ≠ .host) : c.wordReason a oNin = 2 := by
  unfold Core.wordReason
  split
  · rfl
  · rw [if_neg (by decide), if_neg (by simp [hm])]

theorem Core.wordWrite_staged {off : Nat} (h : c.wordReason a off = 0) (h1 : off ≠ oPin) (h2 : off ≠ oPin + 4) :
    c.wordWrite q a off w = c.stage q (bar2Key + (a * 0x10000 + off)) w false := by
  unfold Core.wordWrite
  dsimp only
  rw [h, if_neg (by decide), if_neg h1, if_neg h2]

theorem Core.wordWrite_low (h : c.wordReason a oPin = 0) :
    c.wordWrite q a oPin w = { c with host := { c.host with low := c.host.low.put (q.key * 0x10000000 + (a * 0x10000 + oPin)) w } } := by
  unfold Core.wordWrite
  dsimp only
  rw [h, if_neg (by decide), if_pos rfl]

theorem Core.wordWrite_high (h : c.wordReason a (oPin + 4) = 0) :
    c.wordWrite q a (oPin + 4) w =
      let key := q.key * 0x10000000 + (a * 0x10000 + oPin)
      let lo := match c.host.low.look? key with | some v => v | none => c.word a oPin
      { c with host := { c.host with
        low := c.host.low.del key
        stage := c.host.stage.put (bar2Key + (a * 0x10000 + oPin)) { val := lo, path := q, hi := some w, at' := c.time.now } } } := by
  have hk : a * 0x10000 + (oPin + 4) - 4 = a * 0x10000 + oPin := by omega
  unfold Core.wordWrite
  dsimp only
  rw [h, if_neg (by decide), if_neg (by decide), if_pos rfl, hk] <;> rfl

theorem Core.wordWrite_refused {off : Nat} (h : c.wordReason a off = 2) : c.wordWrite q a off w = c.refuseCfg q a off 2 := by
  unfold Core.wordWrite
  dsimp only
  rw [h]
  rfl

theorem Core.bootClassWrite_stored {addr : Nat} {l : List PendWrite} (hi : c.iso 5 5 = false)
    (h : pendPut c.led.led.pending (.reg addr w) = some l) :
    c.bootClassWrite addr w = (c.updLed fun d => { d with pending := l }).raise [ev0 EvNo.bootWriteStored] := by
  rw [Core.bootClassWrite, Core.ledgerOk, hi, h]
  rfl

theorem Core.bootClassWrite_full {addr : Nat} (hi : c.iso 5 5 = false) (h : pendPut c.led.led.pending (.reg addr w) = none) :
    c.bootClassWrite addr w = { c with boot := { c.boot with pendFull := true } } := by
  rw [Core.bootClassWrite, Core.ledgerOk, hi, h]
  rfl

end

end

/-- Settles O33, register by register. -/
theorem plainWrites : Obligations.PlainWrites := by
  intro s p w n a off reg hn ha c st cw
  refine ⟨fun h hsb => ?view, fun m h hr h4 hm hx hv => ?staged, fun m x h hr h4 hm hx h1 h2 => ?refused,
    fun h hsb hi hl hu h4 => ⟨fun hr => ?cfg, fun hr => ?cfgRefused⟩,
    fun h hsb hi hax => ⟨?torque, ?curve, fun hm => ⟨?speed, ?low, ?high⟩, fun hm => ?notHost⟩,
    fun h => ?freeLow, fun h => ?freeHigh, fun h hi => ?ack, fun h hi l hl => ?stored, fun h hi hl => ?full, ?sums⟩
  case view =>
    refine (run_plainWrite (page := 0) h ⟨by decide, by decide, by decide, by decide⟩ (by decide) (by decide) (by decide) (by decide)).trans ?_
    have hv : s.base.plainWrite p.path 0x200 w = s.base.viewOpen p.path w := rfl
    have hs : s.base.standby = false := hsb
    rw [hv]
    cases p <;> simp only [HostPort.path, Core.viewOpen, hs] <;> rfl
  case staged => rw [run_cuffWrite h hn hr h4 hm, Core.cuffWrite_staged hx hv]
  case refused => rw [run_cuffWrite h hn hr h4 hm, Core.cuffWrite_refused hx h1 h2]
  case cfg => exact (run_bar2 h hsb hi ha hu h4).trans (by rw [if_neg (by omega), Core.cfgWrite_staged hr])
  case cfgRefused => exact (run_bar2 h hsb hi ha hu h4).trans (by rw [if_neg (by omega), Core.cfgWrite_refused hr])
  case torque =>
    exact (run_bar2 h hsb hi ha (by decide) (by decide)).trans
      (by rw [if_pos (by decide), Core.wordWrite_staged (Core.wordReason_free hax (.inl rfl)) (by decide) (by decide)])
  case curve =>
    exact (run_bar2 h hsb hi ha (by decide) (by decide)).trans
      (by rw [if_pos (by decide), Core.wordWrite_staged (Core.wordReason_free hax (.inr rfl)) (by decide) (by decide)])
  case speed =>
    exact (run_bar2 h hsb hi ha (by decide) (by decide)).trans
      (by rw [if_pos (by decide), Core.wordWrite_staged (Core.wordReason_host hax hm (.inr (.inr rfl))) (by decide) (by decide)])
  case low =>
    exact (run_bar2 h hsb hi ha (by decide) (by decide)).trans
      (by rw [if_pos (by decide), Core.wordWrite_low (Core.wordReason_host hax hm (.inl rfl))])
  case high =>
    exact (run_bar2 h hsb hi ha (by decide) (by decide)).trans
      (by rw [if_pos (by decide), Core.wordWrite_high (Core.wordReason_host hax hm (.inr (.inl rfl)))] <;> rfl)
  case notHost =>
    exact (run_bar2 h hsb hi ha (by decide) (by decide)).trans
      (by rw [if_pos (by decide), Core.wordWrite_refused (Core.wordReason_other hm)])
  case freeLow =>
    exact run_plainWrite h ⟨by decide, by decide, by decide, by decide⟩ (by decide) (by decide) (by decide) (by decide)
  case freeHigh =>
    exact run_plainWrite h ⟨by decide, by decide, by decide, by decide⟩ (by decide) (by decide) (by decide) (by decide)
  case ack =>
    obtain ⟨h1, h2, h3⟩ := h
    refine (run_regWrite h1 h2).trans ?_
    rw [Chip.regWrite_reached h3]
    dsimp only
    rw [if_neg (by decide), if_neg (by decide), if_pos (by decide), Chip.vectorAck, if_neg (by simpa using hi)]
  case stored =>
    refine (run_plainWrite h ⟨by decide, by decide, by decide, by decide⟩ (by decide) (by decide) (by decide) (by decide)).trans ?_
    exact congrArg (fun d => Host.Outcome.next (s.after d)) (Core.bootClassWrite_stored hi hl)
  case full =>
    refine (run_plainWrite h ⟨by decide, by decide, by decide, by decide⟩ (by decide) (by decide) (by decide) (by decide)).trans ?_
    exact congrArg (fun d => Host.Outcome.next (s.after d)) (Core.bootClassWrite_full hi hl)
  case sums => exact next_core (f := fun c => c.tableSums) rfl

end Sys2Proof.Machine
end

section
/-! The reads that change something: pops and data registers (R565, R604, R606). -/

namespace Sys2Proof.Machine

section
variable {s : State} {p : HostPort} {w : W32} {a page : Nat}

/-- A read from a port that is up returns its word on that port. -/
theorem run_hostRead {b : Bool} (hu : s.base.pathUp p.path = true) :
    s.to (s.chip.run fun x => x.hostRead p.path b a) =
      let r := Chip.readWord { core := s.base, ev := s.evBase } p.path b a
      .next (s.afterBoth (r.1.core.out (.data p.path r.2)) r.1.ev) := by
  have hx : Chip.hostRead { core := s.base, ev := s.evBase } p.path b a =
      let r := Chip.readWord { core := s.base, ev := s.evBase } p.path b a
      { core := r.1.core.out (.data p.path r.2), ev := r.1.ev } := if_neg (by simp [hu])
  rw [run_both, hx]

/-- A read of a register of the parts: its value, and what the read changes. -/
theorem run_read {v : Option W32} {d : Core} (hu : s.base.pathUp p.path = true)
    (hv : Chip.rd { core := s.base, ev := s.evBase } p.path a = v)
    (he : Chip.readEffect { core := (s.base.value v).1, ev := s.evBase } p.path a = { core := d, ev := s.evBase }) :
    s.to (s.chip.run fun x => x.hostRead p.path false a) = .next (s.readOut p d (s.base.value v).2) := by
  have hr : Chip.readWord { core := s.base, ev := s.evBase } p.path false a = ({ core := d, ev := s.evBase }, (s.base.value v).2) := by
    rw [← he, ← hv]
    rfl
  rw [run_hostRead hu, hr]
  rfl

section
variable {c : Core} {u : EventUnit} {q : Path}

/-- A read that its block answers, of an offset that is of no guarded pair. -/
theorem Chip.rd_own (ho : OwnOffset a page) (h : c.alive page = true) :
    Chip.rd { core := c, ev := u } q a =
      let x : Chip := { core := c, ev := u }
      let o := a % 0x1000
      if page = 0 then c.rdChip q o
      else if page = pgBoot then c.rdBoot o
      else if page = pgHealth then c.rdHealth o
      else if page = pgLed then c.rdLedger o
      else if page = pgEv then x.rdEv q o
      else if page = pgMaint then c.rdMaint o
      else if pgSeg ≤ page ∧ page < 0x14000 then c.rdSeg q ((page - pgSeg) / 0x1000) o
      else if page = 0x14000 then c.rdRole o
      else if pgPort ≤ page ∧ page < pgPort + 0x8000 then c.rdPort ((page - pgPort) / 0x1000) o
      else if page = pgTime then c.rdTime o
      else if page = pgDisp then c.rdDisp q o
      else if page = pgEng then c.rdEng q o
      else if page = pgEng + 0x1000 then c.rdEngine o
      else if page = pgSig then c.rdSig o
      else if page = pgCmt then c.rdCmt q o
      else if page = pgProf then c.rdProf q o
      else if page = pgCuff then c.rdCuff o
      else if page = pgGs then c.rdGs q o
      else if page = pgVis then c.rdVis q o
      else if page = pgHost then x.rdHostif q o
      else some 0 := by
  obtain ⟨hd, hp, hg, ht⟩ := ho
  have hp' : a - a % 0x1000 = page := hp
  unfold Chip.rd
  dsimp only
  rw [hd, hp', if_neg (by simp [h]), if_neg (by simp [hg]), if_neg (by simp [ht])]

/-- What a read changes that its block answers, elsewhere than the pop of the event log. -/
theorem Chip.readEffect_own (ho : OwnOffset a page) (h : c.alive page = true) (hlog : a ≠ pgEv + 0x10) :
    Chip.readEffect { core := c, ev := u } q a =
      let o := a % 0x1000
      { core :=
          if pgSeg ≤ page ∧ page < 0x14000 ∧ o = 0x18 then c.refusePop ((page - pgSeg) / 0x1000)
          else if a = pgTime + 0x70 then { c with time := c.time.capPop.1 }
          else if page = pgCuff ∧ 0x400 ≤ o ∧ o < 0xC00 ∧ o % 0x80 = 0x38 then c.putCh ((o - 0x400) / 0x80) (c.ch ((o - 0x400) / 0x80)).latchPop.1
          else if a = pgDisp + 0xAC then { c with disp := c.disp.trPop.1 }
          else if a = pgVis + 0x4C then c.mdataStep q
          else if a = pgBoot + 0x3C then { c with boot := c.boot.shellRead'.2 }
          else if a = pgBoot + 0x48 then { c with boot := c.boot.qspiRead.2 }
          else if a = pgLed + 0x08 then { c with led := c.led.advance }
          else if a = pgProf + 0x84 then c.tblReadStep
          else c
        ev := u } := by
  obtain ⟨hd, hp, hg, ht⟩ := ho
  have hp' : a - a % 0x1000 = page := hp
  unfold Chip.readEffect
  dsimp only
  rw [hd, hp', if_neg (by simp [h]), if_neg hlog]
  rfl

end

@[simp] theorem Core.value_alive (c : Core) (v : Option W32) : (c.value v).1.alive page = c.alive page := by
  cases v <;> rfl

@[simp] theorem Core.value_boot (c : Core) (v : Option W32) : (c.value v).1.boot = c.boot := by
  cases v <;> rfl

@[simp] theorem Core.value_led (c : Core) (v : Option W32) : (c.value v).1.led = c.led := by
  cases v <;> rfl

theorem Core.rdVis_data {c : Core} {q : Path} (hm : c.vis.memIso = false) :
    c.rdVis q 0x4C = some (memWord 0 c.vis.mem (c.selOf q (pgVis + 0x48)).toNat) := by
  simp [Core.rdVis, visCfgOff, hm]

theorem TimeState.capPop_nil {t : TimeState} (h : t.caps = []) : t.capPop = ({ t with capHi := 0, capSrc := 0 }, 0) := by
  unfold TimeState.capPop
  split
  · rfl
  · next heq => simp [h] at heq

theorem TimeState.capPop_cons {t : TimeState} {x : Capture} {l : List Capture} (h : t.caps = x :: l) :
    t.capPop = ({ t with caps := l, capHi := hi32 x.rt, capSrc := w32 (x.pin % 4 + 16 * b2n x.rising + 0x80000000) }, lo32 x.rt) := by
  rw [TimeState.capPop, h]

theorem Chan.latchPop_nil {k : Chan} (h : k.latch = []) : k.latchPop = ({ k with latchT := 0, latchStat := (false, false) }, 0) := by
  unfold Chan.latchPop
  split
  · rfl
  · next heq => simp [h] at heq

theorem Chan.latchPop_cons {k : Chan} {x : LatchEntry} {l : List LatchEntry} (h : k.latch = x :: l) :
    k.latchPop = ({ k with latch := l, latchT := x.rt, latchStat := (true, x.susp) }, x.pos) := by
  rw [Chan.latchPop, h]

section
variable {d : DispState}

theorem DispState.trPop_nil (h : d.trace = []) : d.trPop = (d, 0) := by
  rw [DispState.trPop, h]

variable {x : TraceRec} {l : List TraceRec}

/-- One of the first three words of the head: the next read takes the next word. -/
theorem DispState.trPop_word (h : d.trace = x :: l) {k : Nat} (hk : d.trWord = k) (h3 : k < 3) :
    d.trPop = ({ d with trWord := k + 1 }, if k = 0 then x.w0 else if k = 1 then x.w1 else x.w2) := by
  subst hk
  unfold DispState.trPop
  split
  · next heq => simp [h] at heq
  · next heq =>
    obtain ⟨rfl, rfl⟩ := List.cons.inj (h.symm.trans heq)
    dsimp only
    rw [if_neg (by omega)]
    interval_cases hw : d.trWord <;> rfl

/-- The last word of the head removes it. -/
theorem DispState.trPop_last (h : d.trace = x :: l) (h3 : d.trWord = 3) : d.trPop = ({ d with trace := l, trWord := 0 }, x.w3) := by
  rw [DispState.trPop, h, h3]
  rfl

end

section
variable {c : Core} {u : EventUnit} {q : Path}

theorem Chip.readEffect_qspi (h : c.alive pgBoot = true) :
    Chip.readEffect { core := c, ev := u } q (pgBoot + 0x48) = { core := { c with boot := c.boot.qspiRead.2 }, ev := u } := by
  rw [Chip.readEffect_own ⟨by decide, by decide, by decide, by decide⟩ h (by decide)]; rfl

theorem Chip.readEffect_ledger (h : c.alive pgLed = true) :
    Chip.readEffect { core := c, ev := u } q (pgLed + 0x08) = { core := { c with led := c.led.advance }, ev := u } := by
  rw [Chip.readEffect_own ⟨by decide, by decide, by decide, by decide⟩ h (by decide)]; rfl

theorem Chip.readEffect_log (h : c.alive pgEv = true) :
    Chip.readEffect { core := c, ev := u } q (pgEv + 0x10) = Chip.logPop { core := c, ev := u } q := by
  have hp : decodeAddr (pgEv + 0x10) - decodeAddr (pgEv + 0x10) % 0x1000 = pgEv := by decide
  unfold Chip.readEffect
  dsimp only
  rw [hp, if_neg (by simp [h]), if_pos (by decide)]

end

/-! ### Each register -/

theorem run_refusePop {g : Nat} (hg : g < 4) (hu : s.base.pathUp p.path = true) (h : s.base.alive (pgSeg + 0x1000 * g) = true) :
    exec (.linkSegRefusePop p g) s = .next (s.readOut p (s.base.refusePop g) (s.base.refuseHead g)) := by
  have ho : OwnOffset (pgSeg + 0x1000 * g + 0x18) (pgSeg + 0x1000 * g) := by
    interval_cases g <;> exact ⟨by decide, by decide, by decide, by decide⟩
  refine run_read (v := some (s.base.refuseHead g)) hu ?_ ?_
  · rw [Chip.rd_own ho h]
    interval_cases g <;> rfl
  · rw [Core.value, Chip.readEffect_own ho h (by unfold pgSeg pgEv; omega)]
    interval_cases g <;> rfl

theorem run_capPop (hu : s.base.pathUp p.path = true) (h : s.base.alive pgTime = true) :
    exec (.timeCapPop p) s = .next (s.readOut p { s.base with time := s.base.time.capPop.1 } s.base.time.capPop.2) := by
  have ho : OwnOffset (pgTime + 0x70) pgTime := ⟨by decide, by decide, by decide, by decide⟩
  refine run_read (v := some s.base.time.capPop.2) hu ?_ ?_
  · rw [Chip.rd_own ho h]; rfl
  · rw [Core.value, Chip.readEffect_own ho h (by decide)]; rfl

theorem run_latchPop {n : Nat} (hn : n < 16) (hu : s.base.pathUp p.path = true) (h : s.base.alive pgCuff = true) :
    exec (.cuffLatchPop p n) s = .next (s.readOut p (s.base.putCh n (s.base.ch n).latchPop.1) (s.base.ch n).latchPop.2) := by
  have ho := cuffOffset hn (reg := 0x38) (by decide) (by decide)
  refine run_read (v := some (s.base.ch n).latchPop.2) hu ?_ ?_
  · rw [Chip.rd_own ho h]
    interval_cases n <;> rfl
  · rw [Core.value, Chip.readEffect_own ho h (by unfold pgCuff pgEv; omega)]
    interval_cases n <;> rfl

theorem run_trPop (hu : s.base.pathUp p.path = true) (h : s.base.alive pgDisp = true) :
    exec (.dispatchTrPop p) s = .next (s.readOut p { s.base with disp := s.base.disp.trPop.1 } s.base.disp.trPop.2) := by
  have ho : OwnOffset (pgDisp + 0xAC) pgDisp := ⟨by decide, by decide, by decide, by decide⟩
  refine run_read (v := some s.base.disp.trPop.2) hu ?_ ?_
  · rw [Chip.rd_own ho h]; rfl
  · rw [Core.value, Chip.readEffect_own ho h (by decide)]; rfl

theorem run_shellData (hu : s.base.pathUp p.path = true) (h : s.base.alive pgBoot = true) :
    exec (.bootShellDataRead p) s = .next (s.readOut p { s.base with boot := s.base.boot.shellRead'.2 } s.base.boot.shellRead'.1) := by
  have ho : OwnOffset (pgBoot + 0x3C) pgBoot := ⟨by decide, by decide, by decide, by decide⟩
  refine run_read (v := some s.base.boot.shellRead'.1) hu ?_ ?_
  · rw [Chip.rd_own ho h]; rfl
  · rw [Core.value, Chip.readEffect_own ho h (by decide)]; rfl

theorem run_mdata (hu : s.base.pathUp p.path = true) (h : s.base.alive pgVis = true) (hm : s.base.vis.memIso = false) :
    exec (.visorMdataRead p) s = .next (s.readOut p (s.base.mdataStep p.path)
      (memWord 0 s.base.vis.mem (s.base.selOf p.path (pgVis + 0x48)).toNat)) := by
  have ho : OwnOffset (pgVis + 0x4C) pgVis := ⟨by decide, by decide, by decide, by decide⟩
  refine run_read (v := some (memWord 0 s.base.vis.mem (s.base.selOf p.path (pgVis + 0x48)).toNat)) hu ?_ ?_
  · rw [Chip.rd_own ho h]
    exact Core.rdVis_data hm
  · rw [Core.value, Chip.readEffect_own ho h (by decide)]; rfl

theorem run_qspiRead (hu : s.base.pathUp p.path = true) (h : s.base.alive pgBoot = true) :
    let v := s.base.value (if s.base.tornAt s.base.boot.qspiAddr then none else some s.base.boot.qspiRead.1)
    exec (.bootQspiDataAccess p none) s = .next (s.readOut p { v.1 with boot := s.base.boot.qspiRead.2 } v.2) := by
  have ho : OwnOffset (pgBoot + 0x48) pgBoot := ⟨by decide, by decide, by decide, by decide⟩
  refine run_read (v := if s.base.tornAt s.base.boot.qspiAddr then none else some s.base.boot.qspiRead.1) hu ?_ ?_
  · rw [Chip.rd_own ho h]; rfl
  · rw [Chip.readEffect_qspi (by simpa using h), Core.value_boot]

theorem run_ledgerRead (hu : s.base.pathUp p.path = true) (h : s.base.alive pgLed = true) :
    let v := s.base.value s.base.ledgerAt
    exec (.ledgerDataAccess p none) s = .next (s.readOut p { v.1 with led := s.base.led.advance } v.2) := by
  have ho : OwnOffset (pgLed + 0x08) pgLed := ⟨by decide, by decide, by decide, by decide⟩
  refine run_read (v := s.base.ledgerAt) hu ?_ ?_
  · rw [Chip.rd_own ho h]; rfl
  · rw [Chip.readEffect_ledger (by simpa using h), Core.value_led]

theorem run_tblRead (hu : s.base.pathUp p.path = true) (h : s.base.alive pgProf = true) :
    exec (.profileTblDataAccess p none) s = .next (s.readOut p { s.base with prof := s.base.prof.tblAdvance } s.base.prof.tblWord) := by
  have ho : OwnOffset (pgProf + 0x84) pgProf := ⟨by decide, by decide, by decide, by decide⟩
  refine run_read (v := some s.base.prof.tblWord) hu ?_ ?_
  · rw [Chip.rd_own ho h]; rfl
  · rw [Core.value, Chip.readEffect_own ho h (by decide)]; rfl

/-- The pop of the event log: the head, and its other words to the port's shadows. -/
theorem run_logPop (hu : s.base.pathUp p.path = true) (h : s.base.alive pgEv = true) :
    exec (.eventsLogPop p) s =
      let x := Chip.logPop { core := s.base, ev := s.evBase } p.path
      .next (s.afterBoth (x.core.out (.data p.path (match s.evBase.log with | e :: _ => lo32 e.rt | [] => 0))) x.ev) := by
  have ho : OwnOffset (pgEv + 0x10) pgEv := ⟨by decide, by decide, by decide, by decide⟩
  have hv : Chip.rd { core := s.base, ev := s.evBase } p.path (pgEv + 0x10) =
      some (match s.evBase.log with | e :: _ => lo32 e.rt | [] => 0) := by
    rw [Chip.rd_own ho h]; rfl
  have hr : Chip.readWord { core := s.base, ev := s.evBase } p.path false (pgEv + 0x10) =
      (Chip.logPop { core := s.base, ev := s.evBase } p.path, match s.evBase.log with | e :: _ => lo32 e.rt | [] => 0) := by
    rw [← Chip.readEffect_log h]
    unfold Chip.readWord
    rw [if_neg (by decide), hv]
    rfl
  exact (run_hostRead hu).trans (by rw [hr])

theorem run_qspiWrite (h : s.Writes p pgBoot) :
    exec (.bootQspiDataAccess p (some w)) s = .next (s.after { s.base with boot := s.base.boot.qspiWrite w }) :=
  run_plainWrite h ⟨by decide, by decide, by decide, by decide⟩ (by decide) (by decide) (by decide) (by decide)

theorem run_tblWrite (h : s.Writes p pgProf) :
    exec (.profileTblDataAccess p (some w)) s = .next (s.after { s.base with prof := s.base.prof.tblWrite w }) :=
  run_plainWrite h ⟨by decide, by decide, by decide, by decide⟩ (by decide) (by decide) (by decide) (by decide)

theorem run_ledgerWrite (h : s.Writes p pgLed) :
    exec (.ledgerDataAccess p (some w)) s = .next (s.after (s.base.post' p.path (pgLed + 8) w)) :=
  (run_regWrite_parts (addr := pgLed + 8) h (by decide) (by decide) (by decide)).trans (by rw [if_pos (by decide)]; rfl)

end

/-- Settles O34: each read by what its register pops or steps. -/
theorem popsAndDataRegisters : Obligations.PopsAndDataRegisters := by
  intro s p g n w hg hn hu c rd
  refine ⟨fun h => ?refuse, fun h hc => ?noCapture, fun x l h hc => ?capture, fun h hl => ?noLatch, fun x l h hl => ?latch,
    fun h ht => ?noTrace, fun x l h ht => ⟨fun hw => ?w0, fun hw => ?w1, fun hw => ?w2, fun hw => ?w3⟩, fun h hm => ?mdata,
    fun h hl => ?noLog, fun e l h hl => ?log, fun h => ?shell, fun h => ?qspi, fun h => ?page, fun h => ?ledger, fun h hb => ?ledgerPost,
    fun h => ?tbl, fun h => ?tblWrite⟩
  case refuse => exact run_refusePop hg hu h
  case noCapture => exact (run_capPop hu h).trans (by rw [TimeState.capPop_nil hc])
  case capture => exact (run_capPop hu h).trans (by rw [TimeState.capPop_cons hc])
  case noLatch => exact (run_latchPop hn hu h).trans (by rw [Chan.latchPop_nil hl])
  case latch => exact (run_latchPop hn hu h).trans (by rw [Chan.latchPop_cons hl])
  case noTrace => exact (run_trPop hu h).trans (by rw [DispState.trPop_nil ht])
  case w0 => exact (run_trPop hu h).trans (by rw [DispState.trPop_word ht hw (by decide)]; rfl)
  case w1 => exact (run_trPop hu h).trans (by rw [DispState.trPop_word ht hw (by decide)]; rfl)
  case w2 => exact (run_trPop hu h).trans (by rw [DispState.trPop_word ht hw (by decide)]; rfl)
  case w3 => exact (run_trPop hu h).trans (by rw [DispState.trPop_last ht hw])
  case mdata => exact run_mdata hu h hm
  case noLog =>
    refine (run_logPop hu h).trans ?_
    have hu' : ({ s.evBase with log := s.evBase.log.drop 1 } : EventUnit) = s.evBase := by rw [hl, List.drop_nil, ← hl]
    rw [Chip.logPop]
    dsimp only
    rw [hu', hl]
  case log =>
    refine (run_logPop hu h).trans ?_
    rw [Chip.logPop, hl]
    rfl
  case shell => exact run_shellData hu h
  case qspi => exact run_qspiRead hu h
  case page => exact run_qspiWrite h
  case ledger => exact run_ledgerRead hu h
  case ledgerPost =>
    have hidle : ¬s.base.busy (pgLed + 8 - (pgLed + 8) % 0x1000) = true := Bool.eq_false_iff.mp hb
    exact (run_ledgerWrite h).trans (by rw [Core.post', if_neg hidle]; rfl)
  case tbl => exact run_tblRead hu h
  case tblWrite => exact run_tblWrite h

end Sys2Proof.Machine
end

section
/-! The PCIe endpoint and the SPI port (R545 to R547, R569). -/

namespace Sys2Proof.Machine

/-- A command by its effect on the chip. -/
theorem next_chip {s : State} {f : Chip → Chip} {y : Chip} (h : f { core := s.base, ev := s.evBase } = y) :
    s.to (s.chip.run f) = .next (s.afterBoth y.core y.ev) := by
  rw [run_both, h]

/-! ### PCIe -/

section
variable {x : Chip} {b be : Bool} {addr n : Nat} {ws : List W32}

theorem Chip.pcieWrite_taken (hu : x.core.pathUp .pcie = true) (hd : x.core.host.d3 = false) (hb : be = true) (hf : pcieFits b addr ws.length = true) :
    x.pcieWrite b addr ws be = ((List.range ws.length).zip ws).foldl (fun (x : Chip) e => x.hostWrite .pcie b (addr + 4 * e.1) e.2) x := by
  rw [Chip.pcieWrite, if_neg (by simp [Core.pcieUp, hu]), if_neg (by simp [hd, hb, hf])]

theorem Chip.pcieWrite_refused (hu : x.core.pathUp .pcie = true)
    (h : x.core.host.d3 = true ∨ be = false ∨ pcieFits b addr ws.length = false) : x.pcieWrite b addr ws be = x.onCore Core.pcieDiscard := by
  rw [Chip.pcieWrite, if_neg (by simp [Core.pcieUp, hu]), if_pos (by simpa [or_assoc] using h)]

theorem Chip.pcieRead_taken (hu : x.core.pathUp .pcie = true) (hd : x.core.host.d3 = false) (hf : pcieFits b addr n = true)
    (hb : b = true ∨ be = true) :
    x.pcieRead b addr n be = (List.range n).foldl (fun (x : Chip) i => x.hostRead .pcie b (addr + 4 * i)) x := by
  rw [Chip.pcieRead, if_neg (by simp [Core.pcieUp, hu]), if_neg (by rcases hb with rfl | rfl <;> simp [hd, hf])]

theorem Chip.pcieRead_refused (hu : x.core.pathUp .pcie = true)
    (h : x.core.host.d3 = true ∨ pcieFits b addr n = false ∨ b = false ∧ be = false) : x.pcieRead b addr n be = x.onCore Core.pcieUr := by
  rw [Chip.pcieRead, if_neg (by simp [Core.pcieUp, hu]), if_pos (by simpa [or_assoc] using h)]

theorem pcieFits_bar0 (h : addr % 4 = 0) : pcieFits false addr 1 = true := by
  simp [pcieFits, h]

/-- A read of a word of BAR2 that is not open. -/
theorem Chip.hostRead_bar2 {c : Core} {u : EventUnit} {v : W32} (hu : c.pathUp .pcie = true) (hv : c.rdBar2 .pcie addr = some v) :
    Chip.hostRead { core := c, ev := u } .pcie true addr = { core := c.out (.data .pcie v), ev := u } := by
  rw [Chip.hostRead, if_neg (by simp [hu]), Chip.readWord, if_pos rfl, hv]
  rfl

/-- The words of BAR2, read in turn. -/
theorem foldl_hostRead_bar2 {u : EventUnit} {v : Nat → W32} (n : Nat) {c : Core} (hu : c.pathUp .pcie = true)
    (hv : ∀ i < n, c.rdBar2 .pcie (addr + 4 * i) = some (v i)) :
    (List.range n).foldl (fun (x : Chip) i => x.hostRead .pcie true (addr + 4 * i)) { core := c, ev := u } =
      { core := { c with outs := c.outs ++ (List.range n).map fun i => Output.data .pcie (v i) }, ev := u } := by
  induction n with
  | zero => simp
  | succ n ih =>
    rw [List.range_succ, List.foldl_append, ih fun i hi => hv i (by omega), List.foldl_cons, List.foldl_nil, List.map_append, ← List.append_assoc]
    exact Chip.hostRead_bar2 (c := { c with outs := c.outs ++ (List.range n).map fun i => Output.data .pcie (v i) }) hu (hv n (by omega))

end

theorem Chip.pcieFlr_up {x : Chip} (hu : x.core.pathUp .pcie = true) :
    x.pcieFlr =
      { core := ({ x.core with host := { x.core.host with
          view := x.core.host.view.del 0, guard := x.core.host.guard.del 0, shadow := x.core.host.shadow.del 0, d3 := false, cfgSpace := [] } }
            : Core).raise [ev0 EvNo.flr]
        ev := { x.ev with msix := [], msixEn := false, msixMask := false, pba := 0 } } := by
  rw [Chip.pcieFlr, if_neg (by simp [Core.pcieUp, hu])]

theorem Chip.pcieConfig_up {x : Chip} {r : CfgReq} (hu : x.core.pathUp .pcie = true) :
    x.pcieConfig r = match r with
      | .msix e m =>
        let u := { x.ev with msixEn := e, msixMask := m }
        { x with ev := if x.core.iso 5 2 then u else u.flushPba }
      | .power d => x.onCore fun c => { c with host := { c.host with d3 := d } }
      | .write i w => x.onCore fun c => { c with host := { c.host with cfgSpace := c.host.cfgSpace.put i w } }
      | .read i =>
        x.onCore fun c => (c.value (c.host.cfgSpace.look? i)).1.out (.data .pcie (c.value (c.host.cfgSpace.look? i)).2) := by
  unfold Chip.pcieConfig
  rw [if_neg (by simp [Core.pcieUp, hu])] <;> cases r <;> rfl

/-- Settles O35, request by request. -/
theorem pcieEndpoint : Obligations.PcieEndpoint := by
  intro s addr w c x up
  refine ⟨fun v k h1 h2 h3 h4 => ?linkUp, fun h => ?linkDown, fun hu hd ha => ⟨_, rfl, ?bar0Write⟩, fun ws hu hd hf => ?bar2Write,
    fun b ws be hu h => ?discard, fun hu hd ha => ?bar0Read, fun n be v hu hd hf hv => ?bar2Read, fun b n be hu h => ?unsupported,
    fun hu => ?flr, fun e m hu hi => ?msix, fun d hu => ?power, fun i hu => ?cfgWrite, fun i hu => ?cfgRead⟩
  case linkUp =>
    refine next_core (f := fun c => c.pcieLinkUp v k) (if_neg ?_)
    simp only [Bool.or_eq_true, Bool.and_eq_true, Bool.not_eq_true', not_or, not_and, Bool.not_eq_true, Bool.not_eq_false]
    exact ⟨⟨⟨h1, h2⟩, h3⟩, h4⟩
  case linkDown => exact next_core (f := fun c => c.pcieLinkDown) (if_pos h)
  case bar0Write => exact next_chip (s := s) (f := fun y => y.pcieWrite false addr [w] true) (Chip.pcieWrite_taken (x := x) hu hd rfl (pcieFits_bar0 ha))
  case bar2Write => exact next_chip (s := s) (f := fun y => y.pcieWrite true addr ws true) (Chip.pcieWrite_taken (x := x) hu hd rfl hf)
  case discard => exact next_chip (s := s) (f := fun y => y.pcieWrite b addr ws be) (Chip.pcieWrite_refused (x := x) hu h)
  case bar0Read =>
    exact (next_chip (s := s) (f := fun y => y.pcieRead false addr 1 true) (Chip.pcieRead_taken (x := x) hu hd (pcieFits_bar0 ha) (.inr rfl))).trans (run_hostRead (p := .pcie) (a := addr) (b := false) hu)
  case bar2Read =>
    exact next_chip (s := s) (f := fun y => y.pcieRead true addr n be) ((Chip.pcieRead_taken (x := x) hu hd hf (.inl rfl)).trans (foldl_hostRead_bar2 n hu hv))
  case unsupported =>
    rw [← afterBoth_evBase]
    exact next_chip (s := s) (f := fun y => y.pcieRead b addr n be) (y := { core := c.pcieUr, ev := s.evBase }) (Chip.pcieRead_refused (x := x) hu h)
  case flr => exact next_chip (s := s) (f := fun y => y.pcieFlr) (Chip.pcieFlr_up (x := x) hu)
  case msix =>
    refine (next_chip (s := s) (f := fun y => y.pcieConfig (.msix e m)) (Chip.pcieConfig_up (x := x) hu)).trans ?_
    dsimp only
    rw [if_neg (by simpa using hi)]
  case power => exact next_chip (s := s) (f := fun y => y.pcieConfig (.power d)) (Chip.pcieConfig_up (x := x) hu)
  case cfgWrite => exact next_chip (s := s) (f := fun y => y.pcieConfig (.write i w)) (Chip.pcieConfig_up (x := x) hu)
  case cfgRead => exact next_chip (s := s) (f := fun y => y.pcieConfig (.read i)) (Chip.pcieConfig_up (x := x) hu)

/-! ### SPI -/

section
variable {x : Chip} {addr : W32}

theorem Chip.spiWord_mapped {b : Bool} {o : Nat} {w : W32} (h : spaceOf addr = some (b, o)) : x.spiWord addr w = x.hostWrite .spi b o w := by
  rw [Chip.spiWord, h]

theorem Chip.spiWrite_up {ws : List W32} (hu : x.core.pathUp .spi = true) :
    x.spiWrite addr ws =
      (((List.range ws.length).zip ws).foldl (fun (x : Chip) e => x.spiWord (addr + w32 (4 * e.1)) e.2) x).onCore fun c =>
        c.setSpi (.write ((addr + w32 (4 * ws.length)).toNat)) := by
  rw [Chip.spiWrite, if_neg (by simp [hu])]

theorem Chip.spiRead_up {ls : List Bool} (hu : x.core.pathUp .spi = true) :
    x.spiRead addr ls =
      (((List.range ls.length).zip ls).foldl (fun (x : Chip) e => x.spiReadWord (addr + w32 (4 * e.1)) e.2) x).onCore fun c =>
        c.setSpi (.read ((addr + w32 (4 * ls.length)).toNat)) := by
  rw [Chip.spiRead, if_neg (by simp [hu])]

theorem Chip.spiReadWord_mapped {b : Bool} {o : Nat} (h : spaceOf addr = some (b, o)) :
    x.spiReadWord addr false = (x.hostRead .spi b o).onCore fun c => { c with host := { c.host with spiLate := false } } := by
  rw [Chip.spiReadWord, if_neg (by decide), h]

theorem Chip.spiReadWord_none (h : spaceOf addr = none) :
    x.spiReadWord addr false =
      x.onCore fun c => { (c.out (.data .spi 0xFFFF_FFFF)) with host := { c.host with spiLate := false } } := by
  rw [Chip.spiReadWord, if_neg (by decide), h]
  rfl

theorem Chip.spiWord_none {w : W32} (h : spaceOf addr = none) (hr : x.core.readOnly .spi = false) : x.spiWord addr w = x := by
  rw [Chip.spiWord, h]
  exact if_neg (by simp [hr])

theorem Chip.spiStatus_up (hu : x.core.pathUp .spi = true) :
    x.spiStatus =
      let h := x.core.host
      x.onCore fun c => ({ c with host := { c.host with spiLate := false, spiFrame := false, spi := .other } } : Core).out
        (.spiByte (b2n (h.gfail.getLsbD 1) + 2 * b2n (!x.ev.log.isEmpty) + 4 * b2n h.spiLate + 8 * b2n h.spiFrame)) := by
  rw [Chip.spiStatus, if_neg (by simp [hu])]

/-- The first word lies at the address itself. -/
theorem add_w32_zero : addr + w32 (4 * 0) = addr := BitVec.add_zero addr

theorem Chip.spiWrite_one {w : W32} (hu : x.core.pathUp .spi = true) :
    x.spiWrite addr [w] = (x.spiWord addr w).onCore fun c => c.setSpi (.write (addr + w32 4).toNat) := by
  refine (Chip.spiWrite_up hu).trans ?_
  change (x.spiWord (addr + w32 (4 * 0)) w).onCore _ = _
  rw [add_w32_zero]
  rfl

theorem Chip.spiRead_one {l : Bool} (hu : x.core.pathUp .spi = true) :
    x.spiRead addr [l] = (x.spiReadWord addr l).onCore fun c => c.setSpi (.read (addr + w32 4).toNat) := by
  refine (Chip.spiRead_up hu).trans ?_
  change (x.spiReadWord (addr + w32 (4 * 0)) l).onCore _ = _
  rw [add_w32_zero]
  rfl

/-- One word of a READ: LATE in any case as it ended (R547). -/
theorem Chip.spiReadWord_eq {late : Bool} :
    x.spiReadWord addr late =
      let none' : Core := ({ x.core with host := { x.core.host with lates := (x.core.host.lates + 1) % 65536 } } : Core).raise (pathError .spi)
      let y : Chip := if late = true then { x with core := none'.out (.data .spi 0xFFFF_FFFF) }
        else match spaceOf addr with
          | some (b, o) => x.hostRead .spi b o
          | none => { x with core := x.core.out (.data .spi 0xFFFF_FFFF) }
      { y with core := { y.core with host := { y.core.host with spiLate := late } } } := by
  cases late with
  | true => rfl
  | false => rfl

end

/-- Settles O36: a transaction is its words in turn, and a word by its space. -/
theorem spiPort : Obligations.SpiPort := by
  intro s addr w hu c x in' next each past put get
  refine ⟨fun ws => ?writes, fun ls => ?reads, fun b o h => ?write, fun h hr => ?writeNone, fun b o h => ?read, fun h => ?readNone, ?late,
    ?status, ?id, fun a h => ?cut, fun a h => ?writeEnd, fun h => ?otherEnd⟩
  case writes => exact next_chip (s := s) (f := fun y => y.spiWrite addr ws) (Chip.spiWrite_up (x := x) hu)
  case reads =>
    refine (next_chip (s := s) (f := fun y => y.spiRead addr ls) (Chip.spiRead_up (x := x) hu)).trans ?_
    have hword : Chip.spiReadWord = get := by
      funext z a late
      exact Chip.spiReadWord_eq
    rw [hword]
    rfl
  case write =>
    refine (next_chip (s := s) (f := fun y => y.spiWrite addr [w]) (Chip.spiWrite_one (x := x) hu)).trans ?_
    rw [Chip.spiWord_mapped h]
    rfl
  case writeNone =>
    refine (next_chip (s := s) (f := fun y => y.spiWrite addr [w]) (Chip.spiWrite_one (x := x) hu)).trans ?_
    rw [Chip.spiWord_none (x := x) h hr]
    rfl
  case read =>
    refine (next_chip (s := s) (f := fun y => y.spiRead addr [false]) (Chip.spiRead_one (x := x) hu)).trans ?_
    rw [Chip.spiReadWord_mapped h, Chip.hostRead, if_neg (by rw [hu]; decide)]
    rfl
  case readNone =>
    refine (next_chip (s := s) (f := fun y => y.spiRead addr [false]) (Chip.spiRead_one (x := x) hu)).trans ?_
    rw [Chip.spiReadWord_none h]
    rfl
  case late =>
    refine (next_chip (s := s) (f := fun y => y.spiRead addr [true]) (Chip.spiRead_one (x := x) hu)).trans ?_
    rfl
  case status => exact next_chip (s := s) (f := fun y => y.spiStatus) (Chip.spiStatus_up (x := x) hu)
  case id => exact next_core (f := fun c => c.spiId) (if_pos hu)
  case cut => exact next_core (f := fun c => c.spiEnd true) (by rw [Core.spiEnd, h]; rfl)
  case writeEnd => exact next_core (f := fun c => c.spiEnd false) (by rw [Core.spiEnd, h]; rfl)
  case otherEnd => exact next_core (f := fun c => c.spiEnd false) (by rw [Core.spiEnd, h]; rfl)

end Sys2Proof.Machine
end

section
/-! QMP: the admission of a request, and what each type answers (R567, R568). -/

namespace Sys2Proof.Machine

section
variable {c : Core} {m : QmpMsg} {type : Nat}

/-! ### Admission -/

theorem Core.qmpIn_ok (hp : m.port < 2) (hu : c.pathUp (.qmp m.port 0) = true) (ho : c.qmpOn m.port = true) (ht : c.tagOk m type = true) :
    c.qmpIn m type = (c, true) := by
  rw [Core.qmpIn, if_neg (by simp [hp, hu]), if_neg (by simp [ho]), if_neg (by simp [ht])]

theorem Core.qmpIn_badTag (hp : m.port < 2) (hu : c.pathUp (.qmp m.port 0) = true) (ho : c.qmpOn m.port = true) (ht : c.tagOk m type = false) :
    c.qmpIn m type =
      (({ c with host := { c.host with auth := incHalf c.host.auth m.port } } : Core).raise
        [(evHost EvNo.qmpAuthFail (2 + m.port)).limited (2 + m.port)], false) := by
  rw [Core.qmpIn, if_neg (by simp [hp, hu]), if_neg (by simp [ho]), if_pos (by simp [ht])]

variable {s : State} {x : Session} {f : Chip → Session → Chip × Nat × List W32}

/-- A request of a session whose SEQ is new is counted and answered. -/
theorem Chip.qmpRequest_asks (h : s.QmpAsks m type x) :
    Chip.qmpRequest { core := s.base, ev := s.evBase } m type f =
      let r := f { core := s.qmpCounted m, ev := s.evBase } x
      { core := r.1.core.qmpReply m x { type := type, status := r.2.1, vals := r.2.2 }, ev := r.1.ev } := by
  obtain ⟨hp, hu, ho, ht, hx, h0, hseq, hver, hrate⟩ := h
  have hne : m.seq ≠ x.seq := fun he => by rw [he] at hseq; omega
  unfold Chip.qmpRequest
  rw [Core.qmpIn_ok hp hu ho ht]
  dsimp only
  rw [if_neg (by decide), hx]
  dsimp only
  rw [if_neg h0, if_neg hne, if_neg (by omega)]
  rw [hrate, if_neg (by decide), if_neg (by simp [hver])]
  rfl

theorem Chip.qmpRequest_again (hp : m.port < 2) (hu : s.base.pathUp (.qmp m.port 0) = true) (ho : s.base.qmpOn m.port = true)
    (ht : s.base.tagOk m type = true) (h0 : m.session ≠ 0) (hx : s.base.host.qmp.look? (sessionKey m.port m.session) = some x)
    (hseq : m.seq = x.seq) :
    Chip.qmpRequest { core := s.base, ev := s.evBase } m type f = { core := s.base.out (.qmp m.port x.last), ev := s.evBase } := by
  unfold Chip.qmpRequest
  rw [Core.qmpIn_ok hp hu ho ht]
  dsimp only
  rw [if_neg (by decide), hx]
  dsimp only
  rw [if_neg h0, if_pos hseq]
  rfl

theorem Chip.qmpRequest_old (hp : m.port < 2) (hu : s.base.pathUp (.qmp m.port 0) = true) (ho : s.base.qmpOn m.port = true)
    (ht : s.base.tagOk m type = true) (h0 : m.session ≠ 0) (hx : s.base.host.qmp.look? (sessionKey m.port m.session) = some x)
    (hseq : m.seq.toNat < x.seq.toNat) :
    Chip.qmpRequest { core := s.base, ev := s.evBase } m type f = { core := s.base, ev := s.evBase } := by
  have hne : m.seq ≠ x.seq := fun he => by rw [he] at hseq; omega
  unfold Chip.qmpRequest
  rw [Core.qmpIn_ok hp hu ho ht]
  dsimp only
  rw [if_neg (by decide), hx]
  dsimp only
  rw [if_neg h0, if_neg hne, if_pos hseq]

theorem Chip.qmpRequest_badTag (hp : m.port < 2) (hu : s.base.pathUp (.qmp m.port 0) = true) (ho : s.base.qmpOn m.port = true)
    (ht : s.base.tagOk m type = false) :
    Chip.qmpRequest { core := s.base, ev := s.evBase } m type f =
      { core := ({ s.base with host := { s.base.host with auth := incHalf s.base.host.auth m.port } } : Core).raise
          [(evHost EvNo.qmpAuthFail (2 + m.port)).limited (2 + m.port)]
        ev := s.evBase } := by
  unfold Chip.qmpRequest
  rw [Core.qmpIn_badTag hp hu ho ht]
  rfl

/-- A request by what it answers. -/
theorem run_qmp {r : Chip × Nat × List W32} (h : s.QmpAsks m type x) (hf : f { core := s.qmpCounted m, ev := s.evBase } x = r) :
    s.to (s.chip.run fun y => y.qmpRequest m type f) =
      .next (s.afterBoth (r.1.core.qmpReply m x { type := type, status := r.2.1, vals := r.2.2 }) r.1.ev) := by
  rw [run_both, Chip.qmpRequest_asks h, hf]

/-- A request that leaves the event unit as found. -/
theorem run_qmp_parts {d : Core} {status : Nat} {vals : List W32} (h : s.QmpAsks m type x)
    (hf : f { core := s.qmpCounted m, ev := s.evBase } x = ({ core := d, ev := s.evBase }, status, vals)) :
    s.to (s.chip.run fun y => y.qmpRequest m type f) = .next (s.after (d.qmpReply m x { type := type, status := status, vals := vals })) :=
  run_qmp h hf

/-! ### The requests -/

theorem Core.qmpHello_opens {lo hi v id : Nat} (hp : m.port < 2) (hu : c.pathUp (.qmp m.port 0) = true) (ho : c.qmpOn m.port = true)
    (ht : c.tagOk m 1 = true) (hv : qmpVersion lo hi = some v) {q d : Core} (hr : c.qmpRate m.port = (q, true))
    (hd : { q with host := { q.host with rx := incHalf q.host.rx m.port } } = d) (hid : d.host.freeSession m.port = some id) :
    c.qmpHello m lo hi =
      let nonce := Config.freeBits 64 d.freeCtr
      let e : Core := { d with freeCtr := d.freeCtr + 1 }
      let r : QmpResp := { type := 1, status := 0, vals := [w32 v, w32 id, lo32 d.boot.uid, hi32 d.boot.uid, d.boot.head.chk, hi32 nonce, lo32 nonce] }
      (({ e with host := { e.host with qmp := e.host.qmp.put (sessionKey m.port id) { ver := v, seq := m.seq, last := r, at' := e.now } } } : Core).raise
          [evHost EvNo.qmpSession (2 + m.port) 1]).out (.qmp m.port r) := by
  unfold Core.qmpHello
  rw [Core.qmpIn_ok hp hu ho ht]
  refine (if_neg (by decide)).trans ?_
  rw [hr]
  refine (if_neg (by decide)).trans ?_
  rw [hd, hv]
  dsimp only
  rw [hid]
  rfl

theorem wmaskOf_fast {a k : Nat} (h : wmaskOf a = some k) : slowPage (a - a % 0x1000) = false := by
  have ha : a = 0x100 ∨ a = 0x104 ∨ a = pgEng + 0x40 ∨ a = pgVis + 0x180 := by
    by_contra hn
    simp only [not_or] at hn
    obtain ⟨h1, h2, h3, h4⟩ := hn
    rw [wmaskOf, if_neg h1, if_neg h2, if_neg h3, if_neg h4] at h
    cases h
  rcases ha with rfl | rfl | rfl | rfl
  all_goals decide

/-- The session after the answer. -/
theorem Core.qmpReply_session {r : QmpResp} :
    (c.qmpReply m x r).host.qmp.look? (sessionKey m.port m.session) = some { x with seq := m.seq, last := r, at' := c.now } := by
  unfold Core.qmpReply Core.qmpAnswer
  dsimp only
  split
  · exact Tab.look?_put_self ..
  · exact Tab.look?_put_self ..

end

/-- Settles O37, request by request. -/
theorem qmpSessions : Obligations.QmpSessions := by
  intro s m x d y p ws ok asks here
  refine ⟨fun lo hi id v h hr hv hid => ?hello, fun h h4 hl ha => ?read, fun h h8 hl => ?write,
    fun k a h0 h1 l0 l1 l2 l3 h2 h3 h hp hsb hk e0 e1 he => ?ofs, fun cyc ps i h hver hl hps hi => ?viewread,
    fun off k w h hver hm hw ha hg => ?guarded, fun type h h5 h6 => ?unknown, fun h => ?close, fun h h0 hx hseq => ?again,
    fun h h0 hx hseq => ?old, fun hp hu ho ht => ?badTag, fun port id h0 hx => ?timeout, fun port hp hu => ⟨?arp, ?icmp, ?other⟩⟩
  case hello =>
    obtain ⟨hp, hu, ho, ht⟩ := h
    exact next_core (f := fun c => c.qmpHello m lo hi) (Core.qmpHello_opens hp hu ho ht hv (Prod.ext rfl hr) rfl hid)
  case read =>
    refine run_qmp h (r := ((y.qmpWords p ws).1, 0, (y.qmpWords p ws).2)) ?_
    dsimp only
    have hall : (beWords m.payload).all qmpReadable = true := ha
    rw [if_neg (by simp [h4]; exact hl), if_neg (by rw [hall]; decide)]
  case write =>
    refine run_qmp h (r := ((y.qmpPairs p ws).1.onCore fun c => c.raise (((y.qmpPairs p ws).2.filter (· != 0)).map fun k =>
      evHost EvNo.qmpRefused (2 + m.port) k), 0, (y.qmpPairs p ws).2.map w32)) ?_
    dsimp only
    rw [if_neg (by simp [h8]; exact hl)]
  case ofs =>
    refine run_qmp_parts (d := if k.toNat = 0 then d.addOfs a.toNat h0.toInt else d.setOfs a.toNat (rPair 48 h0 h1)) h ?_
    have haxis : 256 * BitVec.toNat (([k, 0, 0, a, l0, l1, l2, l3, h2, h3, 0, 0] : List Byte).getD 2 0) +
        BitVec.toNat (([k, 0, 0, a, l0, l1, l2, l3, h2, h3, 0, 0] : List Byte).getD 3 0) = a.toNat := Nat.zero_add _
    subst e0 e1
    dsimp only
    rw [hp, haxis, if_neg (by simp; exact hk), if_neg (by rw [show (s.qmpCounted m).standby = false from hsb]; decide)]
    simp only [Chip.onCore, List.getD_cons_zero, List.drop, List.take]
    rw [if_neg he]
  case viewread =>
    refine run_qmp_parts (d := d) h ?_
    dsimp only
    rw [if_neg hver, if_neg (by rw [hps]; simp [hl]),
      show (if cyc = 0xFFFF_FFFF then (s.qmpCounted m).cycle.images.head? else (s.qmpCounted m).imageOf cyc) = some i from hi]
  case guarded =>
    refine run_qmp h (r := (y.guardedNow p (decodeAddr off) w, 0, [])) ?_
    dsimp only
    rw [if_neg hver, hm]
    dsimp only
    rw [if_neg (by rw [show (s.qmpCounted m).wmask k = true from hw, show (s.qmpCounted m).alive _ = true from ha]; decide),
      if_neg (by rw [wmaskOf_fast hm]; simp),
      show refusalIn ((Chip.guardedNow { core := s.qmpCounted m, ev := s.evBase } (sessionPath m.port m.session) (decodeAddr off) w).core.evq.drop
        (s.qmpCounted m).evq.length) = none from hg]
  case unknown => exact run_qmp_parts (d := d) h (by simp [h5, h6]; rfl)
  case close =>
    obtain ⟨-, -, -, -, hx, -, hseq, hver, -⟩ := id h
    have hne : m.seq ≠ x.seq := fun he => by rw [he] at hseq; omega
    refine next_chip (s := s) (f := fun y => y.qmpClose m) (y := { core := (d.qmpReply m x (ok 0xF [])).endSession m.port m.session 2, ev := s.evBase }) ?_
    rw [Chip.qmpClose]
    dsimp only
    rw [Chip.qmpRequest_asks h, hx]
    dsimp only
    rw [Core.qmpReply_session]
    dsimp only
    rw [if_pos (by simp [hne, hver])]
    rfl
  case again =>
    obtain ⟨hp, hu, ho, ht⟩ := h
    exact next_chip (s := s) (f := fun y => y.qmpRead m) (Chip.qmpRequest_again hp hu ho ht h0 hx hseq)
  case old =>
    obtain ⟨hp, hu, ho, ht⟩ := h
    exact next_chip (s := s) (f := fun y => y.qmpRead m) (Chip.qmpRequest_old hp hu ho ht h0 hx hseq)
  case badTag => exact next_chip (s := s) (f := fun y => y.qmpRead m) (Chip.qmpRequest_badTag hp hu ho ht)
  case timeout =>
    refine next_core (f := fun c => c.qmpTimeout port id) ?_
    rw [Core.qmpTimeout, hx]
    exact if_neg h0
  case arp => exact next_core (f := fun c => c.plantFrame port .arp) (if_neg (by simp [hp, hu]))
  case icmp => exact next_core (f := fun c => c.plantFrame port .icmp) (if_neg (by simp [hp, hu]))
  case other => exact next_core (f := fun c => c.plantFrame port .other) (if_neg (by simp [hp, hu]))

end Sys2Proof.Machine
end

section
/-! A feedback channel in service: its samples, conversions, transfers, latches and switches (R229 to R254, R390, R459). -/

namespace Sys2Proof.Machine

section
variable {c : Core} {n : Nat}

theorem Core.chanUp_iff : c.chanUp n = true ↔ c.running = true ∧ n < 16 ∧ c.iso 3 n = false := by
  simp [Core.chanUp, and_assoc]

theorem Core.levelChange_up {cs : List LineChange} (h : c.chanUp n = true) :
    c.levelChange n cs =
      let ks := cs.map fun k => { k with stamp := c.pinTime (0x10 + 4 * n + k.line) k.stamp }
      let d := c.at (ks.foldl (fun t k => rtMax t k.stamp) c.time.now)
      (d.putChan n ((d.ch n).levelChange n (d.chanAxis n) d.cycle.rtS ks)).latched n
          fun y => y.latchLate (d.ch n).digital ((d.ch n).decode ks) := by
  rw [Core.levelChange, if_neg (by simp [h])]
  rfl

theorem Core.adcConversion_up {k : Nat} {xs xc : Int} (h : c.adcUp n = true) :
    c.adcConversion n k xs xc =
      let t := rtAdd c.cycle.rtS (2000 * k : Nat)
      let d := c.at t
      let y := d.ch n
      let xs' := d.adcCal (2 * n) xs
      let xc' := d.adcCal (2 * n + 1) xc
      let v := scCorrect y.lin y.lin2 xs' xc'
      let e := if y.type = 4 then d.putChan n (y.convert n (d.chanAxis n) (decide (k = 0)) t xs' xc') else d
      let g := e.latched n fun z => z.latchResolve (e.ch n)
      if g.visOk = true then { g with vis := g.vis.sample g.vcfg n k t v.1 v.2.1 g.tcyc } else g := by
  rw [Core.adcConversion, if_neg (by simp [h])]
  rfl

theorem Core.excitationPeak_up {t : Rt} {xs xc : Int} (h : c.adcUp n = true) (ht : (c.ch n).type = 6) :
    c.excitationPeak n t xs xc =
      let d := c.at t
      let y := d.ch n
      let xs' := d.adcCal (2 * n) xs
      let xc' := d.adcCal (2 * n + 1) xc
      let v := scCorrect y.lin y.lin2 xs' xc'
      let e := d.putChan n (y.convert n (d.chanAxis n) false t xs' xc')
      let q := e.sig.fifo.look n []
      if 2 ≤ q.length then
        ({ e with sig := { e.sig with peakOvf := e.sig.peakOvf + 1, lost := e.sig.lost ||| (1 <<< n) } } : Core).raise [evPair EvNo.spPeakLost n]
      else ({ e with sig := { e.sig with fifo := e.sig.fifo.put n (q ++ [(v.1, v.2.1, t)]) } } : Core).peakRequest n := by
  rw [Core.excitationPeak, if_neg (by simp [h, ht])]

theorem Core.latchEvent_up {r : Bool} {t : Rt} (h : c.chanUp n = true) (hs : c.standby = false) :
    c.latchEvent n r t =
      let u := c.pinTime (0x13 + 4 * n) t
      let d := (c.at u).putCh n { ((c.at u).ch n) with l := r }
      let y : Chan := { ((c.at u).ch n) with l := r }
      let o := y.latchEvent n (d.ch (fld y.cfg 19 16)) u
      if y.latSelects r then (d.putCh n o.ch).raise (o.evs.map fun e => fbEv e.num (d.chanAxis n) n) else d := by
  obtain ⟨hr, hn, hi⟩ := Core.chanUp_iff.mp h
  rw [Core.latchEvent, if_neg (by simp [hr, hn, hi, hs])]

theorem Core.ssiDone_up {low par stop : Bool} {data : Nat} (h : c.chanUp n = true) (ht : (c.ch n).type = 5) (hb : (c.ch n).ssiBusy = true)
    (hs : c.standby = false) :
    c.ssiDone n low data par stop =
      c.putChan n ((c.ch n).ssiDone n (c.chanAxis n) low (data % 2 ^ fld (c.ch n).ssiCfg 13 8) par stop) :=
  if_pos (by simp [h, ht, hb, hs])

/-- An input's new level acts on every axis in turn. -/
def Core.switchActs (c : Core) (n : Nat) (l : Bool) (u : Rt) : Core :=
  c.axes.foldl (fun (z : Core) a => ((z.limitInput a n true l).limitInput a n false l).homeInput a n l u) c

/-- The parts at a later time, with the inputs' levels changed. -/
def Core.switched (c : Core) (t : Rt) (sw : Tab SwitchIn) : Core := { (c.at t) with prof := { (c.at t).prof with sw := sw } }

theorem Core.switched_axes (t : Rt) (sw : Tab SwitchIn) : (c.switched t sw).axes = c.axes := rfl

theorem Core.switched_cf (t : Rt) (sw : Tab SwitchIn) (a : Nat) : (c.switched t sw).cf a = c.cf a := rfl

theorem Core.switched_pa (t : Rt) (sw : Tab SwitchIn) (a : Nat) : (c.switched t sw).pa a = c.pa a := rfl

theorem Core.switchChange_new {l : Bool} {t : Rt} (hr : c.running = true) (hn : n < 16) (hs : c.standby = false)
    (hl : (c.prof.sw.look n {}).level ≠ l) :
    c.switchChange n l t =
      let u := c.pinTime (0x13 + 4 * n) t
      let d := c.at (rtAdd u 4000)
      (c.switched (rtAdd u 4000) (d.prof.sw.put n { level := l, ts := u })).switchActs n l u := by
  have hl' : decide ((c.prof.sw.look n {}).level = l) = false := decide_eq_false hl
  rw [Core.switchChange, if_neg (by rw [hr, hs, hl']; simp [hn])]
  rfl

/-- An input that is not an axis's limit switch leaves it alone. -/
theorem Core.limitInput_other {a : Nat} {neg l : Bool} (h : (if neg then c.cf a .limNegIn else c.cf a .limPosIn) ≠ n) :
    c.limitInput a n neg l = c := by
  unfold Core.limitInput
  dsimp only
  rw [if_pos (by simpa using h)]

/-- The negative switch opens while the positive one is open: the axis's limit is over. -/
theorem Core.limitInput_opens {a : Nat} {l : Bool} (h : c.cf a .limNegIn = n) (hp : (c.pa a).limP = false)
    (hl : l = natBit (c.cf a .limPol).toNat 0) :
    c.limitInput a n true l =
      ((c.updPa a fun y => { y with limN := false }).updGa a fun g => { g with deg := g.deg &&& (63 - dgLim) }) := by
  have hpa : (c.updPa a fun y => { y with limN := false }).pa a = { c.pa a with limN := false } := Tab.look_put_self ..
  have hq : (l != natBit (c.cf a .limPol).toNat 0) = false := by simp [hl]
  unfold Core.limitInput
  dsimp only
  rw [if_neg (by simp [h])]
  simp only [if_true, hq, Bool.false_eq_true, if_false]
  rw [if_pos (by rw [hpa]; simp [hp])]

theorem Core.homeInput_other {a : Nat} {l : Bool} {u : Rt} (h : c.cf a .hmSw ≠ n) : c.homeInput a n l u = c := if_neg h

/-- The negative switch of the only axis opens, and the input is nothing else of it. -/
theorem Core.switchActs_opens {a : Nat} {l : Bool} {u : Rt} (hax : c.axes = [a]) (h1 : c.cf a .limNegIn = n) (h2 : c.cf a .limPosIn ≠ n)
    (h3 : c.cf a .hmSw ≠ n) (hp : (c.pa a).limP = false) (hl : l = natBit (c.cf a .limPol).toNat 0) :
    c.switchActs n l u =
      ((c.updPa a fun y => { y with limN := false }).updGa a fun g => { g with deg := g.deg &&& (63 - dgLim) }) := by
  rw [Core.switchActs, hax, List.foldl_cons, List.foldl_nil, Core.limitInput_opens h1 hp hl,
    Core.limitInput_other (by exact h2), Core.homeInput_other (by exact h3)]

end

/-! ### What the channel does -/

section
variable {x : Chan} {n : Nat} {ax : Option Nat} {rtS t u : Rt}

/-- No index is missed where the channel checks none. -/
theorem Chan.checkMissing_off {late : Bool} (h : x.idxMode ≠ 2) : x.checkMissing n ax late = (x, []) :=
  if_neg (by simp [h])

theorem Chan.decode_step {l : Bool} {m : Int} (h1 : x.type = 1) (hm : quadStep x.a x.b l x.b = some m) (h0 : m ≠ 0) :
    x.decode [{ line := 0, level := l, stamp := t }] = { edges := [(x.inv m, t)], stamp := t } := by
  have ha : newLevel [{ line := 0, level := l, stamp := t }] 0 x.a = l := rfl
  have hb : newLevel [{ line := 0, level := l, stamp := t }] 1 x.b = x.b := rfl
  unfold Chan.decode
  dsimp only
  rw [if_pos (by simp [h1]), ha, hb, hm]
  split
  · next heq => cases heq
  · next heq => exact absurd (Option.some.inj heq) h0
  · next heq => obtain rfl := Option.some.inj heq; rfl

theorem quadStep_both (a b : Bool) : quadStep a b (!a) (!b) = none := by
  cases a <;> cases b <;> rfl

theorem Chan.decode_double (h1 : x.type = 1) :
    x.decode [{ line := 0, level := !x.a, stamp := t }, { line := 1, level := !x.b, stamp := u }] = { double := true, stamp := rtMax t u } := by
  have ha : newLevel [{ line := 0, level := !x.a, stamp := t }, { line := 1, level := !x.b, stamp := u }] 0 x.a = !x.a := rfl
  have hb : newLevel [{ line := 0, level := !x.a, stamp := t }, { line := 1, level := !x.b, stamp := u }] 1 x.b = !x.b := rfl
  unfold Chan.decode
  dsimp only
  rw [if_pos (by simp [h1]), ha, hb, quadStep_both x.a x.b]
  rfl

/-- A channel's levels at a sample. -/
def Chan.levels (x : Chan) (cs : List LineChange) : Chan := { x with a := newLevel cs 0 x.a, b := newLevel cs 1 x.b, z := newLevel cs 2 x.z }

/-- A sample without a change of the index line, on a channel that misses no index. -/
theorem Chan.levelChange_quiet {cs : List LineChange} {y : Chan} (hz : newLevel cs 2 x.z = x.z) (hi : y.idxMode ≠ 2)
    (hy : { (x.decode cs).edges.foldl (fun c e => c.count (decide (n < 4)) rtS e) x with
      a := newLevel cs 0 x.a, b := newLevel cs 1 x.b, z := newLevel cs 2 x.z } = y) :
    x.levelChange n ax rtS cs =
      if (x.decode cs).double then
        { ch := { (y.setFlag fDbl (!rtGe (x.decode cs).stamp rtS)) with errDbl := incWrap 16 y.errDbl, suspect := true }
          evs := [fbEv EvNo.fbDouble ax n], rise := !x.suspect }
      else { ch := y, rise := !x.suspect && y.suspect } := by
  unfold Chan.levelChange
  extract_lets priv susp0 d a b z zRise c1 late c2
  have hrise : zRise = false := by simp [zRise, z, hz]
  have hc2 : c2 = y := hy
  clear_value c2
  subst hc2
  by_cases hd : d.double = true
  · have hd' : (x.decode cs).double = true := hd
    rw [if_pos hd, if_pos hd']
    have hi' : ({ (c2.setFlag fDbl late) with errDbl := incWrap 16 c2.errDbl, suspect := true } : Chan).idxMode ≠ 2 := by
      unfold Chan.setFlag
      dsimp only
      split
      · exact hi
      · exact hi
    dsimp -zeta only
    extract_lets susp1 o c3
    have ho : o = { ch := { (c2.setFlag fDbl late) with errDbl := incWrap 16 c2.errDbl, suspect := true } } := if_neg (by simp [hrise])
    have hc3 : c3 = { (c2.setFlag fDbl late) with errDbl := incWrap 16 c2.errDbl, suspect := true } := congrArg ChanOut.ch ho
    rw [ho, hc3, Chan.checkMissing_off hi']
    simp only [List.append_nil, Bool.and_true, Bool.false_and]
    rfl
  · have hd' : ¬(x.decode cs).double = true := hd
    rw [if_neg hd, if_neg hd']
    dsimp -zeta only
    extract_lets susp1 o c3
    have ho : o = { ch := c2 } := if_neg (by simp [hrise])
    have hc3 : c3 = c2 := congrArg ChanOut.ch ho
    rw [ho, hc3, Chan.checkMissing_off hi]
    simp only [List.append_nil, Bool.false_and]
    rfl

/-- One transition of a quadrature channel. -/
theorem Chan.levelChange_step {l : Bool} {m : Int} (h1 : x.type = 1) (hi : x.idxMode ≠ 2) (hm : quadStep x.a x.b l x.b = some m)
    (h0 : m ≠ 0) (ht : rtGe t rtS = true) :
    x.levelChange n ax rtS [{ line := 0, level := l, stamp := t }] =
      { ch := { x with a := l, n := x.n + BitVec.ofInt 32 (x.inv m), edges := x.edges ++ [(x.inv m, t)] } } := by
  have hd := Chan.decode_step (t := t) h1 hm h0
  have hc : x.count (decide (n < 4)) rtS (x.inv m, t) = { x with n := x.n + BitVec.ofInt 32 (x.inv m), edges := x.edges ++ [(x.inv m, t)] } := by
    rw [Chan.count, if_pos ht]
    rfl
  rw [Chan.levelChange_quiet (y := { x with a := l, n := x.n + BitVec.ofInt 32 (x.inv m), edges := x.edges ++ [(x.inv m, t)] })
    rfl hi (by rw [hd, List.foldl_cons, List.foldl_nil, hc]; rfl), hd]
  simp

/-- Both lines of a quadrature channel at one sample. -/
theorem Chan.levelChange_double (h1 : x.type = 1) (hi : x.idxMode ≠ 2) :
    x.levelChange n ax rtS [{ line := 0, level := !x.a, stamp := t }, { line := 1, level := !x.b, stamp := u }] =
      { ch := { (x.setFlag fDbl (!rtGe (rtMax t u) rtS)) with a := !x.a, b := !x.b, errDbl := incWrap 16 x.errDbl, suspect := true }
        evs := [fbEv EvNo.fbDouble ax n], rise := !x.suspect } := by
  have hd := Chan.decode_double (t := t) (u := u) h1
  rw [Chan.levelChange_quiet (y := { x with a := !x.a, b := !x.b }) rfl hi (by rw [hd]; rfl), hd, if_pos rfl]
  cases rtGe (rtMax t u) rtS with
  | true => rfl
  | false => rfl

theorem Chan.lineFault_ends : x.lineFault n ax false = { ch := { x with linef := false } } := by
  unfold Chan.lineFault
  split
  · rfl
  · rfl

theorem Chan.lineFault_begins (h : x.type ≠ 0) :
    x.lineFault n ax true = { ch := { x with linef := true, suspect := true, bad := true }
                              evs := if x.linef then [] else [fbEv EvNo.fbLineFault ax n], rise := !x.suspect } := by
  rw [Chan.lineFault, if_neg h, if_pos rfl]

/-! ### Conversions -/

/-- A sin/cos channel with a conversion after S, which its window check has seen to be outside or not. -/
def Chan.converted (x : Chan) (t : Rt) (sv cv : Int) (amp : Nat) (out : Bool) : Chan :=
  { x with ampMin := min x.ampMin amp, conv := (x.conv ++
    [((scPos x.n (fbAngle sv cv) x.interp (x.fineoff || out)).1, t)]).drop (x.conv.length - 3) }

theorem Chan.convert_late {xs xc sv cv : Int} {amp : Nat} (h4 : x.type = 4) (hv : scCorrect x.lin x.lin2 xs xc = (sv, cv, amp, false)) :
    x.convert n ax false t xs xc =
      let y := x.converted t sv cv amp (x.outWin amp)
      if x.outWin amp then
        { ch := { (y.setFlag fScWin false) with errAnom := incWrap 16 x.errAnom, suspect := true, bad := true }
          evs := [fbEv EvNo.scAmplitude ax n], rise := !x.suspect }
      else { ch := y, rise := !x.suspect && x.suspect } := by
  unfold Chan.convert
  rw [hv]
  dsimp -zeta only
  extract_lets out susp0 c1 c2 c3 p c4
  have h3 : c3 = { x with ampMin := min x.ampMin amp } := by
    simp only [c3, c2, c1, Bool.false_eq_true, if_false]
  have hc4 : c4 = x.converted t sv cv amp (x.outWin amp) := by
    have ht : c3.type = 4 := by rw [h3]; exact h4
    simp only [c4, p, if_pos ht, h3]
    rfl
  clear_value c4
  subst hc4
  by_cases ho : x.outWin amp = true
  · have ho' : out = true := ho
    rw [if_pos ho, if_pos ho']
    rfl
  · have ho' : ¬out = true := ho
    rw [if_neg ho, if_neg ho']
    rfl

/-! ### SSI -/

theorem Chan.ssiDone_bad {low par stop : Bool} {data : Nat}
    (hb : (low || stop || bit x.ssiCfg 15 && (parityOf data (fld x.ssiCfg 13 8) != par)) = true) :
    x.ssiDone n ax low data par stop =
      { ch := { (x.setFlag fSsiErr true) with
          ssiBusy := false, errAnom := incWrap 16 x.errAnom, suspect := true, badS := true, ssiErr := true }
        evs := [fbEv EvNo.ssiError ax n], rise := !x.suspect } := by
  unfold Chan.ssiDone
  extract_lets w badPar c
  rw [if_pos hb]
  rfl

theorem Chan.ssiDone_first {low par stop : Bool} {data : Nat}
    (hb : (low || stop || bit x.ssiCfg 15 && (parityOf data (fld x.ssiCfg 13 8) != par)) = false) (hr : x.ssiRaw = none)
    (hs : x.suspect = false) (hi : x.idxMode ≠ 2) (hg : bit x.ssiCfg 14 = false) (hd : data < 2 ^ fld x.ssiCfg 13 8) :
    x.ssiDone n ax low data par stop =
      { ch := { x with ssiBusy := false, n := w32 data, nS := w32 data, pos := w32 data, formed := true, ssiRaw := some data, ssiErr := false } } := by
  unfold Chan.ssiDone
  extract_lets w badPar c e bad raw k clear susp0
  rw [if_neg (Bool.eq_false_iff.mp hb)]
  have hraw : raw = data := by
    have hbin : (if bit c.ssiCfg 14 then grayBin data 5 else data) = data := if_neg (Bool.eq_false_iff.mp hg)
    simp only [raw, hbin]
    exact Nat.mod_eq_of_lt hd
  have hcr : c.ssiRaw = none := hr
  have hk : k = w32 data := by
    simp only [k, hcr, hraw]
  have hclear : clear = false := by simp [clear, c, hs]
  have hsusp : susp0 = x.suspect := by simp [susp0, c, hs]
  rw [hk, hraw, hclear, hsusp, Chan.checkMissing_off (by exact hi)]
  dsimp only
  rw [hs]
  rfl

end

/-- Settles O39: the commands by what each input does, the channel by its own rules. -/
theorem feedbackChannels : Obligations.FeedbackChannels := by
  refine ⟨fun s n hn h => ?inputs, fun x n ax rtS t u l par k data src xs xc => ?channel⟩
  case inputs =>
    obtain ⟨hr, -, -⟩ := Core.chanUp_iff.mp h
    intro c x ax
    refine ⟨fun cs => ?level, ?rejected, fun b => ?line, fun k xs xc ha => ?conversion, fun t xs xc ha h6 => ⟨fun hq => ?peak, fun hq => ?lost⟩,
      fun low data par stop h5 hb hs => ?ssi, fun r t hs => ⟨fun hl => ?latch, fun hl => ?noLatch⟩,
      fun r t data hs => ⟨?sbLatch, ?sbSsi, ?sbSwitch⟩, fun l t hs hl => ⟨?switch, fun a hax h1 h2 h3 h4 h5 => ?opens⟩, fun l t hl => ?same⟩
    case level => exact next_core (f := fun c => c.levelChange n cs) (Core.levelChange_up h)
    case rejected => exact next_core (f := fun c => c.pulseRejected n) (if_pos h)
    case line => exact next_core (f := fun c => c.lineFault n b) (if_pos h)
    case conversion => exact next_core (f := fun c => c.adcConversion n k xs xc) (Core.adcConversion_up ha)
    case peak => exact next_core (f := fun c => c.excitationPeak n t xs xc) ((Core.excitationPeak_up ha h6).trans (if_neg (by exact Nat.not_le.mpr hq)))
    case lost => exact next_core (f := fun c => c.excitationPeak n t xs xc) ((Core.excitationPeak_up ha h6).trans (if_pos hq))
    case ssi => exact next_core (f := fun c => c.ssiDone n low data par stop) (Core.ssiDone_up h h5 hb hs)
    case latch => exact next_core (f := fun c => c.latchEvent n r t) ((Core.latchEvent_up h hs).trans (if_pos hl))
    case noLatch => exact next_core (f := fun c => c.latchEvent n r t) ((Core.latchEvent_up h hs).trans (if_neg (Bool.eq_false_iff.mp hl)))
    case sbLatch => exact next_core (f := fun c => c.latchEvent n r t) (if_pos (by rw [show s.base.standby = true from hs]; simp))
    case sbSsi => exact next_core (f := fun c => c.ssiDone n r data false false) (if_neg (by rw [show s.base.standby = true from hs]; simp))
    case sbSwitch => exact next_core (f := fun c => c.switchChange n r t) (if_pos (by rw [show s.base.standby = true from hs]; simp))
    case switch => exact next_core (f := fun c => c.switchChange n l t) (Core.switchChange_new hr hn hs hl)
    case opens =>
      refine next_core (f := fun c => c.switchChange n l t) ((Core.switchChange_new hr hn hs hl).trans ?_)
      exact Core.switchActs_opens ((Core.switched_axes ..).trans hax) ((congrFun (Core.switched_cf ..) _).trans h1)
        (by rw [Core.switched_cf]; exact h2) (by rw [Core.switched_cf]; exact h3)
        ((congrArg ProfAxis.limP (Core.switched_pa ..)).trans h4) (by rw [Core.switched_cf]; exact h5)
    case same => exact next_core (f := fun c => c.switchChange n l t) (if_pos (by rw [show (s.base.prof.sw.look n {}).level = l from hl]; simp))
  case channel =>
    refine ⟨fun m h1 hi hm h0 ht => Chan.levelChange_step h1 hi hm h0 ht, fun h1 hi => Chan.levelChange_double h1 hi,
      fun h => Chan.lineFault_begins h, Chan.lineFault_ends, fun sv cv amp h4 hv => ?conversion,
      fun low stop => ⟨fun hb => Chan.ssiDone_bad hb, fun hb hr hs hi hg hd => Chan.ssiDone_first hb hr hs hi hg hd⟩,
      fun hl => if_pos hl, fun hl => ?latchFull⟩
    case conversion =>
      have hc := Chan.convert_late (n := n) (ax := ax) (t := t) h4 hv
      refine ⟨fun ho => ?inside, fun ho => ?outside⟩
      case inside =>
        rw [hc, ho]
        exact ⟨rfl, rfl⟩
      case outside =>
        rw [hc, ho]
        rfl
    case latchFull =>
      rw [Chan.latchEvent, if_neg (Nat.not_lt.mpr hl)]
      exact ⟨rfl, rfl⟩

end Sys2Proof.Machine
end

section
/-! The offset search and the observer's sub-states (R287, R306, R309, R312 to R315, R319, R321). -/

namespace Sys2Proof.Machine

section
variable {c : Core} {a : Nat}

/-! ### The offset search -/

theorem Core.alignAdvance_in (h : (c.ax a).state = .align) :
    c.alignAdvance a =
      match (c.fa a).align.step with
      | .idle => c
      | .check =>
        if c.susp a || c.badCyc a || (c.fa a).uv then c.updAlign a fun x => x.fail 0x4 c.now
        else c.updAlign a fun x => { (x.enter .ramp1 c.now) with theta := 0x4000, idref := 0 }
      | .ramp1 =>
        let d := c.alignAt a (c.cf a .cmtAlnRamp)
        d.updAlign a fun x => { (x.enter .hold1 d.now) with idref := c.cf a .cmtAlnI }
      | .hold1 =>
        if (c.fa a).align.still (c.cf a) then
          c.updAlign a fun x => { (x.enter .step c.now) with th1 := rawAngle (c.cf a) (c.fa a).p }
        else c
      | .step => if (c.fa a).align.theta = 0 then c.updAlign a fun x => x.enter .hold2 c.now else c
      | .hold2 =>
        if (c.fa a).align.still (c.cf a) then
          c.updAlign a fun x => { (x.enter .eval c.now) with th2 := rawAngle (c.cf a) (c.fa a).p }
        else c
      | .eval =>
        let r := alignEval (c.cf a) (c.fa a).align.th1 (c.fa a).align.th2
        if r = 0 then c.updAlign a fun x => { (x.enter .rampdn c.now) with failed := false, idTop := x.idref }
        else c.updAlign a fun x => x.fail r c.now
      | .rampdn =>
        let d := c.alignAt a (c.cf a .cmtAlnRamp)
        if (c.fa a).align.failed then d.alignFailed a else d.alignDone a := by
  unfold Core.alignAdvance
  dsimp only
  rw [if_neg (by simp [h])] <;> rfl

/-! ### The observer's timers -/

/-- t_U and T_cyc of the last probe's mode (R323). -/
def Core.probeMode (c : Core) (x : ObsAxis) : Nat × Nat :=
  match x.va with | w :: _ => (w.tU, w.tcyc) | [] => (c.modeI.tU, c.tcyc)

/-- What three probe currents give (R306). -/
def Core.probed (c : Core) (a : Nat) (p q r : Int × Int) : ProbeVals :=
  probeVals (c.cf a) (c.probeMode (c.ob a)).1 (c.probeMode (c.ob a)).2 p q r

theorem Core.probeSeqDone_of {p q r : Int × Int} {o : Probe} (h : (c.ob a).sub = .probe ∨ (c.ob a).sub = .detect)
    (hp : (c.ob a).prb = [p, q, r]) (ho : probeOutcome (c.cf a) (c.probed a p q r) = o) :
    c.probeSeqDone a =
      let x := c.ob a
      let v := c.probed a p q r
      c.putObs a (match o with
        | .rest => { x := { x.startAlign with dirNeg := if x.sub = .probe then decide (rF16 (c.word a oNref) < 0) else x.dirNeg } }
        | .inconsistent => x.fail (c.cf a) a 0x5
        | .keHigh =>
          { x := { (x.enter .other) with probeR := v.rp, keHigh := true, keLow := false, retries := 0 }
            evs := [evAxis EvNo.keHigh a, evAxis EvNo.startFailed a], fault := true }
        | .turning low =>
          { x := { (x.enter .preset) with probeR := v.rp, keLow := low, keHigh := false, prbReact := low
                                          wp := v.wp, thp := v.thp, ep := v.ep, emf := v.emf }
            evs := if low then [evAxis EvNo.keLow a] else [] }) := by
  have hdone : c.probeSeqDone a =
      c.putObs a ((c.ob a).probeDone (c.cf a) a (c.probeMode (c.ob a)).1 (c.probeMode (c.ob a)).2 (rF16 (c.word a oNref))) :=
    if_pos ⟨h, by rw [hp]; rfl⟩
  rw [hdone, ObsAxis.probeDone, hp]
  dsimp only
  rw [show probeOutcome (c.cf a) (probeVals (c.cf a) (c.probeMode (c.ob a)).1 (c.probeMode (c.ob a)).2 p q r) = o from ho]
  cases o <;> rfl

theorem Core.obsTimer_passed {sub : ObsSub} {ms : Cf} {f : Core → Core} (h1 : (c.ob a).sub = sub) (h2 : c.parked = false)
    (h3 : msCycles (c.cf a ms) c.tcyc ≤ (c.ob a).cyc) : c.obsTimer a sub ms f = f c :=
  if_pos ⟨h1, h2, h3⟩

/-- An axis whose sub-state is as before keeps its state. -/
theorem Core.followSub_same {before : ObsSub} (h : (c.ob a).sub = before) : c.followSub a before = c := if_pos h

theorem Core.ob_updOb {f : ObsAxis → ObsAxis} : (c.updOb a f).ob a = f (c.ob a) := Tab.look_put_self ..

/-- OBS_HOLD has passed, as a proposition. -/
theorem ObsAxis.holdPassed_iff {x : ObsAxis} {cf : Cf → Int} {tcyc : Nat} :
    x.holdPassed cf tcyc = true ↔
      (x.sub = .hold ∧ msCycles (cf .obsHold) tcyc ≤ x.cyc) ∨
        ((x.sub = .track ∨ x.sub = .hold) ∧ msCycles (cf .obsHold) tcyc < x.blindRun) := by
  simp [ObsAxis.holdPassed]

theorem ObsAxis.holdExpire_waits {x : ObsAxis} {cf : Cf → Int} {tcyc : Nat} {cycle : W32} (h : x.holdPassed cf tcyc = true)
    (hw : x.sub = .hold ∧ x.blindRun = 0 ∧ x.seen ≠ some cycle) :
    x.holdExpire cf a tcyc cycle = ({ x with holdDue := true }, []) := by
  rw [ObsAxis.holdExpire, if_neg (by simp [h]), if_pos hw]

theorem ObsAxis.holdExpire_ends {x : ObsAxis} {cf : Cf → Int} {tcyc : Nat} {cycle : W32} (h : x.holdPassed cf tcyc = true)
    (hw : ¬(x.sub = .hold ∧ x.blindRun = 0 ∧ x.seen ≠ some cycle)) :
    x.holdExpire cf a tcyc cycle = ({ (x.enter .inhibit) with thUse := none }, [evAxis EvNo.obsLost a]) := by
  rw [ObsAxis.holdExpire, if_neg (by simp [h]), if_neg hw]

theorem Core.obsHoldExpiry_eq (h : c.parked = false) :
    c.obsHoldExpiry a =
      let r := (c.ob a).holdExpire (c.cf a) a c.tcyc c.cycle.cycle
      ((c.updOb a fun _ => r.1).raise r.2).followSub a (c.ob a).sub := by
  rw [Core.obsHoldExpiry, if_neg (by simp [h])]

/-- The decision waits for the cycle's OBSERVE. -/
theorem Core.obsHoldExpiry_waits (h : c.parked = false) (hp : (c.ob a).holdPassed (c.cf a) c.tcyc = true)
    (hw : (c.ob a).sub = .hold ∧ (c.ob a).blindRun = 0 ∧ (c.ob a).seen ≠ some c.cycle.cycle) :
    c.obsHoldExpiry a = (c.updOb a fun _ => { c.ob a with holdDue := true }).raise [] := by
  have hob : (c.updOb a fun _ => { c.ob a with holdDue := true }).ob a = { c.ob a with holdDue := true } := Core.ob_updOb
  rw [Core.obsHoldExpiry_eq h, ObsAxis.holdExpire_waits hp hw]
  refine Core.followSub_same ?_
  change ((c.updOb a fun _ => { c.ob a with holdDue := true }).ob a).sub = _
  rw [hob]

/-! ### The back-EMF constant -/

theorem Core.keCheck_full (h : 1024 ≤ (c.ob a).keN) :
    c.keCheck a =
      let e := c.putObs a ((c.ob a).keWindow (c.cf a) a)
      if (e.ob a).keLow || (e.ob a).keHigh then e else e.updGa a fun g => { g with deg := g.deg &&& (63 - dgKe) } :=
  if_neg (Nat.not_lt.mpr h)

/-- The sums start anew, with the ratio and where it lies. -/
def ObsAxis.keDone (x : ObsAxis) (cf : Cf → Int) : ObsAxis :=
  { x with ratio := uq115 x.se x.sk, sk := 0, se := 0, keN := 0
           keLow := decide ((uq115 x.se x.sk : Int) < cf .keLo), keHigh := decide (cf .keHi < (uq115 x.se x.sk : Int))
           outLow := decide ((uq115 x.se x.sk : Int) < cf .keLo), outHigh := decide (cf .keHi < (uq115 x.se x.sk : Int)) }

theorem ObsAxis.keWindow_full {x : ObsAxis} {cf : Cf → Int} {low high : Bool} (h : 1024 ≤ x.keN)
    (hl : decide ((uq115 x.se x.sk : Int) < cf .keLo) = low) (hh : decide (cf .keHi < (uq115 x.se x.sk : Int)) = high) :
    x.keWindow cf a =
      { x := x.keDone cf
        evs := if low && !x.outLow then [evAxis EvNo.keLow a] else if high && !x.outHigh then [evAxis EvNo.keHigh a] else []
        react := if low || high then (cf .keReact).toNat else 0 } := by
  subst hl hh
  exact if_neg (Nat.not_lt.mpr h)

end

/-- Settles O40: each step of the search by its own arm, each timer by its outcome. -/
theorem alignmentAndObserver : Obligations.AlignmentAndObserver := by
  refine ⟨fun s a _ hst => ?search, fun s a _ => ?observer⟩
  case search =>
    have hadv := Core.alignAdvance_in hst
    intro c g cf seek ramped held failed enter
    refine ⟨fun h ht => ?check, fun h ht => ?untrusted, fun h => ?ramp, fun h hs => ?hold1, fun h ht => ?step, fun h hs => ?hold2,
      fun h hr => ?pass, fun h hr => ?differ, fun h hf => ?down, fun h hf => ?downFailed, fun h => ?timeout⟩
    case check =>
      rw [show (s.base.fa a).align.step = _ from h] at hadv
      exact next_core (f := fun c => c.alignAdvance a) (hadv.trans (if_neg (Bool.eq_false_iff.mp ht)))
    case untrusted =>
      rw [show (s.base.fa a).align.step = _ from h] at hadv
      exact next_core (f := fun c => c.alignAdvance a) (hadv.trans (if_pos ht))
    case ramp =>
      rw [show (s.base.fa a).align.step = _ from h] at hadv
      exact next_core (f := fun c => c.alignAdvance a) (hadv)
    case hold1 =>
      rw [show (s.base.fa a).align.step = _ from h] at hadv
      exact next_core (f := fun c => c.alignAdvance a) (hadv.trans (if_pos hs))
    case step =>
      rw [show (s.base.fa a).align.step = _ from h] at hadv
      exact next_core (f := fun c => c.alignAdvance a) (hadv.trans (if_pos ht))
    case hold2 =>
      rw [show (s.base.fa a).align.step = _ from h] at hadv
      exact next_core (f := fun c => c.alignAdvance a) (hadv.trans (if_pos hs))
    case pass =>
      rw [show (s.base.fa a).align.step = _ from h] at hadv
      exact next_core (f := fun c => c.alignAdvance a) (hadv.trans (if_pos hr))
    case differ =>
      rw [show (s.base.fa a).align.step = _ from h] at hadv
      exact next_core (f := fun c => c.alignAdvance a) (hadv.trans (if_neg hr))
    case down =>
      rw [show (s.base.fa a).align.step = _ from h] at hadv
      exact next_core (f := fun c => c.alignAdvance a) (hadv.trans (if_neg (Bool.eq_false_iff.mp hf)))
    case downFailed =>
      rw [show (s.base.fa a).align.step = _ from h] at hadv
      exact next_core (f := fun c => c.alignAdvance a) (hadv.trans (if_pos hf))
    case timeout => exact next_core (f := fun c => c.alignTimeout a) (if_pos ⟨hst, h⟩)
  case observer =>
    intro c x cf nref enter past
    refine ⟨fun p q r hsub hp => ?probe, fun h => ?inhibit, fun h => ?align, fun h ht => ?merged, fun h ht => ?unmerged, fun h => ?retry,
      fun h1 h2 h3 => ?tmo, fun h hk => ⟨fun hw => ?waits, fun hw => ?lost⟩, fun h => ?ke⟩
    case probe =>
      exact ⟨fun ho => next_core (f := fun c => c.probeSeqDone a) (Core.probeSeqDone_of hsub hp ho),
        fun ho => next_core (f := fun c => c.probeSeqDone a) (Core.probeSeqDone_of hsub hp ho),
        fun ho => next_core (f := fun c => c.probeSeqDone a) (Core.probeSeqDone_of hsub hp ho),
        fun low ho => next_core (f := fun c => c.probeSeqDone a) (Core.probeSeqDone_of hsub hp ho)⟩
    case inhibit =>
      obtain ⟨h1, h2, h3⟩ := h
      exact next_core (f := fun c => c.obsInhExpiry a) (Core.obsTimer_passed h1 h2 h3)
    case align =>
      obtain ⟨h1, h2, h3⟩ := h
      exact next_core (f := fun c => c.obsAlnExpiry a) (Core.obsTimer_passed h1 h2 h3)
    case merged =>
      obtain ⟨h1, h2, h3⟩ := h
      exact next_core (f := fun c => c.obsMergeExpiry a) ((Core.obsTimer_passed h1 h2 h3).trans (if_neg (by simp; exact ht)))
    case unmerged =>
      obtain ⟨h1, h2, h3⟩ := h
      exact next_core (f := fun c => c.obsMergeExpiry a) ((Core.obsTimer_passed h1 h2 h3).trans (if_pos (Option.isSome_iff_ne_none.mpr ht)))
    case retry =>
      obtain ⟨h1, h2, h3⟩ := h
      exact next_core (f := fun c => c.obsRetryExpiry a) (Core.obsTimer_passed h1 h2 h3)
    case tmo => exact next_core (f := fun c => c.obsTmoExpiry a) (if_pos ⟨h1, h2, h3⟩)
    case waits =>
      exact next_core (f := fun c => c.obsHoldExpiry a) (Core.obsHoldExpiry_waits hk (ObsAxis.holdPassed_iff.mpr h) hw)
    case lost =>
      refine next_core (f := fun c => c.obsHoldExpiry a) ((Core.obsHoldExpiry_eq hk).trans ?_)
      rw [ObsAxis.holdExpire_ends (ObsAxis.holdPassed_iff.mpr h) hw]
    case ke =>
      have hke := Core.keCheck_full h
      refine ⟨fun hl hh => ?inside, fun hl ho => ?low, fun hl ho => ?lowAgain, fun hl hh => ?high⟩
      case inside =>
        rw [ObsAxis.keWindow_full h hl hh] at hke
        exact next_core (f := fun c => c.keCheck a) hke
      case low =>
        rw [ObsAxis.keWindow_full h hl rfl, show (s.base.ob a).outLow = false from ho] at hke
        exact next_core (f := fun c => c.keCheck a) hke
      case lowAgain =>
        rw [ObsAxis.keWindow_full h hl rfl, show (s.base.ob a).outLow = true from ho] at hke
        exact next_core (f := fun c => c.keCheck a) hke
      case high =>
        rw [ObsAxis.keWindow_full h hl hh] at hke
        have hevs : (if (true && !(s.base.ob a).outHigh) = true then [evAxis EvNo.keHigh a] else []) =
            if (s.base.ob a).outHigh then [] else [evAxis EvNo.keHigh a] := by
          cases (s.base.ob a).outHigh <;> rfl
        rw [hevs] at hke
        exact next_core (f := fun c => c.keCheck a) hke

end Sys2Proof.Machine
end

section
/-! The Gauntlet's inputs and timers (R477, R482 to R487, R495, R500). -/

namespace Sys2Proof.Machine

section
variable {c : Core} {n a : Nat}

/-! ### Safe inputs -/

theorem Core.at_sin (t : Rt) : (c.at t).sin n = c.sin n := rfl

theorem Core.at_sinCfg (t : Rt) : (c.at t).sinCfg n = c.sinCfg n := rfl

theorem Core.safeLevel_held {chB l : Bool} {t : Rt} (h : c.boot.held = false) (hn : n < 8) :
    c.safeLevel n chB l t =
      (c.at (rtAdd t ((c.sinCfg n).filt * 2000000))).putSin n
        ((if (c.sinCfg n).type = 3 then (c.sin n).rstClear t else c.sin n).change (c.sinCfg n) chB l t) := by
  rw [Core.safeLevel, if_neg (by simp [h, hn])]
  dsimp only
  rw [Core.at_sin]

section
variable {x : GsIn} {p : ImgSin} {t : Rt} {l : Bool}

theorem GsIn.change_demand (h : p.type = 1 ∨ p.type = 2) (chB : Bool) :
    x.change p chB l t = (if chB then { x with b := l, tB := t } else { x with a := l, tA := t } : GsIn).logic p t := by
  have h3 : p.type ≠ 3 := by omega
  unfold GsIn.change
  dsimp only
  rw [if_neg h3, if_pos h]

theorem GsIn.change_reset (h : p.type = 3) (chB : Bool) :
    x.change p chB l t =
      if chB then (if l then { x with b := l, tB := t, riseB := some t, fallB := none } else { x with b := l, tB := t, fallB := some t })
      else if l then { x with a := l, tA := t, riseA := some t, fallA := none } else { x with a := l, tA := t, fallA := some t } := by
  unfold GsIn.change
  dsimp only
  rw [if_pos h]
  cases chB <;> cases l <;> rfl

theorem GsIn.change_other (h1 : p.type ≠ 1) (h2 : p.type ≠ 2) (h3 : p.type ≠ 3) (chB : Bool) :
    x.change p chB l t = if chB then { x with b := l, tB := t } else { x with a := l, tA := t } := by
  unfold GsIn.change
  dsimp only
  rw [if_neg h3, if_neg (by simp [h1, h2])]

/-- A demand of one channel is a demand of the input. -/
theorem GsIn.logic_demand (h : (sinDemA p.type x.a || sinDemB p.type x.b) = true) : (x.logic p t).demand = true := if_pos h

end

theorem Core.discTimeout_runs {t : Rt} (h : (c.sin n).timer = some t) :
    c.discTimeout n =
      ((c.at (rtAdd t ((c.sinCfg n).disc * 40000000))).putSin n (c.sin n).discExpire).raise [{ num := EvNo.gsDiscrepancy, obj := n }] := by
  rw [Core.discTimeout, h]
  dsimp only
  rw [Core.at_sin]

/-! ### Reset and confirmation -/

/-- A group whose conditions held is marked for its release. -/
def GsState.markEdge (p : ImgGs) (n : Nat) (rise : Rt) (s : GsState) (g : Nat) : GsState :=
  if (p.group.look g {}).rstIn = some n && s.held (p.group.look g {}) (s.group.look g {}) rise then
    { s with group := s.group.upd g {} fun gr => { gr with edge := true } }
  else s

theorem GsState.resetEdge_marks {s : GsState} {p : ImgGs} {r : Rt × Rt} (hf : (s.input.look n {}).rstF = false)
    (hr : (s.input.look n {}).pulse 400000000 8000000000 = some r) (hg : s.glob = .safe ∨ s.glob = .run) :
    s.resetEdge p n =
      (List.range 8).foldl (GsState.markEdge p n r.1) { s with input := s.input.put n (s.input.look n {}).usePulse } := by
  obtain ⟨rise, fall⟩ := r
  unfold GsState.resetEdge
  dsimp only
  rw [hr]
  dsimp only
  rw [if_pos hg, hf]
  simp only [Bool.not_false, Bool.and_true]
  rfl

theorem GsState.resetEdge_used {s : GsState} {p : ImgGs} (hr : (s.input.look n {}).pulse 400000000 8000000000 ≠ none) (h1 : s.glob ≠ .safe)
    (h2 : s.glob ≠ .run) : s.resetEdge p n = { s with input := s.input.put n (s.input.look n {}).usePulse } := by
  obtain ⟨r, hr⟩ := Option.ne_none_iff_exists'.mp hr
  unfold GsState.resetEdge
  dsimp only
  rw [hr]
  dsimp only
  rw [if_neg (by simp [h1, h2])]

theorem Core.resetEdge_own (hs : c.role.role ≠ .spare) (ht : (c.sinCfg n).type = 3) :
    c.resetEdge n = { c with gs := c.gs.resetEdge c.image.gs n } := if_neg (by simp [hs, ht])

theorem Core.highLimit_eq {l : Int}
    (h : (n ≠ c.image.gs.confIn ∧ l = 8000000000) ∨ (n = c.image.gs.confIn ∧ c.gs.confDue.isSome = true ∧ l = 40000000000) ∨
        (n = c.image.gs.confIn ∧ c.gs.confDue = none ∧ (c.image.gs.group.any fun e => e.2.rstIn = some n) = true ∧ l = 8000000000)) :
    ∃ k : Nat, c.highLimit n = some k ∧ (k : Int) = l := by
  rcases h with ⟨hn, rfl⟩ | ⟨hn, hd, rfl⟩ | ⟨hn, hd, hg, rfl⟩
  · exact ⟨8000000000, if_neg hn, rfl⟩
  · exact ⟨40000000000, by rw [Core.highLimit, if_pos hn, if_pos hd], rfl⟩
  · exact ⟨8000000000, by rw [Core.highLimit, if_pos hn, hd, if_neg (by decide), if_pos hg], rfl⟩

theorem Core.resetHigh_passed {chB : Bool} {t : Rt} {l : Nat} (ht : (c.sinCfg n).type = 3) (hl : c.highLimit n = some l)
    (hi : (if chB then (c.sin n).b else (c.sin n).a) = true) (hr : (if chB then (c.sin n).riseB else (c.sin n).riseA) = some t)
    (hf : (c.sin n).rstF = false) :
    c.resetHigh n chB =
      ((c.at (rtAdd t l)).putSin n { c.sin n with rstF := true }).raise [{ num := EvNo.gsResetFault, obj := n }] := by
  unfold Core.resetHigh
  dsimp only
  rw [if_neg (by simp [ht]), hl, hi, hr]
  exact if_neg (Bool.eq_false_iff.mp hf)

theorem Core.gsEnter_new {g : GsGlobal} (h : c.gs.glob ≠ g) :
    c.gsEnter g = ({ c with gs := { c.gs with glob := g } } : Core).raise [ev0 EvNo.gsState g.code] := by
  rw [Core.gsEnter, GsState.enter, if_neg h]
  rfl

theorem Core.confirmPulse_taken {due : Rt} {r : Rt × Rt} (hd : c.gs.confDue = some due)
    (hr : (c.sin c.image.gs.confIn).pulse 12000000000 40000000000 = some r) (h1 : rtGe r.1 (rtAdd due (-240000000000)) = true)
    (h2 : rtGe due r.2 = true) (hg : c.gs.glob = .unconfirmed) (hi : c.iso 5 5 = false) :
    c.confirmPulse =
      let k := (((c.led.led.conf.map fun v => v.2.1).getD 0) + 1) % 65536
      let ep := (c.cycle.cycle.toNat / 1048576) % 4096
      let d := (c.updLed fun l => { l with conf := some (c.image.gs.schk, k, ep) }).putSin c.image.gs.confIn
        (c.sin c.image.gs.confIn).usePulse
      let e := ({ d with gs := { d.gs with
        confDue := none, cchk := c.image.gs.schk, confN := k, confEpoch := ep } } : Core).raise [ev0 EvNo.gsConfirmed]
      ({ e with gs := { e.gs with glob := .safe } } : Core).raise [ev0 EvNo.gsState 3] := by
  obtain ⟨rise, fall⟩ := r
  unfold Core.confirmPulse
  rw [hd]
  dsimp only
  rw [hr]
  dsimp only
  rw [if_pos (by simp only [Bool.and_eq_true]; exact ⟨⟨⟨h1, h2⟩, by simp [hg]⟩, by simp [Core.ledgerOk, hi]⟩), Core.gsEnter_new]
  · rfl
  · change c.gs.glob ≠ .safe
    rw [hg]
    decide

theorem GsState.bootDone_mismatch {s : GsState} {p : ImgGs} {v : Option W32} (h : s.glob = .boot) (hc : crc32 p.block ≠ p.schk) :
    s.bootDone p v = ({ s with glob := .checkFail }, [ev0 EvNo.gsState 1, ev0 EvNo.gsSchkMismatch]) := by
  rw [GsState.bootDone, if_neg (by simp [h]), if_pos (by simpa using hc)]

theorem GsState.bootDone_new {s : GsState} {p : ImgGs} {v : Option W32} (h : s.glob = .boot) (hc : crc32 p.block = p.schk)
    (hv : v ≠ some p.schk) : s.bootDone p v = ({ s with glob := .unconfirmed }, [ev0 EvNo.gsState 2]) := by
  rw [GsState.bootDone, if_neg (by simp [h]), if_neg (by simp [hc]), if_pos (by simpa using hv)]

theorem GsState.bootDone_known {s : GsState} {p : ImgGs} {v : Option W32} (h : s.glob = .boot) (hc : crc32 p.block = p.schk)
    (hv : v = some p.schk) : s.bootDone p v = ({ s with glob := .safe }, [ev0 EvNo.gsState 3]) := by
  rw [GsState.bootDone, if_neg (by simp [h]), if_neg (by simp [hc]), if_neg (by simp [hv])]

/-- What the ledger holds of a confirmation. -/
def Core.confRecord (c : Core) : Option (W32 × Nat × Nat) := if c.iso 5 5 = true then none else c.led.led.conf

theorem Core.gauntletBoot_of {r : GsState × List Ev} (hst : c.boot.st = .running) (hg : c.gs.glob = .boot)
    (hr : c.gs.bootDone c.image.gs (c.confRecord.map (·.1)) = r) :
    c.gauntletBoot =
      (List.range 8).foldl Core.bootInput
        (match c.confRecord with
        | some v => { (c.putGs r) with gs := { (c.putGs r).gs with cchk := v.1, confN := v.2.1, confEpoch := v.2.2 } }
        | none => c.putGs r) := by
  have hconf : (if c.ledgerOk then c.led.led.conf else none) = c.confRecord := by
    unfold Core.confRecord Core.ledgerOk
    cases c.iso 5 5 <;> rfl
  subst hr
  unfold Core.gauntletBoot
  dsimp only
  rw [if_pos (by simp [Core.running, hst, hg]), hconf] <;> rfl

end

/-- Settles O41, input by input and timer by timer. -/
theorem gauntletInputs : Obligations.GauntletInputs := by
  intro s n a hn ha c x p put
  refine ⟨fun l t h => ⟨fun hp => ⟨?levelA, ?levelB, fun h1 => ?demandA, fun h2 => ?demandB⟩, fun hp => ⟨?resetA, ?resetB⟩, fun h1 h2 h3 => ⟨?otherA, ?otherB⟩⟩,
    fun t ht => ?disc, fun ht => ?noDisc, fun hs ht hg hf r hr => ?edge, fun hs ht h1 h2 hr => ?used,
    fun chB t l ht hi hr hf hl => ?high, fun due r hd hc hr h1 h2 hg hi => ?confirm, fun due hd => ?window, fun hst hg => ⟨fun hc => ?mismatch, fun hc hv => ?new, fun hc hv => ?known⟩,
    fun t ht => ?sbc, fun t ht hp hst => ?deg⟩
  case levelA =>
    refine next_core (f := fun c => c.safeLevel n false l t) ((Core.safeLevel_held h hn).trans ?_)
    have h3 : ¬p.type = 3 := by omega
    rw [if_neg h3, GsIn.change_demand hp]
    rfl
  case levelB =>
    refine next_core (f := fun c => c.safeLevel n true l t) ((Core.safeLevel_held h hn).trans ?_)
    have h3 : ¬p.type = 3 := by omega
    rw [if_neg h3, GsIn.change_demand hp]
    rfl
  case demandA => exact GsIn.logic_demand (by simp [sinDemA, h1])
  case demandB => exact GsIn.logic_demand (by simp [sinDemB, h2])
  case resetA =>
    refine next_core (f := fun c => c.safeLevel n false l t) ((Core.safeLevel_held h hn).trans ?_)
    rw [if_pos hp, GsIn.change_reset hp]
    rfl
  case resetB =>
    refine next_core (f := fun c => c.safeLevel n true l t) ((Core.safeLevel_held h hn).trans ?_)
    rw [if_pos hp, GsIn.change_reset hp]
    rfl
  case otherA =>
    refine next_core (f := fun c => c.safeLevel n false l t) ((Core.safeLevel_held h hn).trans ?_)
    rw [if_neg h3, GsIn.change_other h1 h2 h3]
    rfl
  case otherB =>
    refine next_core (f := fun c => c.safeLevel n true l t) ((Core.safeLevel_held h hn).trans ?_)
    rw [if_neg h3, GsIn.change_other h1 h2 h3]
    rfl
  case disc => exact next_core (f := fun c => c.discTimeout n) (Core.discTimeout_runs ht)
  case noDisc => exact next_core (f := fun c => c.discTimeout n) (by rw [Core.discTimeout, ht])
  case edge =>
    refine next_core (f := fun c => c.resetEdge n) ((Core.resetEdge_own hs ht).trans ?_)
    rw [GsState.resetEdge_marks hf hr hg]
    rfl
  case used =>
    refine next_core (f := fun c => c.resetEdge n) ((Core.resetEdge_own hs ht).trans ?_)
    rw [GsState.resetEdge_used hr h1 h2]
    rfl
  case high =>
    obtain ⟨k, hk, rfl⟩ := Core.highLimit_eq hl
    exact next_core (f := fun c => c.resetHigh n chB) (Core.resetHigh_passed ht hk hi hr hf)
  case confirm =>
    subst hc
    exact next_core (f := fun c => c.confirmPulse) (Core.confirmPulse_taken hd hr h1 h2 hg hi)
  case window => exact next_core (f := fun c => c.confirmExpiry) (by rw [Core.confirmExpiry, hd]; rfl)
  case mismatch =>
    refine next_core (f := fun c => c.gauntletBoot) ((Core.gauntletBoot_of hst hg (GsState.bootDone_mismatch hg hc)).trans ?_)
    rfl
  case new =>
    refine next_core (f := fun c => c.gauntletBoot) ((Core.gauntletBoot_of hst hg (GsState.bootDone_new hg hc hv)).trans ?_)
    rfl
  case known =>
    refine next_core (f := fun c => c.gauntletBoot) ((Core.gauntletBoot_of hst hg (GsState.bootDone_known hg hc hv)).trans ?_)
    rfl
  case sbc => exact next_core (f := fun c => c.sbcExpiry a) (by rw [Core.sbcExpiry, ht])
  case deg => exact next_core (f := fun c => c.degExpiry a) (by rw [Core.degExpiry, ht]; exact if_neg (by simpa using ⟨hp, hst⟩))

end Sys2Proof.Machine
end

section
/-! The Gauntlet's outputs and safety records (R480, R502 to R509). -/

namespace Sys2Proof.Machine

section
variable {c : Core} {n : Nat} {hi lo : Bool}

/-! ### Output pairs -/

section
variable {s : GsState} {p : ImgGs} {cycle : W32} {now : Rt}

/-- A pair with its readbacks. -/
def GsState.readBack (s : GsState) (n : Nat) (hi lo : Bool) : GsState :=
  { s with out := s.out.put n { s.out.look n {} with rbh := hi, rbl := lo } }

theorem GsState.soutStep_good (h : (s.out.look n {}).step = 1 ∨ (s.out.look n {}).step = 2 ∨ (s.out.look n {}).step = 3)
    (hr : (hi, lo) = soutExpect (s.out.look n {}).step) :
    s.soutStep p n hi lo cycle now =
      ({ s with out := s.out.put n { s.out.look n {} with rbh := hi, rbl := lo, step := (s.out.look n {}).step + 1 } }, []) := by
  unfold GsState.soutStep
  dsimp only
  rw [if_pos h, if_pos hr, Tab.put_put]

theorem GsState.soutStep_bad (h : (s.out.look n {}).step = 1 ∨ (s.out.look n {}).step = 2 ∨ (s.out.look n {}).step = 3)
    (hr : (hi, lo) ≠ soutExpect (s.out.look n {}).step) :
    s.soutStep p n hi lo cycle now = (s.readBack n hi lo).pairFault p n cycle now := by
  unfold GsState.soutStep
  dsimp only
  rw [if_pos h, if_neg hr]
  rfl

theorem GsState.soutPulse_good {low : Bool} (h : (s.out.look n {}).step = 4) (hr : (hi, lo) = (low, low)) :
    s.soutPulse p n low hi lo cycle now =
      ({ s with out := s.out.put n { s.out.look n {} with rbh := true, rbl := false } }, []) := by
  have hw : (hi, lo) = if low then (true, true) else (false, false) := by cases low <;> exact hr
  unfold GsState.soutPulse
  dsimp only
  rw [if_pos h, if_pos hw]

theorem GsState.soutPulse_bad {low : Bool} (h : (s.out.look n {}).step = 4) (hr : (hi, lo) ≠ (low, low)) :
    s.soutPulse p n low hi lo cycle now = (s.readBack n hi lo).pairFault p n cycle now := by
  have hw : ¬(hi, lo) = if low then (true, true) else (false, false) := by cases low <;> exact hr
  unfold GsState.soutPulse
  dsimp only
  rw [if_pos h, if_neg hw]
  rfl

end

theorem Core.putGs_quiet (g : GsState) : c.putGs (g, []) = { c with gs := g } := Core.raise_nil _

theorem Core.soutMismatch_live (h : c.gsLive n = true) (hs : (c.gs.out.look n {}).step = 0 ∨ (c.gs.out.look n {}).step = 4)
    (hr : (hi, lo) ≠ soutExpect (c.gs.out.look n {}).step) :
    c.soutMismatch n hi lo = c.putGs ((c.gs.readBack n hi lo).pairFault c.image.gs n c.cycle.cycle c.now) :=
  if_pos (by simp only [h, Bool.true_and, Bool.and_eq_true, bne_iff_ne]; exact ⟨by simpa using hs, hr⟩)

theorem Core.proofTestDone_in {pass : Nat} {chan : Bool} (h : c.gs.glob = .test) :
    c.proofTestDone pass chan =
      let used := (List.range 4).filter fun m => (c.image.gs.sout.look m {}).use != 0
      let d := used.foldl (fun (d : Core) m =>
        if natBit pass m then { d with gs := { d.gs with out := d.gs.out.upd m {} fun o => { o with fault := false } } }
        else if (d.gs.out.look m {}).fault then d else d.putGs (d.gs.pairFault d.image.gs m d.cycle.cycle d.now)) c
      ({ d with gs := { d.gs with testFail := !(used.filter fun m => !natBit pass m).isEmpty || !chan
                                  group := d.gs.group.each fun _ y => { y with released := false, edge := false } } } : Core).gsEnter .safe := by
  rw [Core.proofTestDone, if_neg (by simp [h])]

/-! ### Safety records -/

/-- The Gauntlet looks at a record of the node: none has been accepted in the cycle, and the node is an admitted one with a safety-rated
axis that is no confirmed suspect (R170, R503). -/
def Core.hears (c : Core) (g p : Nat) : Prop :=
  c.boot.st = .running ∧ c.cycle.running = true ∧ (c.nodeImg (g * 64 + p)).safety = true ∧ (c.gs.node.look (g * 64 + p) {}).got = false ∧
    ((c.sg g).node p).st = .admitted ∧ c.role.role ≠ .spare ∧ ((c.sl g).suspect.valid && (c.sl g).suspect.pos = p) = false

/-- A record passes the checks of R503. -/
def Core.recordOk (c : Core) (g p : Nat) (r : List Byte) : Bool :=
  checkSafety (c.nodeImg (g * 64 + p)).connId p r = .good &&
    (c.gs.node.look (g * 64 + p) {}).inWindow (c.nodeImg (g * 64 + p)).sfWd (BitVec.ofNat 16 (rec16 r 2)) (BitVec.ofNat 16 (rec16 r 8))
      (c.gs.node.look (g * 64 + p) {}).head

theorem Core.safetyRecord_heard {g p : Nat} {r : List Byte} (h : c.hears g p) :
    c.safetyRecord g p r =
      let k := g * 64 + p
      let m := c.gs.node.look k {}
      if c.recordOk g p r then
        ({ c with gs := { c.gs with node := c.gs.node.put k (m.accept (BitVec.ofNat 16 (rec16 r 2))) } } : Core).stoFeedback k
          (r.getD 4 0).toNat (255 - (r.getD 5 0).toNat) (r.getD 6 0).toNat
      else
        ({ c with gs := { c.gs with node := c.gs.node.put k m.rejected } } : Core).raise [(evNode EvNo.gsRecordErr g p).limited k] := by
  obtain ⟨h1, h2, h3, h4, h5, h6, h7⟩ := h
  unfold Core.safetyRecord
  dsimp only
  rw [h7, h4, if_neg (by simp [Core.running, h1, h2, h3, h5, h6])]
  rfl

theorem Core.safetyWatchdog_expires {g p : Nat} (h1 : c.boot.st = .running) (h2 : c.cycle.running = true)
    (h3 : (c.nodeImg (g * 64 + p)).safety = true) (h4 : (c.gs.node.look (g * 64 + p) {}).dead = false)
    (h5 : ((c.sg g).node p).st = .admitted) (h6 : (c.nodeImg (g * 64 + p)).sfWd ≤ (c.gs.node.look (g * 64 + p) {}).missed) :
    c.safetyWatchdog g p =
      (c.nodeAxes g p).foldl (fun (d : Core) a => (d.gauntletFault a 7).updGa a fun y => { y with react := some 0xA })
        (({ c with gs := { c.gs with node := c.gs.node.put (g * 64 + p) { c.gs.node.look (g * 64 + p) {} with dead := true }
                                     wdExp := incWrap 16 c.gs.wdExp } } : Core).raise [evNode EvNo.gsWatchdog g p]) := by
  have h6' : (c.nodeImg (g * 64 + p)).sfWd ≤ (c.gs.node.look (g * 64 + p) {}).missed +
      (if !(c.gs.node.look (g * 64 + p) {}).got && rtGe c.now (c.instant c.modeI.tCw0) then 1 else 0) := Nat.le_add_right_of_le h6
  unfold Core.safetyWatchdog
  dsimp only
  rw [if_pos (by simp only [Core.running, h1, h2, h3, h4, h5, h6', decide_true]; decide)]
  rfl

end

/-- Settles O42, pair by pair and record by record. -/
theorem gauntletOutputsAndRecords : Obligations.GauntletOutputsAndRecords := by
  intro s n g p hi lo _ _ _ c o put fault k node im heard
  refine ⟨fun hl hs => ⟨fun hr => ?stepGood, fun hr => ?stepBad⟩, fun low hl hs => ⟨fun hr => ?pulseGood, fun hr => ?pulseBad⟩,
    fun hl hs hr => ?mismatch, fun pass hg => ?proof, fun r h hc hw => ?accepted, fun r h hc => ?rejected, fun h1 h2 h3 h4 h5 h6 => ?watchdog,
    fun h1 h2 => ?xchan⟩
  case stepGood =>
    refine next_core (f := fun c => c.soutStep n hi lo) ((if_pos hl).trans ?_)
    rw [GsState.soutStep_good hs hr]
    exact Core.putGs_quiet _
  case stepBad => exact next_core (f := fun c => c.soutStep n hi lo) ((if_pos hl).trans (by rw [GsState.soutStep_bad hs hr]; rfl))
  case pulseGood =>
    refine next_core (f := fun c => c.soutPulse n low hi lo) ((if_pos hl).trans ?_)
    rw [GsState.soutPulse_good hs hr]
    exact Core.putGs_quiet _
  case pulseBad => exact next_core (f := fun c => c.soutPulse n low hi lo) ((if_pos hl).trans (by rw [GsState.soutPulse_bad hs hr]; rfl))
  case mismatch => exact next_core (f := fun c => c.soutMismatch n hi lo) (Core.soutMismatch_live hl hs hr)
  case proof => exact next_core (f := fun c => c.proofTestDone pass hi) (Core.proofTestDone_in hg)
  case accepted =>
    have hok : s.base.recordOk g p r = true := by
      simp only [Core.recordOk, Bool.and_eq_true, decide_eq_true_eq]
      exact ⟨hc, hw⟩
    exact next_core (f := fun c => c.safetyRecord g p r) ((Core.safetyRecord_heard h).trans (if_pos hok))
  case rejected =>
    have hok : ¬s.base.recordOk g p r = true := by
      simp only [Core.recordOk, Bool.and_eq_true, decide_eq_true_eq]
      rintro ⟨h1, h2⟩
      exact hc.elim (fun h => h h1) fun h => by rw [h] at h2; cases h2
    exact next_core (f := fun c => c.safetyRecord g p r) ((Core.safetyRecord_heard h).trans (if_neg hok))
  case watchdog => exact next_core (f := fun c => c.safetyWatchdog g p) (Core.safetyWatchdog_expires h1 h2 h3 h4 h5 h6)
  case xchan =>
    have hup : s.base.running = true := decide_eq_true h1
    exact next_core (f := fun c => c.xchanPersist) (if_neg (by rw [hup, show s.base.iso 4 4 = false from h2]; decide))

end Sys2Proof.Machine
end

section
/-! The triggers and records of the Visor (R523, R525, R527, R528, R534 to R537). -/

namespace Sys2Proof.Machine

/-! ### A firing, by the Visor's state -/

section
variable {y : VisorState} {v : VCfg} {f : VFire} {r : VFill}

theorem VisorState.fire_stage0 (h : y.st = .armed) (hf : y.fill = some r) (hs : v.seq = true) (hu : f.unit = 0) :
    y.fire v f = ({ y with fill := some { r with t0 := true } }, []) := by
  unfold VisorState.fire
  rw [h, hf]
  exact if_pos (by simp [hs, hu])

theorem VisorState.fire_before_stage0 (h : y.st = .armed) (hf : y.fill = some r) (hs : v.seq = true) (hu : f.unit ≠ 0)
    (h4 : f.unit < 4) (h0 : r.t0 = false) : y.fire v f = (y, []) := by
  unfold VisorState.fire
  rw [h, hf]
  exact (if_neg (by simp [hu])).trans (if_pos (by simp [hs, h4, h0]))

/-- Past the sequence a firing is a candidate from the record's first row on, and missed before. -/
theorem VisorState.fire_stage1 (h : y.st = .armed) (hf : y.fill = some r)
    (hs : v.seq = false ∨ (f.unit ≠ 0 ∧ (r.t0 = true ∨ 4 ≤ f.unit))) :
    y.fire v f = if rtGe f.t r.first then ({ y with fill := some { r with cand := r.cand ++ [f] } }, []) else y.miss := by
  have h0 : ¬(v.seq && decide (f.unit = 0)) = true := by
    rcases hs with hs | ⟨hu, _⟩
    · simp [hs]
    · simp [hu]
  have h1 : ¬(v.seq && decide (f.unit < 4) && !r.t0) = true := by
    rcases hs with hs | ⟨_, ht | h4⟩
    · simp [hs]
    · simp [ht]
    · simp [show ¬f.unit < 4 by omega]
  unfold VisorState.fire
  rw [h, hf]
  refine (if_neg h0).trans ((if_neg h1).trans ?_)
  cases rtGe f.t r.first <;> rfl

theorem VisorState.fire_post (h : y.st = .post) (hf : y.fill = some r) :
    y.fire v f = ({ y with fill := some { r with retrig := min 0xFFFFFFFF (r.retrig + 1) } }, []) := by
  unfold VisorState.fire
  rw [h, hf]

theorem VisorState.fire_wait (h : y.st = .wait) : y.fire v f = y.miss := by
  unfold VisorState.fire
  rw [h]

theorem VisorState.fire_idle (h : y.st = .idle) : y.fire v f = (y, []) := by
  unfold VisorState.fire
  rw [h]

end

/-! ### The causes -/

section
variable {c : Core} {u : Nat} {t : Rt}

/-- A Visor in service takes the firing with its configuration. -/
theorem Core.visFire_taken {f : VFire} (h : c.visOk = true) : c.visFire f = c.putVis (c.vis.fire c.vcfg f) := if_pos h

/-- The firing of a unit whose last instant was used at `t`. -/
theorem Core.visFire_used {f : VFire} (h : c.visOk = true) :
    ({ c with vis := { c.vis with evUsed := c.vis.evUsed.put u t } } : Core).visFire f =
      ({ c with vis := { c.vis with evUsed := c.vis.evUsed.put u t } } : Core).putVis
        (VisorState.fire { c.vis with evUsed := c.vis.evUsed.put u t } c.vcfg f) :=
  Core.visFire_taken (c := { c with vis := { c.vis with evUsed := c.vis.evUsed.put u t } }) h

theorem Core.at_vis (t : Rt) : (c.at t).vis = c.vis := rfl
theorem Core.at_vcfg (t : Rt) : (c.at t).vcfg = c.vcfg := rfl
theorem Core.at_visOk (t : Rt) : (c.at t).visOk = c.visOk := rfl
theorem Core.at_visUnit (t : Rt) (u k : Nat) : (c.at t).visUnit u k = c.visUnit u k := rfl
theorem Core.at_pinMode (t : Rt) (p : Nat) : (c.at t).time.pinMode p = c.time.pinMode p := rfl

theorem Core.visEventTrigger_fires (hl : c.vis.evLast.look? (fld (c.vcfg.tu.getD u (0, 0, 0)).1 23 16) = some t)
    (hu : c.visUnit u 2 = true) (hn : c.vis.evUsed.look? u ≠ some t) :
    c.visEventTrigger u =
      ({ c with vis := { c.vis with evUsed := c.vis.evUsed.put u t } } : Core).visFire { t := t, unit := u, type := 2 } := by
  unfold Core.visEventTrigger
  dsimp only
  rw [hl]
  exact if_pos (by simp [hu, hn])

theorem Core.visEventTrigger_used (hl : c.vis.evLast.look? (fld (c.vcfg.tu.getD u (0, 0, 0)).1 23 16) = some t)
    (hn : c.vis.evUsed.look? u = some t) : c.visEventTrigger u = c := by
  unfold Core.visEventTrigger
  dsimp only
  rw [hl]
  exact if_neg (by simp [hn])

/-- The edge that a type-3 unit selects. -/
def pinSelects (e : Nat) (rising : Bool) : Bool := e = 3 || rising && e != 2 || !rising && e = 2

theorem pinSelects_of {e : Nat} {rising : Bool} (h : e = 3 ∨ (rising = true ∧ e ≠ 2) ∨ (rising = false ∧ e = 2)) :
    pinSelects e rising = true := by
  rcases h with rfl | ⟨rfl, h⟩ | ⟨rfl, rfl⟩
  · rfl
  · simp [pinSelects, h]
  · rfl

/-- A selected edge fires at its compensated time, on the shared input a rising one only, less TXLEAD and XCAB. -/
theorem Core.visPinTrigger_fires {rising shared : Bool} (hu : c.visUnit u 3 = true)
    (hm : c.time.pinMode (fld (c.vcfg.tu.getD u (0, 0, 0)).1 25 24) = 7)
    (he : pinSelects (fld (c.vcfg.tu.getD u (0, 0, 0)).1 27 26) rising = true)
    (hs : (bit c.vcfg.share 6 && decide (fld c.vcfg.share 5 4 = fld (c.vcfg.tu.getD u (0, 0, 0)).1 25 24)) = shared)
    (hr : shared = true → rising = true) :
    c.visPinTrigger u t rising = (c.at t).visFire
      { t := if shared then rtAdd ((c.at t).pinTime (fld (c.vcfg.tu.getD u (0, 0, 0)).1 25 24) t) (-((c.vcfg.txlead : Int) + c.vcfg.xcab))
             else (c.at t).pinTime (fld (c.vcfg.tu.getD u (0, 0, 0)).1 25 24) t
        unit := u, type := 3, shared := shared } := by
  have hsh : (!shared || rising) = true := by cases shared <;> simp_all
  unfold Core.visPinTrigger
  dsimp only
  rw [Core.at_visUnit, Core.at_vcfg, Core.at_pinMode]
  rw [hs]
  refine if_pos ?_
  rw [hu, hm, hsh]
  simpa [pinSelects] using he

theorem Core.visTimeTrigger_fires {w0 l h : W32} (hw : c.vcfg.tu.getD u (0, 0, 0) = (w0, l, h)) (hu : c.visUnit u 4 = true)
    (hn : c.vis.evUsed.look? u ≠ some (h ++ l : Rt)) (hg : rtGe (c.at (h ++ l)).now (h ++ l) = true) :
    c.visTimeTrigger u =
      ({ c.at (h ++ l) with vis := { c.vis with evUsed := c.vis.evUsed.put u (h ++ l) } } : Core).visFire
        { t := h ++ l, unit := u, type := 4 } := by
  unfold Core.visTimeTrigger
  rw [hw]
  exact (if_pos (by simp [hu, hn])).trans (if_pos hg)

theorem Core.visHoldoff_ends {a : Nat} (h : c.visOk = true) (hst : c.vis.st = .wait) (hh : c.vis.holdoff = 0)
    (hf : c.vis.free c.vcfg = some a) : c.visHoldoff = { c with vis := { c.vis with armDue := true } } := by
  unfold Core.visHoldoff
  rw [if_pos (by simp [h, hst, hh]), hf]

theorem Core.visShareOut_drives {rest : List Rt} (h : c.vis.shareDue = t :: rest)
    (hm : c.time.pinMode (fld c.vcfg.share 1 0) = 7) :
    c.visShareOut = ({ c.at t with vis := { c.vis with shareDue := rest, shareLast := some t } } : Core).out
      (.share (fld c.vcfg.share 1 0)) := by
  unfold Core.visShareOut
  rw [h]
  exact if_pos hm

end

/-- Settles O43: a firing by the state of the Visor, and the cause of each firing. -/
theorem visorTriggers : Obligations.VisorTriggers := by
  intro s u hu hv c v w vis done used fired
  refine ⟨fun y f => ⟨fun r h hf => ⟨fun hs h0 => ?stage0, fun hs h0 h4 ht => ?early, fun hs => ⟨fun hg => ?cand, fun hg => ?before⟩⟩,
    fun r h hf => ?post, fun h => ?wait, fun h => ?idle⟩, fun t hl hn hd => ?event, fun t hl hd => ?used,
    fun t rising hn hm he => ⟨fun hs => ?pin, fun hs hr => ?shared⟩, fun hn hd hg => ?time, ?complete, fun a hst hh hf => ?holdoff,
    fun t rest hd hm => ?share, ?bursts⟩
  case stage0 => exact VisorState.fire_stage0 h hf hs h0
  case early => exact VisorState.fire_before_stage0 h hf hs h0 h4 ht
  case cand => rw [VisorState.fire_stage1 h hf hs, hg]; rfl
  case before => rw [VisorState.fire_stage1 h hf hs, hg]; rfl
  case post => exact VisorState.fire_post h hf
  case wait => exact VisorState.fire_wait h
  case idle => exact VisorState.fire_idle h
  case event =>
    exact next_core (f := fun c => c.visEventTrigger u) ((Core.visEventTrigger_fires hl hn hd).trans (Core.visFire_used hv))
  case used => exact next_core (f := fun c => c.visEventTrigger u) (Core.visEventTrigger_used hl hd)
  case pin =>
    exact next_core (f := fun c => c.visPinTrigger u t rising)
      ((Core.visPinTrigger_fires hn hm (pinSelects_of he) hs (fun h => by cases h)).trans (Core.visFire_taken (c := c.at t) hv))
  case shared =>
    exact next_core (f := fun c => c.visPinTrigger u t rising)
      ((Core.visPinTrigger_fires hn hm (pinSelects_of he) hs (fun _ => hr)).trans (Core.visFire_taken (c := c.at t) hv))
  case time =>
    exact next_core (f := fun c => c.visTimeTrigger u)
      ((Core.visTimeTrigger_fires rfl hn hd hg).trans (Core.visFire_used (c := c.at _) hv))
  case complete => exact next_core (f := fun c => c.visComplete) (if_pos hv)
  case holdoff => exact next_core (f := fun c => c.visHoldoff) (Core.visHoldoff_ends hv hst hh hf)
  case share => exact next_core (f := fun c => c.visShareOut) (Core.visShareOut_drives hd hm)
  case bursts =>
    refine next_core (f := fun c => c.nbTimeout) ?_
    rfl

end Sys2Proof.Machine
end

section
/-! Ports and roles (R91 to R94, R98, R112 to R118, R121, R130, R131, R138, R211 to R214). -/

namespace Sys2Proof.Machine

section
variable {c : Core} {p g : Nat} {m : RoleRec} {r : RoleState} {es : List Ev}

/-! ### Ports -/

theorem Core.portUp_links (hm : c.mayLink p = true) (hl : (c.po p).link = false) (present : Bool) (txeq : W32) :
    c.portUp p present txeq =
      (let kr : Bool := (c.is (p / 2)).phy = .kr
       let d := (c.updPort p fun x => { x with
         link := true, lock := true, trained := kr, training := .none, modPresent := present && !kr, modLos := false
         txeq := if kr then txeq &&& 0x3F3F3F else 0 }).raise [evPort EvNo.portUp p]
       let e := if c.role.role = .listen ∧ c.role.listening = false then
         { d with role := { c.role with listening := true, listenAt := c.now } } else d
       e.tryForm (p / 2) false) := by
  refine (if_pos (by simp [hm, hl])).trans ?_
  refine congrArg (Core.tryForm · (p / 2) false) ?_
  by_cases h : c.role.role = .listen ∧ c.role.listening = false
  · have hb : (decide (c.role.role = .listen) && !c.role.listening) = true := by simp [h]
    exact (if_pos hb).trans (if_pos h).symm
  · have hb : ¬(decide (c.role.role = .listen) && !c.role.listening) = true := by simpa using h
    exact (if_neg hb).trans (if_neg h).symm

theorem Core.portLost_linked (hl : (c.po p).link = true) (present los lock : Bool) (errs : Nat) :
    c.portLost p present los lock errs =
      ((c.updPort p fun x => { x with link := false, lock := false, trained := false, downs := x.downs + 1 }).raise
        [evPort EvNo.portDown p]).updPort p fun x => { x with
          modPresent := present && !decide ((c.is (p / 2)).phy = .kr), modLos := los && !decide ((c.is (p / 2)).phy = .kr)
          lock := lock, blkerr := x.blkerr + BitVec.ofNat 32 errs } := by
  refine (if_pos hl).trans ?_
  rw [Core.portDown, if_pos hl]

theorem Core.trainTimeout_fails (hk : (c.is (p / 2)).phy = .kr) (hm : c.mayLink p = true) (hl : (c.po p).link = false) :
    c.trainTimeout p =
      (c.updPort p fun x => { x with training := .retryWait, trained := false }).raise [evPort EvNo.trainingFailed p] :=
  if_pos (by simp [hk, hm, hl])

/-! ### What leaves at the ports of a segment -/

theorem Core.launch_eq (d : Core) (f : FrameOut) : d.launch f =
    (let e := if (d.po (2 * f.seg)).link then d.out (.frame { f with ring := 0 }) else d
     if (d.po (2 * f.seg + 1)).link then e.out (.frame { f with ring := 1 }) else e) := by
  rw [Core.launch, show List.range 2 = [0, 1] from rfl, List.foldl_cons, List.foldl_cons, List.foldl_nil, Nat.add_zero]
  split <;> rfl

/-- A launch changes the outputs alone. -/
theorem Core.launch_outs (d : Core) (f : FrameOut) : ∃ o, d.launch f = { d with outs := o } := by
  rw [Core.launch_eq]
  dsimp only
  split <;> split <;> exact ⟨_, rfl⟩

/-- Claims have left: the outputs and the sequence number alone differ. -/
def Core.ClaimsOf (c d : Core) : Prop := ∃ o n, d = { c with outs := o, role := { c.role with seq := n } }

theorem Core.ClaimsOf.refl (c : Core) : c.ClaimsOf c := ⟨_, _, rfl⟩

theorem Core.ClaimsOf.sendClaim {d : Core} (h : c.ClaimsOf d) (k : Nat) : c.ClaimsOf (d.sendClaim k) := by
  obtain ⟨o, n, rfl⟩ := h
  obtain ⟨o', h'⟩ := Core.launch_outs
    ({ c with outs := o, role := { c.role with seq := (n + 1) % 65536 } } : Core)
    (Core.claimFrame ({ c with outs := o, role := { c.role with seq := (n + 1) % 65536 } } : Core) k
      (Core.roleRec { c with outs := o, role := { c.role with seq := n } }))
  exact ⟨o', (n + 1) % 65536, h'⟩

theorem Core.claimsOf_segs (c : Core) : c.ClaimsOf (c.segs.foldl Core.sendClaim c) :=
  foldl_keeps (P := c.ClaimsOf) (fun _ k h => h.sendClaim k) c.segs (.refl c)

theorem Core.claimsOf_twice (c : Core) : c.ClaimsOf (c.segs.foldl (fun (c : Core) s => (c.sendClaim s).sendClaim s) c) :=
  foldl_keeps (P := c.ClaimsOf) (fun _ k h => (h.sendClaim k).sendClaim k) c.segs (.refl c)

/-! ### Segments that form, and the idle Gauntlet -/

/-- Forming a segment changes the segments alone. -/
theorem Core.tryForm_seg (c : Core) (k : Nat) (one : Bool) : ∃ x, c.tryForm k one = { c with seg := x } := by
  unfold Core.tryForm
  split <;> exact ⟨_, rfl⟩

/-- Each segment is put as `f` says and then tried: what does not speak of the segments stays true. -/
theorem Core.formAll_keeps {P : Core → Prop} (hP : ∀ d x, P d → P { d with seg := x }) (f : Core → Nat → Segment) (one : Bool)
    (l : List Nat) (h : P c) : P (l.foldl (fun (d : Core) k => (d.putSg k (f d k)).tryForm k one) c) := by
  refine foldl_keeps (fun d k hd => ?_) l h
  obtain ⟨x, hx⟩ := Core.tryForm_seg (d.putSg k (f d k)) k one
  rw [hx]
  exact hP d x hd

theorem Core.gsIdle_gs (c : Core) : ∃ x es, c.gsIdle = ({ c with gs := x } : Core).raise es := by
  unfold Core.gsIdle
  exact ⟨_, _, rfl⟩

/-! ### Arbitration -/

theorem stronger_iff {a b : Nat} {ua ub : BitVec 64} : stronger a ua b ub = true ↔ b < a ∨ b = a ∧ ua.toNat < ub.toNat := by
  unfold stronger
  by_cases h : a = b
  · subst h; simp
  · rw [if_pos (by simpa using h), decide_eq_true_eq]
    have : ¬b = a := fun hb => h hb.symm
    simp [this]

theorem Core.listenExpiry_claims (hu : c.ringUp = true) (hr : c.role.role = .listen) (hl : c.role.listening = true) :
    c.listenExpiry = { c.at (rtAdd c.role.listenAt (tListen c.tcyc)) with role := { c.role with role := .claim, claims := 0 } } :=
  if_pos (by simp [hu, hr, hl])

/-- A role that does not newly become SPARE is put back with its events. -/
theorem Core.putRole_keeps (h : r.role = .spare → c.role.role = .spare) : c.putRole (r, es) = ({ c with role := r } : Core).raise es :=
  if_neg fun ⟨h1, h2⟩ => by simp [h h1] at h2

theorem Core.putRole_spare (h : r.role = .spare) (hc : c.role.role ≠ .spare) :
    c.putRole (r, es) = (({ c with role := r } : Core).raise es).toSpare := if_pos ⟨h, by simpa using hc⟩

/-- A chip that became SPARE: its Gauntlet idles, and its ring time is to follow the crown. -/
theorem Core.toSpare_eq (h : r = { r with role := .spare, noCrown := 0, claims := 0, heldRole := true }) :
    ({ c with role := r } : Core).toSpare =
      (let idle := ({ c with role := r } : Core).gsIdle
       { idle with time := { idle.time with
         rtState := .follow, src := 0, slew := none, spareRun := 0, spareCfg := none, spareRef := none, spareOther := none
         rtsyncSeen := false } }) := by
  obtain ⟨x, es, hi⟩ := Core.gsIdle_gs { c with role := r }
  rw [Core.toSpare, hi, h]
  rfl

/-! A claim that is heard. -/

theorem Core.claimIn_heard (hu : c.ringUp = true) (hl : (c.po p).link = true) (h : c.role.claimReceived c.own c.now m = (r, es))
    (hs : r.role = .spare → c.role.role = .spare) (hr : c.role.role = .claim → r.role ≠ .refused) :
    c.claimIn p m = ({ c.countFrame p true with role := r } : Core).raise es := by
  have hput : (c.countFrame p true).putRole (c.role.claimReceived c.own c.now m) = ({ c.countFrame p true with role := r } : Core).raise es := by
    rw [h]; exact Core.putRole_keeps hs
  unfold Core.claimIn
  rw [if_pos (by simp [hu, hl])]
  refine (if_neg ?_).trans hput
  rw [show (c.countFrame p true).putRole ((c.countFrame p true).role.claimReceived (c.countFrame p true).own (c.countFrame p true).now m) = _
    from hput, Bool.and_eq_true, decide_eq_true_eq, decide_eq_true_eq]
  exact fun ⟨h1, h2⟩ => hr h1 h2

theorem Core.claimIn_refused (hu : c.ringUp = true) (hl : (c.po p).link = true) (h : c.role.claimReceived c.own c.now m = (r, es))
    (hc : c.role.role = .claim) (hr : r.role = .refused) :
    c.claimIn p m = (({ c.countFrame p true with role := r } : Core).raise es).sendClaim (p / 2) := by
  have hput : (c.countFrame p true).putRole (c.role.claimReceived c.own c.now m) = ({ c.countFrame p true with role := r } : Core).raise es := by
    rw [h]; exact Core.putRole_keeps (by rw [hr]; simp)
  unfold Core.claimIn
  rw [if_pos (by simp [hu, hl])]
  refine (if_pos ?_).trans (congrArg (Core.sendClaim · (p / 2)) hput)
  rw [show (c.countFrame p true).putRole ((c.countFrame p true).role.claimReceived (c.countFrame p true).own (c.countFrame p true).now m) = _
    from hput, Bool.and_eq_true, decide_eq_true_eq, decide_eq_true_eq]
  exact ⟨hc, hr⟩

section
variable {own : OwnClaim} {now : Rt}

theorem RoleState.claimReceived_listen (h : r.role = .listen) (hc : m.crcOk = true) : r.claimReceived own now m =
    if m.uid = own.uid then (r.seen m).refuse
    else if stronger own.prio own.uid m.prio m.uid then ((r.seen m).enterClaim, [])
    else ({ r.seen m with listenAt := now, listening := true }, []) := by
  unfold RoleState.claimReceived
  rw [if_neg (by simp [hc])]
  dsimp only
  rw [show (r.seen m).role = .listen from h]

theorem RoleState.claimReceived_claim (h : r.role = .claim) (hc : m.crcOk = true) : r.claimReceived own now m =
    if m.chk != own.chk || m.tcyc != own.tcyc then (r.seen m).refuse
    else if m.uid = own.uid then (r.seen m).refuse
    else if stronger own.prio own.uid m.prio m.uid then (r.seen m, [])
    else ({ r.seen m with role := .listen, claims := 0, listenAt := now, listening := true }, []) := by
  unfold RoleState.claimReceived
  rw [if_neg (by simp [hc])]
  dsimp only
  rw [show (r.seen m).role = .claim from h]

theorem RoleState.claimReceived_other (h : r.role = .crown ∨ r.role = .spare ∨ r.role = .refused ∨ r.role = .none) (hc : m.crcOk = true) :
    r.claimReceived own now m = (r.seen m, []) := by
  unfold RoleState.claimReceived
  rw [if_neg (by simp [hc])]
  dsimp only
  rcases h with h | h | h | h <;> rw [show (r.seen m).role = _ from h]

theorem RoleState.claimReceived_refuses (h : r.role = .claim) (hc : m.crcOk = true)
    (hm : m.chk ≠ own.chk ∨ m.tcyc ≠ own.tcyc ∨ m.uid = own.uid) : r.claimReceived own now m = (r.seen m).refuse := by
  rw [RoleState.claimReceived_claim h hc]
  by_cases h1 : (m.chk != own.chk || m.tcyc != own.tcyc) = true
  · exact if_pos h1
  · rw [if_neg h1]
    refine if_pos ?_
    simp only [Bool.or_eq_true, bne_iff_ne, ne_eq, not_or, not_not] at h1
    obtain ⟨hchk, htc⟩ := h1
    rcases hm with hm | hm | hm
    · exact absurd hchk hm
    · exact absurd htc hm
    · exact hm

/-- A claim with the parameters of this chip and another UID is stronger or weaker. -/
theorem RoleState.claimReceived_same (h : r.role = .claim) (hc : m.crcOk = true) (h1 : m.chk = own.chk) (h2 : m.tcyc = own.tcyc)
    (h3 : m.uid ≠ own.uid) : r.claimReceived own now m =
      if stronger own.prio own.uid m.prio m.uid then (r.seen m, [])
      else ({ r.seen m with role := .listen, claims := 0, listenAt := now, listening := true }, []) := by
  rw [RoleState.claimReceived_claim h hc, if_neg (by simp [h1, h2]), if_neg h3]

/-! A crown's record. -/

theorem RoleState.crownReceived_arbitrating (h : r.role = .listen ∨ r.role = .claim) (hc : m.crcOk = true) : r.crownReceived own m =
    if m.chk = own.chk then ({ r.seen m with role := .spare, heldRole := true, noCrown := 0, claims := 0 }, []) else (r.seen m).refuse := by
  unfold RoleState.crownReceived
  rw [if_neg (by simp [hc])]
  dsimp only
  rcases h with h | h <;> rw [show (r.seen m).role = _ from h]

theorem RoleState.crownReceived_spare (h : r.role = .spare) (hc : m.crcOk = true) : r.crownReceived own m =
    if m.chk = own.chk then ({ r.seen m with noCrown := 0, crownHeard := true }, []) else (r.seen m).refuse := by
  unfold RoleState.crownReceived
  rw [if_neg (by simp [hc])]
  dsimp only
  rw [show (r.seen m).role = _ from h]

theorem RoleState.crownReceived_crown (h : r.role = .crown) (hc : m.crcOk = true) : r.crownReceived own m =
    if stronger own.prio own.uid m.prio m.uid then (r.seen m, [])
    else ({ r.seen m with yieldTo := some (if m.chk = own.chk && m.uid != own.uid then .spare else .refused) }, []) := by
  unfold RoleState.crownReceived
  rw [if_neg (by simp [hc])]
  dsimp only
  rw [show (r.seen m).role = _ from h]

theorem RoleState.crownReceived_other (h : r.role = .refused ∨ r.role = .none) (hc : m.crcOk = true) :
    r.crownReceived own m = (r.seen m, []) := by
  unfold RoleState.crownReceived
  rw [if_neg (by simp [hc])]
  dsimp only
  rcases h with h | h <;> rw [show (r.seen m).role = _ from h]

theorem RoleState.crownReceived_mismatch (h : r.role = .listen ∨ r.role = .claim ∨ r.role = .spare) (hc : m.crcOk = true)
    (hm : m.chk ≠ own.chk) : r.crownReceived own m = (r.seen m).refuse := by
  rcases h with h | h | h
  · rw [RoleState.crownReceived_arbitrating (.inl h) hc, if_neg hm]
  · rw [RoleState.crownReceived_arbitrating (.inr h) hc, if_neg hm]
  · rw [RoleState.crownReceived_spare h hc, if_neg hm]

end

theorem Core.crownIn_eq {mode : Nat} {t : Rt} (hu : c.ringUp = true) (hl : (c.po p).link = true)
    (h : (c.countFrame p true).putRole (c.role.crownReceived c.own m) = d) :
    c.crownIn p m mode t = if d.role.role = .spare && m.crcOk then d.spareCopy (p % 2) mode t else d := by
  subst h
  exact if_neg (by simp [hu, hl])

/-- A crown's record that makes the chip no spare. -/
theorem Core.crownIn_noSpare {mode : Nat} {t : Rt} (hu : c.ringUp = true) (hl : (c.po p).link = true)
    (h : c.role.crownReceived c.own m = (r, es)) (hr : r.role ≠ .spare) :
    c.crownIn p m mode t = ({ c.countFrame p true with role := r } : Core).raise es := by
  refine (Core.crownIn_eq hu hl (by rw [h]; exact Core.putRole_keeps fun hs => absurd hs hr)).trans (if_neg ?_)
  simp [hr]

theorem Core.crownIn_spare {mode : Nat} {t : Rt} (hu : c.ringUp = true) (hl : (c.po p).link = true) (hc : m.crcOk = true)
    (hs : c.role.role = .spare) (h : c.role.crownReceived c.own m = (r, [])) (hr : r.role = .spare) :
    c.crownIn p m mode t = ({ c.countFrame p true with role := r } : Core).spareCopy (p % 2) mode t := by
  refine (Core.crownIn_eq hu hl (by rw [h]; exact (Core.putRole_keeps (c := c.countFrame p true) fun _ => hs).trans (Core.raise_nil _))).trans (if_pos ?_)
  simp [hr, hc]

/-- A crown's record that makes the chip the spare, whose first copy it measures. -/
theorem Core.crownIn_toSpare {mode : Nat} {t : Rt} (hu : c.ringUp = true) (hl : (c.po p).link = true) (hc : m.crcOk = true)
    (hs : c.role.role ≠ .spare) (h : c.role.crownReceived c.own m = (r, [])) (hr : r.role = .spare) :
    c.crownIn p m mode t = ({ c.countFrame p true with role := r } : Core).toSpare.spareCopy (p % 2) mode t := by
  refine (Core.crownIn_eq hu hl (by rw [h]; exact (Core.putRole_spare (c := c.countFrame p true) hr hs).trans (congrArg Core.toSpare (Core.raise_nil _)))).trans
    (if_pos ?_)
  simp [hc, Core.toSpare]

theorem Core.standbyIn_spare (hu : c.ringUp = true) (hl : (c.po p).link = true) (hr : c.role.role = .spare) (hc : m.crcOk = true) :
    c.standbyIn p m = ({ c.countFrame p true with role := c.role.seen m } : Core).enterStandby := if_pos (by simp [hu, hl, hr, hc])

/-! ### Entering CROWN -/

theorem Core.claimPeriod_counts (h : c.role.role = .claim) (hn : c.role.claims + 1 < 8) :
    c.claimPeriod = (let sent := c.segs.foldl Core.sendClaim c
      { sent with role := { sent.role with claims := c.role.claims + 1 } }) := by
  obtain ⟨o, n, hs⟩ := c.claimsOf_segs
  have hn' : ¬8 ≤ c.role.claims + 1 := by omega
  have hsend : RoleState.sendClaim { c.role with seq := n } = ({ c.role with seq := n, claims := c.role.claims + 1 }, []) := by
    rw [RoleState.sendClaim, if_pos (by simp [h])]
    exact if_neg hn'
  rw [Core.claimPeriod, if_pos h, hs]
  dsimp only
  rw [hsend]
  exact (if_neg (by simp [h])).trans (Core.raise_nil _)

/-- The chip that enters CROWN by claim: the start mode, and cycle 0 where it held no role before. -/
def Core.Crowned (c : Core) (first : Bool) (d : Core) : Prop :=
  d.role = c.role ∧ d.evq = c.evq ∧ d.cycle.mode = c.image.startMode ∧ d.cycle.cycle = if first then 0 else c.cycle.cycle

theorem Core.enterCrown_crowned (first : Bool) : c.Crowned first (c.enterCrown first) := by
  unfold Core.enterCrown
  cases first with
  | true => exact Core.formAll_keeps (P := c.Crowned true) (fun d x h => h) (fun d k => { d.sg k with cut := false }) false _ ⟨rfl, rfl, rfl, rfl⟩
  | false => exact Core.formAll_keeps (P := c.Crowned false) (fun d x h => h) (fun d k => { d.sg k with cut := false }) false _ ⟨rfl, rfl, rfl, rfl⟩

theorem Core.claimPeriod_wins (h : c.role.role = .claim) (hn : 8 ≤ c.role.claims + 1) :
    ∃ o n, c.claimPeriod = (({ c with
      outs := o, role := { c.role with seq := n, role := .crown, heldRole := true, claims := 0, takenOver := false } } : Core).raise
        [ev0 EvNo.claimWon]).enterCrown !c.role.heldRole := by
  obtain ⟨o, n, hs⟩ := c.claimsOf_segs
  have hsend : RoleState.sendClaim { c.role with seq := n } =
      ({ c.role with seq := n, role := .crown, heldRole := true, claims := 0, takenOver := false }, [ev0 EvNo.claimWon]) := by
    rw [RoleState.sendClaim, if_pos (by simp [h])]
    exact if_pos hn
  refine ⟨o, n, ?_⟩
  rw [Core.claimPeriod, if_pos h, hs]
  dsimp only
  rw [hsend]
  exact if_pos rfl

/-! ### Takeover -/

theorem TimeBase.setRate_now (b : TimeBase) (rho : Int) : (b.setRate rho).now = b.now := by
  simp [TimeBase.now, TimeBase.setRate, TimeBase.valueAt, TimeBase.rateTerm, BitVec.add_assoc]

theorem TimeState.switchTo_ring (t : TimeState) (d : Nat) : (t.switchTo d).1.ring = t.ring := by
  unfold TimeState.switchTo
  dsimp only
  split
  · rfl
  · split <;> rfl

theorem TimeState.goFree_now (t : TimeState) (img : ImgTime) : (t.goFree img).now = t.now := by
  unfold TimeState.goFree
  split
  · rfl
  · exact TimeBase.setRate_now ..

theorem TimeState.leaveFollow_now (t : TimeState) (img : ImgTime) : (t.leaveFollow img).1.now = t.now := by
  have hfree : (TimeState.goFree { t with src := 0, slew := none } img).now = t.now := TimeState.goFree_now ..
  unfold TimeState.leaveFollow
  dsimp only
  split
  · exact hfree
  · split
    · exact (congrArg TimeBase.now (TimeState.switchTo_ring ..)).trans hfree
    · exact hfree

/-- A core after a takeover: CROWN in the cycle and at the ring time of the spare. -/
def Core.TookOver (c d : Core) : Prop :=
  d.role.role = .crown ∧ d.role.takenOver = true ∧ ev0 EvNo.takeover ∈ d.evq ∧ d.cycle = c.cycle ∧ d.time.now = c.time.now

theorem Core.TookOver.keeps {d e : Core} (h : c.TookOver d) (hr : e.role = d.role) (hq : ∃ es, e.evq = d.evq ++ es)
    (hc : e.cycle = d.cycle) (ht : e.time.now = d.time.now) : c.TookOver e := by
  obtain ⟨h1, h2, h3, h4, h5⟩ := h
  obtain ⟨es, hq⟩ := hq
  exact ⟨hr ▸ h1, hr ▸ h2, hq ▸ List.mem_append_left _ h3, hc.trans h4, ht.trans h5⟩

theorem Core.TookOver.eng {d : Core} (h : c.TookOver d) (x : EngineState) : c.TookOver { d with eng := x } :=
  h.keeps rfl ⟨[], (List.append_nil _).symm⟩ rfl rfl

theorem Core.TookOver.seg {d : Core} (h : c.TookOver d) (x : Tab Segment) : c.TookOver { d with seg := x } :=
  h.keeps rfl ⟨[], (List.append_nil _).symm⟩ rfl rfl

theorem Core.TookOver.gsIdle {d : Core} (h : c.TookOver d) : c.TookOver d.gsIdle := by
  obtain ⟨x, es, hx⟩ := d.gsIdle_gs
  rw [hx]
  exact h.keeps rfl ⟨es, rfl⟩ rfl rfl

theorem Core.TookOver.leaveFollow {d : Core} (h : c.TookOver d) (img : ImgTime) :
    c.TookOver (({ d with time := (d.time.leaveFollow img).1 } : Core).raise (d.time.leaveFollow img).2) :=
  h.keeps rfl ⟨_, rfl⟩ rfl (TimeState.leaveFollow_now ..)

theorem Core.takeover_keeps (h : c.role.role = .spare) (hn : c.image.role.takeoverCyc ≤ c.role.noCrown) : c.TookOver c.takeover := by
  obtain ⟨o, n, hs⟩ := c.claimsOf_twice
  rw [Core.takeover, if_pos (by simp [h, hn]), hs]
  have hcrown : c.TookOver (({ c with outs := o, role := { c.role with
      seq := n, role := .crown, takenOver := true, heldRole := true, noCrown := 0 } } : Core).raise [ev0 EvNo.takeover]) :=
    ⟨rfl, rfl, List.mem_append_right _ (List.mem_singleton.2 rfl), rfl, rfl⟩
  have haxes (l : List Nat) := foldl_keeps (P := c.TookOver) (f := fun (d : Core) a => d.updAx a fun x => { x with state := .off, pend := none })
    (fun d a hd => hd.eng _) l hcrown
  exact Core.formAll_keeps (P := c.TookOver) (fun d x hd => hd.seg x) (fun d k => { d.sg k with phase := .down, cnt := 0, cut := true }) true _
    ((haxes _).gsIdle.leaveFollow _)

/-! ### The spare's cycle and ring time -/

theorem Core.spareCopy_unset {side mode : Nat} {t : Rt} (h : c.time.spareCfg = none) :
    c.spareCopy side mode t =
      if side = 0 then { c with cycle := { c.cycle with rtS := rtAdd c.cycle.rtS (c.spareErr side mode t), running := true } } else c := by
  have hs : c.time.spareSide = 0 := by simp [TimeState.spareSide, TimeState.spareDelay, h]
  unfold Core.spareCopy
  dsimp only
  rw [if_pos (by rw [h]; rfl), hs]

theorem Core.spareCopy_set {side mode : Nat} {t : Rt} (h : c.time.spareCfg ≠ none) :
    c.spareCopy side mode t = { c with time :=
      if side = c.time.spareSide then { c.time with spareRef := some (c.spareErr side mode t) }
      else { c.time with spareOther := some (c.spareErr side mode t) } } := by
  unfold Core.spareCopy
  dsimp only
  rw [if_neg (by simpa using h)]
  split <;> rfl

/-- The reference port's delay is the smaller one (R210). -/
theorem TimeState.spareDelay_side {t : TimeState} {a b : Int} (h : t.spareCfg = some (a, b)) : t.spareDelay t.spareSide = min a b := by
  have h0 : t.spareDelay 0 = a := by simp [TimeState.spareDelay, h]
  have h1 : t.spareDelay 1 = b := by simp [TimeState.spareDelay, h]
  unfold TimeState.spareSide
  rw [h0, h1]
  by_cases hlt : b < a
  · rw [if_pos hlt, h1]; omega
  · rw [if_neg hlt, h0]; omega

theorem Core.rtsyncIn_spare {k : Nat} {n : W32} {v : Rt} (hu : c.ringUp = true) (hr : c.role.role = .spare) :
    c.rtsyncIn k n v =
      if !c.time.rtsyncSeen && !c.time.stepped then
        { c with time := { c.time with ring := c.time.ring.step (rtDiff v c.cycle.rtS), rtsyncSeen := true, stepped := true }
                 cycle := { c.cycle with cycle := n, rtS := v, running := true } }
      else
        let d : Core := if c.time.rtsyncSeen then c else
          { c with time := { c.time with rtsyncSeen := true }, cycle := { c.cycle with cycle := n, running := true } }
        let e : Core := { d with time := d.time.follow (rtDiff (d.sOf n) v) }
        if 8 < (rtDiff (d.sOf n) v).natAbs then e.raise [evNode EvNo.nodeTimeDev k (d.image.sparePos.look k 0)] else e :=
  if_neg (by simp [hu, hr])

theorem Core.slotCfgIn_next {t : Rt} {mode : Nat} {dA dB : Int} (hu : c.ringUp = true) (hr : c.role.role = .spare)
    (h : c.time.spareCfg ≠ none) : c.slotCfgIn t mode dA dB = { c with time := { c.time with spareCfg := some (dA, dB) } } := by
  unfold Core.slotCfgIn
  rw [if_pos (by simp [hu, hr])]
  exact if_neg (by simpa using h)

theorem Core.slotCfgIn_first {t : Rt} {mode : Nat} {dA dB : Int} (hu : c.ringUp = true) (hr : c.role.role = .spare)
    (h : c.time.spareCfg = none) : c.slotCfgIn t mode dA dB =
      { c with time := { c.time with spareCfg := some (dA, dB) }
               cycle := { c.cycle with
                 rtS := rtAdd c.cycle.rtS (rtDiff (rtAdd t (-((c.image.mode.look mode {}).tSf : Int) - min dA dB)) c.cycle.rtS)
                 running := true } } := by
  unfold Core.slotCfgIn
  rw [if_pos (by simp [hu, hr])]
  refine (if_pos (by rw [h]; rfl)).trans ?_
  unfold Core.spareErr
  rw [TimeState.spareDelay_side (a := dA) (b := dB) rfl]

end

/-- Settles O44: ports, arbitration, takeover and the spare's following, one lemma per branch. -/
theorem portsAndRoles : Obligations.PortsAndRoles := by
  refine ⟨fun d k => rfl, Core.launch_eq, fun d side mode t => ⟨fun h h0 => ?ref, fun h h0 => ?other, fun h => ?kept⟩, ?_⟩
  case ref => rw [Core.spareCopy_unset h, if_pos h0]; rfl
  case other => rw [Core.spareCopy_unset h, if_neg h0]
  case kept => exact Core.spareCopy_set h
  intro s p g m hp hg c r heard weaker counted role refused idle spare kr
  have hw : stronger c.own.prio c.own.uid m.prio m.uid = true ↔ weaker := stronger_iff
  refine ⟨fun hm hl present txeq => ?up, fun hl present los lock errs => ?down, fun hk hm hl => ?train, fun h => ?retry,
    fun h => ?one, fun h => ?notOne, fun hu hr hl => ?listen, fun hu hl hc => ⟨fun hr h1 h2 => ?weak, fun hr h1 h2 => ?strong,
      fun hr h1 => ?own, fun hr h => ?refuse, fun hr h1 h2 h3 h4 => ?back, fun hr h1 h2 h3 h4 => ?stay, fun hr => ?seen,
      fun mode t => ⟨fun hr h => ?spare, fun hr h => ?mismatch, fun hr h => ?record, fun hr h => ?yield, fun hr => ?ignored⟩,
      fun hr => ?standby⟩,
    fun hr hn => ?claim, fun hr hn => ?win, fun hr hn => ?takeover, fun n v hu hr => ⟨fun h1 h2 => ?step, fun h => ?follow⟩,
    fun t mode dA dB hu hr => ⟨fun h => ?cfg, fun h => ?first⟩⟩
  case up => exact next_core (f := fun c => c.portUp p present txeq) (Core.portUp_links hm hl present txeq)
  case down => exact next_core (f := fun c => c.portLost p present los lock errs) (Core.portLost_linked hl present los lock errs)
  case train => exact next_core (f := fun c => c.trainTimeout p) (Core.trainTimeout_fails hk hm hl)
  case retry => exact next_core (f := fun c => c.trainRetry p) (if_pos h)
  case one => exact next_core (f := fun c => c.onePort g) (if_pos h)
  case notOne => exact next_core (f := fun c => c.onePort g) (if_neg h)
  case listen => exact next_core (f := fun c => c.listenExpiry) (Core.listenExpiry_claims hu hr hl)
  case weak =>
    have hrec := RoleState.claimReceived_listen (own := c.own) (now := c.now) hr hc
    rw [if_neg h1, if_pos (hw.2 h2)] at hrec
    exact next_core (f := fun c => c.claimIn p m)
      ((Core.claimIn_heard hu hl hrec (fun h => by cases h) (fun _ h => by cases h)).trans (Core.raise_nil _))
  case strong =>
    have hrec := RoleState.claimReceived_listen (own := c.own) (now := c.now) hr hc
    rw [if_neg h1, if_neg fun h => h2 (hw.1 h)] at hrec
    exact next_core (f := fun c => c.claimIn p m) ((Core.claimIn_heard hu hl hrec id
      (fun h => by rw [show s.base.role.role = .listen from hr] at h; cases h)).trans (Core.raise_nil _))
  case own =>
    have hrec := RoleState.claimReceived_listen (own := c.own) (now := c.now) hr hc
    rw [if_pos h1] at hrec
    exact next_core (f := fun c => c.claimIn p m) (Core.claimIn_heard hu hl hrec (fun h => by cases h)
      (fun h => by rw [show s.base.role.role = .listen from hr] at h; cases h))
  case refuse =>
    exact next_core (f := fun c => c.claimIn p m)
      (Core.claimIn_refused hu hl (RoleState.claimReceived_refuses (own := c.own) (now := c.now) hr hc h) hr rfl)
  case back =>
    have hrec := RoleState.claimReceived_same (own := c.own) (now := c.now) hr hc h1 h2 h3
    rw [if_neg fun h => h4 (hw.1 h)] at hrec
    exact next_core (f := fun c => c.claimIn p m)
      ((Core.claimIn_heard hu hl hrec (fun h => by cases h) (fun _ h => by cases h)).trans (Core.raise_nil _))
  case stay =>
    have hrec := RoleState.claimReceived_same (own := c.own) (now := c.now) hr hc h1 h2 h4
    rw [if_pos (hw.2 h3)] at hrec
    exact next_core (f := fun c => c.claimIn p m)
      ((Core.claimIn_heard hu hl hrec id (fun h h' => absurd (h.symm.trans h') (by decide))).trans (Core.raise_nil _))
  case seen =>
    have hrec := RoleState.claimReceived_other (own := c.own) (now := c.now) hr hc
    exact next_core (f := fun c => c.claimIn p m)
      ((Core.claimIn_heard hu hl hrec id (fun h h' => absurd (h.symm.trans h') (by decide))).trans (Core.raise_nil _))
  case spare =>
    have hrec := RoleState.crownReceived_arbitrating (own := c.own) hr hc
    rw [if_pos h] at hrec
    have hns : s.base.role.role ≠ .spare := fun hs => by rcases hr with hr | hr <;> exact absurd (hs.symm.trans hr) (by decide)
    refine next_core (f := fun c => c.crownIn p m mode t) ((Core.crownIn_toSpare hu hl hc hns hrec rfl).trans ?_)
    rw [Core.toSpare_eq rfl]
    rfl
  case mismatch =>
    exact next_core (f := fun c => c.crownIn p m mode t)
      (Core.crownIn_noSpare hu hl (RoleState.crownReceived_mismatch (own := c.own) hr hc h) (fun h => by cases h))
  case record =>
    have hrec := RoleState.crownReceived_spare (own := c.own) hr hc
    rw [if_pos h] at hrec
    exact next_core (f := fun c => c.crownIn p m mode t) (Core.crownIn_spare hu hl hc hr hrec hr)
  case yield =>
    have hrec := RoleState.crownReceived_crown (own := c.own) hr hc
    rw [if_neg fun hs => h (hw.1 hs)] at hrec
    refine next_core (f := fun c => c.crownIn p m mode t)
      ((Core.crownIn_noSpare hu hl hrec (fun hs => absurd (hr.symm.trans hs) (by decide))).trans ((Core.raise_nil _).trans ?_))
    simp only [Bool.and_eq_true, decide_eq_true_eq, bne_iff_ne]
    rfl
  case ignored =>
    have hrec : c.role.crownReceived c.own m = (c.role.seen m, []) := by
      rcases hr with ⟨hr, h⟩ | hr
      · rw [RoleState.crownReceived_crown hr hc, if_pos (hw.2 h)]
      · exact RoleState.crownReceived_other hr hc
    refine next_core (f := fun c => c.crownIn p m mode t) ((Core.crownIn_noSpare hu hl hrec ?_).trans (Core.raise_nil _))
    intro hs
    rcases hr with ⟨hr, h⟩ | hr | hr <;> exact absurd (hr.symm.trans hs) (by decide)
  case standby => exact next_core (f := fun c => c.standbyIn p m) (Core.standbyIn_spare hu hl hr hc)
  case claim => exact next_core (f := fun c => c.claimPeriod) (Core.claimPeriod_counts hr hn)
  case win =>
    obtain ⟨o, n, hwin⟩ := Core.claimPeriod_wins hr hn
    obtain ⟨h1, h2, h3, h4⟩ := Core.enterCrown_crowned (c := (({ c with
      outs := o, role := { c.role with seq := n, role := .crown, heldRole := true, claims := 0, takenOver := false } } : Core).raise
        [ev0 EvNo.claimWon])) (!c.role.heldRole)
    refine ⟨_, congrArg RoleState.role h1, h2 ▸ List.mem_append_right _ (List.mem_singleton.2 rfl), h3, fun h => ?_, fun h => ?_,
      next_core (f := fun c => c.claimPeriod) hwin⟩
    · rw [h4, show c.role.heldRole = false from h]; rfl
    · rw [h4, show c.role.heldRole = true from h]; rfl
  case takeover =>
    obtain ⟨h1, h2, h3, h4, h5⟩ := Core.takeover_keeps hr hn
    exact ⟨_, h1, h2, h3, h4, h5, next_core (f := fun c => c.takeover) rfl⟩
  case step =>
    exact next_core (f := fun c => c.rtsyncIn g n v) ((Core.rtsyncIn_spare hu hr).trans
      (if_pos (by rw [show s.base.time.rtsyncSeen = false from h1, show s.base.time.stepped = false from h2]; rfl)))
  case follow =>
    refine next_core (f := fun c => c.rtsyncIn g n v) ((Core.rtsyncIn_spare hu hr).trans ((if_neg ?_).trans ?_))
    · rcases h with h | h <;> simp [show _ = true from h]
    · cases hseen : c.time.rtsyncSeen <;> rfl
  case cfg => exact next_core (f := fun c => c.slotCfgIn t mode dA dB) (Core.slotCfgIn_next hu hr h)
  case first => exact next_core (f := fun c => c.slotCfgIn t mode dA dB) (Core.slotCfgIn_first hu hr h)

end Sys2Proof.Machine
end

section
/-! Node loss, babble suspects and the time limits of global operations (R80, R82, R104, R168 to R170, R212). -/

namespace Sys2Proof.Machine

section
variable {c : Core} {g p : Nat}

theorem Core.nodeLoss_lost (hs : ((c.sg g).node p).st = .admitted) (hu : (c.sg g).lossCyc ≤ ((c.sg g).node p).unreach) :
    c.nodeLoss g p =
      if (c.sg g).between p && !(c.sg g).split then
        ((c.loseNode g p).putSg g { ((c.loseNode g p).sg g) with split := true }).raise [evSeg EvNo.ringSplit g]
      else c.loseNode g p := if_pos ⟨hs, hu⟩

/-- A position lies between the breaks where it comes after the first and not after the second one. -/
theorem Segment.between_iff {x : Segment} {u v : Nat} (hb : x.breaks = [u, v]) (hu : u ≠ 0xFE) : x.between p = true ↔ u < p ∧ p ≤ v := by
  unfold Segment.between
  rw [hb]
  simp [hu]

theorem Segment.between_unbroken {x : Segment} (hb : x.breaks.length < 2) : x.between p = false := by
  unfold Segment.between
  split
  · next h =>
    rw [h] at hb
    simp at hb
  · rfl

theorem Core.toutPersist_late (hg : g < 4) (hp : p < 64) (hs : ((c.sg g).node p).st = .admitted) (ht : 16 ≤ ((c.sg g).node p).tOut)
    (hd : ((c.sg g).node p).dev = false) :
    c.toutPersist g p =
      ({ (c.putSg g ((c.sg g).updNode p fun k => { k with dev := true })) with
        time := { c.time with nodeDev := w32 (p + 256 * g + 2147483648) } } : Core).raise [evNode EvNo.nodeTimeDev g p] := by
  refine (if_pos (by simp [hs, ht, hd])).trans ?_
  rw [Nat.mod_eq_of_lt hp, Nat.mod_eq_of_lt hg]
  rfl

theorem Core.gopBoundary_barrier (hr : c.cycle.gopState = .running) (ho : c.cycle.gopOp = .barrier)
    (hn : 16 ≤ (c.cycle.cycle - c.cycle.gopStart).toInt) : c.gopBoundary = c.gopFail 6 c.gopOpen.length := by
  unfold Core.gopBoundary
  dsimp only
  rw [if_neg (by simp [hr]), ho]
  exact if_pos hn

theorem Core.gopBoundary_snapshot (hr : c.cycle.gopState = .running) (ho : c.cycle.gopOp = .snapshot)
    (hn : ((12 + (64 * c.nMax + 159) / 160 : Nat) : Int) ≤ (c.cycle.cycle - c.cycle.gopStart).toInt) :
    c.gopBoundary = c.gopFail 6 c.gopOpen.length := by
  unfold Core.gopBoundary
  dsimp only
  rw [if_neg (by simp [hr]), ho]
  exact if_pos hn

end

/-- Settles O45: the loss of a node, the babble suspect, and operations past their time. -/
theorem nodesAndSuspects : Obligations.NodesAndSuspects := by
  intro s g p hg hp c x k q u lost
  refine ⟨fun hs hu => ⟨fun hb => ?lost, fun hb hn => ?split⟩, fun u v hb hu => Segment.between_iff hb hu, Segment.between_unbroken,
    fun hs hu => ?reached, fun hs ht hd => ?late, fun hv h0 hb => ?confirmed, fun hv hc => ?cleared, fun hr ho hn => ?barrier,
    fun hr ho hn => ?snapshot⟩
  case lost =>
    have hno : ¬(x.between p && !x.split) = true := by rcases hb with hb | hb <;> simp [hb]
    exact next_core (f := fun c => c.nodeLoss g p) ((Core.nodeLoss_lost hs hu).trans (if_neg hno))
  case split =>
    have hyes : (x.between p && !x.split) = true := by simp [hb, hn]
    exact next_core (f := fun c => c.nodeLoss g p) ((Core.nodeLoss_lost hs hu).trans (if_pos hyes))
  case reached => exact next_core (f := fun c => c.nodeLoss g p) (if_neg fun h => absurd h.2 (Nat.not_le.2 hu))
  case late => exact next_core (f := fun c => c.toutPersist g p) (Core.toutPersist_late hg hp hs ht hd)
  case confirmed =>
    have hyes : (!u.valid && decide (0 < u.cycles) && decide ((c.is g).babbleCyc ≤ u.cycles)) = true := by simp [hv, h0, hb]
    exact next_core (f := fun c => c.babble g) (if_pos hyes)
  case cleared =>
    have hyes : (u.valid && decide (256 ≤ u.clean)) = true := by simp [hv, hc]
    exact next_core (f := fun c => c.babbleClear g) (if_pos hyes)
  case barrier => exact next_core (f := fun c => c.barrierTimeout) ((if_pos ho).trans (Core.gopBoundary_barrier hr ho hn))
  case snapshot => exact next_core (f := fun c => c.snapTimeout) ((if_pos ho).trans (Core.gopBoundary_snapshot hr ho hn))

end Sys2Proof.Machine
end

section
/-! Credits and the records of the mailbox (R99, R108, R123, R147, R168, R172 to R177, R537). -/

namespace Sys2Proof.Machine

section
variable {c : Core} {g p n gen : Nat} {r : List Byte} {f : Core → Core}

/-! ### A record that names a credit -/

section
variable {q : SlotSeg} (h : c.mbxUp g = true)
include h

theorem Core.spend_first (hr : (c.sl g).receiveCredit n gen p r = (q, .first)) : c.spend g p n gen r f = f (c.putSl g q) := by
  unfold Core.spend
  rw [if_neg (by simp [h]), hr]

theorem Core.spend_same (hr : (c.sl g).receiveCredit n gen p r = (q, .second false)) : c.spend g p n gen r f = c.putSl g q := by
  unfold Core.spend
  rw [if_neg (by simp [h]), hr]

theorem Core.spend_differs (hr : (c.sl g).receiveCredit n gen p r = (q, .second true)) :
    c.spend g p n gen r f = (c.putSl g q).putSg g { ((c.putSl g q).sg g) with dupmis := ((c.putSl g q).sg g).dupmis + 1 } := by
  unfold Core.spend
  rw [if_neg (by simp [h]), hr]

theorem Core.spend_stale (hr : (c.sl g).receiveCredit n gen p r = (q, .stale)) : c.spend g p n gen r f = c.putSl g q := by
  unfold Core.spend
  rw [if_neg (by simp [h]), hr]

end

section
variable {q : SlotSeg}

theorem SlotSeg.names_iff : (decide ((q.credits.look n {}).gen = gen) && decide ((q.credits.look n {}).node = p)) = true ↔
    (q.credits.look n {}).gen = gen ∧ (q.credits.look n {}).node = p := by
  rw [Bool.and_eq_true, decide_eq_true_eq, decide_eq_true_eq]

theorem SlotSeg.receiveCredit_first (hg : (q.credits.look n {}).gen = gen) (hp : (q.credits.look n {}).node = p)
    (ho : (q.credits.look n {}).out = true) : q.receiveCredit n gen p r =
      ({ q with credits := q.credits.put n { q.credits.look n {} with out := false, first := some r }, ret := q.ret + 1 }, .first) :=
  (if_pos (SlotSeg.names_iff.2 ⟨hg, hp⟩)).trans (if_pos ho)

theorem SlotSeg.receiveCredit_second {b : List Byte} (hg : (q.credits.look n {}).gen = gen) (hp : (q.credits.look n {}).node = p)
    (ho : (q.credits.look n {}).out = false) (hf : (q.credits.look n {}).first = some b) : q.receiveCredit n gen p r =
      ({ q with credits := q.credits.put n { q.credits.look n {} with first := none } }, .second (b != r)) := by
  refine (if_pos (SlotSeg.names_iff.2 ⟨hg, hp⟩)).trans ((if_neg (by rw [ho]; decide)).trans ?_)
  rw [hf]

theorem SlotSeg.receiveCredit_stale (h : ¬((q.credits.look n {}).gen = gen ∧ (q.credits.look n {}).node = p) ∨
      ((q.credits.look n {}).out = false ∧ (q.credits.look n {}).first = none)) :
    q.receiveCredit n gen p r = ({ q with stale := incWrap 8 q.stale }, .stale) := by
  by_cases hn : (q.credits.look n {}).gen = gen ∧ (q.credits.look n {}).node = p
  · obtain hn' | ⟨ho, hf⟩ := h
    · exact absurd hn hn'
    · refine (if_pos (SlotSeg.names_iff.2 hn)).trans ((if_neg (by rw [ho]; decide)).trans ?_)
      rw [hf]
  · exact if_neg fun h => hn (SlotSeg.names_iff.1 h)

end

/-! ### Acknowledgements, identities and timeouts -/

theorem Core.mbxAck_up (h : c.mbxUp g = true) (k : Nat) : c.mbxAck g p k = c.putSl g ((c.sl g).receiveAck p k) := if_pos h

/-- The turn of a position to identify itself. -/
theorem Core.mbxIdent_turn (h : c.mbxUp g = true) {d : Ident}
    (ht : ((c.sg g).phase = .admission ∧ (c.sg g).pos = p ∧ (c.sg g).sub = 1) ∨ ((c.sg g).node p).readmit = 3) :
    c.mbxIdent g p d = c.putSg g ((c.sg g).updNode p fun k => if (k.ident.map (·.good)).getD false then k else
      { k with ident := some d, caps := d.caps, st := if k.st = NodeSt.absent ∨ k.st = NodeSt.lost then NodeSt.present else k.st }) := by
  refine (if_neg (by simp [h])).trans (if_pos ?_)
  rcases ht with ⟨h1, h2, h3⟩ | h1
  · simp [h1, h2, h3]
  · simp [h1]

/-- An update of a node depends on its value there alone. -/
theorem Segment.updNode_congr {x : Segment} {f f' : Node → Node} (h : f (x.node p) = f' (x.node p)) : x.updNode p f = x.updNode p f' :=
  congrArg (fun y => { x with nodes := x.nodes.put p y }) h

theorem Core.creditTimeout_up (h : c.mbxUp g = true) :
    c.creditTimeout g =
      (let a := (c.sl g).timeoutPool g (c.is g).credTmo c.cycle.cycle
       let b := a.1.timeoutImplied g (c.is g).credTmo c.cycle.cycle
       (c.putSl g b.1).raise (a.2 ++ b.2)) := if_neg (by simp [h])

theorem Core.driveReturn_up {side : Nat} {good : Bool} {area : List Byte} (h : c.mbxUp g = true) (hl : (c.po (2 * g + side)).link = true) :
    c.driveReturn g side good area =
      if good then (c.countFrame (2 * g + side) good).mbxArea g (area.take 96) else
        (c.countFrame (2 * g + side) good).putSl g { (c.sl g) with
          frmret := halfInc (c.sl g).frmret side
          suspect := if side = 0 then { (c.sl g).suspect with dbadA := true } else { (c.sl g).suspect with dbadB := true } } :=
  if_neg (by simp [h, hl])

end

/-- Settles O46: what a record does to its credit is one lemma (`receiveCredit_first`, `_second`, `_stale`) for all its types. -/
theorem mailboxRecords : Obligations.MailboxRecords := by
  intro s g p n gen hg hp hup c x q cr sl back again differs stale named burst outcome
  have hout : ∀ r f, outcome r (c.spend g p n gen r f) := fun r f => by
    refine ⟨fun ho hf ⟨h1, h2⟩ => ?_, fun b ho hf hb ⟨h1, h2⟩ => ?_, fun h => ?_⟩
    · exact Core.spend_same hup ((SlotSeg.receiveCredit_second h1 h2 ho hf).trans (by rw [bne_self_eq_false]))
    · exact Core.spend_differs hup ((SlotSeg.receiveCredit_second h1 h2 ho hf).trans (by rw [bne_iff_ne.2 hb]))
    · exact Core.spend_stale hup (SlotSeg.receiveCredit_stale h)
  have hfirst : ∀ r f, named → cr.out = true → c.spend g p n gen r f = f (back r) := fun r f ⟨h1, h2⟩ ho =>
    Core.spend_first hup (SlotSeg.receiveCredit_first h1 h2 ho)
  refine ⟨fun r => ?data, fun delta f => ?delay, fun r => ?snap, fun bid fr ofs data => ?vburst,
    fun k => ⟨fun h => ?ack, fun h ha => ?ackAgain, fun h ha => ?ackStale⟩, fun d ht => ⟨fun i hi hgood => ?stands, fun hbad => ?ident⟩,
    ?timeout, fun side area hs hl => ⟨?good, ?bad⟩⟩
  case data => exact ⟨_, next_core (f := fun c => c.mbxData g p n gen r) rfl, hout r id, hfirst r id⟩
  case delay => exact ⟨_, next_core (f := fun c => c.mbxDelay g p n gen delta f) rfl, hout _ _, hfirst _ _⟩
  case snap =>
    refine ⟨_, next_core (f := fun c => c.mbxSnap g p n gen r) rfl, hout _ _, fun hn ho => ⟨fun h => ?_, fun h => ?_⟩⟩
    · exact (hfirst _ _ hn ho).trans (if_neg h)
    · exact (hfirst _ _ hn ho).trans (if_pos h)
  case vburst => exact ⟨_, next_core (f := fun c => c.mbxVburst g p n gen bid fr ofs data) rfl, hout _ _, hfirst _ _⟩
  case ack =>
    exact next_core (f := fun c => c.mbxAck g p k) ((Core.mbxAck_up hup k).trans (congrArg (c.putSl g) (if_pos h)))
  case ackAgain =>
    have hno : ¬(q.implied.any fun i => i.node = p && i.mseq = k) = true := Bool.eq_false_iff.mp h
    exact next_core (f := fun c => c.mbxAck g p k) ((Core.mbxAck_up hup k).trans (congrArg (c.putSl g)
      ((if_neg hno).trans (if_pos (by simpa using ha)))))
  case ackStale =>
    have hno : ¬(q.implied.any fun i => i.node = p && i.mseq = k) = true := Bool.eq_false_iff.mp h
    exact next_core (f := fun c => c.mbxAck g p k) ((Core.mbxAck_up hup k).trans (congrArg (c.putSl g)
      ((if_neg hno).trans (if_neg (by simpa using ha)))))
  case stands =>
    refine next_core (f := fun c => c.mbxIdent g p d) ((Core.mbxIdent_turn hup ht).trans (congrArg (c.putSg g) (Segment.updNode_congr ?_)))
    exact if_pos (by rw [show (x.node p).ident = _ from hi]; exact hgood)
  case ident =>
    refine next_core (f := fun c => c.mbxIdent g p d) ((Core.mbxIdent_turn hup ht).trans (congrArg (c.putSg g) (Segment.updNode_congr ?_)))
    refine if_neg ?_
    cases hi : (x.node p).ident with
    | none => simp
    | some i => simp [hbad i hi]
  case timeout => exact next_core (f := fun c => c.creditTimeout g) (Core.creditTimeout_up hup)
  case good => exact next_core (f := fun c => c.driveReturn g side true area) (Core.driveReturn_up hup hl)
  case bad => exact next_core (f := fun c => c.driveReturn g side false area) (Core.driveReturn_up hup hl)

end Sys2Proof.Machine
end

section
/-! PTP messages and intervals (R197, R203 to R208). -/

namespace Sys2Proof.Machine

section
variable {c : Core} {m : PtpMsg} {n : Nat}

/-! ### What an operation of a domain gives -/

theorem Core.foldl_ptp (l : List PtpTx) (c : Core) :
    l.foldl (fun (c : Core) m => c.out (.ptp m)) c = { c with outs := c.outs ++ l.map Output.ptp } := by
  induction l generalizing c with
  | nil => simp
  | cons y l ih => rw [List.foldl_cons, ih]; simp [Core.out]

/-- With nothing on the pins yet the messages of the operation are what leaves. -/
theorem Core.putTime_eq (h : c.outs = []) (r : TimeState × List Ev × List PtpTx) :
    c.putTime r = { (({ c with time := r.1 } : Core).raise r.2.1) with outs := r.2.2.map Output.ptp } := by
  rw [Core.putTime, Core.foldl_ptp]
  show ({ (({ c with time := r.1 } : Core).raise r.2.1) with outs := c.outs ++ _ } : Core) = _
  rw [h, List.nil_append]

/-- A domain's state after an operation; one that moved the source domain steers ring time. -/
def TimeState.domRan (t : TimeState) (running : Bool) (n : Nat) (o : DomOut) : TimeState × List Ev :=
  let y := t.putDom n o
  let e := y.servo running ((y.now - (y.dom n).now).toInt - y.thetaNow)
  if (o.dom.lastSync != (t.ptp n).lastSync || o.base != t.domBase n) && t.src = n then (e.1, o.evs ++ e.2) else (y, o.evs)

theorem TimeState.ptpRx_taken {t : TimeState} {i : ImgTime} {up : Nat → Bool} {running : Bool}
    {f : PtpDomain → TimeBase → W32 → Nat → DomOut} (ho : m.ok = true) (hd : i.domOf m.port m.domain m.udp = some n) (hu : up n = true) :
    t.ptpRx i m up running f =
      (let o := f (t.ptp n) (t.domBase n) (i.cfg n) n
       ((t.domRan running n o).1, (t.domRan running n o).2, o.tx)) := by
  have hsrc : (t.putDom n (f (t.ptp n) (t.domBase n) (i.cfg n) n)).src = t.src := by
    unfold TimeState.putDom
    split <;> rfl
  unfold TimeState.ptpRx
  rw [if_neg (by simp [ho]), hd, show (some n).filter up = some n from if_pos hu]
  dsimp only
  rw [hsrc]
  unfold TimeState.domRan
  dsimp only
  split <;> rfl

theorem TimeState.ptpRx_discarded {t : TimeState} {i : ImgTime} {up : Nat → Bool} {running : Bool}
    {f : PtpDomain → TimeBase → W32 → Nat → DomOut} (ho : m.ok = false) : t.ptpRx i m up running f = (t.ptpDiscard m.port, [], []) :=
  if_pos (by simp [ho])

theorem TimeState.ptpRx_unserved {t : TimeState} {i : ImgTime} {up : Nat → Bool} {running : Bool}
    {f : PtpDomain → TimeBase → W32 → Nat → DomOut} (ho : m.ok = true) (hd : ∀ k, i.domOf m.port m.domain m.udp = some k → up k = false) :
    t.ptpRx i m up running f = (t, [], []) := by
  have hnone : (i.domOf m.port m.domain m.udp).filter up = none := by
    cases h : i.domOf m.port m.domain m.udp with
    | none => rfl
    | some k => exact if_neg (by simp [hd k h])
  unfold TimeState.ptpRx
  rw [if_neg (by simp [ho]), hnone]

/-- The side of a domain that serves a message is not disabled and uses the port. -/
theorem ImgTime.domOf_serves {i : ImgTime} {port domain : Nat} {udp : Bool} (h : i.domOf port domain udp = some n) :
    domRole (i.cfg n) ≠ 0 ∧ domUses (i.cfg n) port = true := by
  unfold ImgTime.domOf at h
  dsimp only at h
  split at h
  · next hs =>
    obtain rfl : 1 = n := Option.some.inj h
    simp only [Bool.and_eq_true, bne_iff_ne] at hs
    obtain ⟨⟨⟨h0, hu⟩, -⟩, -⟩ := hs
    exact ⟨h0, hu⟩
  · split at h
    · next hs =>
      obtain rfl : 2 = n := Option.some.inj h
      simp only [Bool.and_eq_true, bne_iff_ne] at hs
      obtain ⟨⟨⟨h0, hu⟩, -⟩, -⟩ := hs
      exact ⟨h0, hu⟩
    · cases h

/-- A timer of a domain whose side is served here. -/
theorem Core.domTimer_runs {f : PtpDomain → TimeBase → W32 → DomOut} (hr : c.running = true) (hn : n = 1 ∨ n = 2)
    (h0 : domRole (c.image.time.cfg n) ≠ 0) (hi : c.iso 1 n = false) :
    c.domTimer n f = c.putTime (c.time.putDom n (f (c.time.ptp n) (c.time.domBase n) (c.image.time.cfg n)),
      (f (c.time.ptp n) (c.time.domBase n) (c.image.time.cfg n)).evs, (f (c.time.ptp n) (c.time.domBase n) (c.image.time.cfg n)).tx) := by
  have hn' : (decide (n = 1) || decide (n = 2)) = true := by simpa using hn
  refine if_pos ?_
  rw [hr, hi, hn', bne_iff_ne.2 h0]
  rfl

end

/-! ### Receiving -/

section
variable {d : PtpDomain} {b : TimeBase} {w : W32} {n thr : Nat} {now : Rt} {lat latOut asym : Int} {m : PtpMsg}

theorem domOnSync_hears (hs : d.slaveOn m.port = true) (hc : d.capable w m.port = true) :
    domOnSync d b w n thr now lat asym m =
      if m.twoStep then { dom := { d with wantFup := some (m.seq, ingress b m.stamp lat asym, m.corr) }, base := b }
      else domSync { d with wantFup := none } b n thr now m.port (m.ts + corrRt m.corr) (ingress b m.stamp lat asym) :=
  if_neg (by simp [hs, hc])

theorem domOnSync_deaf (h : ¬(d.slaveOn m.port = true ∧ d.capable w m.port = true)) :
    domOnSync d b w n thr now lat asym m = { dom := d, base := b } := by
  refine if_pos ?_
  cases hs : d.slaveOn m.port
  · rfl
  · cases hc : d.capable w m.port
    · rfl
    · exact absurd ⟨hs, hc⟩ h

theorem domOnFollowUp_completes {t2 k : Int} (hs : d.slaveOn m.port = true) (hw : d.wantFup = some (m.seq, t2, k)) :
    domOnFollowUp d b n thr now m = domSync { d with wantFup := none } b n thr now m.port (m.ts + corrRt (m.corr + k)) t2 := by
  unfold domOnFollowUp
  rw [hw]
  exact if_pos (by simp [hs])

theorem domOnFollowUp_other (h : d.slaveOn m.port = false ∨ ∀ t2 k, d.wantFup ≠ some (m.seq, t2, k)) :
    domOnFollowUp d b n thr now m = { dom := d, base := b } := by
  unfold domOnFollowUp
  split
  · next seq t2 k hw =>
    refine if_neg fun hq => ?_
    simp only [Bool.and_eq_true, decide_eq_true_eq] at hq
    obtain ⟨rfl, hs⟩ := hq
    rcases h with h | h
    · rw [h] at hs; cases hs
    · exact h t2 k hw
  · rfl

theorem domOnDelayReq_master (hp : d.ps m.port = .master) (he : domP2p w = false) :
    domOnDelayReq d b w lat m = { dom := d, base := b, tx :=
      [PtpTx.on { port := m.port, domain := m.domain, mtype := 9, seq := m.seq, ts := (txStamp (ingress b m.stamp lat 0)).1
                  corr := m.corr - (txStamp (ingress b m.stamp lat 0)).2 } w] } := if_pos (by simp [hp, he])

theorem domOnDelayReq_other (h : d.ps m.port ≠ .master ∨ domP2p w = true) : domOnDelayReq d b w lat m = { dom := d, base := b } := by
  refine if_neg ?_
  rcases h with h | h <;> simp [h]

theorem domOnDelayResp_mine {t3 : Int} (hm : m.mine = true) (hd : d.dreq = some (m.seq, t3)) :
    domOnDelayResp d b m = { dom := { d with
      dreq := none, mpd := ((d.t2 - d.t1) + ((m.ts - corrRt m.corr) - t3)) / 2 }, base := b } := by
  unfold domOnDelayResp
  rw [hd]
  exact if_pos (by simp [hm])

theorem domOnDelayResp_other (h : m.mine = false ∨ ∀ t3, d.dreq ≠ some (m.seq, t3)) : domOnDelayResp d b m = { dom := d, base := b } := by
  unfold domOnDelayResp
  split
  · next seq t3 hd =>
    refine if_neg fun hq => ?_
    simp only [Bool.and_eq_true, decide_eq_true_eq] at hq
    obtain ⟨hm, rfl⟩ := hq
    rcases h with h | h
    · rw [h] at hm; cases hm
    · exact h t3 hd
  · rfl

theorem domOnPdelayReq_answers {turn : Nat} (hp : domP2p w = true) (hr : domRole w ≠ 0) :
    domOnPdelayReq d b w lat latOut turn m =
      (let t2 := ingress b m.stamp lat 0
       let t3 : Int := t2 + lat + turn + latOut
       let r : PtpTx := { port := m.port, domain := m.domain, mtype := 3, seq := m.seq }
       if domOneStep w then { dom := d, base := b, tx := [PtpTx.on { r with corr := m.corr + (t3 - t2) * 0x4000 } w] }
       else { dom := d, base := b, tx :=
        [PtpTx.on { r with ts := (txStamp t2).1, corr := -(txStamp t2).2, twoStep := true } w,
         PtpTx.on { r with mtype := 0xA, ts := (txStamp t3).1, corr := m.corr + (txStamp t3).2 } w] }) := if_neg (by simp [hp, hr])

theorem domOnPdelayReq_endToEnd {turn : Nat} (hp : domP2p w = false) : domOnPdelayReq d b w lat latOut turn m = { dom := d, base := b } :=
  if_pos (by simp [hp])

theorem domOnPdelayResp_mine {t1 : Int} (hm : m.mine = true) (hd : d.preq.look? m.port = some (m.seq, t1)) :
    domOnPdelayResp d b w lat asym m =
      if m.twoStep then { dom := { d with presp := d.presp.put m.port ((m.ts : Int) - corrRt m.corr, ingress b m.stamp lat asym) }, base := b }
      else { dom := domPeer d w m.port t1 (ingress b m.stamp lat asym) (corrRt m.corr) none, base := b } := by
  unfold domOnPdelayResp
  rw [hd]
  exact if_pos (by simp [hm])

theorem domOnPdelayResp_other (h : m.mine = false ∨ ∀ t1, d.preq.look? m.port ≠ some (m.seq, t1)) :
    domOnPdelayResp d b w lat asym m = { dom := d, base := b } := by
  unfold domOnPdelayResp
  split
  · next seq t1 hd =>
    refine if_neg fun hq => ?_
    simp only [Bool.and_eq_true, decide_eq_true_eq] at hq
    obtain ⟨hm, rfl⟩ := hq
    rcases h with h | h
    · rw [h] at hm; cases hm
    · exact h t1 hd
  · rfl

theorem domOnPdelayFup_mine {t1 t2 t4 : Int} (hm : m.mine = true) (hd : d.preq.look? m.port = some (m.seq, t1))
    (hp : d.presp.look? m.port = some (t2, t4)) :
    domOnPdelayFup d b w m =
      { dom := domPeer d w m.port t1 t4 ((m.ts : Int) + corrRt m.corr - t2) (some ((m.ts : Int) + corrRt m.corr)), base := b } := by
  unfold domOnPdelayFup
  rw [hd, hp]
  exact if_pos (by simp [hm])

theorem domOnPdelayFup_other (h : m.mine = false ∨ ∀ t1, d.preq.look? m.port ≠ some (m.seq, t1)) :
    domOnPdelayFup d b w m = { dom := d, base := b } := by
  unfold domOnPdelayFup
  split
  · next seq t1 t2 t4 hd hp =>
    refine if_neg fun hq => ?_
    simp only [Bool.and_eq_true, decide_eq_true_eq] at hq
    obtain ⟨hm, rfl⟩ := hq
    rcases h with h | h
    · rw [h] at hm; cases hm
    · exact h t1 hd
  · rfl

theorem domOnPdelayFup_unasked (h : d.presp.look? m.port = none) : domOnPdelayFup d b w m = { dom := d, base := b } := by
  unfold domOnPdelayFup
  rw [h]
  cases d.preq.look? m.port <;> rfl

/-! ### Announce -/

/-- The sender of an Announce becomes, or is, the parent. -/
def PtpDomain.takes (d : PtpDomain) (m : PtpMsg) : Prop :=
  d.parent = none ∨ ∃ p, d.parent = some p ∧ ((p.sender == m.ann.sender && d.parentPort == m.port) || m.ann.better p) = true

/-- The grandmaster that an Announce names is another one. -/
def PtpDomain.newGm (d : PtpDomain) (m : PtpMsg) : Bool := (d.parent.map fun p => p.gm != m.ann.gm).getD false

theorem domOnAnnounce_ignored {own : Announce} (h : m.ann.path.contains own.gm = true ∨ d.capable w m.port = false) :
    domOnAnnounce d b w n own now m = { dom := d, base := b } := by
  refine if_pos ?_
  rcases h with h | h
  · rw [h, Bool.or_true, Bool.true_or]
  · rw [h]; exact Bool.or_true _

section
variable {own : Announce} (hr : domRole w ≠ 0) (hu : domUses w m.port = true) (hp : m.ann.path.contains own.gm = false)
  (hc : d.capable w m.port = true)
include hr hu hp hc

theorem announce_heard :
    ¬(decide (domRole w = 0) || !domUses w m.port || m.ann.path.contains own.gm || !d.capable w m.port) = true := by
  rw [hu, hp, hc, Bool.not_true, Bool.or_false, Bool.or_false, Bool.or_false, decide_eq_true_eq]
  exact hr

theorem domOnAnnounce_worse {p : Announce} (hd : d.parent = some p) (hs : (p.sender == m.ann.sender && d.parentPort == m.port) = false)
    (hb : m.ann.better p = false) : domOnAnnounce d b w n own now m = { dom := d, base := b } := by
  unfold domOnAnnounce
  dsimp only
  rw [if_neg (announce_heard hr hu hp hc), hd]
  exact if_pos (by dsimp only; rw [hs, hb]; rfl)

/-- The parent, and the port states that follow from it. -/
theorem domOnAnnounce_taken (ht : d.takes m) :
    domOnAnnounce d b w n own now m =
      (let x : PtpDomain := { d with parent := some m.ann, parentPort := m.port, lastAnn := now }
       let e0 : List Ev := if d.newGm m && d.valid then [ev0 EvNo.ptpGmChanged n] else []
       if domRole w != 1 && own.better m.ann then { dom := (x.setPs m.port .master).1, base := b, evs := e0 ++ (x.setPs m.port .master).2 }
       else
         let y := if x.slaveOn m.port && !d.newGm m then (x, []) else x.setPs m.port .uncalibrated
         let z := if domRole w = 3 then y.1.setPs (1 - m.port) .master else (y.1, [])
         { dom := z.1, base := b, evs := e0 ++ y.2 ++ z.2 }) := by
  unfold domOnAnnounce PtpDomain.newGm
  dsimp only
  rw [if_neg (announce_heard hr hu hp hc)]
  rcases ht with hd | ⟨p, hd, ht⟩
  · rw [hd]; rfl
  · rw [hd]
    exact if_neg (by dsimp only; rw [ht]; decide)

theorem domOnAnnounce_follows (ht : d.takes m) (ho : domRole w = 1 ∨ own.better m.ann = false) (hs : d.slaveOn m.port = true)
    (hg : d.newGm m = false) : domOnAnnounce d b w n own now m =
      (let x : PtpDomain := { d with parent := some m.ann, parentPort := m.port, lastAnn := now }
       let z := if domRole w = 3 then x.setPs (1 - m.port) .master else (x, [])
       { dom := z.1, base := b, evs := (if d.newGm m && d.valid then [ev0 EvNo.ptpGmChanged n] else []) ++ z.2 }) := by
  have hnot : ¬(domRole w != 1 && own.better m.ann) = true := by rcases ho with ho | ho <;> simp [ho]
  have hsame : (d.slaveOn m.port && !d.newGm m) = true := by rw [hs, hg]; rfl
  refine (domOnAnnounce_taken hr hu hp hc ht).trans ((if_neg hnot).trans ?_)
  dsimp only
  rw [if_pos (show (PtpDomain.slaveOn { d with parent := some m.ann, parentPort := m.port, lastAnn := now } m.port && !d.newGm m) = true
    from hsame), List.append_nil]

theorem domOnAnnounce_uncalibrated (ht : d.takes m) (ho : domRole w = 1 ∨ own.better m.ann = false)
    (hs : d.slaveOn m.port = false ∨ d.newGm m = true) : domOnAnnounce d b w n own now m =
      (let y := PtpDomain.setPs { d with parent := some m.ann, parentPort := m.port, lastAnn := now } m.port .uncalibrated
       let z := if domRole w = 3 then y.1.setPs (1 - m.port) .master else (y.1, [])
       { dom := z.1, base := b, evs := (if d.newGm m && d.valid then [ev0 EvNo.ptpGmChanged n] else []) ++ y.2 ++ z.2 }) := by
  have hnot : ¬(domRole w != 1 && own.better m.ann) = true := by rcases ho with ho | ho <;> simp [ho]
  have hnew : ¬(d.slaveOn m.port && !d.newGm m) = true := by rcases hs with hs | hs <;> simp [hs]
  refine (domOnAnnounce_taken hr hu hp hc ht).trans ((if_neg hnot).trans ?_)
  dsimp only
  rw [if_neg (show ¬(PtpDomain.slaveOn { d with parent := some m.ann, parentPort := m.port, lastAnn := now } m.port && !d.newGm m) = true
    from hnew)]

end

/-! ### Timeouts and intervals -/

theorem PtpDomain.invalidate_eq : d.invalidate n =
    ({ d with valid := false, inWin := 0 }, if d.valid then [ev0 EvNo.domainInvalid n] else []) := by
  unfold PtpDomain.invalidate
  cases h : d.valid
  · rw [if_neg (by decide), if_neg (by decide), ← h]
  · rfl

theorem domSyncTimeout_eq : domSyncTimeout d b n =
    { dom := { d with valid := false, inWin := 0, wantFup := none }, base := b
      evs := if d.valid then [ev0 EvNo.domainInvalid n] else [] } := by
  unfold domSyncTimeout
  rw [PtpDomain.invalidate_eq]

theorem domAnnTimeout_parent {p : Announce} (hp : d.parent = some p) : domAnnTimeout d b w n =
    (let x := PtpDomain.setPs { d with valid := false, inWin := 0 } d.parentPort (if domRole w = 1 then .listening else .master)
     { dom := { x.1 with parent := none, wantFup := none }, base := b
       evs := (if d.valid then [ev0 EvNo.domainInvalid n] else []) ++ x.2 }) := by
  unfold domAnnTimeout
  rw [PtpDomain.invalidate_eq, hp]

theorem domAnnTimeout_master (hp : d.parent = none) (hr : 2 ≤ domRole w) : domAnnTimeout d b w n =
    (let x := if d.psA = .listening then d.setPs 0 .master else (d, [])
     let y := if x.1.psB = .listening then x.1.setPs 1 .master else (x.1, [])
     { dom := y.1, base := b, evs := x.2 ++ y.2 }) := by
  unfold domAnnTimeout
  rw [hp]
  simp only [if_pos hr, beq_iff_eq]

theorem domAnnTimeout_slaveOnly (hp : d.parent = none) (hr : domRole w = 1) : domAnnTimeout d b w n = { dom := d, base := b } := by
  unfold domAnnTimeout
  rw [hp]
  exact if_neg (by omega)

/-- The time at which a message of the domain leaves. -/
def egress (b : TimeBase) (lat : Int) : Int := ((b.now).toNat : Int) + lat

/-- A message of the domain on a port. -/
def PtpDomain.message (w : W32) (port k seq : Nat) : PtpTx := { port := port, domain := fld w 7 0, mtype := k, seq := seq }

/-- A message with its egress stamp. -/
def PtpTx.stamped (y : PtpTx) (t : Int) : PtpTx := { y with ts := (txStamp t).1, corr := (txStamp t).2 }

section
variable {own : Announce} {port k : Nat} (h0 : domRole w ≠ 0) (hu : domUses w port = true)
include h0 hu

theorem interval_served : ¬(decide (domRole w = 0) || !domUses w port) = true := by simp [h0, hu]

theorem domInterval_sync (hs : (d.ps port == .master && d.capable w port) = true) :
    domInterval d b w own lat asym port 0 = { dom := { d with seqSync := (d.seqSync + 1) % 65536 }, base := b, tx :=
      (if domOneStep w then [(PtpDomain.message w port 0 d.seqSync).stamped (egress b lat)]
       else [{ PtpDomain.message w port 0 d.seqSync with twoStep := true },
             (PtpDomain.message w port 8 d.seqSync).stamped (egress b lat)]).map fun y => y.on w } := by
  refine (if_neg (interval_served h0 hu)).trans ((if_pos rfl).trans ((if_pos hs).trans ?_))
  cases domOneStep w <;> rfl

theorem domInterval_announce (hs : (d.ps port == .master && d.capable w port) = true) :
    domInterval d b w own lat asym port 0xB = { dom := { d with seqAnn := (d.seqAnn + 1) % 65536 }, base := b, tx :=
      [{ PtpDomain.message w port 0xB d.seqAnn with ann := some (d.announced w own port) }].map fun y => y.on w } :=
  (if_neg (interval_served h0 hu)).trans ((if_neg (by decide)).trans ((if_pos rfl).trans (if_pos hs)))

theorem domInterval_silent (hs : (d.ps port == .master && d.capable w port) = false) :
    domInterval d b w own lat asym port 0 = { dom := d, base := b } ∧ domInterval d b w own lat asym port 0xB = { dom := d, base := b } :=
  ⟨(if_neg (interval_served h0 hu)).trans ((if_pos rfl).trans (if_neg (Bool.eq_false_iff.mp hs))),
    (if_neg (interval_served h0 hu)).trans ((if_neg (by decide)).trans ((if_pos rfl).trans (if_neg (Bool.eq_false_iff.mp hs))))⟩

theorem domInterval_delayReq (hs : d.slaveOn port = true) (hp : domP2p w = false) :
    domInterval d b w own lat asym port 1 =
      { dom := { d with dreq := some (d.seqReq, egress b lat), seqReq := (d.seqReq + 1) % 65536 }, base := b, tx :=
        [{ PtpDomain.message w port 1 d.seqReq with corr := -asym * 0x4000 }].map fun y => y.on w } :=
  (if_neg (interval_served h0 hu)).trans ((if_neg (by decide)).trans ((if_neg (by decide)).trans ((if_pos rfl).trans
    (if_pos (by simp [hs, hp])))))

theorem domInterval_peer (hp : domP2p w = true) :
    domInterval d b w own lat asym port 2 = { dom := d.askPeer port (egress b lat), base := b, tx :=
      [{ PtpDomain.message w port 2 d.seqReq with corr := -asym * 0x4000 }].map fun y => y.on w } :=
  (if_neg (interval_served h0 hu)).trans ((if_neg (by decide)).trans ((if_neg (by decide)).trans ((if_neg (by decide)).trans (if_pos hp))))

end

end

/-! ### Messages and timers of the chip -/

section
variable {c : Core} {m : PtpMsg} {n : Nat} {f : PtpDomain → TimeBase → W32 → Nat → DomOut}

/-- A message that a domain takes. -/
def Core.PtpTakes (c : Core) (m : PtpMsg) (n : Nat) : Prop :=
  c.ptpUp m.port = true ∧ m.ok = true ∧ c.image.time.domOf m.port m.domain m.udp = some n ∧ c.iso 1 n = false

/-- What an operation of a domain gives, with nothing on the pins yet. -/
def Core.domGives (c : Core) (n : Nat) (o : DomOut) : Core :=
  { (({ c with time := (c.time.domRan c.cycle.running n o).1 } : Core).raise (c.time.domRan c.cycle.running n o).2) with
    outs := o.tx.map Output.ptp }

theorem Core.ptpRx_taken (hc : c.outs = []) (h : c.PtpTakes m n) {o : DomOut}
    (ho : f (c.time.ptp n) (c.time.domBase n) (c.image.time.cfg n) n = o) : c.ptpRx m f = c.domGives n o := by
  obtain ⟨hu, hok, hd, hi⟩ := h
  subst ho
  rw [Core.ptpRx, if_pos hu, TimeState.ptpRx_taken hok hd (by rw [hi]; rfl), Core.putTime_eq hc]
  rfl

theorem Core.putTime_quiet (t : TimeState) : c.putTime (t, [], []) = { c with time := t } := Core.raise_nil _

theorem Core.ptpRx_discarded (hu : c.ptpUp m.port = true) (ho : m.ok = false) :
    c.ptpRx m f = { c with time := c.time.ptpDiscard m.port } := by
  rw [Core.ptpRx, if_pos hu, TimeState.ptpRx_discarded ho, Core.putTime_quiet]

theorem Core.ptpRx_unserved (hu : c.ptpUp m.port = true) (ho : m.ok = true)
    (hd : ∀ k, c.image.time.domOf m.port m.domain m.udp = some k → c.iso 1 k = true) : c.ptpRx m f = c := by
  rw [Core.ptpRx, if_pos hu, TimeState.ptpRx_unserved ho (fun k hk => by rw [hd k hk]; rfl), Core.putTime_quiet]

/-- What a timer of a domain gives, with nothing on the pins yet. -/
def Core.timerGives (c : Core) (n : Nat) (o : DomOut) : Core :=
  { (({ c with time := c.time.putDom n o } : Core).raise o.evs) with outs := o.tx.map Output.ptp }

/-- The timers of the domain run. -/
def Core.DomRuns (c : Core) (n : Nat) : Prop :=
  c.running = true ∧ (n = 1 ∨ n = 2) ∧ domRole (c.image.time.cfg n) ≠ 0 ∧ c.iso 1 n = false

theorem Core.domTimer_gives {f : PtpDomain → TimeBase → W32 → DomOut} (hc : c.outs = []) (h : c.DomRuns n) {o : DomOut}
    (ho : f (c.time.ptp n) (c.time.domBase n) (c.image.time.cfg n) = o) : c.domTimer n f = c.timerGives n o := by
  obtain ⟨hr, hn, h0, hi⟩ := h
  subst ho
  rw [Core.domTimer_runs hr hn h0 hi, Core.putTime_eq hc]
  rfl

theorem Core.at_ptp (t : Rt) (n : Nat) : (c.at t).time.ptp n = c.time.ptp n := rfl

theorem Core.syncTimeout_gives (hc : c.outs = []) (h : c.DomRuns n) :
    c.syncTimeout n =
      (let d := c.time.ptp n
       let a := if d.valid then c.at (rtAdd d.lastSync (3 * logInterval (fld (c.image.time.cfg n) 19 16) : Nat)) else c
       a.timerGives n { dom := { d with valid := false, inWin := 0, wantFup := none }, base := a.time.domBase n
                        evs := if d.valid then [ev0 EvNo.domainInvalid n] else [] }) := by
  unfold Core.syncTimeout
  dsimp only
  cases hv : (c.time.ptp n).valid
  · exact Core.domTimer_gives hc h (domSyncTimeout_eq.trans (by rw [hv]; rfl))
  · refine Core.domTimer_gives (c := c.at _) hc h (domSyncTimeout_eq.trans ?_)
    rw [Core.at_ptp, hv]
    rfl

theorem Core.annTimeout_parent {p : Announce} (hc : c.outs = []) (h : c.DomRuns n) (hp : (c.time.ptp n).parent = some p) :
    c.annTimeout n =
      (let d := c.time.ptp n
       let w := c.image.time.cfg n
       let a := c.at (rtAdd d.lastAnn (fld w 27 24 * logInterval (fld w 23 20) : Nat))
       let x := PtpDomain.setPs { d with valid := false, inWin := 0 } d.parentPort (if domRole w = 1 then .listening else .master)
       a.timerGives n { dom := { x.1 with parent := none, wantFup := none }, base := a.time.domBase n
                        evs := (if d.valid then [ev0 EvNo.domainInvalid n] else []) ++ x.2 }) := by
  unfold Core.annTimeout
  dsimp only
  rw [if_pos (by rw [hp]; rfl)]
  exact Core.domTimer_gives (c := c.at _) hc h (domAnnTimeout_parent (d := c.time.ptp n) hp)

theorem Core.annTimeout_none {o : DomOut} (hc : c.outs = []) (h : c.DomRuns n) (hp : (c.time.ptp n).parent = none)
    (ho : domAnnTimeout (c.time.ptp n) (c.time.domBase n) (c.image.time.cfg n) n = o) : c.annTimeout n = c.timerGives n o := by
  unfold Core.annTimeout
  dsimp only
  rw [if_neg (by rw [hp]; decide)]
  exact Core.domTimer_gives hc h ho

theorem Core.ptpInterval_gives {port k : Nat} {o : DomOut} (hc : c.outs = []) (hu : c.ptpUp port = true) (h : c.DomRuns n)
    (ho : domInterval (c.time.ptp n) (c.time.domBase n) (c.image.time.cfg n) c.image.time.own (c.image.time.latOut port)
      (c.image.time.asymOf port) port k = o) : c.ptpInterval n port k = c.timerGives n o :=
  (if_pos hu).trans (Core.domTimer_gives hc h ho)

end

/-- Settles O47: what an operation or a timer of a domain gives, and then each message and interval by itself. -/
theorem ptpMessages : Obligations.PtpMessages := by
  intro s m n turn hn hrun c t d b w lat latOut asym thr mine messages ran gives quiet sends timed tx at' off lost hears
  have hout : s.base.outs = [] := s.base_outs
  have hserve : mine → domRole w ≠ 0 ∧ domUses w m.port = true := fun ⟨_, _, h, _⟩ => ImgTime.domOf_serves h
  have hruns : domRole w ≠ 0 → c.iso 1 n = false → c.DomRuns n := fun h0 hi => ⟨decide_eq_true hrun, hn, h0, hi⟩
  refine ⟨fun h hh ht => ?syncTwo, fun h hh ht => ?syncOne, fun h hh => ?syncDeaf, fun t2 k h hs hw => ?fup, fun h hh => ?fupOther,
    fun h hp he => ?dreq, fun h hh => ?dreqOther, fun t3 h hm hd => ?dresp, fun h hh => ?drespOther,
    fun h hp => ⟨fun ho => ?preqOne, fun ho => ?preqTwo⟩, fun h hp => ?preqOther, fun h hh => ⟨?presp0, ?pfup0⟩, fun h hp => ?pfupNone,
    fun t1 h hm hd => ⟨fun ht => ?prespTwo, fun ht => ?prespOne, fun t2 t4 hp => ?pfup⟩, fun h hh => ?annIgnored,
    fun h hp hc => ⟨fun p hd hs hb => ?annWorse, fun ht => ⟨fun h1 h2 => ?annOwn, fun ho => ⟨fun hs hg => ?annSame, fun hs => ?annNew⟩⟩⟩,
    fun hu => ⟨fun ho => ⟨?bad, ?badOther⟩, fun ho hd => ?unserved, ?other⟩, fun h0 hi => ?syncTimeout, fun p h0 hi hp => ?annTimeout,
    fun h0 hi hp => ⟨fun hr => ?annMaster, fun hr => ?annSlave⟩,
    fun hu h0 hi hd => ⟨fun hs ho => ?sendOne, fun hs ho => ?sendTwo, fun hs => ?sendAnn, fun hs => ⟨?silent0, ?silentB⟩, fun hs hp => ?sendReq,
      fun hp => ?sendPeer⟩⟩
  case syncTwo =>
    exact next_core (f := fun c => c.ptpSync m)
      (Core.ptpRx_taken hout h ((domOnSync_hears hh.1 hh.2).trans (if_pos ht)))
  case syncOne =>
    exact next_core (f := fun c => c.ptpSync m)
      (Core.ptpRx_taken hout h ((domOnSync_hears hh.1 hh.2).trans (if_neg (by rw [ht]; decide))))
  case syncDeaf => exact next_core (f := fun c => c.ptpSync m) (Core.ptpRx_taken hout h (domOnSync_deaf hh))
  case fup => exact next_core (f := fun c => c.ptpFollowUp m) (Core.ptpRx_taken hout h (domOnFollowUp_completes hs hw))
  case fupOther => exact next_core (f := fun c => c.ptpFollowUp m) (Core.ptpRx_taken hout h (domOnFollowUp_other hh))
  case dreq => exact next_core (f := fun c => c.ptpDelayReq m) (Core.ptpRx_taken hout h (domOnDelayReq_master hp he))
  case dreqOther => exact next_core (f := fun c => c.ptpDelayReq m) (Core.ptpRx_taken hout h (domOnDelayReq_other hh))
  case dresp => exact next_core (f := fun c => c.ptpDelayResp m) (Core.ptpRx_taken hout h (domOnDelayResp_mine hm hd))
  case drespOther => exact next_core (f := fun c => c.ptpDelayResp m) (Core.ptpRx_taken hout h (domOnDelayResp_other hh))
  case preqOne =>
    exact next_core (f := fun c => c.ptpPdelayReq m turn)
      (Core.ptpRx_taken hout h ((domOnPdelayReq_answers hp (hserve h).1).trans (if_pos ho)))
  case preqTwo =>
    exact next_core (f := fun c => c.ptpPdelayReq m turn)
      (Core.ptpRx_taken hout h ((domOnPdelayReq_answers hp (hserve h).1).trans (if_neg (by rw [ho]; decide))))
  case preqOther => exact next_core (f := fun c => c.ptpPdelayReq m turn) (Core.ptpRx_taken hout h (domOnPdelayReq_endToEnd hp))
  case presp0 => exact next_core (f := fun c => c.ptpPdelayResp m) (Core.ptpRx_taken hout h (domOnPdelayResp_other hh))
  case pfup0 => exact next_core (f := fun c => c.ptpPdelayFup m) (Core.ptpRx_taken hout h (domOnPdelayFup_other hh))
  case pfupNone => exact next_core (f := fun c => c.ptpPdelayFup m) (Core.ptpRx_taken hout h (domOnPdelayFup_unasked hp))
  case prespTwo =>
    exact next_core (f := fun c => c.ptpPdelayResp m) (Core.ptpRx_taken hout h ((domOnPdelayResp_mine hm hd).trans (if_pos ht)))
  case prespOne =>
    exact next_core (f := fun c => c.ptpPdelayResp m)
      (Core.ptpRx_taken hout h ((domOnPdelayResp_mine hm hd).trans (if_neg (by rw [ht]; decide))))
  case pfup => exact next_core (f := fun c => c.ptpPdelayFup m) (Core.ptpRx_taken hout h (domOnPdelayFup_mine hm hd hp))
  case annIgnored => exact next_core (f := fun c => c.ptpAnnounce m) (Core.ptpRx_taken hout h (domOnAnnounce_ignored hh))
  case annWorse =>
    exact next_core (f := fun c => c.ptpAnnounce m)
      (Core.ptpRx_taken hout h (domOnAnnounce_worse (hserve h).1 (hserve h).2 hp hc hd hs hb))
  case annOwn =>
    exact next_core (f := fun c => c.ptpAnnounce m)
      (Core.ptpRx_taken hout h ((domOnAnnounce_taken (hserve h).1 (hserve h).2 hp hc ht).trans (if_pos (by simp [h1, h2]))))
  case annSame =>
    exact next_core (f := fun c => c.ptpAnnounce m)
      (Core.ptpRx_taken hout h (domOnAnnounce_follows (hserve h).1 (hserve h).2 hp hc ht ho hs hg))
  case annNew =>
    exact next_core (f := fun c => c.ptpAnnounce m)
      (Core.ptpRx_taken hout h (domOnAnnounce_uncalibrated (hserve h).1 (hserve h).2 hp hc ht ho hs))
  case bad =>
    intro i hi
    simp only [messages, List.mem_cons, List.not_mem_nil, or_false] at hi
    have hall (f : PtpDomain → TimeBase → W32 → Nat → DomOut) := Core.ptpRx_discarded (f := f) hu ho
    rcases hi with rfl | rfl | rfl | rfl | rfl | rfl | rfl | rfl
    · exact next_core (f := fun c => c.ptpSync m) (hall _)
    · exact next_core (f := fun c => c.ptpFollowUp m) (hall _)
    · exact next_core (f := fun c => c.ptpDelayReq m) (hall _)
    · exact next_core (f := fun c => c.ptpDelayResp m) (hall _)
    · exact next_core (f := fun c => c.ptpPdelayReq m turn) (hall _)
    · exact next_core (f := fun c => c.ptpPdelayResp m) (hall _)
    · exact next_core (f := fun c => c.ptpPdelayFup m) (hall _)
    · exact next_core (f := fun c => c.ptpAnnounce m) (hall _)
  case badOther => exact next_core (f := fun c => c.ptpOther m.port true) (if_pos (by rw [show s.base.ptpUp m.port = true from hu]; rfl))
  case unserved =>
    intro i hi
    simp only [messages, List.mem_cons, List.not_mem_nil, or_false] at hi
    have hall (f : PtpDomain → TimeBase → W32 → Nat → DomOut) := Core.ptpRx_unserved (f := f) hu ho hd
    rcases hi with rfl | rfl | rfl | rfl | rfl | rfl | rfl | rfl
    · exact next_core (f := fun c => c.ptpSync m) (hall _)
    · exact next_core (f := fun c => c.ptpFollowUp m) (hall _)
    · exact next_core (f := fun c => c.ptpDelayReq m) (hall _)
    · exact next_core (f := fun c => c.ptpDelayResp m) (hall _)
    · exact next_core (f := fun c => c.ptpPdelayReq m turn) (hall _)
    · exact next_core (f := fun c => c.ptpPdelayResp m) (hall _)
    · exact next_core (f := fun c => c.ptpPdelayFup m) (hall _)
    · exact next_core (f := fun c => c.ptpAnnounce m) (hall _)
  case other => exact next_core (f := fun c => c.ptpOther m.port false) (if_neg (by simp))
  case syncTimeout => exact next_core (f := fun c => c.syncTimeout n) (Core.syncTimeout_gives hout (hruns h0 hi))
  case annTimeout => exact next_core (f := fun c => c.annTimeout n) (Core.annTimeout_parent hout (hruns h0 hi) hp)
  case annMaster =>
    exact next_core (f := fun c => c.annTimeout n) (Core.annTimeout_none hout (hruns h0 hi) hp (domAnnTimeout_master hp hr))
  case annSlave =>
    exact next_core (f := fun c => c.annTimeout n) (Core.annTimeout_none hout (hruns h0 hi) hp (domAnnTimeout_slaveOnly hp hr))
  case sendOne =>
    have hgive := domInterval_sync (b := b) (lat := latOut) (asym := asym) (own := c.image.time.own) h0 hd hs
    rw [if_pos ho] at hgive
    exact next_core (f := fun c => c.ptpInterval n m.port 0) (Core.ptpInterval_gives hout hu (hruns h0 hi) hgive)
  case sendTwo =>
    have hgive := domInterval_sync (b := b) (lat := latOut) (asym := asym) (own := c.image.time.own) h0 hd hs
    rw [if_neg (by rw [ho]; decide)] at hgive
    exact next_core (f := fun c => c.ptpInterval n m.port 0) (Core.ptpInterval_gives hout hu (hruns h0 hi) hgive)
  case sendAnn =>
    exact next_core (f := fun c => c.ptpInterval n m.port 0xB) (Core.ptpInterval_gives hout hu (hruns h0 hi) (domInterval_announce h0 hd hs))
  case silent0 =>
    exact next_core (f := fun c => c.ptpInterval n m.port 0) (Core.ptpInterval_gives hout hu (hruns h0 hi) (domInterval_silent h0 hd hs).1)
  case silentB =>
    exact next_core (f := fun c => c.ptpInterval n m.port 0xB) (Core.ptpInterval_gives hout hu (hruns h0 hi) (domInterval_silent h0 hd hs).2)
  case sendReq =>
    exact next_core (f := fun c => c.ptpInterval n m.port 1)
      (Core.ptpInterval_gives hout hu (hruns h0 hi) (domInterval_delayReq h0 hd hs hp))
  case sendPeer =>
    exact next_core (f := fun c => c.ptpInterval n m.port 2) (Core.ptpInterval_gives hout hu (hruns h0 hi) (domInterval_peer h0 hd hp))

end Sys2Proof.Machine
end

section
/-! The source of ring time, its end states, captures and PPS (R196, R199 to R201, R215 to R217, R222). -/

namespace Sys2Proof.Machine

section
variable {t : TimeState} {img : ImgTime} {d : Nat}

/-! ### A switch -/

/-- What a switch to a domain takes over before ALIGN, hold or slew. -/
def TimeState.switched (t : TimeState) (d : Nat) : TimeState :=
  { t with theta := (t.ring.hostRead - (t.domBase d).hostRead).toInt, slew := none, src := d, rtState := .track }

theorem TimeState.switchTo_eq (t : TimeState) (d : Nat) :
    t.switchTo d =
      if msRt < ((t.switched d).theta - (t.switched d).theta0).natAbs then
        (t.switched d, [ev0 EvNo.rtSourceChanged, ev0 EvNo.plantOffsetHeld])
      else if bit t.rtCtl 4 then ((t.switched d).startSlew, [ev0 EvNo.rtSourceChanged])
      else (t.switched d, [ev0 EvNo.rtSourceChanged]) := rfl

theorem TimeState.switchTo_takes (t : TimeState) (d : Nat) :
    let u := (t.switchTo d).1
    u.ring = t.ring ∧ u.src = d ∧ u.theta = (t.ring.hostRead - (t.domBase d).hostRead).toInt ∧
      (u.rtState = .track ∨ u.rtState = .slew) ∧ ev0 EvNo.rtSourceChanged ∈ (t.switchTo d).2 := by
  rw [TimeState.switchTo_eq]
  dsimp only
  split
  · exact ⟨rfl, rfl, rfl, .inl rfl, List.mem_cons_self ..⟩
  · split
    · exact ⟨rfl, rfl, rfl, .inr rfl, List.mem_cons_self ..⟩
    · exact ⟨rfl, rfl, rfl, .inl rfl, List.mem_cons_self ..⟩

/-! ### The choice of the source -/

/-- The instant since which the preferred domain is valid. -/
def TimeState.prefSince (t : TimeState) : Rt := if t.prefFor = t.pref then t.prefAt.getD t.now else t.now

/-- The preferred domain's validity as of this choice. -/
def TimeState.chosen (t : TimeState) : TimeState :=
  { t with prefAt := if t.domValid t.pref then some t.prefSince else none, prefFor := t.pref }

theorem TimeState.selectSource_kept (h : t.manual = true ∨ t.rtState = .follow) : t.selectSource img = (t.chosen, []) :=
  if_pos (by rcases h with h | h <;> simp [h])

/-- The choice where it applies and PREF names a domain. -/
def TimeState.Choosing (t : TimeState) : Prop := t.manual = false ∧ t.rtState ≠ .follow ∧ t.pref ≠ 0

theorem TimeState.selectSource_free (hm : t.manual = false) (hf : t.rtState ≠ .follow) (hp : t.pref = 0) :
    t.selectSource img = (t.chosen.goFree img, []) :=
  (if_neg (by simp [hm, hf])).trans (if_pos hp)

theorem TimeState.Choosing.auto (h : t.Choosing) : ¬(t.chosen.manual || t.chosen.rtState == .follow) = true := by
  obtain ⟨hm, hf, -⟩ := h
  show ¬(t.manual || t.rtState == .follow) = true
  simp [hm, hf]

theorem TimeState.selectSource_unheld (h : t.Choosing) (hs : t.rtState = .free ∨ t.rtState = .holdover ∨ t.rtState = .freerun) :
    (∀ d, t.permitted = some d → t.selectSource img = t.chosen.switchTo d) ∧ (t.permitted = none → t.selectSource img = (t.chosen, [])) := by
  unfold TimeState.selectSource
  extract_lets p u
  have hu : u = t.chosen := rfl
  clear_value u
  subst hu
  rw [if_neg h.auto, if_neg (show ¬p = 0 from h.2.2)]
  rcases hs with hs | hs | hs
  all_goals
    rw [show t.chosen.rtState = _ from hs]
    exact ⟨fun d hd => by dsimp only; rw [show t.chosen.permitted = some d from hd],
      fun hd => by dsimp only; rw [show t.chosen.permitted = none from hd]⟩

/-- The preferred domain, else with AUTO the other one (R199). -/
theorem TimeState.permitted_pref (h : t.domValid t.pref = true) : t.permitted = some t.pref := if_pos h

theorem TimeState.permitted_other (h : t.domValid t.pref = false) (ha : (bit t.rtCtl 2 && t.domValid (3 - t.pref)) = true) :
    t.permitted = some (3 - t.pref) := (if_neg (by rw [h]; decide)).trans (if_pos ha)

theorem TimeState.permitted_none (h : t.domValid t.pref = false) (ha : (bit t.rtCtl 2 && t.domValid (3 - t.pref)) = false) :
    t.permitted = none := (if_neg (by rw [h]; decide)).trans (if_neg (by rw [ha]; decide))

/-- PREF is taken back: REVERT permits it and its domain has been valid for REVERT_S seconds. -/
def TimeState.Reverts (t : TimeState) : Prop :=
  bit t.rtCtl 3 = true ∧ t.src ≠ t.pref ∧ t.domValid t.pref = true ∧ t.revertS * secRt ≤ (rtDiff t.now t.prefSince).toNat

/-- Rt since which the choice counts the validity of the preferred domain. -/
theorem TimeState.chosen_prefAt (t : TimeState) : t.chosen.prefAt = if t.domValid t.pref then some t.prefSince else none := rfl

theorem TimeState.selectSource_held (h : t.Choosing) (hs : t.rtState = .track ∨ t.rtState = .slew) (hv : t.domValid t.src = true) :
    (t.Reverts → t.selectSource img = t.chosen.switchTo t.pref) ∧ (¬t.Reverts → t.selectSource img = (t.chosen, [])) := by
  unfold TimeState.selectSource
  extract_lets p u
  have hu : u = t.chosen := rfl
  clear_value u
  subst hu
  rw [if_neg h.auto, if_neg (show ¬p = 0 from h.2.2)]
  rcases hs with hs | hs
  all_goals
    rw [show t.chosen.rtState = _ from hs]
    dsimp only
    rw [if_pos (show t.chosen.domValid t.chosen.src = true from hv), TimeState.chosen_prefAt]
    cases hd : t.domValid t.pref
    · refine ⟨fun ⟨_, _, hp, _⟩ => absurd hp (by rw [hd]; decide), fun _ => if_neg ?_⟩
      simp
    · rw [if_pos rfl]
      have hiff (k : Nat) (hk : k = match t.chosen.prefAt with | some x => (rtDiff t.chosen.now x).toNat | none => 0) :
          (bit t.chosen.rtCtl 3 && t.chosen.src != p && (some t.prefSince).isSome && decide (t.chosen.revertS * secRt ≤ k)) = true ↔
            t.Reverts := by
        rw [hk, TimeState.chosen_prefAt, if_pos hd, Bool.and_eq_true, Bool.and_eq_true, Bool.and_eq_true, bne_iff_ne, decide_eq_true_eq]
        exact ⟨fun ⟨⟨⟨h3, hne⟩, _⟩, hlate⟩ => ⟨h3, hne, hd, hlate⟩, fun ⟨h3, hne, _, hlate⟩ => ⟨⟨⟨h3, hne⟩, rfl⟩, hlate⟩⟩
      exact ⟨fun hr => if_pos ((hiff _ rfl).2 hr), fun hr => if_neg fun hc => hr ((hiff _ rfl).1 hc)⟩

theorem TimeState.selectSource_lost (h : t.Choosing) (hs : t.rtState = .track ∨ t.rtState = .slew) (hv : t.domValid t.src = false) :
    t.selectSource img = if bit t.rtCtl 2 && t.domValid (3 - t.src) then t.chosen.switchTo (3 - t.src) else t.chosen.holdover := by
  unfold TimeState.selectSource
  extract_lets p u
  have hu : u = t.chosen := rfl
  clear_value u
  subst hu
  rw [if_neg h.auto, if_neg (show ¬p = 0 from h.2.2)]
  have hv' : ¬t.chosen.domValid t.chosen.src = true := by rw [show t.chosen.domValid t.chosen.src = false from hv]; decide
  rcases hs with hs | hs
  all_goals
    rw [show t.chosen.rtState = _ from hs]
    dsimp only
    rw [if_neg hv']
    rfl

/-! ### The ends of HOLDOVER and SLEW -/

theorem TimeState.holdExpire_holdover (h : t.rtState = .holdover) :
    t.holdExpire = ({ t with rtState := .freerun }, [ev0 EvNo.holdoverExpired]) := if_pos (by rw [h]; rfl)

theorem TimeState.slewDone_slewing {w : Slew} (h : t.slew = some w) :
    t.slewDone =
      (let a := t.advanceTo (w.start + BitVec.ofNat 64 (slewTime (t.theta0 - w.from').natAbs w.vmax w.acc))
       ({ a with theta := t.theta0, slew := none, rtState := .track }, [ev0 EvNo.rtSlewDone])) := by
  unfold TimeState.slewDone
  rw [h]
  rfl

/-! ### Pins -/

/-- The edge that a mode captures: both, the rising or the falling one. -/
def captures (mode : Nat) (rising : Bool) : Prop := mode = 3 ∨ mode = 1 ∧ rising = true ∨ mode = 2 ∧ rising = false

section
variable {pin : Nat} {rising : Bool} {rt : Rt}

theorem captures_iff {mode : Nat} {r : Bool} : (decide (mode = 3) || (decide (mode = 1) && r) || (decide (mode = 2) && !r)) = true ↔
    captures mode r := by
  simp [captures, or_assoc]

theorem TimeState.capture_taken (h : captures (t.pinMode pin) (rising != t.pinInv pin)) (hl : t.caps.length < 64) :
    t.capture pin rising rt = ({ t with caps := insertCap { rt := rt, pin := pin, rising := rising != t.pinInv pin } t.caps }, []) :=
  (if_pos (captures_iff.2 h)).trans (if_pos hl)

theorem TimeState.capture_full (h : captures (t.pinMode pin) (rising != t.pinInv pin)) (hl : 64 ≤ t.caps.length) :
    t.capture pin rising rt = ({ t with capOvf := incWrap 16 t.capOvf }, [(ev0 EvNo.capOverflow).limited 0]) :=
  (if_pos (captures_iff.2 h)).trans (if_neg (Nat.not_lt.2 hl))

theorem TimeState.capture_ignored (h : ¬captures (t.pinMode pin) (rising != t.pinInv pin)) : t.capture pin rising rt = (t, []) :=
  if_neg fun hc => h (captures_iff.1 hc)

theorem TimeState.ppsEdge_rise (h : (t.ppsBase (t.pinMode pin)).isSome = true) : t.ppsEdge pin true = { t with pps := t.pps.put pin t.now } :=
  if_pos h

theorem TimeState.ppsEdge_fall (h : (t.ppsBase (t.pinMode pin)).isSome = true) : t.ppsEdge pin false = { t with pps := t.pps.del pin } :=
  if_pos h

/-- A mode follows a timescale or none, whatever the time. -/
theorem TimeState.ppsBase_at (t : TimeState) (goal : Rt) (mode : Nat) :
    ((t.advanceTo goal).ppsBase mode).isSome = (t.ppsBase mode).isSome := by
  unfold TimeState.ppsBase
  repeat' split
  all_goals rfl

end

section
variable {c : Core} {n : Nat}

theorem Core.at_pinTime (t u : Rt) : (c.at t).pinTime n u = c.pinTime n u := rfl

theorem Core.trgEdge_on (h : c.trgUp = true) (hn : n < 4) (rising : Bool) (e : Rt) {r : TimeState × List Ev}
    (hr : (c.at e).time.capture n rising (c.pinTime n e) = r) : c.trgEdge n rising e = (c.at e).putRing r := by
  refine (if_pos (by simp [h, hn])).trans ?_
  dsimp only
  rw [Core.at_pinTime, hr]

theorem Core.at_ppsBase {b : TimeBase} (hb : c.time.ppsBase (c.time.pinMode n) = some b) (t : Rt) :
    ((c.at t).time.ppsBase ((c.at t).time.pinMode n)).isSome = true :=
  (TimeState.ppsBase_at c.time t (c.time.pinMode n)).trans (by rw [hb]; rfl)

theorem Core.ppsEdge_rises {b : TimeBase} {goal : Rt} (h : c.trgUp = true) (hn : n < 4) (hb : c.time.ppsBase (c.time.pinMode n) = some b)
    (hg : rtAdd c.time.now ((secRt - (b.now.toNat + (c.outLatency n).toNat) % secRt) % secRt : Nat) = goal) :
    c.ppsEdge n true =
      ({ c.at goal with time := { (c.at goal).time with pps := (c.at goal).time.pps.put n (c.at goal).time.now } } : Core).out
        (.pps n (true != (c.at goal).time.pinInv n)) := by
  unfold Core.ppsEdge
  rw [if_neg (by simp [h, hn]), hb]
  dsimp only
  rw [if_pos rfl, hg, if_neg (by simp), TimeState.ppsEdge_rise (Core.at_ppsBase hb goal)]

theorem Core.ppsEdge_falls {b : TimeBase} {x goal : Rt} (h : c.trgUp = true) (hn : n < 4)
    (hb : c.time.ppsBase (c.time.pinMode n) = some b) (hx : c.time.pps.look? n = some x)
    (hg : rtAdd c.time.now (rtDiff (rtAdd x 40000) c.time.now) = goal) :
    c.ppsEdge n false =
      ({ c.at goal with time := { (c.at goal).time with pps := (c.at goal).time.pps.del n } } : Core).out
        (.pps n (false != (c.at goal).time.pinInv n)) := by
  unfold Core.ppsEdge
  rw [if_neg (by simp [h, hn]), hb, hx]
  dsimp only
  rw [if_neg (show ¬(!false && !(some x).isSome) = true by simp), if_neg (by decide), hg, TimeState.ppsEdge_fall (Core.at_ppsBase hb goal)]

theorem Core.holdMax_expires {goal : Rt} (hr : c.running = true) (hs : c.time.rtState = .holdover) (hm : c.time.manual = false)
    (hg : rtAdd c.time.holdAt (c.time.holdMax * secRt : Nat) = goal) :
    c.holdMax =
      ({ c.at goal with time := { (c.at goal).time with rtState := .freerun } } : Core).raise [ev0 EvNo.holdoverExpired] := by
  unfold Core.holdMax
  rw [if_pos (by simp [hr, hs, hm]), hg]
  exact congrArg (Core.putRing (c.at goal)) (TimeState.holdExpire_holdover (t := (c.at goal).time) hs)

end

end

/-- Settles O48: the source by the state of ring time, then its end states and the pins. -/
theorem ringTimeAndPins : Obligations.RingTimeAndPins := by
  refine ⟨TimeState.switchTo_takes, fun s n hn => ?_⟩
  intro c t p valid t' put auto none' held revert
  have hchosen : t' = t.chosen := by
    show ({ t with prefAt := if t.domValid p then valid else none, prefFor := p } : TimeState) = _
    have hvalid : valid = some t.prefSince := (apply_ite some (t.prefFor = t.pref) _ _).symm
    rw [hvalid]
    rfl
  have hrev : revert ↔ t.Reverts := Iff.rfl
  have hsel (hrun : c.boot.st = .running) {r : TimeState × List Ev} (hr : t.selectSource c.image.time = r) :
      exec .sourceSelection s = .next (put r) := by
    subst hr
    exact next_core (f := fun c => c.sourceSelect) (if_pos (decide_eq_true hrun))
  have hgo : auto → p ≠ 0 → t.Choosing := fun ⟨_, hm, hf⟩ hp => ⟨hm, hf, hp⟩
  rw [hchosen]
  refine ⟨fun ha hp => ?free, fun ha hp hno hv => ?take, fun ha hp hno hv hb => ?other, fun ha hp hno hv hb => ?none,
    fun ha hp hh hv => ⟨fun hr => ?back, fun hr => ?stay⟩, fun ha hp hh hv hb => ?replaced, fun ha hp hh hv hb => ?holdover,
    fun hrun h => ?kept, fun hrun hs hm => ?expiry, fun w hrun hw => ?slew,
    fun rising e hu => ⟨fun ht hl => ?captured, fun ht hl => ?full, fun ht => ?ignored⟩, fun b hu hb => ?rise, fun b x hu hb hx => ?fall⟩
  case free => exact hsel ha.1 (TimeState.selectSource_free ha.2.1 ha.2.2 hp)
  case take => exact hsel ha.1 ((TimeState.selectSource_unheld (hgo ha hp) hno).1 _ (TimeState.permitted_pref hv))
  case other => exact hsel ha.1 ((TimeState.selectSource_unheld (hgo ha hp) hno).1 _ (TimeState.permitted_other hv hb))
  case none => exact hsel ha.1 ((TimeState.selectSource_unheld (hgo ha hp) hno).2 (TimeState.permitted_none hv hb))
  case back => exact hsel ha.1 ((TimeState.selectSource_held (hgo ha hp) hh hv).1 (hrev.1 hr))
  case stay => exact hsel ha.1 ((TimeState.selectSource_held (hgo ha hp) hh hv).2 fun h => hr (hrev.2 h))
  case replaced => exact hsel ha.1 ((TimeState.selectSource_lost (hgo ha hp) hh hv).trans (if_pos hb))
  case holdover => exact hsel ha.1 ((TimeState.selectSource_lost (hgo ha hp) hh hv).trans (if_neg (Bool.eq_false_iff.mp hb)))
  case kept => exact hsel hrun (TimeState.selectSource_kept h)
  case expiry => exact next_core (f := fun c => c.holdMax) (Core.holdMax_expires (decide_eq_true hrun) hs hm rfl)
  case slew =>
    exact next_core (f := fun c => c.slewDone)
      ((if_pos (decide_eq_true hrun)).trans (congrArg (Core.putRing c) (TimeState.slewDone_slewing hw)))
  case captured =>
    refine next_core (f := fun c => c.trgEdge n rising e)
      ((Core.trgEdge_on hu hn rising e (TimeState.capture_taken (t := (c.at e).time) ht hl)).trans (Core.raise_nil _))
  case full =>
    exact next_core (f := fun c => c.trgEdge n rising e) (Core.trgEdge_on hu hn rising e (TimeState.capture_full (t := (c.at e).time) ht hl))
  case ignored =>
    exact next_core (f := fun c => c.trgEdge n rising e)
      ((Core.trgEdge_on hu hn rising e (TimeState.capture_ignored (t := (c.at e).time) ht)).trans (Core.raise_nil _))
  case rise => exact next_core (f := fun c => c.ppsEdge n true) (Core.ppsEdge_rises hu hn hb rfl)
  case fall => exact next_core (f := fun c => c.ppsEdge n false) (Core.ppsEdge_falls hu hn hb hx rfl)

end Sys2Proof.Machine
end

section
/-! What a reported fault of a cell does (R28 to R40, R44, R600). -/

namespace Sys2Proof.Machine

/-! ### The ladder -/

section
variable {region block cause losses : Nat} {program other : Bool}

theorem isoOutcome_isolates : (isoOutcome region block other).isolate = true ∧ (isoOutcome region block other).lost = false := by
  unfold isoOutcome
  split
  · split
    · split <;> exact ⟨rfl, rfl⟩
    · split <;> exact ⟨rfl, rfl⟩
  · split <;> exact ⟨rfl, rfl⟩
  · split
    · exact ⟨rfl, rfl⟩
    · split <;> exact ⟨rfl, rfl⟩
  · exact ⟨rfl, rfl⟩
  · exact ⟨rfl, rfl⟩
  · split <;> exact ⟨rfl, rfl⟩

/-- A cause that isolates at once: HSTO, PARC, DRV, LOL, SELF, and ECC2 of a program store. -/
def Isolating (cause : Nat) (program : Bool) : Prop :=
  cause = 2 ∧ program = true ∨ cause = 3 ∨ cause = 5 ∨ cause = 6 ∨ cause = 8 ∨ cause = 9

theorem isolating_iff : (isolating cause || (decide (cause = 2) && program)) = true ↔ Isolating cause program := by
  simp only [isolating, Isolating, Bool.or_eq_true, Bool.and_eq_true, decide_eq_true_eq]
  tauto

theorem verdict_isolates (h : Isolating cause program) : verdict region block cause program losses other = isoOutcome region block other := by
  have h1 : cause ≠ 1 := by rintro rfl; simp [Isolating] at h
  exact (if_neg h1).trans (if_pos (isolating_iff.2 h))

theorem verdict_loses (h1 : cause ≠ 1) (h : ¬Isolating cause program) :
    verdict region block cause program losses other =
      if 3 ≤ losses then { isoOutcome region block other with lost := true } else { action := 2, lost := true } :=
  (if_neg h1).trans (if_neg fun hc => h (isolating_iff.1 hc))

end

section
variable {c : Core} {region block cause word : Nat} {site : FaultSite} {v : Verdict}

/-- The site is a program store. -/
def FaultSite.isProgram (site : FaultSite) : Bool := match site with | .programStore => true | _ => false

theorem FaultSite.isProgram_iff : site.isProgram = true ↔ site = .programStore := by
  cases site <;> simp [FaultSite.isProgram]

theorem FaultSite.ladder_listed {k t : Nat} : (FaultSite.listEntry k t).ladder cause = if cause = 5 then 4 else cause := rfl

theorem FaultSite.ladder_other (h : cause ≠ 5 ∨ ¬∃ k t, site = .listEntry k t) : site.ladder cause = cause := by
  unfold FaultSite.ladder
  split
  · next k t =>
    rcases h with h | h
    · exact if_neg h
    · exact absurd ⟨k, t, rfl⟩ h
  · rfl

/-! ### The chip error manager's part -/

/-- The segment's other port is isolated already. -/
def Core.otherPort (c : Core) (region block : Nat) : Bool :=
  decide (region = 0) && decide (block < 8) && c.iso 0 (if block % 2 = 0 then block + 1 else block - 1)

/-- The record of a verdict with its events; nothing once the manager has stopped. -/
def Core.noted (c : Core) (region block cause detail : Nat) (w : Verdict) : Core :=
  let r := c.errRecord region block cause w.action detail
  let r : Core := if w.action = 1 then { r with err := { r.err with
    corr := r.err.corr.upd region 0 (· + 1), corrEv := insertNat region r.err.corrEv } } else r
  if c.err.cemStopped then c else r.raise (w.events region block (c.err.corrEv.contains region))

theorem Core.manageRecord_noted (detail : Nat) : c.manageRecord region block cause v detail = c.noted region block cause detail v := by
  unfold Core.manageRecord Core.noted
  split <;> rfl

/-- CHIP_SAFE with its field-return record. -/
def Core.chipSafed (c : Core) (v : Verdict) : Core := if v.safe = .none then c.chipSafe v.safe else (c.chipSafe v.safe).frRecord 1

/-- The beginning of an ESCALATION reset, where none has begun. -/
def Core.escalated (c : Core) (region block : Nat) : Core :=
  if c.err.safeAt.isSome then c
  else { c with err := { c.err with safeAt := some c.now, safeBlk := 256 * region + block, ledgerEnded := !c.ledgerOk, ledgerLost := !c.ledgerOk } }

/-- The chip outcome of a verdict; nothing once the manager has stopped. -/
def Core.chipOutcome (c : Core) (region block : Nat) (v : Verdict) : Core :=
  if c.err.cemStopped then c else if v.reset = false then c.chipSafed v else ((c.chipSafed v).frRecord 2).escalated region block

theorem Core.manageChip_outcome : c.manageChip region block v = c.chipOutcome region block v := by
  have hsafe : (if v.safe = .none then c.chipSafe v.safe else (c.chipSafe v.safe).frRecord 1) = c.chipSafed v := rfl
  unfold Core.manageChip Core.chipOutcome
  dsimp only
  rw [hsafe]
  generalize c.chipSafed v = d
  cases c.err.cemStopped
  case true => rfl
  case false =>
    cases v.reset
    case false => rfl
    case true =>
      show (match (d.frRecord 2).err.safeAt with | some _ => d.frRecord 2 | none => _) = (d.frRecord 2).escalated region block
      unfold Core.escalated
      cases (d.frRecord 2).err.safeAt <;> rfl

theorem Core.chipOutcome_none (hs : v.safe = .none) (hr : v.reset = false) : c.chipOutcome region block v = c := by
  unfold Core.chipOutcome Core.chipSafed
  rw [if_pos hs, if_pos hr, hs]
  exact ite_self ..

/-- A fault that loses nothing and is no parity fault of control state leaves its site alone. -/
theorem Core.faultSite_kept : c.faultSite site false false = c := by cases site <;> rfl

/-! ### A report -/

theorem Core.cellFault_muted (h : c.faultMute region block = true) : c.cellFault region block cause site word = c := if_pos h

theorem Core.faultMute_iff : c.faultMute region block = true ↔
    c.iso region block = true ∨ blocksOf region ≤ block ∨ (c.boot.lp = .standby ∧ (region = 0 ∨ region = 2)) := by
  unfold Core.faultMute
  rw [Bool.or_eq_true, Bool.or_eq_true, Bool.and_eq_true, Bool.or_eq_true]
  simp only [decide_eq_true_eq, or_assoc]

theorem Core.cellFault_taken (h : c.faultMute region block = false) (h59 : ¬(region = 5 ∧ block = 9))
    (hv : verdict region block (site.ladder cause) site.isProgram (c.err.lost.look (blkKey region block) 0) (c.otherPort region block) = v) :
    c.cellFault region block cause site word =
      (let d := c.noted region block cause (site.detail cause (if region = 3 ∧ block = 29 then word / 4 else word)) v
       let d := if v.lost then { d with err := d.err.countLost region block } else d
       let d := if v.isolate then { d with err := d.err.isolate region block } else d
       let d := d.faultSite site (v.lost || (v.isolate && cause = 2)) (cause = 5)
       let d := if v.isolate then d.leaveService region block else d
       d.chipOutcome region block v) := by
  subst hv
  unfold Core.cellFault
  rw [if_neg (by rw [h]; decide)]
  dsimp only
  rw [if_neg h59, Core.manageRecord_noted, Core.manageChip_outcome] <;> rfl

end

section
variable {c : Core} {region block cause word : Nat} {site : FaultSite}

/-- What a report gives whose verdict loses the item without isolating. -/
theorem Core.cellFault_itemLost (h : c.faultMute region block = false) (h59 : ¬(region = 5 ∧ block = 9))
    (hl : site.ladder cause ≠ 1) (hi : ¬Isolating (site.ladder cause) site.isProgram)
    (hn : c.err.lost.look (blkKey region block) 0 < 3) :
    c.cellFault region block cause site word =
      (let d := c.noted region block cause (site.detail cause (if region = 3 ∧ block = 29 then word / 4 else word)) { action := 2, lost := true }
       ({ d with err := d.err.countLost region block } : Core).faultSite site true (cause = 5)) :=
  (Core.cellFault_taken h h59 ((verdict_loses hl hi).trans (if_neg (Nat.not_le.2 hn)))).trans (Core.chipOutcome_none rfl rfl)

/-- What a report gives that isolates by the fourth loss. -/
theorem Core.cellFault_fourth (h : c.faultMute region block = false) (h59 : ¬(region = 5 ∧ block = 9))
    (hl : site.ladder cause ≠ 1) (hi : ¬Isolating (site.ladder cause) site.isProgram)
    (hn : 3 ≤ c.err.lost.look (blkKey region block) 0) :
    c.cellFault region block cause site word =
      (let v := isoOutcome region block (c.otherPort region block)
       let d := c.noted region block cause (site.detail cause (if region = 3 ∧ block = 29 then word / 4 else word)) { v with lost := true }
       let d : Core := { d with err := d.err.countLost region block }
       ((({ d with err := d.err.isolate region block } : Core).faultSite site true (cause = 5)).leaveService region block).chipOutcome
         region block v) := by
  refine (Core.cellFault_taken h h59 ((verdict_loses hl hi).trans (if_pos hn))).trans ?_
  dsimp only
  rw [if_pos rfl, if_pos isoOutcome_isolates.1, if_pos isoOutcome_isolates.1] <;> rfl

/-- What a report gives whose cause isolates at once. -/
theorem Core.cellFault_isolates (h : c.faultMute region block = false) (h59 : ¬(region = 5 ∧ block = 9))
    (hi : Isolating (site.ladder cause) site.isProgram) :
    c.cellFault region block cause site word =
      (let v := isoOutcome region block (c.otherPort region block)
       let d := c.noted region block cause (site.detail cause (if region = 3 ∧ block = 29 then word / 4 else word)) v
       ((({ d with err := d.err.isolate region block } : Core).faultSite site (cause = 2) (cause = 5)).leaveService region block).chipOutcome
         region block v) := by
  refine (Core.cellFault_taken h h59 (verdict_isolates hi)).trans ?_
  dsimp only
  rw [isoOutcome_isolates.1, isoOutcome_isolates.2] <;> rfl

theorem Core.faultMute_manager (h : c.iso 5 9 = false) : ¬c.faultMute 5 9 = true := fun hm => by
  rcases Core.faultMute_iff.1 hm with hm | hm | ⟨_, hm⟩
  · rw [h] at hm; cases hm
  · exact absurd hm (by decide)
  · exact absurd hm (by decide)

/-- The chip error manager's own fault, corrected. -/
theorem Core.cellFault_manager (h : c.iso 5 9 = false) (hs : c.err.cemStopped = false) :
    c.cellFault 5 9 1 site word = { c with err := { c.err with corr := c.err.corr.upd 5 0 (· + 1) } } := by
  exact (if_neg (Core.faultMute_manager h)).trans ((if_pos ⟨rfl, rfl⟩).trans ((if_neg (by rw [hs]; decide)).trans (if_pos rfl)))

theorem Core.cellFault_manager_stops (h : c.iso 5 9 = false) (hi : Isolating cause site.isProgram) :
    ∃ x, c.cellFault 5 9 cause site word = { c with err := { c.err with cemStopped := true }, health := x } := by
  have h1 : cause ≠ 1 := by rintro rfl; simp [Isolating] at hi
  by_cases hs : c.err.cemStopped = true
  · have hsame : c.cellFault 5 9 cause site word = c := (if_neg (Core.faultMute_manager h)).trans ((if_pos ⟨rfl, rfl⟩).trans (if_pos hs))
    exact ⟨c.health, by rw [hsame, ← hs]⟩
  · exact ⟨_, (if_neg (Core.faultMute_manager h)).trans ((if_pos ⟨rfl, rfl⟩).trans ((if_neg hs).trans ((if_neg h1).trans
      (if_pos (isolating_iff.2 hi)))))⟩

theorem Core.cellFaultCmd_on (h : c.boot.held = false) : c.cellFaultCmd region block cause site word = c.cellFault region block cause site word :=
  if_neg (by rw [h]; decide)

end

/-! ### The outcomes of R33 -/

section
variable {region block : Nat} {other : Bool}

theorem isoOutcome_full (h : region = 1 ∧ (block = 0 ∨ block = 5) ∨ region = 2 ∧ block = 0 ∨ region = 5 ∧ (block = 6 ∨ block = 7)) :
    isoOutcome region block other = { action := 7, isolate := true, regionLost := true, safe := .all, reset := true } := by
  rcases h with ⟨rfl, rfl | rfl⟩ | ⟨rfl, rfl⟩ | ⟨rfl, rfl | rfl⟩ <;> rfl

theorem isoOutcome_segment (h1 : 8 ≤ block) (h2 : block < 12) :
    isoOutcome 0 block other = { action := 6, isolate := true, regionLost := true, safe := .segment (block - 8) } :=
  (if_neg (by omega)).trans (if_pos h2)

theorem isoOutcome_lastPort (h : block < 8) :
    isoOutcome 0 block true = { action := 6, isolate := true, regionLost := true, safe := .segment (block / 2) } := if_pos h

theorem isoOutcome_bank (h1 : 53 ≤ block) (h2 : block ≤ 60) :
    isoOutcome 2 block other = { action := 6, isolate := true, regionLost := true, safe := .bank (block - 53) } :=
  (if_neg (by omega)).trans (if_pos (by simp [h1, h2]))

/-- A degraded region: no chip outcome. -/
theorem isoOutcome_degraded (h : region = 3 ∨ region = 2 ∧ 1 ≤ block ∧ block < 53 ∨ region = 0 ∧ block < 8 ∧ other = false ∨
      region = 1 ∧ block ≠ 0 ∧ block ≠ 5 ∨ region = 5 ∧ block ≠ 6 ∧ block ≠ 7) :
    isoOutcome region block other = { action := 4, isolate := true } := by
  rcases h with rfl | ⟨rfl, h1, h2⟩ | ⟨rfl, h1, rfl⟩ | ⟨rfl, h1, h2⟩ | ⟨rfl, h1, h2⟩
  · rfl
  · exact (if_neg (by omega)).trans (if_neg (by simp; omega))
  · exact if_pos h1
  · exact if_neg (by simp [h1, h2])
  · exact if_neg (by simp [h1, h2])

end

/-- Settles O49: the verdict by the ladder, and then what each verdict does. -/
theorem cellFaults : Obligations.CellFaults := by
  intro s region block word site c full other v at' noted count out live listed gives
  have hgives (cause : Nat) (hheld : c.boot.held = false) {d : Core} (hd : c.cellFault region block cause site word = d) :
      gives cause (s.after d) := by
    refine ⟨next_core (f := fun c => c.cellFaultCmd region block cause site word) ((Core.cellFaultCmd_on hheld).trans hd), ?_⟩
    rintro rfl rfl rfl
    exact next_core (f := fun c => c.handshake region block) ((Core.cellFaultCmd_on hheld).trans hd)
  have hmute : live → c.faultMute region block = false := fun ⟨_, hi, hb, hst, _⟩ => by
    refine Bool.eq_false_iff.2 fun hm => ?_
    rcases Core.faultMute_iff.1 hm with hm | hm | hm
    · rw [hi] at hm; cases hm
    · exact absurd hb (Nat.not_lt.2 hm)
    · exact hst hm
  have hnoProgram : site ≠ .programStore → site.isProgram = false := fun h => Bool.eq_false_iff.2 fun hp => h (FaultSite.isProgram_iff.1 hp)
  have hladder (cause : Nat) (hc : cause = 2 ∧ site ≠ .programStore ∨ cause = 4 ∨ cause = 7 ∨ cause = 5 ∧ listed) :
      site.ladder cause ≠ 1 ∧ ¬Isolating (site.ladder cause) site.isProgram := by
    rcases hc with ⟨rfl, hc⟩ | rfl | rfl | ⟨rfl, k, t, rfl⟩
    · rw [FaultSite.ladder_other (.inl (by decide)), hnoProgram hc]; simp [Isolating]
    · rw [FaultSite.ladder_other (.inl (by decide))]; simp [Isolating]
    · rw [FaultSite.ladder_other (.inl (by decide))]; simp [Isolating]
    · rw [FaultSite.ladder_listed]; simp [Isolating, FaultSite.isProgram]
  refine ⟨fun hl => ?corrected, fun cause hc hl => ⟨fun hn => ?lost, fun hn => ?fourth⟩, fun cause hc hl => ?isolates, fun h => ?full,
    fun h => ?guard, fun h h1 h2 => ?segment, fun h h1 h2 => ?lastPort, fun h h1 h2 => ?bank, fun h => ?degraded, fun cause h => ?mute,
    fun hheld h59 => ⟨fun hs => ?manager, fun cause hc => ?stops, ?handshake⟩⟩
  case corrected =>
    refine hgives 1 hl.1 ((Core.cellFault_taken (hmute hl) hl.2.2.2.2 (v := { action := 1 }) ?_).trans ?_)
    · rw [FaultSite.ladder_other (.inl (by decide))]; rfl
    · exact (Core.chipOutcome_none rfl rfl).trans Core.faultSite_kept
  case lost => exact hgives cause hl.1 (Core.cellFault_itemLost (hmute hl) hl.2.2.2.2 (hladder cause hc).1 (hladder cause hc).2 hn)
  case fourth =>
    exact hgives cause hl.1 (Core.cellFault_fourth (hmute hl) hl.2.2.2.2 (hladder cause hc).1 (hladder cause hc).2 hn)
  case isolates =>
    have hi : Isolating (site.ladder cause) site.isProgram := by
      rcases hc with ⟨rfl, rfl⟩ | rfl | ⟨rfl, hc⟩ | rfl | rfl | rfl
      · exact .inl ⟨rfl, rfl⟩
      · rw [FaultSite.ladder_other (.inl (by decide))]; simp [Isolating]
      · rw [FaultSite.ladder_other (.inr hc)]; simp [Isolating]
      · rw [FaultSite.ladder_other (.inl (by decide))]; simp [Isolating]
      · rw [FaultSite.ladder_other (.inl (by decide))]; simp [Isolating]
      · rw [FaultSite.ladder_other (.inl (by decide))]; simp [Isolating]
    exact hgives cause hl.1 (Core.cellFault_isolates (hmute hl) hl.2.2.2.2 hi)
  case full => exact isoOutcome_full h
  case guard => subst h; exact ⟨rfl, rfl, rfl⟩
  case segment =>
    subst h
    rw [show v = _ from isoOutcome_segment h1 h2]
    exact ⟨rfl, rfl, rfl⟩
  case lastPort =>
    subst h
    rw [show v = isoOutcome 0 block true from congrArg (isoOutcome 0 block) h2, isoOutcome_lastPort h1]
    exact ⟨rfl, rfl, rfl⟩
  case bank =>
    subst h
    rw [show v = _ from isoOutcome_bank h1 h2]
    exact ⟨rfl, rfl, rfl⟩
  case degraded =>
    rw [show v = _ from isoOutcome_degraded h]
    exact ⟨rfl, rfl, rfl⟩
  case mute =>
    rcases h with h | h
    · have hcmd (k : Nat) (x : FaultSite) (w : Nat) : c.cellFaultCmd region block k x w = c := if_pos h
      exact ⟨next_core (f := fun c => c.cellFaultCmd region block cause site word) (hcmd ..),
        fun _ _ _ => next_core (f := fun c => c.handshake region block) (hcmd ..)⟩
    · have hcmd (k : Nat) (x : FaultSite) (w : Nat) : c.cellFaultCmd region block k x w = c :=
        (ite_congr rfl (fun _ => rfl) fun _ => Core.cellFault_muted (Core.faultMute_iff.2 (by tauto))).trans (ite_self ..)
      exact ⟨next_core (f := fun c => c.cellFaultCmd region block cause site word) (hcmd ..),
        fun _ _ _ => next_core (f := fun c => c.handshake region block) (hcmd ..)⟩
  case manager =>
    exact next_core (f := fun c => c.cellFaultCmd 5 9 1 site word) ((Core.cellFaultCmd_on hheld).trans (Core.cellFault_manager h59 hs))
  case stops =>
    have hi : Isolating cause site.isProgram := by
      rcases hc with ⟨rfl, rfl⟩ | hc
      · exact .inl ⟨rfl, rfl⟩
      · exact .inr hc
    obtain ⟨x, hx⟩ := Core.cellFault_manager_stops (word := word) h59 hi
    exact ⟨_, next_core (f := fun c => c.cellFaultCmd 5 9 cause site word) ((Core.cellFaultCmd_on hheld).trans hx), rfl, rfl⟩
  case handshake =>
    obtain ⟨x, hx⟩ := Core.cellFault_manager_stops (cause := 3) (site := .plain) (word := 0) h59 (by simp [Isolating])
    exact ⟨_, next_core (f := fun c => c.handshake 5 9) ((Core.cellFaultCmd_on hheld).trans hx), rfl, rfl⟩

end Sys2Proof.Machine
end

section
/-! What becomes of the item that a fault loses (R32, R166, R182, R295, R405, R425, R429, R468, R541, R571, R666). -/

namespace Sys2Proof.Machine

/-! ### A cancelled chain leaves the words and the axes' states alone -/

section
variable {c d : Core}

/-- The words and the states of the axes are the same. -/
def Core.AxesKept (c d : Core) : Prop := d.words = c.words ∧ d.eng.axis = c.eng.axis

theorem Core.AxesKept.refl (c : Core) : c.AxesKept c := ⟨rfl, rfl⟩

theorem Core.AxesKept.trans {e : Core} (h : c.AxesKept d) (h' : d.AxesKept e) : c.AxesKept e :=
  ⟨h'.1.trans h.1, h'.2.trans h.2⟩

theorem Core.tr_kept (c : Core) (t : TraceIn) : c.AxesKept (c.tr t) := ⟨rfl, rfl⟩

theorem Core.disp_kept (c : Core) (x : DispState) : c.AxesKept { c with disp := x } := ⟨rfl, rfl⟩

theorem Core.updChain_kept (c : Core) (a : Nat) (f : Chain → Chain) : c.AxesKept (c.updChain a f) := by
  unfold Core.updChain
  split <;> exact ⟨rfl, rfl⟩

theorem Core.freeUnit_kept (c : Core) (r : Running) : c.AxesKept (c.freeUnit r) := by
  unfold Core.freeUnit
  dsimp only
  split <;> exact ⟨rfl, rfl⟩

theorem Core.start_kept (c : Core) (k : Cls) (u : Nat) (r : Ready) : c.AxesKept (c.start k u r) := by
  unfold Core.start
  refine Core.AxesKept.trans ?_ (Core.tr_kept ..)
  refine Core.AxesKept.trans ?_ (Core.updChain_kept ..)
  cases k <;> exact ⟨rfl, rfl⟩

theorem Core.placeOne_kept (c : Core) (k : Cls) (u : Nat) : c.AxesKept (c.placeOne k u) := by
  unfold Core.placeOne
  split
  · split
    · exact .refl c
    · exact (Core.disp_kept ..).trans (Core.start_kept ..)
  · exact .refl c

theorem Core.place_kept (c : Core) (k : Cls) : c.AxesKept (c.place k) :=
  foldl_keeps (P := c.AxesKept) (fun d u h => h.trans (d.placeOne_kept k u)) (unitsOf k) (.refl c)

theorem Core.advanceFlow_kept (c : Core) (f : Nat) : c.AxesKept (c.advanceFlow f) :=
  foldl_keeps (P := c.AxesKept) (fun d _ h => h.trans (d.tr_kept _)) _ (c.disp_kept _)

theorem Core.fillSlot_kept (c : Core) (a : Nat) (x : Drive) (t : Option Rt) : c.AxesKept (c.fillSlot a x t) := by
  unfold Core.fillSlot
  split
  · exact .refl c
  · exact (c.disp_kept _).trans (Core.advanceFlow_kept ..)

theorem Core.endChainTasks_kept (c : Core) (a : Nat) (e : Ending) (endc reason : Nat) : c.AxesKept (c.endChainTasks a e endc reason) := by
  unfold Core.endChainTasks
  extract_lets live units trs tallied freed keep kept marked
  have htrs : c.AxesKept trs := by
    refine foldl_keeps (P := c.AxesKept) (fun d t h => ?_) live (.refl c)
    cases e with
    | cancelled k => exact h.trans (d.tr_kept _)
    | released => exact h
    | empty =>
      dsimp only
      cases d.runningTask t.task a t.copyB with
      | some x => exact h.trans (d.tr_kept _)
      | none => exact h
  have htallied : c.AxesKept tallied := foldl_keeps (P := c.AxesKept) (fun d _ h => h.trans (d.disp_kept _)) live htrs
  have hfreed : c.AxesKept freed := foldl_keeps (P := c.AxesKept) (fun d r h => h.trans (d.freeUnit_kept r)) units htallied
  exact ((hfreed.trans (freed.disp_kept _)).trans (Core.updChain_kept ..)).trans ⟨rfl, rfl⟩

theorem Core.cancelEmpty_kept (c : Core) (a reason : Nat) : c.AxesKept (c.cancelEmpty a reason) := by
  unfold Core.cancelEmpty Core.cancelChain
  split
  · exact ((((c.endChainTasks_kept ..).trans (Core.fillSlot_kept ..)).trans (Core.place_kept ..)).trans (Core.place_kept ..)).trans
      (Core.place_kept ..)
  · exact .refl c

end

/-! ### A fault of an axis -/

section
variable {c : Core} {a b k : Nat}

/-- What an axis fault leaves alone: the image, the profile state, the other axes' states, and whether a phase is provisional. -/
def Core.FaultKept (c d : Core) (a : Nat) : Prop :=
  d.image = c.image ∧ d.prof = c.prof ∧ (∀ b, b ≠ a → d.ax b = c.ax b) ∧ ∀ b, (d.fa b).prov = (c.fa b).prov

theorem Core.FaultKept.refl (c : Core) (a : Nat) : c.FaultKept c a := ⟨rfl, rfl, fun _ _ => rfl, fun _ => rfl⟩

theorem Core.FaultKept.trans {d e : Core} (h : c.FaultKept d a) (h' : d.FaultKept e a) : c.FaultKept e a := by
  obtain ⟨h1, h2, h3, h4⟩ := h
  obtain ⟨g1, g2, g3, g4⟩ := h'
  exact ⟨g1.trans h1, g2.trans h2, fun b hb => (g3 b hb).trans (h3 b hb), fun b => (g4 b).trans (h4 b)⟩

theorem Core.updFa_faultKept {f : FieldAxis → FieldAxis} (hf : ∀ x, (f x).prov = x.prov) : c.FaultKept (c.updFa a f) a := by
  refine ⟨rfl, rfl, fun _ _ => rfl, fun b => ?_⟩
  by_cases hb : b = a
  · subst hb
    exact (congrArg FieldAxis.prov (Tab.look_put_self ..)).trans (hf _)
  · exact congrArg FieldAxis.prov (Tab.look_put_ne _ _ _ _ _ hb)

theorem Core.updAx_faultKept (f : AxisState → AxisState) : c.FaultKept (c.updAx a f) a :=
  ⟨rfl, rfl, fun _ hb => Tab.look_put_ne _ _ _ _ _ hb, fun _ => rfl⟩

theorem Core.updAx_ax (f : AxisState → AxisState) : (c.updAx a f).ax a = f (c.ax a) := Tab.look_put_self ..

theorem Core.raise_faultKept (es : List Ev) : c.FaultKept (c.raise es) a := ⟨rfl, rfl, fun _ _ => rfl, fun _ => rfl⟩

theorem Core.updOb_faultKept (f : ObsAxis → ObsAxis) : c.FaultKept (c.updOb a f) a := ⟨rfl, rfl, fun _ _ => rfl, fun _ => rfl⟩

theorem Core.updGa_faultKept (f : GsAxis → GsAxis) : c.FaultKept (c.updGa a f) a := ⟨rfl, rfl, fun _ _ => rfl, fun _ => rfl⟩

theorem Core.endAlign_faultKept (g : Bool) : c.FaultKept (c.endAlign a g) a := by
  unfold Core.endAlign
  split
  · exact .refl c a
  · split
    · refine Core.FaultKept.trans ?_ (Core.raise_faultKept _)
      exact Core.updFa_faultKept fun _ => rfl
    · exact Core.updFa_faultKept fun _ => rfl

theorem Core.endDegraded_faultKept : c.FaultKept (c.endDegraded a) a := by
  unfold Core.endDegraded
  split
  · exact Core.updGa_faultKept _
  · exact .refl c a

theorem Core.resetCurve_faultKept : c.FaultKept (c.resetCurve a) a := Core.updFa_faultKept fun _ => rfl

theorem Core.axisFault_faultKept (k p : Nat) : c.FaultKept (c.axisFault a k p) a := by
  unfold Core.axisFault
  split
  · exact .refl c a
  · split
    · exact Core.updAx_faultKept _
    · extract_lets d1 d2 d3 d4
      have h1 : c.FaultKept d1 a := (Core.endAlign_faultKept _).trans Core.endDegraded_faultKept
      have h2 : c.FaultKept d2 a := h1.trans (Core.updOb_faultKept _)
      have h3 : c.FaultKept d3 a := h2.trans (Core.updAx_faultKept _)
      have h4 : c.FaultKept d4 a := h3.trans (Core.updGa_faultKept _)
      exact (h4.trans Core.resetCurve_faultKept).trans (Core.raise_faultKept _)

theorem Core.updGa_ax (f : GsAxis → GsAxis) : (c.updGa a f).ax b = c.ax b := rfl

theorem Core.resetCurve_ax : (c.resetCurve a).ax b = c.ax b := rfl

theorem Core.raise_ax (es : List Ev) : (c.raise es).ax b = c.ax b := rfl

/-- An axis that faults is in AX_FAULT. -/
theorem Core.axisFault_state (h : c.hasAx a = true) (k p : Nat) : ((c.axisFault a k p).ax a).state = .fault := by
  unfold Core.axisFault
  rw [if_neg (by rw [h]; decide)]
  split
  · next hs =>
    rw [Core.updAx_ax]
    unfold AxisState.recause
    split
    · exact hs
    · split <;> exact hs
  · extract_lets d1 d2 d3 d4
    rw [Core.raise_ax, Core.resetCurve_ax, show d4.ax a = d3.ax a from Core.updGa_ax _,
      show d3.ax a = _ from Core.updAx_ax _]

theorem Core.mem_axes (h : c.hasAx a = true) : a ∈ c.axes := by
  unfold Core.hasAx at h
  unfold Core.axes Tab.keys
  generalize c.image.axis = t at h
  induction t with
  | nil => cases h
  | cons e t ih =>
    by_cases he : e.1 = a
    · exact List.mem_map.2 ⟨e, List.mem_cons_self .., he⟩
    · rw [Tab.look?, if_neg he] at h
      exact List.mem_cons_of_mem _ (ih h)

/-! ### A bad table -/

/-- The axis is in AX_FAULT from a list of axes on, the image and the profiles as before. -/
theorem Core.tableFaults_state (l : List Nat) (ev : Nat → List Ev) (h : c.hasAx b = true) (hb : b ∈ l ∨ (c.ax b).state = .fault) :
    ((l.foldl (fun (c : Core) a => (c.axisFault a 8).raise (ev a)) c).ax b).state = .fault := by
  induction l generalizing c with
  | nil => exact hb.resolve_left (List.not_mem_nil)
  | cons x l ih =>
    have hk := c.axisFault_faultKept (a := x) 8 0
    refine ih (c := (c.axisFault x 8).raise (ev x)) ((congrArg (fun i : Image => (i.axis.look? b).isSome) hk.1).trans h) ?_
    by_cases hx : b = x
    · subst hx
      exact .inr (Core.axisFault_state h 8 0)
    · rcases hb with hb | hb
      · exact .inl ((List.mem_cons.1 hb).resolve_left hx)
      · exact .inr ((congrArg AxisState.state (hk.2.2.1 b hx)).trans hb)

theorem Core.tableFaults_prof (l : List Nat) (ev : Nat → List Ev) :
    (l.foldl (fun (c : Core) a => (c.axisFault a 8).raise (ev a)) c).prof = c.prof :=
  foldl_keeps (f := fun (c : Core) a => (c.axisFault a 8).raise (ev a)) (P := fun (d : Core) => d.prof = c.prof) (fun (d : Core) a hd => (d.axisFault_faultKept (a := a) 8 0).2.1.trans hd) l rfl

theorem mem_insertNat (n : Nat) (l : List Nat) : n ∈ insertNat n l := by
  induction l with
  | nil => exact List.mem_singleton.2 rfl
  | cons m t ih =>
    unfold insertNat
    split
    · exact List.mem_cons_self ..
    · split
      · next h => exact h ▸ List.mem_cons_self ..
      · exact List.mem_cons_of_mem _ ih

/-- A table that holds a bad entry is refused. -/
theorem ProfState.tableOk_bad {f : ProfState} {x e : Nat} {y : Bool} (h1 : (f.descOf x).first ≤ e)
    (h2 : e < (f.descOf x).first + (f.descOf x).count) (hb : e ∈ f.bad) : f.tableOk x y = false := by
  have hany : (f.bad.any fun e => decide ((f.descOf x).first ≤ e) && decide (e < (f.descOf x).first + (f.descOf x).count)) = true :=
    List.any_eq_true.2 ⟨e, hb, by simp [h1, h2]⟩
  unfold ProfState.tableOk
  dsimp only
  rw [hany]
  exact Bool.and_false _

theorem Core.tableBad_prof (i : Nat) : (c.tableBad i).prof = { c.prof with bad := insertNat i c.prof.bad } := Core.tableFaults_prof ..

theorem Core.tableBad_state {i : Nat} {r : TblRun} (h : c.hasAx b = true) (hr : (c.pa b).tbl = some r)
    (h1 : (c.prof.descOf r.desc).first ≤ i) (h2 : i < (c.prof.descOf r.desc).first + (c.prof.descOf r.desc).count) :
    ((c.tableBad i).ax b).state = .fault := by
  refine Core.tableFaults_state (c := { c with prof := { c.prof with bad := insertNat i c.prof.bad } }) _ (fun a => [evMotionFault a 0x16])
    h (.inl (List.mem_filter.2 ⟨Core.mem_axes h, ?_⟩))
  dsimp only
  rw [hr]
  simp [h1, h2]

/-! ### A word of a configuration area -/

theorem LayoutEnt.get_zero (e : LayoutEnt) : e.get 0 = 0 := by
  unfold LayoutEnt.get
  simp [wrapS]

theorem LayoutEnt.bits_zero (e : LayoutEnt) : e.bits 0 = 0 := by
  simp [LayoutEnt.bits, w32]

theorem cfgGet_cfgSet_self (v : CfgVals) (f : Cf) (x : Int) : cfgGet (cfgSet v f x) f = x := by
  simp [cfgGet, cfgSet]

theorem cfgGet_cfgSet_ne (v : CfgVals) {f g : Cf} (x : Int) (h : g ≠ f) : cfgGet (cfgSet v f x) g = cfgGet v g := by
  unfold cfgGet cfgSet
  rw [List.find?_cons_of_neg (by simpa using fun h' => h h'.symm), List.find?_filter]
  refine congrArg (fun o => (Option.map Prod.snd o).getD 0) (congrFun (congrArg List.find? (funext fun e => ?_)) v)
  by_cases he : e.1 = g
  · simp [he, h]
  · simp [he]

/-- The axis's fields of a list, all set to 0. -/
theorem cfgGet_zeroed (l : List LayoutEnt) (v : CfgVals) {g : Cf} (h : g ∈ l.map (·.field) ∨ cfgGet v g = 0) :
    cfgGet (l.foldl (fun v e => cfgSet v e.field (e.get 0)) v) g = 0 := by
  induction l generalizing v with
  | nil => exact h.resolve_left (List.not_mem_nil)
  | cons e l ih =>
    refine ih _ ?_
    by_cases hg : g = e.field
    · subst hg
      exact .inr ((cfgGet_cfgSet_self ..).trans e.get_zero)
    · rcases h with h | h
      · exact .inl ((List.mem_cons.1 h).resolve_left hg)
      · exact .inr ((cfgGet_cfgSet_ne v _ hg).trans h)

theorem SafeWords.zero_word (w : SafeWords) (off : Nat) : safeWord (w.zero off) off = none ∨ safeWord (w.zero off) off = some 0 := by
  unfold SafeWords.zero safeWord
  by_cases h0 : off = 0xF00
  · exact .inr (by subst h0; rfl)
  by_cases h1 : off = 0xF04
  · exact .inr (by subst h1; rfl)
  by_cases h2 : off = 0xF08
  · exact .inr (by subst h2; rfl)
  by_cases h3 : off = 0xF0C
  · exact .inr (by subst h3; rfl)
  by_cases h4 : off = 0xF10
  · exact .inr (by subst h4; rfl)
  by_cases h5 : off = 0xF14
  · exact .inr (by subst h5; rfl)
  by_cases h6 : off = 0xF18
  · exact .inr (by subst h6; rfl)
  exact .inl (by simp only [if_neg h0, if_neg h1, if_neg h2, if_neg h3, if_neg h4, if_neg h5, if_neg h6])

/-- A word joined from fields that are all 0. -/
theorem foldBits_zero (l : List LayoutEnt) (v : CfgVals) (h : ∀ e ∈ l, cfgGet v e.field = 0) :
    l.foldl (fun w e => w ||| e.bits (cfgGet v e.field)) (0 : W32) = 0 := by
  induction l with
  | nil => rfl
  | cons e l ih =>
    rw [List.foldl_cons, h e (List.mem_cons_self ..), e.bits_zero]
    exact ih fun x hx => h x (List.mem_cons_of_mem _ hx)

/-- The configuration fields of an axis, set from a word. -/
def Core.setFields (c : Core) (a : Nat) (l : List LayoutEnt) (w : W32) : Core :=
  l.foldl (fun (c : Core) e => { c with cfg := c.cfg.upd a [] fun v => cfgSet v e.field (e.get w) }) c

theorem Core.setFields_cfg (c : Core) (a : Nat) (l : List LayoutEnt) (w : W32) :
    (c.setFields a l w).cfg.look a [] = l.foldl (fun v e => cfgSet v e.field (e.get w)) (c.cfg.look a []) := by
  induction l generalizing c with
  | nil => rfl
  | cons e l ih => exact (ih _).trans (congrArg (List.foldl _ · l) (Tab.look_put_self ..))

theorem Core.setFields_image (c : Core) (a : Nat) (l : List LayoutEnt) (w : W32) : (c.setFields a l w).image = c.image := by
  induction l generalizing c with
  | nil => rfl
  | cons e l ih => exact ih _

/-- What a written configuration word is, besides its effect on the phase and the source. -/
theorem Core.setCfgWord_cfg (c : Core) (a off : Nat) (w : W32) :
    (c.setCfgWord a off w).cfg = (c.setFields a (c.image.fieldsAt off) w).cfg := by
  unfold Core.setCfgWord
  extract_lets src d1 d2
  have h2 : d2.cfg = d1.cfg := by
    unfold d2
    split <;> rfl
  split
  · exact h2
  · split <;> exact h2

theorem Core.setCfgWord_image (c : Core) (a off : Nat) (w : W32) : (c.setCfgWord a off w).image = c.image := by
  have h1 := c.setFields_image a (c.image.fieldsAt off) w
  unfold Core.setCfgWord
  extract_lets src d1 d2
  have h2 : d2.image = c.image := by
    unfold d2
    split <;> exact h1
  split
  · exact h2
  · split <;> exact h2

theorem Core.zeroCfgWord_image (c : Core) (a off : Nat) : (c.zeroCfgWord a off).image = c.image := Core.setCfgWord_image ..

/-- A word that is rewritten with 0 reads 0. -/
theorem Core.zeroCfgWord_reads (c : Core) (a off : Nat) : (c.zeroCfgWord a off).cfgWord a off = 0 := by
  have hwords : ((c.zeroCfgWord a off).ga a).words = ((c.setCfgWord a off 0).ga a).words.zero off :=
    congrArg GsAxis.words (Tab.look_put_self ..)
  have hcfg : (c.zeroCfgWord a off).cfg.look a [] = (c.image.fieldsAt off).foldl (fun v e => cfgSet v e.field (e.get 0)) (c.cfg.look a []) :=
    (congrArg (Tab.look · a []) (c.setCfgWord_cfg a off 0)).trans (c.setFields_cfg ..)
  have hraw : ((c.zeroCfgWord a off).raw.look a []).look off 0 = 0 := by
    refine (congrArg (Tab.look · off 0) (Tab.look_put_self ..)).trans ?_
    unfold Tab.look
    rw [Tab.look?_del_self]
    rfl
  unfold Core.cfgWord
  rw [hwords, c.zeroCfgWord_image, hcfg, hraw]
  rcases SafeWords.zero_word ((c.setCfgWord a off 0).ga a).words off with h | h
  · rw [h]
    exact foldBits_zero _ _ fun e he => cfgGet_zeroed _ _ (.inl (List.mem_map_of_mem he))
  · rw [h]

end

/-! ### Items of the lists -/

section
variable {c : Core} {a n k i m : Nat} {st : Bool}

theorem EventUnit.lose_entry {u : EventUnit} {e : LogEntry} (h : (u.lose i k).log[i]? = some e) : e.num = 0xFF := by
  unfold EventUnit.lose at h
  by_cases hi : i < u.log.length
  · rw [List.getElem?_set_self hi] at h
    exact Option.some.inj h ▸ rfl
  · rw [List.getElem?_eq_none (by simpa using hi)] at h
    cases h

theorem EventUnit.lose_other {u : EventUnit} {j : Nat} (h : j ≠ i) : (u.lose i k).log[j]? = u.log[j]? := List.getElem?_set_ne h.symm

theorem VisorState.setMemErr_filling {v : VisorState} {g : VCfg} {f : VFill} (hf : v.fill = some f)
    (hd : v.done.getLsbD f.area = false) : (v.setMemErr g f.area).fill = some { f with memErr := true } := by
  unfold VisorState.setMemErr
  extract_lets v1
  rw [if_neg (by rw [show v1.done = v.done from rfl, hd]; decide)]
  unfold v1
  rw [hf]
  exact congrArg some (if_pos rfl)

/-- The channels of a pair after the loss of its words. -/
theorem Core.putCh_same (x : Chan) : (c.putCh n x).ch n = x := Tab.look_put_self ..

theorem Core.putCh_other {j : Nat} (x : Chan) (h : j ≠ n) : (c.putCh n x).ch j = c.ch j := Tab.look_put_ne _ _ _ _ _ h

theorem Core.putSl_same (q : SlotSeg) : (c.putSl n q).sl n = q := Tab.look_put_self ..

theorem getLsbD_or_one_self (x : Byte) (h : n < 8) : (x ||| (1 <<< n)).getLsbD n = true := by
  rw [BitVec.getLsbD_or, BitVec.natCast_eq_ofNat, BitVec.getLsbD_ofNat, Nat.shiftLeft_eq, one_mul, Nat.testBit_two_pow_self, decide_eq_true h]
  exact Bool.or_true _

theorem getLsbD_or_one_ne (x : Byte) {j : Nat} (h : j ≠ n) : (x ||| (1 <<< n)).getLsbD j = x.getLsbD j := by
  rw [BitVec.getLsbD_or, BitVec.natCast_eq_ofNat, BitVec.getLsbD_ofNat, Nat.shiftLeft_eq, one_mul,
    Nat.testBit_two_pow_of_ne h.symm, Bool.and_false, Bool.or_false]

/-- A GRANT that is lost has taken a credit. -/
theorem SlotSeg.spoil_grant {s : SlotSeg} {w : DownRec} {q : List DownRec} {p z : Nat} {l : List Nat} {t : W32}
    (hq : s.queue.look k [] = w :: q) (ha : w.addr ≠ 0xFF) (hm : w.mtype = 0x02) (hz : s.freeCredit p = some z) :
    s.spoil k p l t = (({ s with queue := s.queue.put k q } : SlotSeg).sendGrant z w.addr (w.body.getD 1 0).toNat t).1 := by
  have hz' : ({ s with queue := s.queue.put k q } : SlotSeg).freeCredit p = some z := hz
  unfold SlotSeg.spoil
  rw [hq]
  dsimp only
  rw [if_neg ha, SlotSeg.depart, hz', decide_eq_true hm]

/-- Any other record that is lost counts as sent. -/
theorem SlotSeg.spoil_other {s : SlotSeg} {w : DownRec} {q : List DownRec} {p : Nat} {l : List Nat} {t : W32}
    (hq : s.queue.look k [] = w :: q) (ha : w.addr ≠ 0xFF) (hm : w.mtype ≠ 0x02) :
    s.spoil k p l t = ({ s with queue := s.queue.put k q } : SlotSeg).sent w l t := by
  unfold SlotSeg.spoil
  rw [hq]
  dsimp only
  rw [if_neg ha, SlotSeg.depart, decide_eq_false hm]

theorem SlotSeg.sent_unicast {s : SlotSeg} {w : DownRec} {l : List Nat} {t : W32} (ha : w.addr ≠ 0xFF) (hr : w.ackReq = true) :
    (s.sent w l t).queue = s.queue ∧ (s.sent w l t).grant = s.grant + 1 ∧
      (s.sent w l t).implied = s.implied ++ [{ node := w.addr, mseq := w.tag % 128, sent := t, tries := w.tries, msg := w }] := by
  unfold SlotSeg.sent
  rw [if_pos hr, show w.dests l = [w.addr] from if_neg ha]
  exact ⟨rfl, rfl, rfl⟩

/-- A reception that is lost bars its copy. -/
theorem SlotSeg.loseCopy_barred (s : SlotSeg) (p d : Nat) : (s.loseCopy p d).barred p d = true := by
  have h : (s.loseCopy p d).rxOf p = if d = 0 then { s.rxOf p with lostA := true } else { s.rxOf p with lostB := true } :=
    Tab.look_put_self ..
  unfold SlotSeg.barred
  rw [h]
  split <;> exact Bool.or_true _

theorem SlotSeg.loseCopy_other (s : SlotSeg) {p d j : Nat} (h : j ≠ p) : (s.loseCopy p d).rxOf j = s.rxOf j := Tab.look_put_ne _ _ _ _ _ h

/-- A parity fault of the phase makes it provisional. -/
theorem Core.phaseFault_prov : ((c.faultSite (.axisPhase a) false true).fa a).prov = true := by
  have h : ∀ f : FieldAxis → FieldAxis, (∀ x, (f x).prov = true) → ((c.updFa a f).fa a).prov = true := fun f hf =>
    (congrArg FieldAxis.prov (Tab.look_put_self ..)).trans (hf _)
  unfold Core.faultSite
  dsimp only
  rw [if_pos rfl]
  split
  · exact h _ fun _ => rfl
  · exact ((Core.axisFault_faultKept 2 0).2.2.2 a).trans (h _ fun _ => rfl)

theorem Core.faultSite_task {t : Nat} (h : 1 ≤ t ∧ t ≤ 7) : c.faultSite (.task a t) true st = c.cancelEmpty a 2 := by
  unfold Core.faultSite
  dsimp only
  rw [if_neg (by decide), if_neg (by omega), if_neg (by omega)]
  rfl

theorem Core.faultSite_listEntry {t : Nat} (h : 1 ≤ t ∧ t ≤ 7) : c.faultSite (.listEntry a t) true st = c.cancelEmpty a 2 := by
  unfold Core.faultSite
  dsimp only
  rw [if_neg (by decide), if_neg (by omega), if_neg (by omega)]
  rfl

theorem Core.faultSite_capEntry (h : i < c.time.caps.length) : c.faultSite (.capEntry i) true st =
    { c with time := { c.time with caps := c.time.caps.eraseIdx i, capOvf := incWrap 16 c.time.capOvf } } :=
  if_pos (by simp [h])

theorem Core.faultSite_latchEntry (h : m < (c.ch n).latch.length) : c.faultSite (.latchEntry n m) true st =
    c.putCh n { c.ch n with latch := (c.ch n).latch.eraseIdx m, latchOvf := incWrap 8 (c.ch n).latchOvf } :=
  if_pos (by simp [h])

end

/-- Settles O50, item by item: a cancelled chain keeps the words and the axes' states, a faulted axis the image and the profiles. -/
theorem lostItems : Obligations.LostItems := by
  unfold Obligations.LostItems
  intro c st a t i n k m off w q f u
  refine ⟨fun ht => ⟨Core.faultSite_task ht, Core.faultSite_listEntry ht, rfl, (c.cancelEmpty_kept a 2).1, (c.cancelEmpty_kept a 2).2⟩,
    ⟨List.length_set, fun hi => List.getElem?_set_self hi, fun j hj => List.getElem?_set_ne hj.symm⟩,
    ⟨rfl, List.length_set, fun e he => EventUnit.lose_entry he, fun j hj => EventUnit.lose_other hj⟩, ⟨?badTable, ?runs⟩,
    fun hf hd => VisorState.setMemErr_filling hf hd, ?pair, ?grant, ?ack, ?cap, ?latch,
    fun h => Core.axisFault_state ((congrArg (fun g : Image => (g.axis.look? a).isSome) (c.zeroCfgWord_image a off)).trans h) 8 0,
    ⟨rfl, Core.zeroCfgWord_reads c a off⟩, ?copy, Core.phaseFault_prov, rfl, rfl, rfl⟩
  case badTable =>
    intro x y h1 h2
    have hp : (c.faultSite (.tableEntry i) true st).prof = { c.prof with bad := insertNat i c.prof.bad } := Core.tableBad_prof i
    rw [hp]
    exact ProfState.tableOk_bad h1 h2 (mem_insertNat i _)
  case runs => exact fun b r hb hr h1 h2 => Core.tableBad_state hb hr h1 h2
  case pair =>
    have hch : ∀ j, (c.faultSite (.chanRegion n) true st).ch j = (c.putCh n { c.ch n with turns := 0, peaks := [] }).ch j := fun _ => rfl
    refine ⟨fun hn => getLsbD_or_one_self _ hn, fun j hj => getLsbD_or_one_ne _ hj, ?_, ?_, ?_, fun j hj => (hch j).trans (Core.putCh_other _ hj)⟩
    all_goals rw [hch, Core.putCh_same]
  case grant =>
    intro hq ha hm z hz
    have hd : (c.faultSite (.mailbox n k) true st).sl n = _ := (Core.putSl_same _).trans (SlotSeg.spoil_grant hq ha hm hz)
    dsimp only
    rw [hd]
    exact ⟨Tab.look_put_self .., congrArg Credit.out (Tab.look_put_self ..)⟩
  case ack =>
    intro hq ha hm hr
    have hd : (c.faultSite (.mailbox n k) true st).sl n = _ := (Core.putSl_same _).trans (SlotSeg.spoil_other hq ha hm)
    obtain ⟨h1, h2, h3⟩ := SlotSeg.sent_unicast (s := { c.sl n with queue := (c.sl n).queue.put k q }) (l := c.admitted n)
      (t := c.cycle.cycle) ha hr
    dsimp only
    rw [hd, h1]
    exact ⟨Tab.look_put_self .., h2, h3⟩
  case cap =>
    intro h
    dsimp only
    rw [Core.faultSite_capEntry h]
    exact ⟨rfl, rfl⟩
  case latch =>
    intro h
    rw [Core.faultSite_latchEntry h, Core.putCh_same]
  case copy =>
    have hd : (c.faultSite (.rxCopy n k i) true st).sl n = (c.sl n).loseCopy k i := Core.putSl_same _
    dsimp only
    rw [hd]
    exact ⟨SlotSeg.loseCopy_barred .., fun j hj => SlotSeg.loseCopy_other _ hj⟩

end Sys2Proof.Machine
end

section
/-! The end of an ESCALATION record's write and the passes of an epoch (R36, R69, R70, R593, R613, R621, R622). -/

namespace Sys2Proof.Machine

section
variable {c : Core}

theorem Core.ledgerWritten_due {t : Rt} (h : c.err.safeAt = some t) : c.ledgerWritten = { c with err := { c.err with ledgerEnded := true } } :=
  if_pos (by rw [h]; rfl)

theorem Core.ledgerWritten_none (h : c.err.safeAt = none) : c.ledgerWritten = c := if_neg (by rw [h]; decide)

/-- A pass that runs ends, where the chip is not braced. -/
theorem passEnds {run braced : Bool} (hr : run = true) (hb : braced = false) : (run && !braced) = true := by rw [hr, hb]; rfl

/-- In the brace state no pass ends. -/
theorem pass_braced {run braced : Bool} (hb : braced = true) : ¬(run && !braced) = true := by rw [hb, Bool.not_true, Bool.and_false]; decide

end

/-- Settles O51: a pass ends where it runs and the chip is not braced. -/
theorem epochPasses : Obligations.EpochPasses := by
  unfold Obligations.EpochPasses
  intro s finds bad cor unc c found lost mism
  refine ⟨fun t ht => next_core (f := fun c => c.ledgerWritten) (Core.ledgerWritten_due ht),
    fun ht => next_core (f := fun c => c.ledgerWritten) (Core.ledgerWritten_none ht), fun hb => ⟨fun hr => ?scrub, fun hr => ?rever, fun hr => ?ledg⟩,
    fun hb => ⟨?scrub', ?rever', ?ledg'⟩⟩
  case scrub => exact next_core (f := fun c => c.scrubDone finds) (if_pos (passEnds hr hb))
  case rever => exact next_core (f := fun c => c.reverifyDone bad) (if_pos (passEnds hr hb))
  case ledg => exact next_core (f := fun c => c.ledgerScrub cor unc) (if_pos (passEnds hr hb))
  case scrub' => exact next_core (f := fun c => c.scrubDone finds) (if_neg (pass_braced hb))
  case rever' => exact next_core (f := fun c => c.reverifyDone bad) (if_neg (pass_braced hb))
  case ledg' => exact next_core (f := fun c => c.ledgerScrub cor unc) (if_neg (pass_braced hb))

end Sys2Proof.Machine
end

section
/-! Supplies, the brace state, temperature and margin (R610, R613, R614, R616, R617, R619, R620). -/

namespace Sys2Proof.Machine

section
variable {c d : Core} {rail mv : Nat}

theorem Core.supUp_of (h1 : c.boot.held = false) (h2 : c.iso 5 6 = false) (h3 : rail < 7) : c.supUp rail = true := by
  unfold Core.supUp
  rw [h1, h2, decide_eq_true h3]
  rfl

/-- A rail whose warning enters the brace state. -/
theorem HealthState.warnLow_brace (h : HealthState) (t : Rt) (hr : rail = 0 ∨ rail = 1) (hb : h.braced = false) :
    h.warnLow rail mv t =
      ({ h.measure rail mv with
          rail := (h.measure rail mv).rail.upd rail {} fun r => { r with low := true, stLow := true }
          braced := true, braceAt := t, braceN := incWrap 16 h.braceN, lateNow := 0 },
        [supplyEv rail false, ev0 EvNo.braceEntered], true) := by
  have hm : (h.measure rail mv).braced = false := hb
  unfold HealthState.warnLow
  dsimp only
  rw [hm, if_pos (by rcases hr with h | h <;> simp [h])]
  rfl

/-- A rail whose warning only shows. -/
theorem HealthState.warnLow_plain (h : HealthState) (t : Rt) (hr : 2 ≤ rail ∨ h.braced = true) :
    h.warnLow rail mv t =
      ({ h.measure rail mv with rail := (h.measure rail mv).rail.upd rail {} fun r => { r with low := true, stLow := true } },
        [supplyEv rail false], false) := by
  have hm : (h.measure rail mv).braced = h.braced := rfl
  unfold HealthState.warnLow
  dsimp only
  rw [hm, if_neg]
  rcases hr with hr | hr
  · have h0 : rail ≠ 0 := by omega
    have h1 : rail ≠ 1 := by omega
    simp [h0, h1]
  · simp [hr]

/-- A warning whose outcome is known, counted and reported. -/
theorem Core.supplyWarn_of {h : HealthState} {evs : List Ev} {br : Bool} (hup : c.supUp rail = true)
    (hw : c.health.warnLow rail mv c.now = (h, evs, br))
    (hd : ((({ c with health := h } : Core).raise evs).updLed fun l =>
      { l with life := { l.life with warnings := l.life.warnings + 1, braces := l.life.braces + b2n br } }) = d) :
    c.supplyWarn rail mv = if br then d.abortRetest else d := by
  subst hd
  unfold Core.supplyWarn
  rw [if_neg (by rw [hup]; decide), hw]

theorem Core.abortRetest_none (h : c.maint.running .retest = false) : c.abortRetest = c := if_neg (by rw [h]; decide)

theorem Core.abortRetest_running (h : c.maint.running .retest = true) : c.abortRetest =
    ({ c with maint := { (c.maint.finishAct .retest false).1 with rstat := 0, reason := 3 } } : Core).raise (c.maint.finishAct .retest false).2 :=
  if_pos h

theorem Core.overWarn_up (hup : c.supUp rail = true) : c.overWarn rail mv =
    (({ c with health := (c.health.warnHigh rail mv).1 } : Core).raise (c.health.warnHigh rail mv).2).updLed fun l =>
      { l with life := { l.life with warnings := l.life.warnings + 1 } } :=
  if_neg (by rw [hup]; decide)

theorem Core.supplyClear_up {high : Bool} (hup : c.supUp rail = true) :
    c.supplyClear rail mv high = { c with health := c.health.warnClear rail mv high } := if_pos hup

theorem HealthState.braceLeave_braced {h : HealthState} (t : Rt) (hb : h.braced = true) : h.braceLeave t =
    ({ h with braced := false, braceMax := max h.braceMax (min 65535 ((rtDiff t h.braceAt).toNat / 40000)) },
      [{ num := EvNo.braceLeft, code := min 255 h.lateNow, obj := min 65535 ((rtDiff t h.braceAt).toNat / 40000) }]) :=
  if_neg (by rw [hb]; decide)

theorem Core.braceLeft_of {h : HealthState} {evs : List Ev} (hup : c.supUp 0 = true) (h0 : (c.health.rail.look 0 {}).low = false)
    (h1 : (c.health.rail.look 1 {}).low = false) (hl : c.health.braceLeave c.now = (h, evs)) :
    c.braceLeft = ({ c with health := h } : Core).raise evs := by
  unfold Core.braceLeft
  rw [hup, h0, h1, if_pos (by decide), hl]

/-! ### Temperature -/

theorem State.after_core (s : State) (c : Core) : ∃ v, (s.after c).chip.core = { c with evq := [], lostLog := [], vis := v } := Chip.commit_core _

/-- What is left alone where RUN commands are refused. -/
def Core.RefusalKept (c d : Core) : Prop := d.health = c.health ∧ d.led = c.led ∧ d.time = c.time

theorem Core.refuseRuns_kept (c : Core) : c.RefusalKept c.refuseRuns := by
  refine foldl_keeps (P := c.RefusalKept) (fun d e hd => ?_) c.eng.axis ⟨rfl, rfl, rfl⟩
  split
  · exact hd
  · exact hd

/-- What is left alone by a field-return record. -/
structure Core.RecordKept (c d : Core) : Prop where
  tj : d.health.tj = c.health.tj
  warn : d.health.twarn = c.health.twarn
  hot : d.health.thot = c.health.thot
  life : d.led.led.life = c.led.led.life
  time : d.time = c.time

theorem Core.frRecord_kept (c : Core) (k : Nat) : c.RecordKept (c.frRecord k) := by
  unfold Core.frRecord
  split
  · exact ⟨rfl, rfl, rfl, rfl, rfl⟩
  · split
    · extract_lets x body
      clear_value body
      exact ⟨rfl, rfl, rfl, rfl, rfl⟩
    · exact ⟨rfl, rfl, rfl, rfl, rfl⟩

theorem Core.frRecord_boot (c : Core) (k : Nat) : (c.frRecord k).boot = c.boot := by
  unfold Core.frRecord
  split
  · rfl
  · split
    · extract_lets x body
      clear_value body
      rfl
    · rfl

/-- A report taken into the state. -/
def Core.reported (c : Core) (tj : Int) : Core :=
  (({ c with health := (lifeTick (c.health.report tj).1 c.led.led.life c.standby).1 } : Core).raise (c.health.report tj).2.1).updLed fun l =>
    { l with life := (lifeTick (c.health.report tj).1 c.led.led.life c.standby).2 }

/-- Time above 105 °C, in whole seconds. -/
theorem Core.reported_hot (c : Core) (tj : Int) : (c.reported tj).led.led.life.hot =
    c.led.led.life.hot + (if 1680 < tj then c.health.hotMs + 1 else c.health.hotMs) / 1000 := by
  have h : (c.reported tj).led.led.life.hot =
      c.led.led.life.hot + (if decide (1680 < tj) = true then c.health.hotMs + 1 else c.health.hotMs) / 1000 := rfl
  rw [h]
  simp only [decide_eq_true_eq]

theorem Core.tjUpdate_quiet {tj : Int} (h1 : c.boot.held = false) (h2 : c.iso 5 7 = false) (hi : (c.health.report tj).2.2 = false) :
    c.tjUpdate tj = c.reported tj := by
  have hi' : (decide (1920 ≤ tj) && !c.health.hotLev) = false := hi
  unfold Core.tjUpdate
  rw [if_neg (by rw [h1, h2]; decide)]
  exact if_neg (by rw [hi']; decide)

theorem Core.tjUpdate_high {tj : Int} (h1 : c.boot.held = false) (h2 : c.iso 5 7 = false) (hi : (c.health.report tj).2.2 = true) :
    c.tjUpdate tj = (if c.running && c.boot.lp = .run && c.boot.lpDue != some .standby then
      ({ (c.reported tj).refuseRuns with boot := { c.boot with lpDue := some .parked } } : Core) else c.reported tj).frRecord 5 := by
  unfold Core.tjUpdate
  rw [if_neg (by rw [h1, h2]; decide)]
  exact if_pos hi

theorem Core.RecordKept.trans {e : Core} (h : c.RecordKept d) (h' : d.RecordKept e) : c.RecordKept e :=
  ⟨h'.tj.trans h.tj, h'.warn.trans h.warn, h'.hot.trans h.hot, h'.life.trans h.life, h'.time.trans h.time⟩

theorem Core.refuseRuns_recordKept (c : Core) (b : BootState) : c.RecordKept { c.refuseRuns with boot := b } := by
  obtain ⟨hh, hl, ht⟩ := c.refuseRuns_kept
  exact ⟨congrArg HealthState.tj hh, congrArg HealthState.twarn hh, congrArg HealthState.thot hh, congrArg (·.led.life) hl, ht⟩

/-- HIGH reached where the chip may be parked: the RUN commands are refused and PARKED is due. -/
def Core.MayPark (c : Core) : Prop := c.boot.st = .running ∧ c.boot.lp = .run ∧ c.boot.lpDue ≠ some .standby

theorem Core.mayPark_iff : (c.running && c.boot.lp = .run && c.boot.lpDue != some .standby) = true ↔ c.MayPark := by
  unfold Core.MayPark
  simp [Core.running_iff, and_assoc]

/-- A report of the temperature keeps what was taken into the state, and asks for PARKED at HIGH. -/
theorem Core.tjUpdate_kept {tj : Int} (h1 : c.boot.held = false) (h2 : c.iso 5 7 = false) :
    (c.reported tj).RecordKept (c.tjUpdate tj) ∧
      ((1920 ≤ tj ∧ c.health.hotLev = false) ∧ c.MayPark → (c.tjUpdate tj).boot = { c.boot with lpDue := some .parked }) ∧
      (¬((1920 ≤ tj ∧ c.health.hotLev = false) ∧ c.MayPark) → (c.tjUpdate tj).boot = c.boot) := by
  have hhi : (c.health.report tj).2.2 = true ↔ 1920 ≤ tj ∧ c.health.hotLev = false := by
    show (decide (1920 ≤ tj) && !c.health.hotLev) = true ↔ _
    simp
  by_cases hi : (c.health.report tj).2.2 = true
  · rw [Core.tjUpdate_high h1 h2 hi]
    by_cases hp : c.MayPark
    · rw [if_pos (Core.mayPark_iff.2 hp)]
      exact ⟨(Core.refuseRuns_recordKept ..).trans (Core.frRecord_kept ..), fun _ => Core.frRecord_boot .., fun hn => absurd ⟨hhi.1 hi, hp⟩ hn⟩
    · rw [if_neg fun h => hp (Core.mayPark_iff.1 h)]
      exact ⟨Core.frRecord_kept .., fun h => absurd h.2 hp, fun _ => Core.frRecord_boot ..⟩
  · rw [Core.tjUpdate_quiet h1 h2 (Bool.eq_false_iff.2 hi)]
    exact ⟨⟨rfl, rfl, rfl, rfl, rfl⟩, fun h => absurd (hhi.2 h.1) hi, fun _ => rfl⟩

end

/-- Settles O52: the supervisors watch, so every report is taken; a core rail's warning is the brace's, and HIGH asks for PARKED. -/
theorem suppliesAndTemperature : Obligations.SuppliesAndTemperature := by
  unfold Obligations.SuppliesAndTemperature
  intro s rail mv high tj beats c h m low above warned braced brace
  refine ⟨fun h1 h2 h3 => ⟨fun hr hb => ⟨fun ha => ?brace, fun ha => ?abort⟩, fun hr => ?plain, ?above, ?clear⟩, fun h1 h2 h3 h4 hb => ?left,
    fun h1 h2 => ⟨_, next_core (f := fun c => c.tjUpdate tj) rfl, ?temp⟩, fun h1 h2 => ?margin⟩
  case brace =>
    exact next_core (f := fun c => c.supplyWarn rail mv)
      ((Core.supplyWarn_of (Core.supUp_of h1 h2 h3) (HealthState.warnLow_brace h c.now hr hb) (d := brace) rfl).trans
        (Core.abortRetest_none (c := brace) ha))
  case abort =>
    exact next_core (f := fun c => c.supplyWarn rail mv)
      ((Core.supplyWarn_of (Core.supUp_of h1 h2 h3) (HealthState.warnLow_brace h c.now hr hb) (d := brace) rfl).trans
        (Core.abortRetest_running (c := brace) ha))
  case plain =>
    exact next_core (f := fun c => c.supplyWarn rail mv)
      (Core.supplyWarn_of (Core.supUp_of h1 h2 h3) (HealthState.warnLow_plain h c.now hr) rfl)
  case above => exact next_core (f := fun c => c.overWarn rail mv) (Core.overWarn_up (Core.supUp_of h1 h2 h3))
  case clear => exact next_core (f := fun c => c.supplyClear rail mv high) (Core.supplyClear_up (Core.supUp_of h1 h2 h3))
  case left =>
    exact next_core (f := fun c => c.braceLeft)
      (Core.braceLeft_of (Core.supUp_of h1 h2 (by decide)) h3 h4 (HealthState.braceLeave_braced c.now hb))
  case temp =>
    obtain ⟨v, hv⟩ := s.after_core (c.tjUpdate tj)
    obtain ⟨hk, hpark, hstay⟩ := Core.tjUpdate_kept (tj := tj) h1 h2
    dsimp only
    rw [hv]
    refine ⟨hk.tj, hk.warn, hk.hot, ?_, (congrArg Lifetime.hot hk.life).trans (Core.reported_hot ..), hk.time⟩
    by_cases hp : (1920 ≤ tj ∧ c.health.hotLev = false) ∧ c.MayPark
    · exact (hpark hp).trans (if_pos (and_assoc.1 hp)).symm
    · exact (hstay hp).trans (if_neg fun hn => hp (and_assoc.2 hn)).symm
  case margin => exact next_core (f := fun c => c.replicaMeasure beats) (if_neg (by rw [h1, h2]; decide))

end Sys2Proof.Machine
end

section
/-! The ends of maintenance: re-tests, time limits, flash operations, wakes and maker tests (R586, R600, R604, R624 to R626, R630). -/

namespace Sys2Proof.Machine

section
variable {c : Core} {a : Activity}

/-- A re-test that ends leaves the list of activities and shows its end. -/
def Core.retestEnded (c : Core) (a : Activity) (ok : Bool) (n : Nat) : Core :=
  ({ c with maint := { (c.maint.finish (fun x => x == a) ok).1 with rstat := n } } : Core).raise
    ([evBlock (if ok then EvNo.retestPassed else EvNo.retestFailed) a.region a.block] ++ (c.maint.finish (fun x => x == a) ok).2)

/-- The block of a passed re-test is to come back. -/
def Core.blockBack (c : Core) (a : Activity) : Core :=
  { c.retestEnded a true 2 with err := { (c.retestEnded a true 2).err with back := insertNat (blkKey a.region a.block) c.err.back } }

theorem Core.retestDone_passed (h : c.maint.run.find? (fun x => x.act == .retest) = some a) :
    c.retestDone true = if c.cycle.running then c.blockBack a else (c.blockBack a).restoreBlocks := by
  unfold Core.retestDone
  rw [h]
  rfl

theorem Core.retestDone_failed (h : c.maint.run.find? (fun x => x.act == .retest) = some a) :
    c.retestDone false = (c.retestEnded a false 3).cellFault a.region a.block 9 .plain 0 := by
  unfold Core.retestDone
  rw [h]
  rfl

theorem Core.actTimeout_due {k : Act} {t : Rt} (h : c.maint.run.find? (fun x => x.act == k) = some a) (ht : a.due = some t) :
    c.actTimeout k = ({ (c.at t) with maint := (c.maint.finishAct k false).1 } : Core).raise (c.maint.finishAct k false).2 := by
  unfold Core.actTimeout
  rw [h]
  dsimp only
  rw [ht]
  rfl

theorem Core.flashOpDone_none (h : c.boot.qop = none) : c.flashOpDone = c := by
  unfold Core.flashOpDone
  rw [h]

/-- A flash operation that ends gives the boot state and the lock back. -/
theorem Core.flashOpDone_some {e : Bool} {q : Nat} {b : BootState} (h : c.boot.qop = some (e, q))
    (hb : (if e then { c.boot.flashDone with torn := c.boot.flashDone.torn.filter fun t => t.2 / 0x10000 != q / 0x10000 }
      else { c.boot.flashDone with page := [] }) = b) :
    c.flashOpDone = ({ c with maint := (c.maint.finishAct .flash true).1, boot := b } : Core).raise (c.maint.finishAct .flash true).2 := by
  subst hb
  unfold Core.flashOpDone
  rw [h]

theorem BootState.flashDone_erase {b : BootState} {q : Nat} (h : b.qop = some (true, q)) :
    b.flashDone = { b with qop := none, flash := eraseBytes b.flash (q / 0x10000 * 0x10000) 0x10000 } := by
  unfold BootState.flashDone
  rw [h]

/-- The bytes of a page after it is programmed: bits only fall. -/
def BootState.programmed (b : BootState) (base : Nat) : List Byte :=
  ((memBytes 0xFF b.flash base 256).zip (forN 64 fun i => leBytes (b.page.look i 0xFFFFFFFF)).flatten).map fun p => p.1 &&& p.2

theorem BootState.flashDone_program {b : BootState} {q : Nat} (h : b.qop = some (false, q)) :
    b.flashDone = { b with qop := none, flash := memSetBytes 0xFF b.flash (q / 256 * 256) (b.programmed (q / 256 * 256)) } := by
  unfold BootState.flashDone
  rw [h]
  rfl

theorem Core.flashOpDone_erase {q : Nat} (h : c.boot.qop = some (true, q)) : c.flashOpDone = ({ c with
    maint := (c.maint.finishAct .flash true).1
    boot := { c.boot with
      qop := none, flash := eraseBytes c.boot.flash (q / 0x10000 * 0x10000) 0x10000
      torn := c.boot.torn.filter fun t => t.2 / 0x10000 != q / 0x10000 } } : Core).raise (c.maint.finishAct .flash true).2 := by
  rw [Core.flashOpDone_some h rfl, BootState.flashDone_erase h, if_pos rfl]

theorem Core.flashOpDone_program {q : Nat} (h : c.boot.qop = some (false, q)) : c.flashOpDone = ({ c with
    maint := (c.maint.finishAct .flash true).1
    boot := { c.boot with
      qop := none, flash := memSetBytes 0xFF c.boot.flash (q / 256 * 256) (c.boot.programmed (q / 256 * 256))
      page := [] } } : Core).raise (c.maint.finishAct .flash true).2 := by
  rw [Core.flashOpDone_some h rfl, BootState.flashDone_program h, if_neg (by decide)]

/-! ### Wake -/

/-- The header of the booted copy, as the flash has it now. -/
def Core.bootHead (c : Core) : ImgHead := imageHead c.boot.flash (copyBase c.boot.copyB)

/-- A section that a wake reads no longer has the CRC it had at boot. -/
def Core.secTorn (c : Core) (x : ImgSection) : Bool := x.wake && sectionCrc c.boot.flash (copyBase c.boot.copyB) x != x.scrc

theorem Core.wakeReason_head {r : Nat × Nat} (f : Option Nat) (h : c.bootHead.headReject 1 = some r) : c.wakeReason f = some r := by
  unfold Core.wakeReason
  dsimp only
  rw [show (imageHead c.boot.flash (copyBase c.boot.copyB)).headReject 1 = some r from h]

theorem Core.wakeReason_image (f : Option Nat) (h : c.bootHead.headReject 1 = none) (hc : c.bootHead.chk ≠ c.boot.head.chk) :
    c.wakeReason f = some (7, 24) := by
  unfold Core.wakeReason
  dsimp only
  rw [show (imageHead c.boot.flash (copyBase c.boot.copyB)).headReject 1 = none from h]
  exact if_pos (bne_iff_ne.2 hc)

theorem Core.wakeReason_section {x : ImgSection} (f : Option Nat) (h : c.bootHead.headReject 1 = none)
    (hc : c.bootHead.chk = c.boot.head.chk) (hx : c.boot.head.secs.find? c.secTorn = some x) : c.wakeReason f = some (6, x.off) := by
  unfold Core.wakeReason
  dsimp only
  rw [show (imageHead c.boot.flash (copyBase c.boot.copyB)).headReject 1 = none from h]
  refine (if_neg fun hn => bne_iff_ne.1 hn hc).trans ?_
  rw [show c.boot.head.secs.find? (fun s => s.wake && sectionCrc c.boot.flash (copyBase c.boot.copyB) s != s.scrc) = some x from hx]

theorem Core.wakeReason_intact (f : Option Nat) (h : c.bootHead.headReject 1 = none)
    (hc : c.bootHead.chk = c.boot.head.chk) (hx : c.boot.head.secs.find? c.secTorn = none) : c.wakeReason f = f.map fun n => (9, n) := by
  unfold Core.wakeReason
  dsimp only
  rw [show (imageHead c.boot.flash (copyBase c.boot.copyB)).headReject 1 = none from h]
  refine (if_neg fun hn => bne_iff_ne.1 hn hc).trans ?_
  rw [show c.boot.head.secs.find? (fun s => s.wake && sectionCrc c.boot.flash (copyBase c.boot.copyB) s != s.scrc) = none from hx]

theorem Core.wakeDone_other (f : Option Nat) (h : c.boot.lp ≠ .waking) : c.wakeDone f = c := if_pos (bne_iff_ne.2 h)

/-- The wake's activity has ended. -/
def Core.wakeEnded (c : Core) (ok : Bool) : Core :=
  ({ c with maint := (c.maint.finishAct .wake ok).1 } : Core).raise (c.maint.finishAct .wake ok).2

theorem Core.wakeDone_failed {f : Option Nat} {r : Nat × Nat} (h : c.boot.lp = .waking) (hr : c.wakeReason f = some r) :
    c.wakeDone f = ({ c.wakeEnded false with boot := { c.boot.setRej c.boot.copyB r with lp := .standby } } : Core).raise
      [ev0 EvNo.imageRejected] := by
  unfold Core.wakeDone
  rw [if_neg (by rw [h]; decide), hr]
  rfl

/-- The Gauntlet of a chip that wakes starts again, unless it is in CHECK_FAIL or LOST. -/
theorem Core.gauntletWake_eq (c : Core) : c.gauntletWake =
    let g : Core := if c.gs.glob = .lost ∨ c.gs.glob = .checkFail then c else c.gsEnter .boot
    { g with gs := { g.gs with group := g.gs.group.each fun _ x => { x with edge := false } } } := by
  unfold Core.gauntletWake
  simp only [Bool.or_eq_true, decide_eq_true_eq]

/-- A chip that has woken, before its cycle and its channels start again. -/
def Core.wokenUp (c : Core) : Core := ({ c.wakeEnded true with boot := { c.boot with lp := .run } } : Core).gauntletWake.loadAxes.restartListen

theorem Core.wakeDone_run {f : Option Nat} (h : c.boot.lp = .waking) (hr : c.wakeReason f = none) :
    c.wakeDone f = ({ c.wokenUp with
      cycle := { c.wokenUp.cycle with mode := c.wokenUp.image.startMode }
      cuff := { c.wokenUp.cuff with
        chan := c.wokenUp.cuff.chan.each fun _ x => x.wake (rtAdd c.wokenUp.cycle.rtS c.wokenUp.len)
        axis := c.wokenUp.cuff.axis.each fun _ y => { y with remote := y.remote.wake, badRun := 0 } } } : Core).raise [ev0 EvNo.lowpower 4] := by
  unfold Core.wakeDone
  rw [if_neg (by rw [h]; decide), hr]
  rfl

end

/-- Settles O53: each end acts on the activity that runs. -/
theorem maintenanceEnds : Obligations.MaintenanceEnds := by
  unfold Obligations.MaintenanceEnds
  intro s a c runs
  refine ⟨fun hr => ⟨fun hc => ?cycles, fun hc => ?stands, ?failed⟩, fun t ht => ⟨fun hr => ?qspi, fun hr => ?fieldReturn⟩,
    fun q => ⟨fun hq => ?erase, fun hq => ?program⟩, fun hq => ?noOp, fun hw => ⟨fun f r h => Core.wakeReason_head f h, fun f h =>
      ⟨fun hc => Core.wakeReason_image f h hc, fun hc => ⟨fun x hx => Core.wakeReason_section f h hc hx, fun hx => ?intact⟩⟩,
      fun f r hr => ?mismatch, fun f hr => ?woken⟩, fun f hw => ?awake, ?maker⟩
  case cycles => exact next_core (f := fun c => c.retestDone true) ((Core.retestDone_passed hr).trans (if_pos hc))
  case stands => exact next_core (f := fun c => c.retestDone true) ((Core.retestDone_passed hr).trans (if_neg (by rw [hc]; decide)))
  case failed => exact next_core (f := fun c => c.retestDone false) (Core.retestDone_failed hr)
  case qspi => exact next_core (f := fun c => c.qspiTimeout) (Core.actTimeout_due hr ht)
  case fieldReturn => exact next_core (f := fun c => c.frTimeout) (Core.actTimeout_due hr ht)
  case erase => exact next_core (f := fun c => c.flashOpDone) (Core.flashOpDone_erase hq)
  case program => exact next_core (f := fun c => c.flashOpDone) (Core.flashOpDone_program hq)
  case noOp => exact next_core (f := fun c => c.flashOpDone) (Core.flashOpDone_none hq)
  case intact => exact Core.wakeReason_intact f h hc (List.find?_eq_none.2 fun x hx' => by rw [show c.secTorn x = false from hx x hx']; decide)
  case mismatch => exact next_core (f := fun c => c.wakeDone f) (Core.wakeDone_failed hw hr)
  case woken =>
    have hup : c.wokenUp = _ := congrArg (fun d : Core => d.loadAxes.restartListen) (Core.gauntletWake_eq _)
    have hd := Core.wakeDone_run hw hr
    rw [hup] at hd
    exact next_core (f := fun c => c.wakeDone f) hd
  case awake => exact next_core (f := fun c => c.wakeDone f) (Core.wakeDone_other f hw)
  case maker => exact next_core (f := fun c => c.makerTest) rfl

end Sys2Proof.Machine
end

section
/-! Resets (R218, R514, R570, R596, R597, R601, R611, R637). -/

namespace Sys2Proof.Machine

section
variable {c : Core} {k : ResetKind} {d : Nat}

theorem TimeState.reset_running (t : TimeState) : (t.reset false).ring.raw = t.ring.raw ∧ (t.reset false).domA = t.domA ∧
    (t.reset false).domB = t.domB := by
  refine ⟨?_, rfl, rfl⟩
  show (if t.rtState = .track || t.rtState = .slew then t.holdover.1 else t).ring.raw = t.ring.raw
  split <;> rfl

theorem Core.resetTo_time_full (hk : k = .por ∨ k = .supply) : (c.resetTo k d).time = {} := by
  rcases hk with hk | hk <;> subst hk <;> rfl

theorem Core.resetTo_time (hk : k = .pin ∨ k = .watchdog) : (c.resetTo k d).time = c.time.reset false := by
  rcases hk with hk | hk <;> subst hk <;> rfl

theorem BootState.assert_free {b : BootState} (h : b.held = false) :
    b.assert k d = ({ b with st := .reset, held := true, kind := k, also := 0, detail := d }, k) := if_neg (by rw [h]; decide)

/-- What a reset keeps and shows of the boot block. -/
theorem Core.resetTo_boot (h : c.boot.held = false) : let b := (c.resetTo k d).boot
    b.st = .reset ∧ b.held = true ∧ b.kind = k ∧ b.also = 0 ∧ b.detail = d ∧ b.flash = c.boot.flash ∧ b.shell = c.boot.shell ∧
      b.uid = c.boot.uid ∧ b.cal = c.boot.cal ∧ b.pref = 0 := by
  unfold Core.resetTo
  rw [BootState.assert_free h]
  exact ⟨rfl, rfl, rfl, rfl, rfl, rfl, rfl, rfl, rfl, rfl⟩

/-- The ledger is kept, but for its count of resets. -/
theorem Core.resetTo_led : (c.resetTo k d).led.led = { c.led.led with life := (c.resetTo k d).led.led.life } := by
  show (if c.ledgerOk then { c.led.led with life := c.led.led.life.reset k } else c.led.led) =
    { c.led.led with life := (if c.ledgerOk then { c.led.led with life := c.led.led.life.reset k } else c.led.led).life }
  split <;> rfl

theorem Core.resetTo_counted (h : c.iso 5 5 = false) :
    (c.resetTo k d).led.led.life.resets = c.led.led.life.resets.upd k.code 0 (· + 1) := by
  have hok : c.ledgerOk = true := by
    unfold Core.ledgerOk
    rw [h]
    rfl
  show (if c.ledgerOk then { c.led.led with life := c.led.led.life.reset k } else c.led.led).life.resets = _
  rw [if_pos hok]
  rfl

theorem Core.resetTo_latch_por : (c.resetTo .por d).health.latch = none := rfl

theorem Core.resetTo_latch (h : k ≠ .por) : (c.resetTo k d).health.latch.map (·.kind) = some k.code := by
  have hk : decide (k = ResetKind.por) = false := decide_eq_false h
  show (if decide (k = ResetKind.por) then none else some (c.supLatch k (if k = ResetKind.supply then d else 0))).map (·.kind) = some k.code
  rw [hk]
  rfl

/-- A command that resets the chip ends with the event unit in its reset state. -/
theorem next_reset {s : State} {f : Core → Core} {e : Core} (h : f s.base = e.resetTo k d) (hh : e.boot.held = false) :
    s.to (s.chip.runReset f) = .next { s with chip := { core := e.resetTo k d, ev := {} } } := by
  have hheld : (e.resetTo k d).boot.held = true := (Core.resetTo_boot hh).2.1
  have hrun : s.to (s.chip.runReset f) = .next (s.afterBoth (e.resetTo k d) (if (e.resetTo k d).boot.held then {} else s.evBase)) := by
    rw [← h]
    exact run_reset s f
  rw [hrun, if_pos hheld]
  exact congrArg (fun x => Host.Outcome.next { s with chip := x }) (Chip.commit_quiet { core := e.resetTo k d, ev := {} } rfl rfl)

/-- A command that resets nothing. -/
theorem next_noReset {s : State} {f : Core → Core} (h : f s.base = s.base) (hh : s.base.boot.held = false) :
    s.to (s.chip.runReset f) = .next (s.after s.base) := by
  rw [run_reset, h, if_neg (by rw [hh]; decide), afterBoth_evBase]

/-- Two resets active together: the first in table order is shown, the other in ALSO. -/
theorem BootState.assert_held_first {b : BootState} (h : b.held = true) (hk : k.code < b.kind.code) :
    (b.assert k d).1 = { b with st := .reset, kind := k, also := b.also ||| 2 ^ b.kind.code, detail := d } := by
  have hne : b.kind ≠ k := fun he => by rw [he] at hk; exact Nat.lt_irrefl _ hk
  unfold BootState.assert
  rw [if_pos h]
  simp only [if_pos hk, if_neg hne, decide_eq_true hk, Bool.and_true, decide_true, ↓reduceIte]

theorem BootState.assert_held_later {b : BootState} (h : b.held = true) (hk : b.kind.code < k.code) :
    (b.assert k d).1 = { b with st := .reset, also := b.also ||| 2 ^ k.code } := by
  have hn : ¬k.code < b.kind.code := Nat.lt_asymm hk
  have hne : k ≠ b.kind := fun he => by rw [he] at hk; exact Nat.lt_irrefl _ hk
  unfold BootState.assert
  rw [if_pos h]
  simp only [if_neg hn, if_neg hne, decide_eq_false hn, Bool.and_false]
  rfl

theorem Core.resetTo_kind : (c.resetTo k d).boot.kind = (c.boot.assert k d).1.kind := rfl

theorem Core.resetTo_also : (c.resetTo k d).boot.also = (c.boot.assert k d).1.also := rfl

theorem Core.resetTo_held (h : c.boot.held = true) : (c.resetTo k d).boot.held = true := by
  show (c.boot.assert k d).1.held = true
  unfold BootState.assert
  rw [if_pos h]
  exact h

/-- A reset while one is held. -/
theorem next_reheld {s : State} {f : Core → Core} (h : f s.base = s.base.resetTo k d) (hh : s.base.boot.held = true) :
    s.to (s.chip.runReset f) = .next { s with chip := { core := s.base.resetTo k d, ev := {} } } := by
  rw [run_reset, h, if_pos (Core.resetTo_held hh)]
  exact congrArg (fun x => Host.Outcome.next { s with chip := x }) (Chip.commit_quiet { core := s.base.resetTo k d, ev := {} } rfl rfl)

theorem Core.iso_of_err {e : Core} (h : e.err = c.err) (r b : Nat) : c.iso r b = e.iso r b := by
  unfold Core.iso
  rw [h]

theorem Core.hostReset_due {t : Rt} (h : c.boot.hostDue = some t) : c.hostReset = (c.at t).resetTo .host 0 := by
  unfold Core.hostReset
  rw [h]

theorem Core.hostReset_none (h : c.boot.hostDue = none) : c.hostReset = c := by
  unfold Core.hostReset
  rw [h]

/-- The chip at one of two instants: at `u` where the write of the record has ended, else at `v` with the record counted as lost (R36). -/
def Core.atOrLost (c : Core) (u v : Rt) : Core :=
  if c.err.ledgerEnded then c.at u else { c.at v with health := { (c.at v).health with lost := c.health.lost + 1 } }

theorem Core.atOrLost_kept (c : Core) (u v : Rt) :
    (c.atOrLost u v).boot = c.boot ∧ (c.atOrLost u v).led = c.led ∧ (c.atOrLost u v).err = c.err := by
  unfold Core.atOrLost
  split <;> exact ⟨rfl, rfl, rfl⟩

theorem Core.escalationReset_due {t : Rt} (h : c.err.safeAt = some t) :
    c.escalationReset = (c.atOrLost (rtAdd t 40000) (rtAdd t 400000)).resetTo .escalation c.err.safeBlk := by
  rw [← congrArg ErrState.safeBlk (c.atOrLost_kept (rtAdd t 40000) (rtAdd t 400000)).2.2]
  unfold Core.escalationReset Core.atOrLost
  rw [h]

theorem Core.release_free {strap : Nat} (h : c.boot.held = false) : c.release strap = c := if_neg (by rw [h]; decide)

/-- The straps are sampled and the cause is reported. -/
theorem Core.release_held {strap : Nat} (h : c.boot.held = true) : c.release strap =
    ({ c with
      boot := { c.boot with held := false, strap := strap % 8, relAt := c.time.ring.raw, st := .reset }
      health := { c.health with hbCem := c.now, hbSup := c.now } } : Core).raise
      ([{ num := EvNo.resetCause, code := c.boot.kind.code, obj := c.boot.detail }] ++
        if c.boot.kind = .escalation then [{ num := EvNo.escalationReset, kind := 9, obj := c.boot.detail }] else []) := by
  have hr : c.boot.release strap c.time.ring.raw =
      { c.boot with held := false, strap := strap % 8, relAt := c.time.ring.raw, st := .reset } := if_pos h
  unfold Core.release
  rw [if_pos h, hr]
  rfl

end

/-- Settles O54: every reset is `Core.resetTo` of its kind, and a release samples the straps. -/
theorem resets : Obligations.Resets := by
  unfold Obligations.Resets
  intro s rail mv strap c goes
  have hgoes : ∀ {i : Instr} {k : ResetKind} {d : Nat} {e : Core}, exec i s = .next { s with chip := { core := e.resetTo k d, ev := {} } } →
      c.boot.held = false → e.boot = c.boot → e.led = c.led → e.err = c.err → (k = .pin ∨ k = .watchdog → e.time = c.time) → goes i k d := by
    intro i k d e hexec hh hboot hled herr htime
    have hb := Core.resetTo_boot (c := e) (k := k) (d := d) (by rw [hboot]; exact hh)
    dsimp only at hb
    rw [hboot] at hb
    obtain ⟨b1, b2, b3, b4, b5, b6, b7, b8, b9, b10⟩ := hb
    have hl := Core.resetTo_led (c := e) (k := k) (d := d)
    have hn := fun h => Core.resetTo_counted (c := e) (k := k) (d := d) h
    rw [hled] at hl hn
    refine ⟨_, hexec, rfl, rfl, b1, b2, b3, b4, b5, b6, b7, b8, b9, b10, hl, fun h => hn ((Core.iso_of_err herr 5 5).symm.trans h),
      fun hk => Core.resetTo_time_full hk, fun hk => ?_, fun hk => ?_, fun hk => Core.resetTo_latch hk,
      rfl, rfl, rfl, rfl, rfl, rfl, rfl, rfl, rfl, rfl, rfl, rfl, rfl, rfl, rfl, rfl⟩
    · have ht : (e.resetTo k d).time = c.time.reset false := (Core.resetTo_time hk).trans (by rw [htime hk])
      dsimp only
      rw [ht]
      exact c.time.reset_running
    · subst hk
      exact Core.resetTo_latch_por
  refine ⟨fun hh => ⟨?por, ?pin, ?watchdog, fun hr => ?supply, fun t ht => ?host, fun t ht => ?escalation, ?free⟩, fun hd hh => ?noHost,
    fun hh hk => ?pinHeld, fun hh hk => ?watchdogHeld, fun hh => ⟨fun hk => ?released, fun hk => ?escalated⟩⟩
  case por => exact hgoes (next_reset (f := Core.porReset) rfl hh) hh rfl rfl rfl fun _ => rfl
  case pin => exact hgoes (next_reset (f := Core.pinReset) rfl hh) hh rfl rfl rfl fun _ => rfl
  case watchdog => exact hgoes (next_reset (f := Core.watchdogReset) rfl hh) hh rfl rfl rfl fun _ => rfl
  case supply =>
    exact hgoes (e := { c with health := c.health.measure rail mv })
      (next_reset (f := fun c => c.supplyReset rail mv) (if_neg (Nat.not_le.2 hr)) hh) hh rfl rfl rfl fun _ => rfl
  case host => exact hgoes (next_reset (f := Core.hostReset) (Core.hostReset_due ht) hh) hh rfl rfl rfl (by simp)
  case escalation =>
    obtain ⟨hboot, hled, herr⟩ := c.atOrLost_kept (rtAdd t 40000) (rtAdd t 400000)
    exact hgoes (next_reset (f := Core.escalationReset) (Core.escalationReset_due ht) ((congrArg BootState.held hboot).trans hh)) hh hboot hled herr
      (by simp)
  case free => exact next_core (f := fun c => c.release strap) (Core.release_free hh)
  case noHost => exact next_noReset (f := Core.hostReset) (Core.hostReset_none hd) hh
  case pinHeld =>
    have ha := BootState.assert_held_first (b := c.boot) (k := .pin) (d := 0) hh (by rw [hk]; decide)
    refine ⟨_, next_reheld (f := Core.pinReset) rfl hh, congrArg BootState.kind ha, (congrArg BootState.also ha).trans ?_⟩
    rw [hk]
    rfl
  case watchdogHeld =>
    have ha := BootState.assert_held_later (b := c.boot) (k := .watchdog) (d := 0) hh (by rw [hk]; decide)
    exact ⟨_, next_reheld (f := Core.watchdogReset) rfl hh, (congrArg BootState.kind ha).trans hk, congrArg BootState.also ha⟩
  case released =>
    refine next_core (f := fun c => c.release strap) ((Core.release_held hh).trans ?_)
    rw [if_neg hk]
    rfl
  case escalated =>
    refine next_core (f := fun c => c.release strap) ((Core.release_held hh).trans ?_)
    rw [if_pos hk]
    rfl

end Sys2Proof.Machine
end

section
/-! The boot sequence (R36, R576, R577, R583 to R585, R588, R589, R593, R595, R611, R628). -/

namespace Sys2Proof.Machine

/-! ### The copy of the image -/

section
variable {b q : BootState} {ha hb h o : ImgHead} {cur k : Bool} {r r' : Nat × Nat} {rev : Nat} {es : List Ev}

/-- The copy whose stream ends: that of the order, or the one left. -/
def BootState.nextCopy (b : BootState) (ha hb : ImgHead) : Bool :=
  match b.tried with
  | none => firstCopy b.strap b.pref ha hb
  | some k => !k

/-- The other copy's header is checked beside the first stream, where both copies may be used: what is noted of it. -/
def BootState.otherNoted (b : BootState) (cur : Bool) (o : ImgHead) (rev : Nat) : BootState × List Ev :=
  if b.strap % 4 != 0 || b.tried.isSome then (b, [])
  else match o.headReject rev with
    | some r => (b.setRej (!cur) r, [ev0 EvNo.imageRejected])
    | none => (b, [])

theorem BootState.otherNoted_single (hs : b.strap % 4 ≠ 0) : b.otherNoted cur o rev = (b, []) :=
  if_pos (by rw [bne_iff_ne.2 hs]; rfl)

theorem BootState.otherNoted_second (ht : b.tried = some k) : b.otherNoted cur o rev = (b, []) :=
  if_pos (by rw [ht]; exact Bool.or_true _)

theorem BootState.otherNoted_good (hs : b.strap % 4 = 0) (hn : b.tried = none) (ho : o.headReject rev = none) :
    b.otherNoted cur o rev = (b, []) := by
  unfold BootState.otherNoted
  rw [if_neg (by rw [hs, hn]; decide), ho]

theorem BootState.otherNoted_bad (hs : b.strap % 4 = 0) (hn : b.tried = none) (ho : o.headReject rev = some r') :
    b.otherNoted cur o rev = (b.setRej (!cur) r', [ev0 EvNo.imageRejected]) := by
  unfold BootState.otherNoted
  rw [if_neg (by rw [hs, hn]; decide), ho]

theorem BootState.setRej_tried (b : BootState) (k : Bool) (r : Nat × Nat) : (b.setRej k r).tried = b.tried := by
  cases k <;> rfl

theorem BootState.otherNoted_tried (b : BootState) (cur : Bool) (o : ImgHead) (rev : Nat) : (b.otherNoted cur o rev).1.tried = b.tried := by
  unfold BootState.otherNoted
  split
  · rfl
  · split
    · exact b.setRej_tried _ _
    · rfl

/-- A stream ends: of the copy `h`, with `o` the other. -/
structure BootState.StreamEnds (b : BootState) (ha hb h o : ImgHead) (cur : Bool) (rev : Nat) (q : BootState) (es : List Ev) : Prop where
  image : b.st = .image
  order : b.nextCopy ha hb = cur
  tried : (if cur then hb else ha) = h
  other : (if cur then ha else hb) = o
  noted : b.otherNoted cur o rev = (q, es)

/-- The copy is loaded, or rejected, which ends the boot where no other copy is left. -/
theorem BootState.copyDone_ends (e : b.StreamEnds ha hb h o cur rev q es) :
    (h.reject rev = none → b.copyDone ha hb rev =
      { b := { q with st := .apply, copyB := cur, fallback := b.tried.isSome, head := h }, evs := es, loaded := true }) ∧
    (∀ r, h.reject rev = some r → b.copyDone ha hb rev =
      if b.strap % 4 != 0 || b.tried.isSome || (o.headReject rev).isSome then
        { b := (q.setRej cur r).fail r.1, evs := es ++ [ev0 EvNo.imageRejected] }
      else { b := { q.setRej cur r with tried := some cur }, evs := es ++ [ev0 EvNo.imageRejected] ++ [ev0 EvNo.imageFallback] }) := by
  obtain ⟨hi, hc, hh, ho, hq⟩ := e
  have hqt : q.tried = b.tried := by
    rw [← b.otherNoted_tried cur o rev, hq]
  unfold BootState.copyDone
  rw [if_neg (by rw [hi]; decide)]
  extract_lets single cur' h' o' d evo
  have hcur : cur' = cur := by
    unfold BootState.nextCopy at hc
    exact hc
  have hh' : h' = h := by
    unfold h'
    rw [hcur, hh]
  have ho' : o' = o := by
    unfold o'
    rw [hcur, ho]
  have hdt : d.tried = b.tried := by
    unfold d
    split
    · exact b.setRej_tried _ _
    · rfl
  have hnoted : (d, evo) = (q, es) := by
    unfold BootState.otherNoted at hq
    rw [← hq]
    unfold evo
    rw [hdt]
    unfold d single
    rw [hcur, ho']
    cases b.tried <;> cases (b.strap % 4 != 0) <;> cases o.headReject rev <;> rfl
  obtain ⟨hd, he⟩ := Prod.mk.inj hnoted
  clear_value cur' h' o' d evo
  subst hcur hh' ho' hd he
  refine ⟨fun hr => ?_, fun r hr => ?_⟩
  · rw [hr, ← hqt]
  · rw [hr]
    dsimp only
    rw [BootState.setRej_tried, hqt]

theorem BootState.nextCopy_first (h : b.tried = none) : b.nextCopy ha hb = firstCopy b.strap b.pref ha hb := by
  unfold BootState.nextCopy
  rw [h]

theorem BootState.nextCopy_second (h : b.tried = some k) : b.nextCopy ha hb = !k := by
  unfold BootState.nextCopy
  rw [h]

/-- A preference that is put back leaves no trace in a rejection register. -/
theorem BootState.setRej_restored (b : BootState) (p : Nat) (k : Bool) (r : Nat × Nat) :
    ({ ({ b with pref := p } : BootState).setRej k r with pref := b.pref } : BootState) = b.setRej k r := by
  cases k <;> rfl

theorem BootState.setRej_setRej_restored (b : BootState) (p : Nat) (j k : Bool) (r r' : Nat × Nat) :
    ({ (({ b with pref := p } : BootState).setRej j r').setRej k r with pref := b.pref } : BootState) = (b.setRej j r').setRej k r := by
  cases j <;> cases k <;> rfl

end

section
variable {c : Core} {q : BootState} {h o : ImgHead} {cur : Bool} {r : Nat × Nat} {es : List Ev} {bad fail : Option Nat} {img : Image}

/-- The boot state with which the order of the copies is decided. -/
def Core.orderBoot (c : Core) : BootState := { c.boot with pref := c.prefNow }

/-- The stream of a copy ends in the chip. -/
abbrev Core.ImageEnds (c : Core) (bad fail : Option Nat) (h o : ImgHead) (cur : Bool) (q : BootState) (es : List Ev) : Prop :=
  c.orderBoot.StreamEnds (c.copyHead false bad fail) (c.copyHead true bad fail) h o cur 1 q es

theorem Core.imageDone_other (h : c.boot.st ≠ .image) : c.imageDone bad fail img = c := if_pos (bne_iff_ne.2 h)

theorem Core.imageDone_of {x : CopyRes} (hi : c.boot.st = .image)
    (hx : c.orderBoot.copyDone (c.copyHead false bad fail) (c.copyHead true bad fail) 1 = x) :
    c.imageDone bad fail img =
      ({ c with boot := { x.b with pref := c.boot.pref }, image := if x.loaded then img.masked else {} } : Core).raise x.evs := by
  subst hx
  exact if_neg (by rw [hi]; decide)

theorem Core.imageDone_loads (e : c.ImageEnds bad fail h o cur q es) (hr : h.reject 1 = none) :
    c.imageDone bad fail img = ({ c with
      boot := { q with pref := c.boot.pref, st := .apply, copyB := cur, fallback := c.boot.tried.isSome, head := h }
      image := img.masked } : Core).raise es :=
  Core.imageDone_of e.image ((BootState.copyDone_ends e).1 hr)

theorem Core.imageDone_fallsBack (e : c.ImageEnds bad fail h o cur q es) (hs : c.boot.strap % 4 = 0) (hn : c.boot.tried = none)
    (ho : o.headReject 1 = none) (hr : h.reject 1 = some r) :
    c.imageDone bad fail img = ({ c with boot := { q.setRej cur r with tried := some cur, pref := c.boot.pref }, image := {} } : Core).raise
      (es ++ [ev0 EvNo.imageRejected] ++ [ev0 EvNo.imageFallback]) := by
  have hmore : ¬(c.orderBoot.strap % 4 != 0 || c.orderBoot.tried.isSome || (o.headReject 1).isSome) = true := by
    show ¬(c.boot.strap % 4 != 0 || c.boot.tried.isSome || (o.headReject 1).isSome) = true
    rw [hs, hn, ho]
    decide
  exact Core.imageDone_of e.image (((BootState.copyDone_ends e).2 r hr).trans (if_neg hmore))

theorem Core.imageDone_fails (e : c.ImageEnds bad fail h o cur q es)
    (hm : c.boot.strap % 4 ≠ 0 ∨ c.boot.tried.isSome = true ∨ (o.headReject 1).isSome = true) (hr : h.reject 1 = some r) :
    c.imageDone bad fail img = ({ c with
      boot := { q.setRej cur r with st := .bootfail, failRsn := r.1, pref := c.boot.pref }, image := {} } : Core).raise
        (es ++ [ev0 EvNo.imageRejected]) := by
  have hmore : (c.orderBoot.strap % 4 != 0 || c.orderBoot.tried.isSome || (o.headReject 1).isSome) = true := by
    show (c.boot.strap % 4 != 0 || c.boot.tried.isSome || (o.headReject 1).isSome) = true
    rw [Bool.or_eq_true, Bool.or_eq_true, bne_iff_ne, or_assoc]
    exact hm
  exact Core.imageDone_of e.image (((BootState.copyDone_ends e).2 r hr).trans (if_pos hmore))

end

/-! ### The shell, the ledger and the record that the latch keeps -/

section
variable {c : Core} {x : SupLatch}

theorem BootState.shellRead_good {b : BootState} {one two : List Bool} (hs : b.st = .shell)
    (h : ∀ p ∈ one.zip two, p.1 = true ∨ p.2 = true) :
    b.shellRead one two = { b with shell2 := (one.zip two).any fun p => !p.1 && p.2, shellBad := false, st := .ledger } := by
  have hbad : ((one.zip two).any fun p => !p.1 && !p.2) = false :=
    List.any_eq_false.2 fun p hp => by rcases h p hp with h | h <;> simp [h]
  unfold BootState.shellRead
  rw [if_neg (by rw [hs]; decide), hbad]
  rfl

theorem BootState.shellRead_bad {b : BootState} {one two : List Bool} (hs : b.st = .shell)
    (h : ∃ p ∈ one.zip two, p.1 = false ∧ p.2 = false) :
    b.shellRead one two = { b with shell2 := (one.zip two).any fun p => !p.1 && p.2, shellBad := true, st := .bootfail, failRsn := 0xC } := by
  obtain ⟨p, hp, h1, h2⟩ := h
  have hbad : ((one.zip two).any fun p => !p.1 && !p.2) = true := List.any_eq_true.2 ⟨p, hp, by rw [h1, h2]; rfl⟩
  unfold BootState.shellRead
  rw [if_neg (by rw [hs]; decide), hbad]
  rfl

theorem Core.latchRecord_none (h : c.health.latch = none ∨ c.iso 5 5 = true) : c.latchRecord = c := by
  unfold Core.latchRecord
  cases hl : c.health.latch with
  | none => rfl
  | some x =>
    have hok : c.ledgerOk = false := by
      unfold Core.ledgerOk
      rw [h.resolve_left (by rw [hl]; exact Option.some_ne_none x)]
      rfl
    exact if_neg (by rw [hok, Bool.and_false]; decide)

theorem Core.latchRecord_free (hl : c.health.latch = some x) (h : x.kind ≠ 1 ∧ x.kind ≠ 3 ∧ x.owed = false) : c.latchRecord = c := by
  obtain ⟨h1, h3, ho⟩ := h
  unfold Core.latchRecord
  rw [hl]
  exact if_neg (by simp [h1, h3, ho])

/-- The record of a reset that the latch keeps, with its trigger. -/
theorem Core.latchRecord_written (hl : c.health.latch = some x) (h : x.kind = 1 ∨ x.kind = 3 ∨ x.owed = true) (hi : c.iso 5 5 = false) :
    c.latchRecord.boot = { c.boot with frDue := true } ∧ ∃ body,
      c.latchRecord.led.led = c.led.led.frWrite (if x.kind = 3 then 3 else if x.kind = 1 then 4 else 2) body := by
  have hok : c.ledgerOk = true := by
    unfold Core.ledgerOk
    rw [hi]
    rfl
  unfold Core.latchRecord
  rw [hl]
  dsimp only
  rw [if_pos (by rw [hok]; simpa [or_assoc] using h)]
  exact ⟨rfl, _, rfl⟩

/-- A record that the latch keeps changes only what is due of the boot. -/
theorem Core.latchRecord_boot (c : Core) : ∃ d, c.latchRecord.boot = { c.boot with frDue := d } := by
  unfold Core.latchRecord
  split
  · exact ⟨_, rfl⟩
  · dsimp only
    split
    · exact ⟨_, rfl⟩
    · exact ⟨_, rfl⟩

theorem BootState.ledgerRead_hold {b : BootState} (h : b.st = .ledger) (hs : b.strap % 4 = 3) :
    b.ledgerRead = { b with st := .bootfail, failRsn := 0xB } :=
  (if_neg (by rw [h]; decide)).trans (if_pos hs)

theorem BootState.ledgerRead_goes {b : BootState} (h : b.st = .ledger) (hs : b.strap % 4 ≠ 3) :
    b.ledgerRead = { b with st := .image, tried := none } :=
  (if_neg (by rw [h]; decide)).trans (if_neg hs)

/-- The ledger as the read finds it. -/
def Core.ledgerFound (c : Core) (badDir : Bool) (cor unc : Nat) : Core :=
  ({ c with led := { (c.led.found cor unc).1 with ready := true, badDir := badDir } } : Core).raise (c.led.found cor unc).2

theorem Core.ledgerDone_read {badDir : Bool} {cor unc : Nat} {b : BootState} (h : c.boot.st = .ledger)
    (hb : (c.ledgerFound badDir cor unc).latchRecord.boot.ledgerRead = b) :
    c.ledgerDone badDir cor unc = { (c.ledgerFound badDir cor unc).latchRecord with boot := b } := by
  subst hb
  exact if_neg (by rw [h]; decide)

end

/-! ### The end of APPLY -/

section
variable {u : EventUnit}

theorem EventUnit.signal_routeDef (v : Nat) : (u.signal v).routeDef = u.routeDef := by
  unfold EventUnit.signal EventUnit.sendMsix
  split <;> rfl

theorem EventUnit.setPending_routeDef (n : Nat) : (u.setPending n).routeDef = u.routeDef := by
  unfold EventUnit.setPending
  dsimp only
  split
  · split
    · exact EventUnit.signal_routeDef _
    · rfl
  · rfl

theorem EventUnit.startWindow_routeDef (t : Rt) (e : Ev) : (u.startWindow t e).routeDef = u.routeDef := by
  unfold EventUnit.startWindow
  split <;> rfl

theorem EventUnit.offer_routeDef (iso : Bool) (t : Rt) (e : Ev) : (u.offer iso t e).routeDef = u.routeDef := by
  unfold EventUnit.offer
  split <;> rfl

theorem EventUnit.raise_routeDef (iso : Bool) (t : Rt) (n : Nat) (e : Ev) : (u.raise iso t n e).routeDef = u.routeDef := by
  unfold EventUnit.raise
  dsimp only
  split
  · rfl
  · split
    · exact (EventUnit.offer_routeDef ..).trans (EventUnit.startWindow_routeDef ..)
    · exact (EventUnit.setPending_routeDef _).trans ((EventUnit.offer_routeDef ..).trans (EventUnit.startWindow_routeDef ..))

/-- The events of a command leave the routing alone. -/
theorem State.afterBoth_routeDef (s : State) (c : Core) (u : EventUnit) : (s.afterBoth c u).chip.ev.routeDef = u.routeDef := by
  show ((sortEv c.evq).foldl Chip.raise1 _).ev.routeDef = _
  rw [Chip.raises_ev]
  refine foldl_keeps (P := fun v : EventUnit => v.routeDef = u.routeDef) (fun v e hv => (EventUnit.raise_routeDef ..).trans hv) _ ?_
  exact foldl_keeps (f := fun (v : EventUnit) (e : Nat × Nat) => v.lose e.1 e.2) (P := fun v : EventUnit => v.routeDef = u.routeDef)
    (fun _ _ hv => hv) c.lostLog rfl

theorem State.afterBoth_boot (s : State) (c : Core) (u : EventUnit) : (s.afterBoth c u).chip.core.boot = c.boot := by
  obtain ⟨v, hv⟩ := Chip.commit_core { core := c, ev := u }
  exact (congrArg Core.boot hv).trans rfl

theorem Core.bootRun_running (c : Core) : c.bootRun.boot.st = .running := rfl

theorem Chip.applyDone_apply {x : Chip} (h : x.core.boot.st = .apply) : x.applyDone =
    { core := (x.onCore Core.bootApply).commit.core.bootRun
      ev := { (x.onCore Core.bootApply).commit.ev with route := (x.onCore Core.bootApply).commit.core.image.route, routeDef := false } } :=
  if_pos h

/-- The events of APPLY are raised before the routing follows the image. -/
theorem exec_bootApplyDone {s : State} {y : Chip} (h : s.base.boot.st = .apply)
    (hy : (({ core := s.base, ev := s.evBase } : Chip).onCore Core.bootApply).commit = y) :
    exec .bootApplyDone s = .next (s.afterBoth y.core.bootRun { y.ev with route := y.core.image.route, routeDef := false }) := by
  have hx := run_both s Chip.applyDone
  rw [Chip.applyDone_apply (x := { core := s.base, ev := s.evBase }) h, hy] at hx
  exact hx

theorem Chip.applyDone_other {x : Chip} (h : x.core.boot.st ≠ .apply) : x.applyDone = x := if_neg h

end

/-- Settles O55: each end of a read acts on the boot state it finds; a preference that is pending counts only in the order of the copies. -/
theorem bootSequence : Obligations.BootSequence := by
  unfold Obligations.BootSequence
  intro s one two badDir cor unc bad fail img c b ha hb cur secs found
  refine ⟨fun h1 h2 => ?selfTest, fun h => ?noTest, fun h => ⟨fun hs => ?shell, fun hs => ?shellBad⟩, fun h =>
    ⟨fun hl => Core.latchRecord_none hl, fun x hl => ⟨fun hx => Core.latchRecord_free hl hx, fun hx hi => ?owed⟩, fun hs => ?hold, fun hs => ?goes⟩,
    fun hi hn => ?first, fun k hi hk => ?second, fun h => ?noImage, fun h => ?apply, fun h => ?noApply⟩
  case selfTest =>
    have hb : b.selfTested = { b with st := .shell } := if_pos (by rw [h1, h2]; rfl)
    exact next_core (f := fun c => c.selfTestDone) (congrArg (fun x => { c with boot := x }) hb)
  case noTest =>
    have hb : b.selfTested = b := if_neg (by simp [h])
    exact next_core (f := fun c => c.selfTestDone) (congrArg (fun x => { c with boot := x }) hb)
  case shell =>
    exact next_core (f := fun c => c.shellDone one two) (congrArg (fun x => { c with boot := x }) (BootState.shellRead_good h hs))
  case shellBad =>
    exact next_core (f := fun c => c.shellDone one two) (congrArg (fun x => { c with boot := x }) (BootState.shellRead_bad h hs))
  case owed =>
    obtain ⟨hboot, body, hled⟩ := Core.latchRecord_written (c := c.ledgerFound badDir cor unc) hl hx hi
    exact ⟨congrArg BootState.frDue hboot, body, hled⟩
  case hold =>
    obtain ⟨d, hd⟩ := (c.ledgerFound badDir cor unc).latchRecord_boot
    exact next_core (f := fun c => c.ledgerDone badDir cor unc) (Core.ledgerDone_read h
      (BootState.ledgerRead_hold ((congrArg BootState.st hd).trans h) ((congrArg (·.strap % 4) hd).trans hs)))
  case goes =>
    obtain ⟨d, hd⟩ := (c.ledgerFound badDir cor unc).latchRecord_boot
    exact next_core (f := fun c => c.ledgerDone badDir cor unc) (Core.ledgerDone_read h
      (BootState.ledgerRead_goes ((congrArg BootState.st hd).trans h) fun hn => hs ((congrArg (·.strap % 4) hd).symm.trans hn)))
  case first =>
    have first : ∀ {q es}, c.orderBoot.otherNoted cur (if cur then ha else hb) 1 = (q, es) →
        c.ImageEnds bad fail (if cur then hb else ha) (if cur then ha else hb) cur q es :=
      fun hq => ⟨hi, BootState.nextCopy_first hn, rfl, rfl, hq⟩
    have done : ∀ {x}, c.imageDone bad fail img = x → exec (.imageCopyDone bad fail img) s = .next (s.after x) :=
      fun hx => next_core (f := fun c => c.imageDone bad fail img) hx
    have hfirst : c.boot.tried.isSome = false := congrArg Option.isSome hn
    refine ⟨fun hs ho => ?good, fun r' hs ho => ?bad, fun hs => ?single⟩
    case good =>
      have e := first (BootState.otherNoted_good hs hn ho)
      refine ⟨fun hr => done ((Core.imageDone_loads e hr).trans ?_), fun r hr => done ((Core.imageDone_fallsBack e hs hn ho hr).trans ?_)⟩
      · rw [hfirst]
        rfl
      · exact congrArg (fun x : BootState => ({ c with boot := { x with tried := some cur }, image := {} } : Core).raise _)
          (c.boot.setRej_restored c.prefNow cur r)
    case bad =>
      have e := first (BootState.otherNoted_bad hs hn ho)
      refine ⟨fun hr => done ((Core.imageDone_loads e hr).trans ?_),
        fun r hr => done ((Core.imageDone_fails e (.inr (.inr (by rw [ho]; rfl))) hr).trans ?_)⟩
      · rw [hfirst]
        exact congrArg (fun x : BootState => ({ c with
          boot := { x with st := .apply, copyB := cur, fallback := false, head := if cur then hb else ha }, image := img.masked } : Core).raise _)
          (c.boot.setRej_restored c.prefNow (!cur) r')
      · exact congrArg (fun x : BootState => ({ c with boot := { x with st := .bootfail, failRsn := r.1 }, image := {} } : Core).raise _)
          (c.boot.setRej_setRej_restored c.prefNow (!cur) cur r r')
    case single =>
      have e := first (BootState.otherNoted_single hs)
      refine ⟨fun hr => done ((Core.imageDone_loads e hr).trans ?_), fun r hr => done ((Core.imageDone_fails e (.inl hs) hr).trans ?_)⟩
      · rw [hfirst]
        rfl
      · exact congrArg (fun x : BootState => ({ c with boot := { x with st := .bootfail, failRsn := r.1 }, image := {} } : Core).raise _)
          (c.boot.setRej_restored c.prefNow cur r)
  case second =>
    have hcopy : (if !k then hb else ha) = if k then ha else hb := by cases k <;> rfl
    have e : c.ImageEnds bad fail (if k then ha else hb) (if !k then ha else hb) (!k) c.orderBoot [] :=
      ⟨hi, BootState.nextCopy_second hk, hcopy, rfl, BootState.otherNoted_second hk⟩
    have hsome : c.boot.tried.isSome = true := congrArg Option.isSome hk
    refine ⟨fun hr => next_core (f := fun c => c.imageDone bad fail img) ((Core.imageDone_loads e hr).trans ?_),
      fun r hr => next_core (f := fun c => c.imageDone bad fail img) ((Core.imageDone_fails e (.inr (.inl hsome)) hr).trans ?_)⟩
    · rw [hsome]
      rfl
    · exact congrArg (fun x : BootState => ({ c with boot := { x with st := .bootfail, failRsn := r.1 }, image := {} } : Core).raise _)
        (c.boot.setRej_restored c.prefNow (!k) r)
  case noImage => exact next_core (f := fun c => c.imageDone bad fail img) (Core.imageDone_other h)
  case apply =>
    intro y
    have hx := exec_bootApplyDone (y := y) h rfl
    clear_value y
    exact ⟨hx, _, hx, (congrArg BootState.st (s.afterBoth_boot _ _)).trans (Core.bootRun_running _), s.afterBoth_routeDef _ _⟩
  case noApply =>
    have hx := run_both s Chip.applyDone
    rw [Chip.applyDone_other (x := { core := s.base, ev := s.evBase }) h] at hx
    exact hx.trans (congrArg Host.Outcome.next (afterBoth_evBase s s.base))

end Sys2Proof.Machine
end
